-- ==== Sys2Proof/Word.lean ====
section
/-! DEFINITION. The words of the V840 (R2, R4) and the sparse table every large store of the state is kept in. -/

namespace Sys2Proof

/-- A scalar register, an address, a control register: 64 bits (R53). -/
abbrev Word := BitVec 64

/-- The smallest addressable unit (R4). -/
abbrev Byte := BitVec 8

/-- One register row of a lane: 512 bits (R103). -/
abbrev Row := BitVec 512

/-- A sparse table: pairs of a key and a value, keys strictly rising. -/
abbrev Assoc (α : Type) := List (Nat × α)

end Sys2Proof
end

