-- ==== Sys2Proof/Syntax.lean ====
section
/-! DEFINITION. The instructions and events of the V840: one constructor for every row of spec/opcode_table.json.
A row with a 32-bit word is a decoded instruction that the current context runs; a row without a word is an event,
with the operands that say where it falls. -/

namespace Sys2Proof

/-- What an access of memory is for (R323, KIND of R314). -/
inductive AccKind where
  | fetch | load | store | atomic | fill | spill
  deriving DecidableEq, Repr

/-- Where an uncorrectable error is found (R337, R344): a memory granule, a scratch granule, a scalar register,
a vector register row, a mask segment, a latch row or a queued message. -/
inductive ErrHolder where
  | memGranule (pa : Nat)
  | scratchGranule (core off : Nat)
  | scalarReg (g r : Nat)
  | vecRow (g lane row : Nat)
  | maskSeg (g m seg : Nat)
  | latchRow (g buf row : Nat)
  | channelMsg (core chan idx : Nat)
  | l2Line (die pa : Nat)
  | l1Line (core pa : Nat)
  | creelLine (cluster lane idx : Nat)
  | ringEntry (queue idx word : Nat)
  | engineCommand (die u idx : Nat)
  | engineReply (die u idx : Nat)
  | messageInFlight (k : Nat)
  | putInFlight (k idx : Nat)
  deriving DecidableEq, Repr

/-- What an atomic update of 8 bytes makes of the old value (R236, R359). -/
inductive AtomicFn where
  | swap | add | and | or | xor | min | max
  deriving DecidableEq, Repr

/-- A flit that reaches a Stile (R357 to R361): one that passes through, a request for the memory of its die,
a message, or a visit or move of a census. -/
inductive Flit where
  | transit
  | read (pa len : Nat)
  | store (pa : Nat) (bytes : List Byte) (poison : Bool)
  | atomicOp (pa : Nat) (f : AtomicFn) (v : Word)
  | wire (k : Nat)
  | visit (cid core : Nat)
  | forward (k : Nat)
  deriving DecidableEq, Repr

/-- An access that a function of a peer device makes over Euvex (R365): `src` is 128·device + function. A message goes
through window `win` to endpoint `dest` of the window's function; `ep` is its sender's endpoint. -/
inductive PeerAccess where
  | read (src pa len : Nat)
  | write (src pa : Nat) (bytes : List Byte) (poison : Bool)
  | message (src win ep dest cls : Nat) (payload : BitVec 256) (poison : Bool)
  deriving DecidableEq, Repr

/-- A unit that reports ready at bring-up (R378, R379). -/
inductive ReadyUnit where
  | mgmt | xdie | stile (die : Nat) | cdie (die : Nat) | hbm (stack : Nat) | engine (die u : Nat) | link (l : Nat) | host (x : Nat)
  deriving DecidableEq, Repr

/-- A word that is no instruction: the causes of R43 that the word alone decides, in the order of its table. -/
inductive IllCause where
  | illZero | illMajor | illFn | illField | illType | illRm | illRange
  deriving DecidableEq, Repr

/-- The rows of spec/opcode_table.json. Field names are the table's, lowest bits first. -/
inductive Instr where
  /-- ADD (R59). -/
  | add (d : BitVec 5) (a : BitVec 5) (b : BitVec 5)
  /-- SUB (R59). -/
  | sub (d : BitVec 5) (a : BitVec 5) (b : BitVec 5)
  /-- AND (R59). -/
  | and (d : BitVec 5) (a : BitVec 5) (b : BitVec 5)
  /-- OR (R59). -/
  | or (d : BitVec 5) (a : BitVec 5) (b : BitVec 5)
  /-- XOR (R59). -/
  | xor (d : BitVec 5) (a : BitVec 5) (b : BitVec 5)
  /-- SLL (R59). -/
  | sll (d : BitVec 5) (a : BitVec 5) (b : BitVec 5)
  /-- SRL (R59). -/
  | srl (d : BitVec 5) (a : BitVec 5) (b : BitVec 5)
  /-- SRA (R59). -/
  | sra (d : BitVec 5) (a : BitVec 5) (b : BitVec 5)
  /-- SLT (R59). -/
  | slt (d : BitVec 5) (a : BitVec 5) (b : BitVec 5)
  /-- SLTU (R59). -/
  | sltu (d : BitVec 5) (a : BitVec 5) (b : BitVec 5)
  /-- MIN (R59). -/
  | min (d : BitVec 5) (a : BitVec 5) (b : BitVec 5)
  /-- MAX (R59). -/
  | max (d : BitVec 5) (a : BitVec 5) (b : BitVec 5)
  /-- MINU (R59). -/
  | minu (d : BitVec 5) (a : BitVec 5) (b : BitVec 5)
  /-- MAXU (R59). -/
  | maxu (d : BitVec 5) (a : BitVec 5) (b : BitVec 5)
  /-- CLZ (R59). -/
  | clz (d : BitVec 5) (a : BitVec 5)
  /-- CTZ (R59). -/
  | ctz (d : BitVec 5) (a : BitVec 5)
  /-- POPC (R59). -/
  | popc (d : BitVec 5) (a : BitVec 5)
  /-- MUL (R59). -/
  | mul (d : BitVec 5) (a : BitVec 5) (b : BitVec 5)
  /-- MULH (R59). -/
  | mulh (d : BitVec 5) (a : BitVec 5) (b : BitVec 5)
  /-- MULHU (R59). -/
  | mulhu (d : BitVec 5) (a : BitVec 5) (b : BitVec 5)
  /-- DIV (R59). -/
  | div (d : BitVec 5) (a : BitVec 5) (b : BitVec 5)
  /-- DIVU (R59). -/
  | divu (d : BitVec 5) (a : BitVec 5) (b : BitVec 5)
  /-- REM (R59). -/
  | rem (d : BitVec 5) (a : BitVec 5) (b : BitVec 5)
  /-- REMU (R59). -/
  | remu (d : BitVec 5) (a : BitVec 5) (b : BitVec 5)
  /-- SEL (R60). -/
  | sel (d : BitVec 5) (a : BitVec 5) (b : BitVec 5) (e : BitVec 5)
  /-- ADDI (R61). -/
  | addi (d : BitVec 5) (a : BitVec 5) (imm : BitVec 16)
  /-- ANDI (R61). -/
  | andi (d : BitVec 5) (a : BitVec 5) (imm : BitVec 14)
  /-- ORI (R61). -/
  | ori (d : BitVec 5) (a : BitVec 5) (imm : BitVec 14)
  /-- XORI (R61). -/
  | xori (d : BitVec 5) (a : BitVec 5) (imm : BitVec 14)
  /-- SLTI (R61). -/
  | slti (d : BitVec 5) (a : BitVec 5) (imm : BitVec 14)
  /-- SLLI (R61). -/
  | slli (d : BitVec 5) (a : BitVec 5) (h : BitVec 6)
  /-- SRLI (R61). -/
  | srli (d : BitVec 5) (a : BitVec 5) (h : BitVec 6)
  /-- SRAI (R61). -/
  | srai (d : BitVec 5) (a : BitVec 5) (h : BitVec 6)
  /-- BFX (R61). -/
  | bfx (d : BitVec 5) (a : BitVec 5) (p : BitVec 6) (l : BitVec 6)
  /-- BFI (R61). -/
  | bfi (d : BitVec 5) (a : BitVec 5) (p : BitVec 6) (l : BitVec 6)
  /-- LIH (R62). -/
  | lih (d : BitVec 5) (imm : BitVec 21)
  /-- ADDPC (R62). -/
  | addpc (d : BitVec 5) (imm : BitVec 21)
  /-- FADD (R63). -/
  | fadd (d : BitVec 5) (a : BitVec 5) (b : BitVec 5) (r : BitVec 3) (t : BitVec 2)
  /-- FSUB (R63). -/
  | fsub (d : BitVec 5) (a : BitVec 5) (b : BitVec 5) (r : BitVec 3) (t : BitVec 2)
  /-- FMUL (R63). -/
  | fmul (d : BitVec 5) (a : BitVec 5) (b : BitVec 5) (r : BitVec 3) (t : BitVec 2)
  /-- FDIV (R63). -/
  | fdiv (d : BitVec 5) (a : BitVec 5) (b : BitVec 5) (r : BitVec 3) (t : BitVec 2)
  /-- FSQRT (R63). -/
  | fsqrt (d : BitVec 5) (a : BitVec 5) (r : BitVec 3) (t : BitVec 2)
  /-- FMIN (R63). -/
  | fmin (d : BitVec 5) (a : BitVec 5) (b : BitVec 5) (t : BitVec 2)
  /-- FMAX (R63). -/
  | fmax (d : BitVec 5) (a : BitVec 5) (b : BitVec 5) (t : BitVec 2)
  /-- FEQ (R63). -/
  | feq (d : BitVec 5) (a : BitVec 5) (b : BitVec 5) (t : BitVec 2)
  /-- FLT (R63). -/
  | flt (d : BitVec 5) (a : BitVec 5) (b : BitVec 5) (t : BitVec 2)
  /-- FLE (R63). -/
  | fle (d : BitVec 5) (a : BitVec 5) (b : BitVec 5) (t : BitVec 2)
  /-- FMA (R64). -/
  | fma (d : BitVec 5) (a : BitVec 5) (b : BitVec 5) (e : BitVec 5) (r : BitVec 3) (t : BitVec 2)
  /-- FCVT (R65). -/
  | fcvt (d : BitVec 5) (a : BitVec 5) (r : BitVec 3) (sx : BitVec 4) (t : BitVec 4)
  /-- BEQ (R67). -/
  | beq (a : BitVec 5) (b : BitVec 5) (o : BitVec 13)
  /-- BNE (R67). -/
  | bne (a : BitVec 5) (b : BitVec 5) (o : BitVec 13)
  /-- BLT (R67). -/
  | blt (a : BitVec 5) (b : BitVec 5) (o : BitVec 13)
  /-- BGE (R67). -/
  | bge (a : BitVec 5) (b : BitVec 5) (o : BitVec 13)
  /-- BLTU (R67). -/
  | bltu (a : BitVec 5) (b : BitVec 5) (o : BitVec 13)
  /-- BGEU (R67). -/
  | bgeu (a : BitVec 5) (b : BitVec 5) (o : BitVec 13)
  /-- JAL (R68). -/
  | jal (d : BitVec 5) (o : BitVec 21)
  /-- JALR (R68). -/
  | jalr (d : BitVec 5) (a : BitVec 5) (imm : BitVec 16)
  /-- JTAB (R69). -/
  | jtab (d : BitVec 5) (a : BitVec 5) (n : BitVec 16)
  /-- LD_B (R203). -/
  | ldB (d : BitVec 5) (a : BitVec 5) (c : BitVec 4) (imm : BitVec 10)
  /-- LD_H (R203). -/
  | ldH (d : BitVec 5) (a : BitVec 5) (c : BitVec 4) (imm : BitVec 10)
  /-- LD_W (R203). -/
  | ldW (d : BitVec 5) (a : BitVec 5) (c : BitVec 4) (imm : BitVec 10)
  /-- LD_D (R203). -/
  | ldD (d : BitVec 5) (a : BitVec 5) (c : BitVec 4) (imm : BitVec 10)
  /-- ST_B (R203). -/
  | stB (d : BitVec 5) (a : BitVec 5) (c : BitVec 4) (imm : BitVec 10)
  /-- ST_H (R203). -/
  | stH (d : BitVec 5) (a : BitVec 5) (c : BitVec 4) (imm : BitVec 10)
  /-- ST_W (R203). -/
  | stW (d : BitVec 5) (a : BitVec 5) (c : BitVec 4) (imm : BitVec 10)
  /-- ST_D (R203). -/
  | stD (d : BitVec 5) (a : BitVec 5) (c : BitVec 4) (imm : BitVec 10)
  /-- LD_BU (R203). -/
  | ldBu (d : BitVec 5) (a : BitVec 5) (c : BitVec 4) (imm : BitVec 10)
  /-- LD_HU (R203). -/
  | ldHu (d : BitVec 5) (a : BitVec 5) (c : BitVec 4) (imm : BitVec 10)
  /-- LD_WU (R203). -/
  | ldWu (d : BitVec 5) (a : BitVec 5) (c : BitVec 4) (imm : BitVec 10)
  /-- PREF (R213). -/
  | pref (l : BitVec 5) (a : BitVec 5) (imm : BitVec 10)
  /-- LD_ACQ (R232). -/
  | ldAcq (d : BitVec 5) (a : BitVec 5) (sx : BitVec 2) (c : BitVec 4)
  /-- ST_REL (R232). -/
  | stRel (d : BitVec 5) (a : BitVec 5) (sx : BitVec 2) (c : BitVec 4)
  /-- AMOADD_W (R235). -/
  | amoaddW (d : BitVec 5) (a : BitVec 5) (b : BitVec 5) (c : BitVec 4)
  /-- AMOADD_D (R235). -/
  | amoaddD (d : BitVec 5) (a : BitVec 5) (b : BitVec 5) (c : BitVec 4)
  /-- AMOMIN_W (R235). -/
  | amominW (d : BitVec 5) (a : BitVec 5) (b : BitVec 5) (c : BitVec 4)
  /-- AMOMIN_D (R235). -/
  | amominD (d : BitVec 5) (a : BitVec 5) (b : BitVec 5) (c : BitVec 4)
  /-- AMOMAX_W (R235). -/
  | amomaxW (d : BitVec 5) (a : BitVec 5) (b : BitVec 5) (c : BitVec 4)
  /-- AMOMAX_D (R235). -/
  | amomaxD (d : BitVec 5) (a : BitVec 5) (b : BitVec 5) (c : BitVec 4)
  /-- AMOAND_W (R235). -/
  | amoandW (d : BitVec 5) (a : BitVec 5) (b : BitVec 5) (c : BitVec 4)
  /-- AMOAND_D (R235). -/
  | amoandD (d : BitVec 5) (a : BitVec 5) (b : BitVec 5) (c : BitVec 4)
  /-- AMOOR_W (R235). -/
  | amoorW (d : BitVec 5) (a : BitVec 5) (b : BitVec 5) (c : BitVec 4)
  /-- AMOOR_D (R235). -/
  | amoorD (d : BitVec 5) (a : BitVec 5) (b : BitVec 5) (c : BitVec 4)
  /-- AMOXOR_W (R235). -/
  | amoxorW (d : BitVec 5) (a : BitVec 5) (b : BitVec 5) (c : BitVec 4)
  /-- AMOXOR_D (R235). -/
  | amoxorD (d : BitVec 5) (a : BitVec 5) (b : BitVec 5) (c : BitVec 4)
  /-- AMOSWP_W (R235). -/
  | amoswpW (d : BitVec 5) (a : BitVec 5) (b : BitVec 5) (c : BitVec 4)
  /-- AMOSWP_D (R235). -/
  | amoswpD (d : BitVec 5) (a : BitVec 5) (b : BitVec 5) (c : BitVec 4)
  /-- AMOCAS_W (R235). -/
  | amocasW (d : BitVec 5) (a : BitVec 5) (b : BitVec 5) (c : BitVec 4)
  /-- AMOCAS_D (R235). -/
  | amocasD (d : BitVec 5) (a : BitVec 5) (b : BitVec 5) (c : BitVec 4)
  /-- CFLUSH (R214). -/
  | cflush (a : BitVec 5) (c : BitVec 4)
  /-- CINV (R214). -/
  | cinv (a : BitVec 5) (c : BitVec 4)
  /-- CRR (R71). -/
  | crr (d : BitVec 5) (r : BitVec 12)
  /-- CRW (R71). -/
  | crw (a : BitVec 5) (r : BitVec 12)
  /-- CRS (R71). -/
  | crs (d : BitVec 5) (a : BitVec 5) (r : BitVec 12)
  /-- CRC (R71). -/
  | crc (d : BitVec 5) (a : BitVec 5) (r : BitVec 12)
  /-- FENCE_C (R229). -/
  | fenceC (k : BitVec 16)
  /-- FENCE_P (R230). -/
  | fenceP (p : BitVec 6)
  /-- FENCE_SV (R231). -/
  | fenceSv (k : BitVec 6)
  /-- TRAP (R74). -/
  | trap (imm : BitVec 16)
  /-- PREEMPT (R330). -/
  | preempt
  /-- RESUME (R330). -/
  | resume
  /-- SETVEC (R330). -/
  | setvec
  /-- ATTEST (R377). -/
  | attest
  /-- ERET (R316). -/
  | eret
  /-- YIELD (R76). -/
  | yield
  /-- EXIT (R77). -/
  | exit
  /-- LAUNCH (R83). -/
  | launch (d : BitVec 5) (a : BitVec 5)
  /-- CBAR (R93). -/
  | cbar (d : BitVec 5) (a : BitVec 5)
  /-- PRIO (R92). -/
  | prio (d : BitVec 5) (a : BitVec 5)
  /-- TSLEEP (R94). -/
  | tsleep (d : BitVec 5) (a : BitVec 5)
  /-- TWAKE (R95). -/
  | twake (d : BitVec 5) (a : BitVec 5)
  /-- SETVL (R108). -/
  | setvl (d : BitVec 5) (a : BitVec 5) (v : BitVec 9)
  /-- VDECL (R106). -/
  | vdecl (n : BitVec 2)
  /-- VGIVE (R112). -/
  | vgive
  /-- VSAVE (R127). -/
  | vsave
  /-- VREFILL (R128). -/
  | vrefill (d : BitVec 5)
  /-- VGEOM (R107). -/
  | vgeom (d : BitVec 5) (a : BitVec 5)
  /-- SETVLI (R108). -/
  | setvli (d : BitVec 5) (v : BitVec 9) (l : BitVec 12)
  /-- VADD_VV (R140). -/
  | vaddVV (d : BitVec 6) (a : BitVec 6) (b : BitVec 6) (m : BitVec 4)
  /-- VSUB_VV (R140). -/
  | vsubVV (d : BitVec 6) (a : BitVec 6) (b : BitVec 6) (m : BitVec 4)
  /-- VMUL_VV (R140). -/
  | vmulVV (d : BitVec 6) (a : BitVec 6) (b : BitVec 6) (m : BitVec 4)
  /-- VMULH_VV (R140). -/
  | vmulhVV (d : BitVec 6) (a : BitVec 6) (b : BitVec 6) (m : BitVec 4)
  /-- VMIN_VV (R140). -/
  | vminVV (d : BitVec 6) (a : BitVec 6) (b : BitVec 6) (m : BitVec 4)
  /-- VMAX_VV (R140). -/
  | vmaxVV (d : BitVec 6) (a : BitVec 6) (b : BitVec 6) (m : BitVec 4)
  /-- VAND_VV (R140). -/
  | vandVV (d : BitVec 6) (a : BitVec 6) (b : BitVec 6) (m : BitVec 4)
  /-- VOR_VV (R140). -/
  | vorVV (d : BitVec 6) (a : BitVec 6) (b : BitVec 6) (m : BitVec 4)
  /-- VXOR_VV (R140). -/
  | vxorVV (d : BitVec 6) (a : BitVec 6) (b : BitVec 6) (m : BitVec 4)
  /-- VSLL_VV (R140). -/
  | vsllVV (d : BitVec 6) (a : BitVec 6) (b : BitVec 6) (m : BitVec 4)
  /-- VSRL_VV (R140). -/
  | vsrlVV (d : BitVec 6) (a : BitVec 6) (b : BitVec 6) (m : BitVec 4)
  /-- VSRA_VV (R140). -/
  | vsraVV (d : BitVec 6) (a : BitVec 6) (b : BitVec 6) (m : BitVec 4)
  /-- VADDS_VV (R140). -/
  | vaddsVV (d : BitVec 6) (a : BitVec 6) (b : BitVec 6) (m : BitVec 4)
  /-- VSUBS_VV (R140). -/
  | vsubsVV (d : BitVec 6) (a : BitVec 6) (b : BitVec 6) (m : BitVec 4)
  /-- VADD_VS (R140). -/
  | vaddVS (d : BitVec 6) (a : BitVec 6) (b : BitVec 5) (m : BitVec 4)
  /-- VSUB_VS (R140). -/
  | vsubVS (d : BitVec 6) (a : BitVec 6) (b : BitVec 5) (m : BitVec 4)
  /-- VMUL_VS (R140). -/
  | vmulVS (d : BitVec 6) (a : BitVec 6) (b : BitVec 5) (m : BitVec 4)
  /-- VMULH_VS (R140). -/
  | vmulhVS (d : BitVec 6) (a : BitVec 6) (b : BitVec 5) (m : BitVec 4)
  /-- VMIN_VS (R140). -/
  | vminVS (d : BitVec 6) (a : BitVec 6) (b : BitVec 5) (m : BitVec 4)
  /-- VMAX_VS (R140). -/
  | vmaxVS (d : BitVec 6) (a : BitVec 6) (b : BitVec 5) (m : BitVec 4)
  /-- VAND_VS (R140). -/
  | vandVS (d : BitVec 6) (a : BitVec 6) (b : BitVec 5) (m : BitVec 4)
  /-- VOR_VS (R140). -/
  | vorVS (d : BitVec 6) (a : BitVec 6) (b : BitVec 5) (m : BitVec 4)
  /-- VXOR_VS (R140). -/
  | vxorVS (d : BitVec 6) (a : BitVec 6) (b : BitVec 5) (m : BitVec 4)
  /-- VSLL_VS (R140). -/
  | vsllVS (d : BitVec 6) (a : BitVec 6) (b : BitVec 5) (m : BitVec 4)
  /-- VSRL_VS (R140). -/
  | vsrlVS (d : BitVec 6) (a : BitVec 6) (b : BitVec 5) (m : BitVec 4)
  /-- VSRA_VS (R140). -/
  | vsraVS (d : BitVec 6) (a : BitVec 6) (b : BitVec 5) (m : BitVec 4)
  /-- VADDS_VS (R140). -/
  | vaddsVS (d : BitVec 6) (a : BitVec 6) (b : BitVec 5) (m : BitVec 4)
  /-- VSUBS_VS (R140). -/
  | vsubsVS (d : BitVec 6) (a : BitVec 6) (b : BitVec 5) (m : BitVec 4)
  /-- VWADD (R141). -/
  | vwadd (d : BitVec 6) (a : BitVec 6) (b : BitVec 6) (m : BitVec 4)
  /-- VWMACC (R141). -/
  | vwmacc (d : BitVec 6) (a : BitVec 6) (b : BitVec 6) (m : BitVec 4)
  /-- VWMACCU (R141). -/
  | vwmaccu (d : BitVec 6) (a : BitVec 6) (b : BitVec 6) (m : BitVec 4)
  /-- VNCLIP (R141). -/
  | vnclip (d : BitVec 6) (a : BitVec 6) (b : BitVec 6) (m : BitVec 4)
  /-- VFADD_VV (R142). -/
  | vfaddVV (d : BitVec 6) (a : BitVec 6) (b : BitVec 6) (m : BitVec 4)
  /-- VFSUB_VV (R142). -/
  | vfsubVV (d : BitVec 6) (a : BitVec 6) (b : BitVec 6) (m : BitVec 4)
  /-- VFMUL_VV (R142). -/
  | vfmulVV (d : BitVec 6) (a : BitVec 6) (b : BitVec 6) (m : BitVec 4)
  /-- VFMA_VV (R142). -/
  | vfmaVV (d : BitVec 6) (a : BitVec 6) (b : BitVec 6) (m : BitVec 4)
  /-- VFMS_VV (R142). -/
  | vfmsVV (d : BitVec 6) (a : BitVec 6) (b : BitVec 6) (m : BitVec 4)
  /-- VFNMA_VV (R142). -/
  | vfnmaVV (d : BitVec 6) (a : BitVec 6) (b : BitVec 6) (m : BitVec 4)
  /-- VFDIV_VV (R142). -/
  | vfdivVV (d : BitVec 6) (a : BitVec 6) (b : BitVec 6) (m : BitVec 4)
  /-- VFMIN_VV (R142). -/
  | vfminVV (d : BitVec 6) (a : BitVec 6) (b : BitVec 6) (m : BitVec 4)
  /-- VFMAX_VV (R142). -/
  | vfmaxVV (d : BitVec 6) (a : BitVec 6) (b : BitVec 6) (m : BitVec 4)
  /-- VFADD_VS (R142). -/
  | vfaddVS (d : BitVec 6) (a : BitVec 6) (b : BitVec 5) (m : BitVec 4)
  /-- VFSUB_VS (R142). -/
  | vfsubVS (d : BitVec 6) (a : BitVec 6) (b : BitVec 5) (m : BitVec 4)
  /-- VFMUL_VS (R142). -/
  | vfmulVS (d : BitVec 6) (a : BitVec 6) (b : BitVec 5) (m : BitVec 4)
  /-- VFMA_VS (R142). -/
  | vfmaVS (d : BitVec 6) (a : BitVec 6) (b : BitVec 5) (m : BitVec 4)
  /-- VFMS_VS (R142). -/
  | vfmsVS (d : BitVec 6) (a : BitVec 6) (b : BitVec 5) (m : BitVec 4)
  /-- VFNMA_VS (R142). -/
  | vfnmaVS (d : BitVec 6) (a : BitVec 6) (b : BitVec 5) (m : BitVec 4)
  /-- VFDIV_VS (R142). -/
  | vfdivVS (d : BitVec 6) (a : BitVec 6) (b : BitVec 5) (m : BitVec 4)
  /-- VFMIN_VS (R142). -/
  | vfminVS (d : BitVec 6) (a : BitVec 6) (b : BitVec 5) (m : BitVec 4)
  /-- VFMAX_VS (R142). -/
  | vfmaxVS (d : BitVec 6) (a : BitVec 6) (b : BitVec 5) (m : BitVec 4)
  /-- VFSQRT (R143). -/
  | vfsqrt (d : BitVec 6) (a : BitVec 6) (m : BitVec 4)
  /-- VFRSQ (R143). -/
  | vfrsq (d : BitVec 6) (a : BitVec 6) (m : BitVec 4)
  /-- VFREC (R143). -/
  | vfrec (d : BitVec 6) (a : BitVec 6) (m : BitVec 4)
  /-- VFEXP2 (R143). -/
  | vfexp2 (d : BitVec 6) (a : BitVec 6) (m : BitVec 4)
  /-- VFLOG2 (R143). -/
  | vflog2 (d : BitVec 6) (a : BitVec 6) (m : BitVec 4)
  /-- VFSIN (R143). -/
  | vfsin (d : BitVec 6) (a : BitVec 6) (m : BitVec 4)
  /-- VFCOS (R143). -/
  | vfcos (d : BitVec 6) (a : BitVec 6) (m : BitVec 4)
  /-- VCVT (R144). -/
  | vcvt (d : BitVec 6) (a : BitVec 6) (m : BitVec 4) (sx : BitVec 4)
  /-- VMV (R145). -/
  | vmv (d : BitVec 6) (a : BitVec 6) (m : BitVec 4)
  /-- VBCAST (R145). -/
  | vbcast (d : BitVec 6) (b : BitVec 5) (m : BitVec 4)
  /-- VIDX (R145). -/
  | vidx (d : BitVec 6) (m : BitVec 4)
  /-- VCMP_EQ_VV (R146). -/
  | vcmpEqVV (d : BitVec 4) (a : BitVec 6) (b : BitVec 6) (m : BitVec 4)
  /-- VCMP_NE_VV (R146). -/
  | vcmpNeVV (d : BitVec 4) (a : BitVec 6) (b : BitVec 6) (m : BitVec 4)
  /-- VCMP_LT_VV (R146). -/
  | vcmpLtVV (d : BitVec 4) (a : BitVec 6) (b : BitVec 6) (m : BitVec 4)
  /-- VCMP_LE_VV (R146). -/
  | vcmpLeVV (d : BitVec 4) (a : BitVec 6) (b : BitVec 6) (m : BitVec 4)
  /-- VCMP_GT_VV (R146). -/
  | vcmpGtVV (d : BitVec 4) (a : BitVec 6) (b : BitVec 6) (m : BitVec 4)
  /-- VCMP_GE_VV (R146). -/
  | vcmpGeVV (d : BitVec 4) (a : BitVec 6) (b : BitVec 6) (m : BitVec 4)
  /-- VCMP_EQ_VS (R146). -/
  | vcmpEqVS (d : BitVec 4) (a : BitVec 6) (b : BitVec 5) (m : BitVec 4)
  /-- VCMP_NE_VS (R146). -/
  | vcmpNeVS (d : BitVec 4) (a : BitVec 6) (b : BitVec 5) (m : BitVec 4)
  /-- VCMP_LT_VS (R146). -/
  | vcmpLtVS (d : BitVec 4) (a : BitVec 6) (b : BitVec 5) (m : BitVec 4)
  /-- VCMP_LE_VS (R146). -/
  | vcmpLeVS (d : BitVec 4) (a : BitVec 6) (b : BitVec 5) (m : BitVec 4)
  /-- VCMP_GT_VS (R146). -/
  | vcmpGtVS (d : BitVec 4) (a : BitVec 6) (b : BitVec 5) (m : BitVec 4)
  /-- VCMP_GE_VS (R146). -/
  | vcmpGeVS (d : BitVec 4) (a : BitVec 6) (b : BitVec 5) (m : BitVec 4)
  /-- VFCMP_EQ (R146). -/
  | vfcmpEq (d : BitVec 4) (a : BitVec 6) (b : BitVec 6) (m : BitVec 4)
  /-- VFCMP_NE (R146). -/
  | vfcmpNe (d : BitVec 4) (a : BitVec 6) (b : BitVec 6) (m : BitVec 4)
  /-- VFCMP_LT (R146). -/
  | vfcmpLt (d : BitVec 4) (a : BitVec 6) (b : BitVec 6) (m : BitVec 4)
  /-- VFCMP_LE (R146). -/
  | vfcmpLe (d : BitVec 4) (a : BitVec 6) (b : BitVec 6) (m : BitVec 4)
  /-- VRSUM (R147). -/
  | vrsum (d : BitVec 5) (a : BitVec 6) (b : BitVec 5) (m : BitVec 4)
  /-- VRMAX (R147). -/
  | vrmax (d : BitVec 5) (a : BitVec 6) (b : BitVec 5) (m : BitVec 4)
  /-- VRMIN (R147). -/
  | vrmin (d : BitVec 5) (a : BitVec 6) (b : BitVec 5) (m : BitVec 4)
  /-- VFRSUM (R147). -/
  | vfrsum (d : BitVec 5) (a : BitVec 6) (b : BitVec 5) (m : BitVec 4)
  /-- VFRMAX (R147). -/
  | vfrmax (d : BitVec 5) (a : BitVec 6) (b : BitVec 5) (m : BitVec 4)
  /-- MAND (R155). -/
  | mand (d : BitVec 4) (a : BitVec 4) (b : BitVec 4)
  /-- MOR (R155). -/
  | mor (d : BitVec 4) (a : BitVec 4) (b : BitVec 4)
  /-- MXOR (R155). -/
  | mxor (d : BitVec 4) (a : BitVec 4) (b : BitVec 4)
  /-- MNOT (R155). -/
  | mnot (d : BitVec 4) (a : BitVec 4)
  /-- MSET (R155). -/
  | mset (d : BitVec 4)
  /-- MCLR (R155). -/
  | mclr (d : BitVec 4)
  /-- MCNT (R156). -/
  | mcnt (d : BitVec 5) (a : BitVec 4)
  /-- MANY (R156). -/
  | many (d : BitVec 5) (a : BitVec 4)
  /-- MFIRST (R156). -/
  | mfirst (d : BitVec 5) (a : BitVec 4)
  /-- VMAXIX (R162). -/
  | vmaxix (d : BitVec 5) (a : BitVec 6) (b : BitVec 5) (m : BitVec 4)
  /-- VCPRS (R157). -/
  | vcprs (d : BitVec 6) (a : BitVec 6) (b : BitVec 5) (m : BitVec 4)
  /-- VEXPD (R158). -/
  | vexpd (d : BitVec 6) (a : BitVec 6) (m : BitVec 4)
  /-- VPERM (R159). -/
  | vperm (d : BitVec 6) (a : BitVec 6) (b : BitVec 6) (m : BitVec 4)
  /-- VPUSH (R160). -/
  | vpush (d : BitVec 6) (a : BitVec 6) (b : BitVec 6) (m : BitVec 4)
  /-- VSLUP (R161). -/
  | vslup (d : BitVec 6) (a : BitVec 6) (b : BitVec 5) (m : BitVec 4)
  /-- VSLDN (R161). -/
  | vsldn (d : BitVec 6) (a : BitVec 6) (b : BitVec 5) (m : BitVec 4)
  /-- VROT (R161). -/
  | vrot (d : BitVec 6) (a : BitVec 6) (b : BitVec 5) (m : BitVec 4)
  /-- VGRPT2 (R163). -/
  | vgrpt2 (d : BitVec 6) (a : BitVec 6) (b : BitVec 5) (m : BitVec 4)
  /-- VGRPMSK (R164). -/
  | vgrpmsk (d : BitVec 4) (a : BitVec 4) (b : BitVec 5) (m : BitVec 4)
  /-- VNOFM (R165). -/
  | vnofm (d : BitVec 6) (a : BitVec 6) (b : BitVec 5) (m : BitVec 4)
  /-- VLD (R207). -/
  | vld (d : BitVec 6) (a : BitVec 5) (c : BitVec 4) (m : BitVec 4)
  /-- VLDFF (R210). -/
  | vldff (d : BitVec 6) (a : BitVec 5) (c : BitVec 4) (m : BitVec 4)
  /-- VLDP (R211). -/
  | vldp (d : BitVec 6) (a : BitVec 5) (c : BitVec 4) (m : BitVec 4) (p : BitVec 3)
  /-- VLDS (R207). -/
  | vlds (d : BitVec 6) (a : BitVec 5) (c : BitVec 4) (m : BitVec 4) (sx : BitVec 5)
  /-- VLDX (R207). -/
  | vldx (d : BitVec 6) (a : BitVec 5) (c : BitVec 4) (m : BitVec 4) (x : BitVec 6)
  /-- VST (R207). -/
  | vst (d : BitVec 6) (a : BitVec 5) (c : BitVec 4) (m : BitVec 4)
  /-- VSTS (R207). -/
  | vsts (d : BitVec 6) (a : BitVec 5) (c : BitVec 4) (m : BitVec 4) (sx : BitVec 5)
  /-- VSTX (R209). -/
  | vstx (d : BitVec 6) (a : BitVec 5) (c : BitVec 4) (m : BitVec 4) (x : BitVec 6)
  /-- VSTXADD (R212). -/
  | vstxadd (d : BitVec 6) (a : BitVec 5) (c : BitVec 4) (m : BitVec 4) (x : BitVec 6)
  /-- WFORM (R177). -/
  | wform (g : BitVec 4)
  /-- WSPLIT (R178). -/
  | wsplit
  /-- WZERO (R178). -/
  | wzero (w : BitVec 2)
  /-- WDRAIN (R188). -/
  | wdrain (w : BitVec 2) (d : BitVec 6) (sx : BitVec 1)
  /-- WFMT (R179). -/
  | wfmt (a : BitVec 5) (b : BitVec 5)
  /-- WGATH (R181). -/
  | wgath (a : BitVec 6) (b : BitVec 5) (m : BitVec 4)
  /-- WLDB (R182). -/
  | wldb (a : BitVec 5) (b : BitVec 5)
  /-- WOP (R184). -/
  | wop (w : BitVec 2) (k : BitVec 6) (t : BitVec 4)
  /-- WOPS (R185). -/
  | wops (w : BitVec 2) (k : BitVec 6) (t : BitVec 4)
  /-- WBP (R186). -/
  | wbp (w : BitVec 2) (k : BitVec 6) (p : BitVec 4)
  /-- WOPV (R187). -/
  | wopv (w : BitVec 2) (a : BitVec 6) (b : BitVec 6) (m : BitVec 4) (t : BitVec 4)
  /-- SEND (R248). -/
  | send (d : BitVec 5) (a : BitVec 5) (b : BitVec 5) (c : BitVec 4)
  /-- SEND_P (R248). -/
  | sendP (a : BitVec 5) (b : BitVec 5) (c : BitVec 4)
  /-- MPOP (R250). -/
  | mpop (d : BitVec 5) (a : BitVec 5) (b : BitVec 5) (c : BitVec 4)
  /-- MRET (R251). -/
  | mret
  /-- WAITM (R252). -/
  | waitm (d : BitVec 5) (a : BitVec 5) (b : BitVec 5)
  /-- ENG (R258). -/
  | eng (d : BitVec 5) (a : BitVec 5) (b : BitVec 5) (c : BitVec 4)
  /-- PUT (R257). -/
  | put (d : BitVec 5) (a : BitVec 5) (b : BitVec 5) (e : BitVec 5) (c : BitVec 4)
  /-- PUTM (R257). -/
  | putm (d : BitVec 5) (a : BitVec 5) (b : BitVec 5) (e : BitVec 5) (c : BitVec 4)
  /-- CHBIND (R253). -/
  | chbind (d : BitVec 5) (a : BitVec 5) (b : BitVec 5)
  /-- CHEN (R254). -/
  | chen (d : BitVec 5) (a : BitVec 5)
  /-- CHDIS (R254). -/
  | chdis (d : BitVec 5) (a : BitVec 5)
  /-- CHPEND_READ (R254). -/
  | chpendRead (d : BitVec 5) (a : BitVec 5) (b : BitVec 5)
  /-- CHPEND_SET (R254). -/
  | chpendSet (d : BitVec 5) (a : BitVec 5) (b : BitVec 5)
  /-- CHPEND_CLEAR (R254). -/
  | chpendClear (d : BitVec 5) (a : BitVec 5) (b : BitVec 5)
  /-- BINIT (R266). -/
  | binit (a : BitVec 5) (b : BitVec 5) (c : BitVec 4)
  /-- BARR (R266). -/
  | barr (d : BitVec 5) (a : BitVec 5) (b : BitVec 5) (c : BitVec 4)
  /-- BEXP (R266). -/
  | bexp (d : BitVec 5) (a : BitVec 5) (b : BitVec 5) (c : BitVec 4)
  /-- BWAIT (R266). -/
  | bwait (d : BitVec 5) (a : BitVec 5) (b : BitVec 5) (c : BitVec 4)
  /-- BQRY (R266). -/
  | bqry (d : BitVec 5) (a : BitVec 5) (b : BitVec 5) (c : BitVec 4)
  /-- TQPUSH (R276). -/
  | tqpush (d : BitVec 5) (a : BitVec 5) (b : BitVec 5) (c : BitVec 4)
  /-- QUEUE_OPEN (R272). -/
  | queueOpen (d : BitVec 5) (a : BitVec 5) (b : BitVec 5) (c : BitVec 4)
  /-- QUEUE_CLOSE (R272). -/
  | queueClose (d : BitVec 5) (a : BitVec 5) (b : BitVec 5) (c : BitVec 4)
  /-- QUEUE_RESUME (R272). -/
  | queueResume (d : BitVec 5) (a : BitVec 5) (b : BitVec 5) (c : BitVec 4)
  /-- QUEUE_PURGE (R272). -/
  | queuePurge (d : BitVec 5) (a : BitVec 5) (b : BitVec 5) (c : BitVec 4)
  /-- TGET (R277). -/
  | tget (d : BitVec 5) (a : BitVec 5) (b : BitVec 5) (c : BitVec 4)
  /-- TDONE (R279). -/
  | tdone (d : BitVec 5) (c : BitVec 4)
  /-- TDEP_READ (R280). -/
  | tdepRead (d : BitVec 5) (a : BitVec 5) (b : BitVec 5) (c : BitVec 4)
  /-- TDEP_ADD (R280). -/
  | tdepAdd (d : BitVec 5) (a : BitVec 5) (b : BitVec 5) (c : BitVec 4)
  /-- TDEP_SET (R280). -/
  | tdepSet (d : BitVec 5) (a : BitVec 5) (b : BitVec 5) (c : BitVec 4)
  /-- TILEQ (R286). -/
  | tileq (d : BitVec 5) (a : BitVec 5) (b : BitVec 5) (c : BitVec 4)
  /-- XDISP (R284). -/
  | xdisp (d : BitVec 5) (a : BitVec 5) (b : BitVec 5) (e : BitVec 5) (c : BitVec 4)
  /-- XCOMB (R285). -/
  | xcomb (d : BitVec 5) (a : BitVec 5) (b : BitVec 5) (e : BitVec 5) (c : BitVec 4)
  /-- DREG (R292). -/
  | dreg (d : BitVec 5) (a : BitVec 5)
  /-- DDEL (R293). -/
  | ddel (d : BitVec 5) (a : BitVec 5)
  /-- DMOVE (R294). -/
  | dmove (d : BitVec 5) (a : BitVec 5) (b : BitVec 5)
  /-- SOLICIT (R297). -/
  | solicit (d : BitVec 5) (a : BitVec 5) (b : BitVec 5) (o : BitVec 3)
  /-- REPLY (R299). -/
  | reply (d : BitVec 5) (a : BitVec 5) (b : BitVec 5)
  /-- CWAIT (R302). -/
  | cwait (d : BitVec 5) (a : BitVec 5) (b : BitVec 5)
  /-- CRES_RESULT (R302). -/
  | cresResult (d : BitVec 5) (a : BitVec 5) (b : BitVec 5)
  /-- CRES_STATUS (R302). -/
  | cresStatus (d : BitVec 5) (a : BitVec 5) (b : BitVec 5)
  /-- CRES_FREE (R302). -/
  | cresFree (d : BitVec 5) (a : BitVec 5) (b : BitVec 5)
  /-- CRES_ABANDON (R302). -/
  | cresAbandon (d : BitVec 5) (a : BitVec 5) (b : BitVec 5)
  /-- TLBINV_VA (R327). -/
  | tlbinvVa (d : BitVec 5) (a : BitVec 5) (b : BitVec 5)
  /-- TLBINV_ALL (R327). -/
  | tlbinvAll (d : BitVec 5) (a : BitVec 5) (b : BitVec 5)
  /-- TLBINV_ROOT (R327). -/
  | tlbinvRoot (d : BitVec 5) (a : BitVec 5) (b : BitVec 5)
  /-- TLBINV_GPA (R327). -/
  | tlbinvGpa (d : BitVec 5) (a : BitVec 5) (b : BitVec 5)
  /-- TLBINV_VFALL (R327). -/
  | tlbinvVfall (d : BitVec 5) (a : BitVec 5) (b : BitVec 5)
  /-- CHKERR (R343). -/
  | chkerr (d : BitVec 5) (a : BitVec 5)
  /-- ERRQ_POP (R345). -/
  | errqPop (d : BitVec 5) (a : BitVec 5) (b : BitVec 5)
  /-- ERRQ_NOTICE (R345). -/
  | errqNotice (d : BitVec 5) (a : BitVec 5) (b : BitVec 5)
  /-- POISON_MARK (R344). -/
  | poisonMark (a : BitVec 5) (b : BitVec 5)
  /-- POISON_CLEAR (R344). -/
  | poisonClear (a : BitVec 5) (b : BitVec 5)
  /-- ILLEGAL_INSTRUCTION (R43). -/
  | illegalInstruction (w : BitVec 32) (cause : IllCause)
  /-- HANDLER_RUN (R246). -/
  | handlerRun (g : Nat)
  /-- MESSAGE_ARRIVAL (R248). -/
  | messageArrival (k : Nat)
  /-- BOUNCE (R248). -/
  | bounce (k : Nat)
  /-- REMOTE_STATUS_TIMEOUT (R365). -/
  | remoteStatusTimeout (g : Nat)
  /-- DEVICE_MESSAGE_RETRY (R249). -/
  | deviceMessageRetry (k : Nat)
  /-- DEVICE_MESSAGE_DROP (R249). -/
  | deviceMessageDrop (k : Nat)
  /-- WAITM_TIMEOUT (R252). -/
  | waitmTimeout (g : Nat)
  /-- BWAIT_TIMEOUT (R266). -/
  | bwaitTimeout (g : Nat)
  /-- TSLEEP_TIMEOUT (R94). -/
  | tsleepTimeout (g : Nat)
  /-- TGET_TIMEOUT (R277). -/
  | tgetTimeout (g : Nat)
  /-- CWAIT_TIMEOUT (R302). -/
  | cwaitTimeout (g : Nat)
  /-- LAUNCH_PORT_WRITE (R84). -/
  | launchPortWrite (f : Nat) (off : Nat) (data : List Byte)
  /-- PORTSTAT_READ (R84). -/
  | portstatRead (f : Nat)
  /-- CREW_PLACEMENT (R86). -/
  | crewPlacement (die : Nat) (f : Nat)
  /-- LAUNCH_HEAD_AGING (R85). -/
  | launchHeadAging (f : Nat) (lvl : Nat)
  /-- LAUNCH_COMPLETION (R90). -/
  | launchCompletion (f : Nat) (lid : Nat)
  /-- THREAD_PREEMPTION_STOP (R97). -/
  | threadPreemptionStop (g : Nat)
  /-- PREEMPT_DEFER_TIMEOUT (R97). -/
  | preemptDeferTimeout (g : Nat)
  /-- CREW_SAVE (R332). -/
  | crewSave (die : Nat)
  /-- PRQ_PREEMPT (R332). -/
  | prqPreempt (die : Nat) (v : Word)
  /-- PRQ_RESUME (R335). -/
  | prqResume (die : Nat) (v : Word)
  /-- CREW_MOVE (R99). -/
  | crewMove (c : Nat) (cl : Nat)
  /-- VFTVEC_WRITE (R318). -/
  | vftvecWrite (die : Nat) (v : Word)
  /-- REGISTER_WRITE (R71). -/
  | registerWrite (g : Nat) (r : BitVec 12) (v : Word)
  /-- STARVATION_REVOCATION (R119). -/
  | starvationRevocation (g : Nat)
  /-- STARVATION_VICTIM_PICK (R119). -/
  | starvationVictimPick (g : Nat)
  /-- EARMARK_LAPSE (R119). -/
  | earmarkLapse (g : Nat)
  /-- FORCED_REVOCATION (R120). -/
  | forcedRevocation (g : Nat) (cause : Nat)
  /-- LANE_DRAIN_COMPLETE (R122). -/
  | laneDrainComplete (cl : Nat) (lane : Nat)
  /-- ENG_COPY (R260). -/
  | engCopy (die : Nat) (u : Nat)
  /-- ENG_COPY2D (R260). -/
  | engCopy2d (die : Nat) (u : Nat)
  /-- ENG_FILL (R260). -/
  | engFill (die : Nat) (u : Nat)
  /-- ENG_PLANEPACK (R260). -/
  | engPlanepack (die : Nat) (u : Nat)
  /-- ENG_MIGRATE (R330). -/
  | engMigrate (die : Nat) (u : Nat)
  /-- ENG_UNASSIGNED_OPCODE (R260). -/
  | engUnassignedOpcode (die : Nat) (u : Nat)
  /-- ENGINE_REPLY (R261). -/
  | engineReply (die : Nat) (u : Nat)
  /-- ENGINE_RESET (R262). -/
  | engineReset (die : Nat) (u : Nat)
  /-- PUT_DELIVERY_COMPLETE (R257). -/
  | putDeliveryComplete (k : Nat)
  /-- TASK_DISPATCH (R277). -/
  | taskDispatch (die : Nat) (q : Nat)
  /-- RING_REFILL (R274). -/
  | ringRefill (die : Nat) (q : Nat)
  /-- CENSUS_VISIT (R296). -/
  | censusVisit (die : Nat) (cid : Nat) (core : Nat)
  /-- CENSUS_FORWARD (R303). -/
  | censusForward (k : Nat)
  /-- DMOVE_INSTALL (R303). -/
  | dmoveInstall (k : Nat)
  /-- STUB_FREE (R303). -/
  | stubFree (core : Nat) (slot : Nat)
  /-- CENSUS_COMPLETE (R301). -/
  | censusComplete (die : Nat) (cid : Nat)
  /-- PAGE_WALK (R324). -/
  | pageWalk (g : Nat) (va : Word) (acc : AccKind)
  /-- CHECK_MISMATCH (R349). -/
  | checkMismatch (g : Nat) (lane : Nat)
  /-- PARITY_REPAIR (R351). -/
  | parityRepair (g : Nat) (lane : Nat) (row : Nat)
  /-- UNCORRECTABLE_ERROR (R337). -/
  | uncorrectableError (h : ErrHolder)
  /-- CORRECTED_ERROR (R355). -/
  | correctedError (die : Nat) (arr : Nat) (dom : Nat)
  /-- ERRTHR_WINDOW_END (R354). -/
  | errthrWindowEnd (die : Nat) (arr : Nat)
  /-- CTX_LOST (R352). -/
  | ctxLost (g : Nat)
  /-- VF_RESET (R100). -/
  | vfReset (f : Nat)
  /-- VF_RESET_END (R353). -/
  | vfResetEnd (f : Nat)
  /-- DIE_RESET (R353). -/
  | dieReset (die : Nat)
  /-- DIE_HEARTBEAT_LOSS (R358). -/
  | dieHeartbeatLoss (die : Nat)
  /-- DIE_REQUEST_TIMEOUT (R358). -/
  | dieRequestTimeout (die : Nat)
  /-- STILE_FLIT (R359). -/
  | stileFlit (die : Nat) (flit : Flit)
  /-- DIE_READY (R360). -/
  | dieReady (die : Nat)
  /-- ISLAND_RESET (R361). -/
  | islandReset (die : Nat)
  /-- ISLAND_FAILED (R361). -/
  | islandFailed (die : Nat)
  /-- LINK_RETRY (R366). -/
  | linkRetry (l : Nat)
  /-- LINK_RESET (R366). -/
  | linkReset (l : Nat)
  /-- LINK_RETRAIN_END (R366). -/
  | linkRetrainEnd (l : Nat) (up : Bool)
  /-- PEER_INBOUND_ACCESS (R365). -/
  | peerInboundAccess (acc : PeerAccess)
  /-- HOST_INTERRUPT_MESSAGE (R369). -/
  | hostInterruptMessage (k : Nat)
  /-- ATS_INVALIDATION (R367). -/
  | atsInvalidation (x : Nat) (f : Nat) (va : Word)
  /-- PARTITION (R374). -/
  | partition (f : Nat) (x0 : Nat) (y0 : Nat) (w : Nat) (h : Nat)
  /-- QUOTA (R374). -/
  | quota (f : Nat) (cl : Nat) (lanes : Nat)
  /-- HBMSHARE (R374). -/
  | hbmshare (f : Nat) (stack : Nat) (weight : Nat)
  /-- S2ROOT (R374). -/
  | s2root (f : Nat) (root : Nat)
  /-- QASSIGN (R374). -/
  | qassign (f : Nat) (die : Nat) (q0 : Nat) (qn : Nat) (c0 : Nat) (cn : Nat)
  /-- APERTURE (R362). -/
  | aperture (idx : Nat) (valid : Bool) (dev : Nat) (addr : Nat) (mask : BitVec 65)
  /-- PEERLINKS (R363). -/
  | peerlinks (peer : Nat) (links : List Nat)
  /-- INBOUND (R365). -/
  | inbound (idx : Nat) (base : Nat) (size : Nat) (f : Nat) (trust : List Nat)
  /-- KEYLOAD (R375). -/
  | keyload (slot : Nat) (wrapped : BitVec 576)
  /-- KEYCLEAR (R375). -/
  | keyclear (slot : Nat)
  /-- MEMRELEASE (R360). -/
  | memrelease (die : Nat)
  /-- COUNTERS (R374). -/
  | counters (f : Nat)
  /-- ATTEST_REPORT (R377). -/
  | attestReport (f : Nat) (nonce : BitVec 512)
  /-- FIRMWARE_UPDATE (R382). -/
  | firmwareUpdate (kind : Nat) (image : List Byte)
  /-- PLDM_DISCOVERY (R381). -/
  | pldmDiscovery
  /-- SENSOR_READ (R381). -/
  | sensorRead (id : Nat)
  /-- POWER_CAP_SET (R383). -/
  | powerCapSet (watts : Nat)
  /-- POWER_GOOD (R378). -/
  | powerGood
  /-- MGMT_READY (R378). -/
  | mgmtReady
  /-- XDIE_READY (R378). -/
  | xdieReady
  /-- STILE_READY (R378). -/
  | stileReady (die : Nat)
  /-- HBM_READY (R378). -/
  | hbmReady (stack : Nat)
  /-- ENGINE_READY (R378). -/
  | engineReady (die : Nat) (u : Nat)
  /-- EUVEX_LINK_UP (R378). -/
  | euvexLinkUp (l : Nat)
  /-- HOST_LINK_UP (R378). -/
  | hostLinkUp (x : Nat)
  /-- READY_TIMEOUT (R378). -/
  | readyTimeout (u : ReadyUnit)
  /-- THERMAL_THROTTLE (R383). -/
  | thermalThrottle (die : Nat) (cycles : Nat)
  /-- THERMAL_TRIP (R383). -/
  | thermalTrip (die : Nat)
  /-- HOST_LINK_DOWN (R369). -/
  | hostLinkDown (x : Nat)
  /-- MSIX_VECTOR_UNMASK (R369). -/
  | msixVectorUnmask (f : Nat) (v : Nat)
  /-- DIE_POWER_OFF (R353). -/
  | diePowerOff (die : Nat)
  /-- DIE_POWER_LOSS (R353). -/
  | diePowerLoss (die : Nat)
  /-- TAG_WALK_TIMEOUT (R353). -/
  | tagWalkTimeout (die : Nat)
  /-- UNDERVOLT_OFFSET_RESTORE (R355). -/
  | undervoltOffsetRestore (die : Nat) (dom : Nat) (off : Nat)
  deriving DecidableEq, Repr

end Sys2Proof
end

