-- ==== Sys2Proof/Machine/State.lean ====
section
/-! DEFINITION. The state of the V840 as plain data, what stops a step, and the state right after reset. -/

namespace Sys2Proof.Machine

/-- Why the machine stops for good. -/
inductive Fault where
  /-- No meaning raises it: every stop that the spec gives an effect is a trap, and every other is a refusal. Safe. -/
  | never
  deriving DecidableEq, Repr

/-- Why a step has no meaning. -/
inductive Refusal where
  /-- An arm of Dispatch whose meaning is not written yet. Safe: no claim about it can be proved. -/
  | notModelled (mnemonic : String)
  /-- An event that cannot happen in this state: its condition in the spec does not hold, or it names something
  that does not exist. Raised by the event meanings. Safe: the step is not taken. -/
  | notEnabled (event : String)
  deriving DecidableEq, Repr

/-- The privilege levels of R309. -/
inductive Level where
  | user | supervisor | firmware
  deriving DecidableEq, Repr

/-- The key slot of an access or of a line of HBM with the key pair it goes under, or none where no cipher applies (R376;
log 15). -/
abbrev Key := Option (Nat × BitVec 512)

/-- The access paths of R217. -/
inductive Path where
  | scalar | lane | copy | gather | msg | host
  deriving DecidableEq, Repr

/-- The registers a trap saves into, of one level (R312 to R314); DEPTH is kept with them because the shadow set
copies TSTAT whole (R315). -/
structure TrapRegs where
  cause : BitVec 10 := 0
  val   : Word := 0
  epc   : Word := 0
  ppl   : BitVec 2 := 0
  vside : Bool := false
  depth : BitVec 2 := 0
  telem : Word := 0
  gpa   : BitVec 52 := 0
  deriving DecidableEq, Repr

/-- The trap registers of the supervisor or the firmware level with their shadow set (R311 to R315). -/
structure TrapSet where
  vec    : Word := 0
  regs   : TrapRegs := {}
  shadow : TrapRegs := {}
  deriving DecidableEq, Repr

/-- A scalar operand captured when a vector instruction entered the vector queue (R334). -/
structure Capture where
  reg    : BitVec 5
  value  : Word
  poison : Bool
  deriving DecidableEq, Repr

/-- One entry of the vector queue or the replay queue (R121, R334). For SETVL and SETVLI the register-count code
and tile count that scalar decode held (R108). `depth` is the number of traps in progress once the trap that put
it into the replay queue is taken: that trap's ERET reissues it. `resume` marks a fill for resumption (R180). `level` is
the level it was issued at, under which it makes its accesses (R323); `after` are the kinds 0 to 2 of a FENCE.SV that hold
its accesses behind the thread's older scalar ones (R231). Of one that was cut, `begun` is the element at which it began, and
`part` how many bits of the mask segment at its boundary it has written, and whether poison was among them (R151). `passed`:
scalar decode has gone past it to an instruction that does not enter the queue (R126). -/
structure VqEntry where
  addr  : Word
  instr : Instr
  caps  : List Capture := []
  ncode : BitVec 2 := 0
  tiles : BitVec 3 := 0
  depth : Nat := 0
  resume : Bool := false
  level : Level := .user
  after : BitVec 3 := 0
  begun : Option Nat := none
  part  : Nat × Bool := (0, false)
  wrote : List Nat := []
  passed : Bool := false
  deriving DecidableEq, Repr

/-- A piece of a scalar load whose value is not fixed yet (R217): `len` bytes of the `size` that go to register `dest`,
from byte `off` of the value on; `sext` extends the whole value with its sign. -/
structure LatePiece where
  dest : BitVec 5
  off  : Nat
  len  : Nat
  size : Nat
  sext : Bool
  deriving DecidableEq, Repr

/-- An access that is not performed yet (R203, R219): a store of `bytes`, or a load that fills `load`. `loc` is a physical
address, or 2^52 plus the place in the scratch store; `key` the key pair it goes under. `cls` is the ordering class, on
the LANE path with 16 times (the number of the lane whose port it takes, plus 1): each port is its own ordering point
(R220). Pieces of one access (R223) share a number other than 0 in `piece`; `buffered` counts it in the store buffer. -/
structure Pending where
  path   : Path
  cls    : Nat
  loc    : Nat
  key    : Key := none
  bytes  : List Byte
  poison : Bool := false
  load   : Option LatePiece := none
  piece  : Nat := 0
  buffered : Bool := false
  deriving DecidableEq, Repr

/-- A wait in progress: the waiting instruction stands at the PC and has not written its result. `bound` is the
bound in cycles, 0 for none. -/
inductive Wait where
  /-- CBAR on barrier `b`, arrived with rank `rank` (R93). -/
  | cbar (b rank : Nat)
  /-- TSLEEP (R94). -/
  | tsleep (bound : Nat)
  /-- WAITM (R252). -/
  | waitm (chan bound : Nat)
  /-- BWAIT for the object at a place, under a key, to leave a phase (R266). -/
  | bwait (loc : Nat) (key : Key) (phase bound : Nat)
  /-- TGET, handed nothing yet (R277). -/
  | tget (queue bound : Nat)
  /-- CWAIT (R302). -/
  | cwait (cid bound : Nat)
  /-- The status of a message that crossed Euvex (R248, R365). -/
  | remoteStatus
  /-- A push or LAUNCH that reached a stopped queue with its entry (R274). -/
  | stopped (queue : Nat) (entry : List (Word × Bool))
  /-- DMOVE waiting for its move to be installed (R294). -/
  | dmove
  /-- PREEMPT or RESUME, whose request at a die's port is in progress (R330). -/
  | service (die : Nat)
  /-- An access of the instruction, or a request it makes, waits for its way (R361, R366); it is made anew. -/
  | held
  /-- The wait is over and gives this value: a bound that passed, a status that came. -/
  | answered (v : Word)
  deriving DecidableEq, Repr

/-- The task or tile a thread runs (R277, R286): the queue, the header of the entry or word 3 of the tile record,
and for a tile the serial number of its record. -/
structure TaskHold where
  queue  : Nat
  header : Word
  tile   : Option Nat := none
  deriving DecidableEq, Repr

/-- One handler run on the handler stack (R246): what MRET restores, with the wait it returns to (R79) and an item handed
to that wait, and the run's own priority and channel. -/
structure HandlerFrame where
  pc    : Word
  level : Level
  prio  : BitVec 2
  chan  : Nat
  wait  : Option Wait := none
  handed : Option (TaskHold × List (Word × Bool)) := none
  deriving DecidableEq, Repr

/-- An instruction of the vector queue that retired (R351): where it started, VL, VTYPE, the lanes, the codes of the
register and tile counts, and the side of the weave. -/
structure Past where
  entry : VqEntry
  start : Nat
  len   : Nat
  vtype : Word := 0
  lanes : Nat := 0
  ncode : BitVec 2 := 0
  tl    : BitVec 3 := 0
  side  : Nat := 0
  deriving DecidableEq, Repr

/-- A pending LANE_REVOKE (its cause of R119) or LANE_SPILL (the faulting address, and TELEM of the fault; R125). -/
inductive PendingRevoke where
  | revoke (cause : Nat)
  | spill (addr telem : Word)
  deriving DecidableEq, Repr

/-- How far a pre-emption of the thread has come (R97): none asked, asked, stopped at a pre-emption point. -/
inductive Preempt where
  | none | asked | stopped
  deriving DecidableEq, Repr

/-- What a thread holds in its lanes (R103, R132, R150, R167 to R169). `lanes` are the physical numbers in grant
order. Row r of logical lane l stands at 64·l + r; segment i of mask m at 256·m + i; latch buffers are A0, A1, B0,
B1, row t of buffer x at 64·x + t, its slot i at 256·(64·x + t) + i. Tiles are rows of their lanes. -/
structure VecState where
  lanes       : List Nat := []
  rows        : Assoc Row := []
  rowPoison   : Assoc Bool := []
  masks       : Assoc Row := []
  maskPoison  : Assoc Bool := []
  side        : Nat := 0
  slots       : Assoc (BitVec 32) := []
  latchPoison : Assoc Bool := []
  valid       : Assoc Nat := []
  lsel        : BitVec 2 := 0
  deriving DecidableEq, Repr

/-- One thread context (R53). Scalar registers hold 0 where `regs` lists none. -/
structure Ctx where
  live      : Bool := false
  pc        : Word := 0
  regs      : Assoc Word := []
  poison    : BitVec 32 := 0
  fstat     : Word := 0
  vstart    : Word := 0
  vstat     : Word := 0
  vspill    : Word := 0
  fmta      : Word := 0
  fmtb      : Word := 0
  scla      : Word := 0
  sclb      : Word := 0
  vl        : Word := 0
  vtype     : Word := 0
  cir       : Word := 0
  lanecyc   : Word := 0
  /-- Register-count code in force and pending, tile count in force and pending (R106, R115). -/
  ncode     : BitVec 2 := 0
  pncode    : BitVec 2 := 0
  tl        : BitVec 3 := 0
  ptl       : BitVec 3 := 0
  /-- The decode type and decode count: those of the youngest SETVL decoded (R43, R135). -/
  dtype     : Word := 0
  dcode     : BitVec 2 := 0
  level     : Level := .user
  uepc      : Word := 0
  uip       : Bool := false
  sup       : TrapSet := {}
  firm      : TrapSet := {}
  /-- The scalar resume address of R317. -/
  resume    : Word := 0
  vq        : List VqEntry := []
  replay    : List VqEntry := []
  /-- The entry that is running again out of the vector queue, if one is. -/
  reissue   : Option VqEntry := none
  /-- The kinds 0 to 2 of FENCE.SV that younger vector accesses still have to await (R231). -/
  svHold    : BitVec 3 := 0
  history   : List Past := []
  /-- The element before which the running vector instruction is cut (R120, R349). -/
  cut       : Option Nat := none
  mismatch  : Nat := 0
  /-- The check pointer of each lane-set (R347). -/
  pointers  : Assoc Nat := []
  revoke    : Option PendingRevoke := none
  vec       : VecState := {}
  /-- The launch's LANEMIN, then RES, MAX and SHORT of VGRANT (R114), and the waiting time of R110 in cycles. -/
  laneMin   : Nat := 0
  gres      : Nat := 0
  laneMax   : Nat := 0
  short     : Nat := 0
  waiting   : Nat := 0
  /-- Own level of the thread's own stream, IPRIO, the wait count W (R91, R92). -/
  prio      : BitVec 2 := 0
  iprio     : BitVec 2 := 0
  w         : Nat := 0
  wake      : Bool := false
  yielded   : Bool := false
  wait      : Option Wait := none
  handlers  : List HandlerFrame := []
  task      : Option TaskHold := none
  /-- An item handed to a waiting TGET, with the words to write (R277). -/
  handed    : Option (TaskHold × List (Word × Bool)) := none
  serves    : List Nat := []
  crew      : Option Nat := none
  tidx      : Nat := 0
  fn        : Nat := 0
  pend      : List Pending := []
  preempt   : Preempt := .none
  deriving DecidableEq, Repr

/-- The role of a granule of the unified array (R193): a way of the L1, or byte range `k` of a crew's region. -/
inductive Role where
  | l1
  | scratch (crew k : Nat)
  deriving DecidableEq, Repr

/-- A line an L1 holds: its granule, its address divided by 64, whether it is dirty (R193), and whether the L1 took it
with write ownership (R202). -/
structure L1Line where
  granule : Nat
  line    : Nat
  dirty   : Bool
  owned   : Bool := false
  deriving DecidableEq, Repr

/-- A line an L2 holds: its address divided by 64, and whether it is dirty (R201, R202). -/
structure L2Line where
  line  : Nat
  dirty : Bool := false
  deriving DecidableEq, Repr

/-- A line a creel holds while the transfer that put it there is in flight (R199): where it goes, with its bytes. -/
structure CreelLine where
  loc    : Nat
  key    : Key := none
  bytes  : List Byte
  poison : Bool := false
  deriving DecidableEq, Repr

/-- A message in a FIFO or on its way, with its tag of R250. -/
structure Msg where
  payload : BitVec 256
  poison  : Bool := false
  tag     : Word
  deriving DecidableEq, Repr

/-- A channel (R242): binding word, FIFO, pending, lost and RUN bits; held after a pre-emption, for the
crew that was saved. -/
structure Channel where
  fifo    : List Msg := []
  binding : Word := 0
  pend    : Bool := false
  lost    : Bool := false
  run     : Bool := false
  held    : Bool := false
  heldFor : Nat := 0
  deriving DecidableEq, Repr

/-- The state of a slot of a tile directory (R289, R303). A source or stub names its destination slot, at 64·core +
slot, and that slot's generation; a stub also names the censuses that must still pass the source core. -/
inductive SlotState where
  | free
  | valid
  | source (dest gen : Nat)
  | stub (dest gen : Nat) (awaited : List Nat)
  | destination
  deriving DecidableEq, Repr

/-- A slot of a tile directory (R289): the descriptor's key, key mask and word 2, the owner, the censuses in
progress that counted it, and the slot's generation. -/
structure DirSlot where
  state : SlotState := .free
  key   : Word := 0
  kmask : Word := 0
  word2 : Word := 0
  fn    : Nat := 0
  crew  : Nat := 0
  mset  : List Nat := []
  gen   : Nat := 0
  deriving DecidableEq, Repr

/-- A core (R53, R193, R242, R289): granule roles, L1 lines in order of use (latest first), the last context that
issued from each level. -/
structure Core where
  roles : Assoc Role := []
  l1    : List L1Line := []
  chans : Assoc Channel := []
  last  : Assoc Nat := []
  dir   : Assoc DirSlot := []
  /-- V(c): the censuses in progress that have visited the core (R303). -/
  seen  : List Nat := []
  deriving DecidableEq, Repr

/-- The state of one lane of a cluster (R102); a lane that is listed nowhere is free or reserved. Reserved lanes are a
count and follow from the reservations of the resident threads. An earmark names the waiter and the clock at which it was
made; a draining lane names its former holder and its earmark (R119). -/
inductive LaneState where
  | free
  | granted (g : Nat)
  | earmarked (g made : Nat)
  | draining (g : Nat) (dest : Option (Nat × Nat))
  | quarantined
  deriving DecidableEq, Repr

/-- A cluster (R102, R199, R350, R373). Quotas not listed are 256; `mismatches` lists, for the check windows, the lane and
the count of instructions checked in its set since. `creels` lists what the creel of a lane holds. `gathered` is the context
whose fill the gather unit served last (R190). -/
structure Cluster where
  lanes      : Assoc LaneState := []
  creels     : Assoc (List CreelLine) := []
  quotas     : Assoc Nat := []
  mismatches : List (Nat × Nat) := []
  gathered   : Nat := 0
  deriving DecidableEq, Repr

/-- An entry on chip of a task queue, a tile queue or a launch queue: its words with their poison, and for a launch
queue the submitter's level and the launch's number (R85, R90, R273). -/
structure QEntry where
  words  : List (Word × Bool)
  level  : Level := .user
  lid    : Nat := 0
  deriving DecidableEq, Repr

/-- A parked task (R277): its header and the fields it expanded to, and whether its counter has reached zero since it
was parked (R280). -/
structure Parked where
  header : Word × Bool
  fields : List (Word × Bool)
  ready  : Bool := false
  deriving DecidableEq, Repr

/-- A tile record being handed out or counted done (R286): its serial number, its words, the next tile, the tiles that came
back from a TGET that took nothing (R277), tiles counted done, and whether a PURGE discarded the rest of its tiles (R272); of
one that was purged, `next` counts the tiles that threads have. -/
structure TileRec where
  serial : Nat
  words  : List (Word × Bool)
  next   : Nat := 0
  back   : List Nat := []
  done   : Nat := 0
  purged : Bool := false
  deriving DecidableEq, Repr

/-- A hardware queue (R271 to R277). `used` and `head` are the bytes in the ring and the offset of its first, `ringed` the
entries there; `beside` is what a launch queue keeps of the records in its ring: the submitter's level and the launch's
number. A waiter is a context with the number of handler runs below its TGET. -/
structure Queue where
  isOpen  : Bool := false
  tile    : Bool := false
  ring    : Bool := false
  rbase   : Word := 0
  rlog2   : Nat := 0
  supep   : Nat := 0
  oc      : Nat := 0
  trowb   : Nat := 0
  level   : Level := .supervisor
  fn      : Nat := 0
  head    : Nat := 0
  used    : Nat := 0
  ringed  : Nat := 0
  beside  : List (Level × Nat) := []
  chip    : List QEntry := []
  prev    : List (Word × Bool) := []
  parked  : List Parked := []
  tiles   : List TileRec := []
  waiters : List (Nat × Nat) := []
  stopped : Bool := false
  deriving DecidableEq, Repr

/-- A rectangle of clusters (R370). -/
structure Rect where
  x0 : Nat
  y0 : Nat
  w  : Nat
  h  : Nat
  deriving DecidableEq, Repr

/-- A launch that was accepted (R85, R90): its record, the submitter's level, crews placed, ended and lost, the
first loss's cause, whether some thread ended poisoned, and whether the record itself read poisoned. -/
structure Launch where
  record    : BitVec 512
  level     : Level := .user
  placed    : Nat := 0
  completed : Nat := 0
  lost      : Nat := 0
  lossCause : Nat := 0
  poison    : Bool := false
  tainted   : Bool := false
  lastDie   : Nat := 0
  delivered : Bool := false
  deriving DecidableEq, Repr

/-- A resident or saved crew (R78): its launch, crew index, cluster, the context of each thread in thread order,
the threads that have exited, the cores that hold its region with their granules in order, the threads that
arrived at each crew barrier and the parity of its generations. `kept` is what the device keeps of a saved crew beside
its save area at `area`: its contexts as they were. -/
structure Crew where
  fn       : Nat
  lid      : Nat
  cidx     : Nat
  cluster  : Nat
  threads  : List Nat
  exited   : List Nat := []
  cores    : List Nat := []
  granules : Nat := 0
  arrivals : List (List Nat) := [[], [], [], []]
  parity   : BitVec 4 := 0
  saved    : Bool := false
  area     : Nat := 0
  kept     : List Ctx := []
  deriving DecidableEq, Repr

/-- What management counts for a function (R374): message, queue and revocation events, and cycles. -/
structure Usage where
  laneCycles    : Nat := 0
  granuleCycles : Nat := 0
  ctxCycles     : Nat := 0
  accepted      : Nat := 0
  refused       : Nat := 0
  drops         : Nat := 0
  pushes        : Nat := 0
  dispatches    : Nat := 0
  fulls         : Nat := 0
  stops         : Nat := 0
  registrations : Nat := 0
  moves         : Nat := 0
  dirRefusals   : Nat := 0
  /-- Forced revocations by cause 0, 1 and 2 (R118). -/
  revokes       : Assoc Nat := []
  deriving DecidableEq, Repr

/-- Queues and counters of one die assigned to a function (R374). -/
structure QRange where
  q0 : Nat
  qn : Nat
  c0 : Nat
  cn : Nat
  deriving DecidableEq, Repr

/-- A virtual function (0 to 63) or the physical function (64): partition, roots, launch queues (R85), LID and
PORTSTAT (R84), assignments, the parts of them that went to other functions since, and weights (R373, R374), the host
interface (R368, R369). -/
structure Fn where
  part      : Option Rect := none
  s1root    : Option Nat := none
  s2root    : Option Nat := none
  lqueues   : Assoc Queue := []
  headAge   : Assoc Bool := []
  lid       : Nat := 0
  last      : Nat := 0
  portPart  : Bool := false
  assigned  : Assoc QRange := []
  reassigned : Assoc (List QRange) := []
  weights   : Assoc Nat := []
  nbase     : Word := 0
  msixMask  : BitVec 64 := BitVec.allOnes 64
  msixPend  : BitVec 64 := 0
  msixTable : Assoc Byte := []
  resetting : Bool := false
  usage     : Usage := {}
  /-- The host link firmware assigned, where it did (R368). -/
  hostLink  : Option Nat := none
  deriving DecidableEq, Repr

/-- A reply or null reply of a counted entry (R298 to R300): the entry's core and slot, the value when one was
replied, with its poison. -/
structure Counted where
  core   : Nat
  slot   : Nat
  answer : Option (Word × Bool) := none
  null   : Bool := false
  deriving DecidableEq, Repr

/-- A census (R295 to R301): its owner, query, argument, notification, the cores of its scope in ascending core
id, those not visited yet, forwards not resolved yet, the entries counted, the replies counted for slots of which no entry
is counted (R299), and its end. -/
structure Census where
  owner     : Nat
  fn        : Nat
  key       : Word
  mask      : Word
  arg       : Word
  nep       : Nat
  notify    : Bool
  op        : BitVec 3
  scope     : List Nat
  toVisit   : List Nat
  forwards  : Nat := 0
  counted   : List Counted := []
  early     : List Counted := []
  absentDie : Bool := false
  done      : Bool := false
  abandoned : Bool := false
  deriving DecidableEq, Repr

/-- The error records of one caller (R345): oldest first, records lost, notice endpoint. -/
structure ErrQueue where
  records : List (BitVec 512) := []
  lost    : Nat := 0
  notice  : Option Nat := none
  deriving DecidableEq, Repr

/-- A command in an engine's inbox (R258): its four words, the sender's function, level, context and crew, and whether it
came poisoned from a peer. -/
structure Command where
  word0  : Word
  word1  : Word
  word2  : Word
  word3  : Word
  fn     : Nat
  level  : Level
  sender : Nat
  crew   : Option Nat := none
  poison : Bool := false
  deriving DecidableEq, Repr

/-- A reply an engine holds (R261): its payload with its poison, class and reply endpoint. -/
structure Reply where
  payload : BitVec 256
  poison  : Bool := false
  cls     : Nat
  dest    : Nat
  fn      : Nat
  deriving DecidableEq, Repr

/-- A copy engine (R258 to R262). `discarded` are the commands an engine reset still has to answer. -/
structure Engine where
  ready     : Bool := false
  inbox     : List Command := []
  replies   : List Reply := []
  discarded : List Command := []
  lastFn    : Nat := 64
  deriving DecidableEq, Repr

/-- The monitor of an array (R354, R355): corrected errors in the window, predictive-failed mark. -/
structure ArrayMon where
  count  : Nat := 0
  failed : Bool := false
  deriving DecidableEq, Repr

/-- A pre-emption request in progress at a die's port (R331 to R335): the crew, the save area, the clock at the
submit. -/
structure PrqWork where
  resume : Bool
  crew   : Nat
  area   : Word
  start  : Nat
  deriving DecidableEq, Repr

/-- Whether a die is present, or why it is absent (R353, R358): not brought up, being reset, powered off. -/
inductive DieState where
  | down | present | resetting | off
  deriving DecidableEq, Repr

/-- A C-die with its Stile (R331, R345, R354, R357 to R361, R378). `reported`: it has reported ready; `walkLost`: its tag
walk did not run or not complete (R353); `lostMemory`: its HBM was poisoned whole, and granules are clean only where the
poison table says so; `islandBusy`: its island is being reset; `walking`: the tag walk of its reset or power-off runs, and
`walkOwned` are the lines homed on other dies that its L1s held with write ownership when that began (R353); `retired` are
the arrays that a reset retired (R355). -/
structure Die where
  state       : DieState := .down
  reported    : Bool := false
  walkLost    : Bool := false
  lostMemory  : Bool := false
  stile       : Bool := false
  stileFailed : Bool := false
  islandBusy  : Bool := false
  walking     : Bool := false
  walkOwned   : List Nat := []
  retired     : List Nat := []
  clockBase   : Nat := 0
  ftvec       : Word := 0
  vfsel       : Word := 0
  vftvec      : Assoc Word := []
  prqaddr     : Word := 0
  prq         : Word := 0
  prqstat     : Word := 0
  prqBusy     : List Nat := []
  prqWork     : Option PrqWork := none
  errthr      : Word := BitVec.ofNat 64 (1024 * 4294967296 + 16)
  arrays      : Assoc ArrayMon := []
  undervolt   : Assoc Nat := []
  queues      : Assoc Queue := []
  counters    : Assoc (BitVec 32) := []
  censuses    : Assoc Census := []
  generations : Assoc Nat := []
  errors      : Assoc ErrQueue := []
  engines     : Assoc Engine := []
  log         : List Nat := []
  overflow    : Bool := false
  memHeld     : Bool := false
  throttle    : Nat := 0
  deriving DecidableEq, Repr

/-- A message on its way (R248, R249): the sender's endpoint, context, level and crew, the destination endpoint value,
the class, the kind of its tag. `waits`: the sender waits for the status. `device`: the device sends it itself.
`engine`: the engine whose reply it is, as 4·die + unit. `census`: the census and counted entry a responder request
serves (R298). `retry`: refused as FULL and to be offered again. `refused`: the status with which it bounces. -/
structure Wire where
  src    : Nat
  sender : Option Nat := none
  level  : Level := .user
  crew   : Option Nat := none
  fn     : Nat
  dest   : Nat
  cls    : Nat
  kind   : Nat
  payload : BitVec 256
  poison : Bool := false
  waits  : Bool := false
  device : Bool := false
  engine : Option Nat := none
  census : Option (Nat × Nat) := none
  retry  : Bool := false
  refused : Option Nat := none
  deriving DecidableEq, Repr

/-- The barrier a delivery decrements (R257): none, one at a place under a key, or one at an offset of the
destination region. -/
inductive PutBarrier where
  | none
  | at (loc : Nat) (key : Key)
  | region (off : Nat)
  deriving DecidableEq, Repr

/-- A delivery of a PUT or PUTM that is not performed yet (R257): the sender, class and function, the destination core
and crew with the offset in its region, the bytes with the poison of each, the barrier, the completion message. -/
structure PutJob where
  sender  : Nat
  cls     : Nat
  fn      : Nat
  core    : Nat
  crew    : Nat
  offset  : Nat
  bytes   : List Byte
  poison  : List Bool
  barrier : PutBarrier := .none
  message : Option Wire := none
  deriving DecidableEq, Repr

/-- A forward of a census match (R303): the census, the slot it names and that slot's generation. -/
structure Forwarded where
  census : Nat
  dest   : Nat
  gen    : Nat
  deriving DecidableEq, Repr

/-- A DMOVE that is not installed yet (R294, R303): the thread, source and destination slots, tile bytes. -/
structure Move where
  thread : Nat
  source : Nat
  dest   : Nat
  word2  : Word
  fn     : Nat
  crew   : Nat
  deriving DecidableEq, Repr

/-- A cached translation (R325): the function, the virtual page, its size in bits, the physical page, the guest
physical page, the key slot, what stage 1 and stage 2 permit together, with the U bit and the dirty state, the
stage-2 pages that its table reads used, with their sizes in bits (R327), and what stage 1 permits alone. -/
structure TlbEntry where
  fn   : Nat
  va   : Nat
  bits : Nat
  pa   : Nat
  gpa  : Nat
  key  : Nat
  r    : Bool
  w    : Bool
  x    : Bool
  u    : Bool
  d    : Bool
  via  : List (Nat × Nat) := []
  r1   : Bool := true
  w1   : Bool := true
  x1   : Bool := true
  deriving DecidableEq, Repr

/-- A non-leaf entry in a walk cache (R325): the function, the stage, the level of the entry, the address bits that
select it, the next table, and the stage-2 pages its reading used. -/
structure WalkEntry where
  fn    : Nat
  stage : Nat
  level : Nat
  tag   : Nat
  next  : Nat
  via   : List (Nat × Nat) := []
  deriving DecidableEq, Repr

/-- A peer aperture (R362). -/
structure Aperture where
  dev  : Nat
  addr : Nat
  mask : BitVec 65
  deriving DecidableEq, Repr

/-- An inbound window (R365). -/
structure Window where
  base  : Nat
  size  : Nat
  fn    : Nat
  trust : List Nat
  deriving DecidableEq, Repr

/-- The state of a Euvex link (R366). -/
inductive LinkState where
  | down | up | retrain
  deriving DecidableEq, Repr

/-- A Euvex link (R366): its state, the failed retries of the flit at hand, failed retrainings. -/
structure Link where
  state   : LinkState := .down
  retries : Nat := 0
  failed  : Nat := 0
  /-- It has been UP once since its X-die reported ready (R378). -/
  came    : Bool := false
  deriving DecidableEq, Repr

/-- An act of firmware, of the management controller or of the host for which the opcode table has no row. -/
inductive Act where
  /-- Firmware sets the device's id (R363). -/
  | setDevice (id : Nat)
  /-- Firmware assigns a function to a host link (R368). -/
  | assignHostLink (f link : Nat)
  /-- Bring-up sets a die's firmware trap vector (R311). -/
  | setFtvec (die : Nat) (v : Word)
  /-- Management takes the oldest error record of a die at firmware level (R345, R381). -/
  | popError (die : Nat)
  /-- Management writes PRQADDR or PRQ of a die, or reads PRQSTAT (R331). -/
  | writePrqaddr (die : Nat) (v : Word)
  | writePrq (die : Nat) (v : Word)
  | readPrqstat (die : Nat)
  /-- The host reads 8 bytes of a function's BAR0 (R84, R368, R369). -/
  | readBar (f off : Nat)
  /-- The host takes the oldest record that Advanced Error Reporting carries (R367). -/
  | takeAer
  /-- The tag walk of a die that is reset or powered off completes (R353). -/
  | endTagWalk (die : Nat)
  /-- A management request begins that takes more than one step, and ends (R381). -/
  | mgmtBegin
  | mgmtEnd
  /-- The stored bytes of a bank of an image kind are damaged (R382). -/
  | damageBank (bank : Nat) (image : List Byte)
  /-- The module's input power is lost and comes back (R378, R382). -/
  | powerCycle
  deriving DecidableEq, Repr

/-- What the step does next: an event with its operands; the issue slot of a core; the issue slot with a vector
instruction left in the queue, or with the value of a scalar load fixed later; a context's oldest queued vector
instruction, whole or up to an element; the performing of the `k`-th pending access of a context; or an act of firmware or
of the host. -/
inductive Turn where
  | event (i : Instr)
  | issue (core : Nat)
  | hold (core : Nat)
  | defer (core : Nat)
  | vector (g : Nat)
  | progress (g e : Nat)
  | perform (g k : Nat)
  | outside (a : Act)
  deriving DecidableEq, Repr

/-- The machine. Contexts, cores, clusters, dies, functions, launches and crews that are listed nowhere are as at
reset. Launches stand at 2^32·function + LID; crews, messages, deliveries, forwards and moves at serial numbers. -/
structure State where
  agenda     : List Turn := []
  cur        : Nat := 0
  freeCount  : Nat := 0
  serial     : Nat := 0
  clock      : Nat := 0
  answer     : Word := 0
  report     : List Byte := []
  /-- The C-die of the unit that makes accesses in the place of the running thread, if one does (R361). -/
  viewer     : Option Nat := none
  /-- An access or a message of the step in progress crosses a way that is held, so that the step waits (R361, R366). -/
  blocked    : Bool := false
  ctxs       : Assoc Ctx := []
  cores      : Assoc Core := []
  clusters   : Assoc Cluster := []
  dies       : Assoc Die := []
  fns        : Assoc Fn := []
  launches   : Assoc Launch := []
  crews      : Assoc Crew := []
  mem        : Assoc Byte := []
  memPoison  : Assoc Bool := []
  scratch    : Assoc Byte := []
  scrPoison  : Assoc Bool := []
  lineKey    : Assoc Key := []
  /-- The key slot with which the caches tag a line, with its pair when the line came in (R376). -/
  tags       : Assoc Key := []
  /-- The lines of the L2s (R201), at 24·(4096·(32·die + slice) + set) + way. -/
  l2         : Assoc L2Line := []
  keys       : Assoc (BitVec 512) := []
  tlb        : List TlbEntry := []
  walks      : List WalkEntry := []
  apertures  : Assoc Aperture := []
  windows    : Assoc Window := []
  linkSets   : Assoc (List Nat) := []
  device     : Nat := 0xFFF
  links      : Assoc Link := []
  hostLinks  : Assoc Bool := []
  hbmStacks     : Assoc Bool := []
  wires      : Assoc Wire := []
  puts       : Assoc PutJob := []
  forwards   : Assoc Forwarded := []
  moves      : Assoc Move := []
  powered    : Bool := false
  mgmt       : Bool := false
  xdie       : Bool := false
  /-- Functions that missed their bound for reporting ready (R378). -/
  failed     : List ReadyUnit := []
  /-- The active bank of each image kind and the bank of the next reset; the images stand at 2·kind + bank (R382). -/
  banks      : Assoc Nat := []
  nextBanks  : Assoc Nat := []
  images     : Assoc (List Byte) := []
  secMin     : Nat := 0
  powerCap   : Nat := 4200
  /-- A management request is being served (R381). -/
  mgmtBusy   : Bool := false
  /-- The error records that Advanced Error Reporting carries to the host, oldest first, until the host takes them; and the
  address translations of the host that each X-die caches, as function and page, latest first (R367). -/
  aer        : List (BitVec 512) := []
  ats        : Assoc (List (Nat × Nat)) := []
  deriving DecidableEq, Repr

/-- Right after reset (R378): nothing is ready, no thread is resident, nothing is stored. -/
def State.reset : State := {}

end Sys2Proof.Machine
end

