-- ==== Sys2Proof/Machine/Table.lean ====
section
/-! DEFINITION. The two operations of the sparse tables the state is made of, and small list helpers. -/

namespace Sys2Proof.Machine

/-- The value a table gives a key; `dflt` where it lists none. -/
def aget (dflt : α) : Assoc α → Nat → α
  | [], _ => dflt
  | (k, v) :: rest, i => if i = k then v else aget dflt rest i

/-- The table with the key listed at the value. -/
def aset : Assoc α → Nat → α → Assoc α
  | [], i, x => [(i, x)]
  | (k, v) :: rest, i, x =>
    if i = k then (k, x) :: rest
    else if i < k then (i, x) :: (k, v) :: rest
    else (k, v) :: aset rest i x

/-- The table without the key. -/
def aerase (m : Assoc α) (i : Nat) : Assoc α := m.filter fun p => p.1 != i

/-- The table with the key at the value, in the form that lists no default. -/
def aput [DecidableEq α] (dflt : α) (m : Assoc α) (i : Nat) (x : α) : Assoc α :=
  if x = dflt then aerase m i else aset m i x

/-- The table lists the key. -/
def ahas (m : Assoc α) (i : Nat) : Bool := m.any (fun p => p.1 == i)

/-- Keys strictly rising from `lo` on, and no default listed: the canonical form of a byte store. -/
def wfFrom [DecidableEq α] (dflt : α) : Nat → Assoc α → Bool
  | _, [] => true
  | lo, (k, v) :: rest => decide (lo ≤ k) && !decide (v = dflt) && wfFrom dflt (k + 1) rest

/-- The canonical form of memory: addresses strictly rising, no entry equal to what an unlisted address reads as. -/
abbrev Memory.wf (m : Assoc Byte) : Bool := wfFrom (0 : Byte) 0 m

/-- The first element with the property, from the numbers below `n`. -/
def findBelow (n : Nat) (p : Nat → Bool) : Option Nat := (List.range n).find? p

/-- Bytes, lowest address first, as one little-endian number (R4). -/
def leNat : List Byte → Nat
  | [] => 0
  | b :: rest => b.toNat + 256 * leNat rest

/-- The `n` low bytes of a number, lowest first (R4). -/
def leBytes : Nat → Nat → List Byte
  | 0, _ => []
  | n + 1, v => BitVec.ofNat 8 v :: leBytes n (v / 256)

/-- Bits `lo` to `lo + n - 1` of a number. -/
def bitsOf (v lo n : Nat) : Nat := (v >>> lo) % 2 ^ n

/-- Bit `i` of a word. -/
def bit (w : Word) (i : Nat) : Bool := w.getLsbD i

/-- A Bool as the number 0 or 1. -/
def ofBool (b : Bool) : Nat := if b then 1 else 0

end Sys2Proof.Machine
end

