-- ==== Sys2Proof/Machine/Cipher.lean ====
section
/-! DEFINITION. AES-256 in XTS mode, the cipher of the HBM controllers (R376). The spec names the cipher and gives the
data unit, the blocks and the tweak; the cipher itself is PRESUMED from FIPS 197 and IEEE 1619 (log 14). A byte is a
number below 256; a block is sixteen bytes. -/

namespace Sys2Proof.Machine

/-- A byte doubled in the field of AES. -/
def gfDouble (x : Nat) : Nat := if x < 128 then 2 * x else (2 * x) ^^^ 0x11B

/-- The product of two bytes in the field of AES: bit by bit of the second. -/
def gfMul (a b : Nat) : Nat :=
  ((List.range 8).foldl (fun (r : Nat × Nat) i => (if b.testBit i then r.1 ^^^ r.2 else r.1, gfDouble r.2)) (0, a)).1

/-- The inverse of a byte in the field of AES, 0 for 0: its power 254. -/
def gfInv (x : Nat) : Nat :=
  ((List.range 7).foldl (fun (r : Nat × Nat) _ => (gfMul r.1 (gfMul r.2 r.2), gfMul r.2 r.2)) (1, x)).1

/-- A byte turned left by `n` bits. -/
def rotByte (x n : Nat) : Nat := (x * 2 ^ n) % 256 + x / 2 ^ (8 - n)

/-- The substitution of AES. -/
def subByte (x : Nat) : Nat :=
  let v := gfInv x
  v ^^^ rotByte v 1 ^^^ rotByte v 2 ^^^ rotByte v 3 ^^^ rotByte v 4 ^^^ 0x63

/-- The inverse substitution of AES. -/
def unsubByte (y : Nat) : Nat := gfInv (rotByte y 1 ^^^ rotByte y 3 ^^^ rotByte y 6 ^^^ 0x05)

/-- Two rows of bytes added. -/
def xorBytes (a b : List Nat) : List Nat := List.zipWith (· ^^^ ·) a b

/-- The words of the key schedule of AES-256, youngest first: one more word each turn. -/
def nextKeyWord (rcon : Nat) (ws : List (List Nat)) : List (List Nat) :=
  let n := ws.length
  let last := (ws[0]?).getD []
  let old := (ws[7]?).getD []
  let mixed :=
    if n % 8 = 0 then
      match last.rotateLeft.map subByte with
      | b :: rest => (b ^^^ rcon) :: rest
      | [] => []
    else if n % 8 = 4 then last.map subByte
    else last
  xorBytes old mixed :: ws

/-- The fifteen round keys of a 32-byte key. -/
def roundKeys (key : List Nat) : List (List Nat) :=
  let start := ((List.range 8).map fun i => (key.drop (4 * i)).take 4).reverse
  let all := ((List.range 52).foldl (fun (r : List (List Nat) × Nat) _ =>
    (nextKeyWord r.2 r.1, if r.1.length % 8 = 0 then gfDouble r.2 else r.2)) (start, 1)).1.reverse
  (List.range 15).map fun i => ((all.drop (4 * i)).take 4).flatten

/-- Byte `i` of a block moves as the rows turn: row `i % 4` by that many columns. -/
def turnRows (back : Bool) (b : List Nat) : List Nat :=
  (List.range 16).map fun i =>
    let r := i % 4
    let c := if back then (i / 4 + 4 - r) % 4 else (i / 4 + r) % 4
    (b[r + 4 * c]?).getD 0

/-- The columns of a block multiplied by the matrix whose first row is given. -/
def mixColumns (row : List Nat) (b : List Nat) : List Nat :=
  (List.range 16).map fun i =>
    (List.range 4).foldl (fun v j => v ^^^ gfMul ((b[4 * (i / 4) + j]?).getD 0) ((row[(j + 4 - i % 4) % 4]?).getD 0)) 0

/-- AES-256 of a block. -/
def aesEncrypt (key block : List Nat) : List Nat :=
  match roundKeys key with
  | [] => block
  | first :: rest =>
    (rest.foldl (fun (r : List Nat × Nat) k =>
      let b := turnRows false (r.1.map subByte)
      (xorBytes (if r.2 = 13 then b else mixColumns [2, 3, 1, 1] b) k, r.2 + 1)) (xorBytes block first, 0)).1

/-- The inverse of AES-256 of a block. -/
def aesDecrypt (key block : List Nat) : List Nat :=
  ((roundKeys key).reverse.foldl (fun (r : List Nat × Nat) k =>
    let b := if r.2 = 0 then r.1 else (turnRows true (if r.2 = 1 then r.1 else mixColumns [14, 11, 13, 9] r.1)).map unsubByte
    (xorBytes b k, r.2 + 1)) (block, 0)).1

/-- The tweak of the next block: the number doubled in the field of XTS. -/
def doubleTweak (t : List Nat) : List Nat :=
  let n := 2 * leNat (t.map (BitVec.ofNat 8))
  (leBytes 16 (if n < 2 ^ 128 then n else (n - 2 ^ 128) ^^^ 0x87)).map BitVec.toNat

/-- The blocks of a data unit under XTS, each with its tweak. -/
def xtsBlocks (cipher : List Nat → List Nat) : Nat → List Nat → List Nat → List Nat
  | 0, _, _ => []
  | n + 1, t, unit =>
    xorBytes (cipher (xorBytes (unit.take 16) t)) t ++ xtsBlocks cipher n (doubleTweak t) (unit.drop 16)

/-- Half of a key pair as bytes: 0 the key of the data, 1 the key of the tweak. -/
def keyHalf (pair : BitVec 512) (i : Nat) : List Nat :=
  (List.range 32).map fun j => pair.toNat / 2 ^ (256 * i + 8 * j) % 256

/-- A 64-byte line at a physical address, enciphered or deciphered under a key pair (R376). -/
def xtsLine (decipher : Bool) (pair : BitVec 512) (pa : Nat) (line : List Byte) : List Byte :=
  let tweak := aesEncrypt (keyHalf pair 1) ((leBytes 16 pa).map BitVec.toNat)
  let cipher := if decipher then aesDecrypt (keyHalf pair 0) else aesEncrypt (keyHalf pair 0)
  (xtsBlocks cipher 4 tweak (line.map BitVec.toNat)).map (BitVec.ofNat 8)

/-- What HBM holds of a line stored under one key, as a read under another returns it (R376). -/
def recipher (was now : Key) (pa : Nat) (line : List Byte) : List Byte :=
  let held := match was with
    | some k => xtsLine false k.2 pa line
    | none => line
  match now with
  | some k => xtsLine true k.2 pa held
  | none => held

end Sys2Proof.Machine
end

