-- ==== Sys2Proof/Config.lean ====
section
/-! DEFINITION. What the spec leaves open: free values, each an opaque constant applied to a counter of the state or
to the operands it depends on. No proof can see what they are, so a claim holds for every value of them. -/

namespace Sys2Proof.Config

/-- A fresh 64-bit value for each value of the counter (log 2). -/
opaque freeWord : Nat → Word

/-- A fresh choice for each value of the counter (log 2). -/
opaque freeBool : Nat → Bool

/-- Fresh bytes for each value of the counter: `n` of them are used (log 2). -/
opaque freeByte : Nat → Nat → Byte

/-- The cycles one step takes (log 3). -/
opaque stepCycles : Nat → Nat

/-- Which of several cached translations, or of the tables, an access uses: by the counter and the address (R322, R325;
log 12). -/
opaque cached : Nat → Nat → Nat

/-- The way of an L2 set that a line takes among those it may take: by the counter (R201; log 73). -/
opaque l2Way : Nat → Nat

/-- The link of a set that traffic takes: by the issuing agent's context, path and class (R363; log 57). -/
opaque linkHash : Nat → Nat → Nat → Nat

/-- The magnitude that VFREC (0), VFRSQ (1), VFEXP2 (2), VFLOG2 (3), VFSIN (4) or VFCOS (5) returns where R143 leaves it
open within a bound: by operation, type code, rounding mode and operand bits (R31, R143; log 13). -/
opaque approx : Nat → Nat → Nat → Nat → Nat

/-- A reading of a sensor: by sensor and counter (R381). -/
opaque sensor : Nat → Nat → Word

/-- The module's serial number, by byte (R377; log 69). -/
opaque serialByte : Nat → Byte

/-- The public attestation key, by byte (R377; log 69). -/
opaque attestKey : Nat → Byte

/-- A measurement: the byte at a place of the digest of what is measured (R377; log 69). -/
opaque measure : List Nat → Nat → Byte

/-- The signature of the first bytes of a report under the attestation key, by byte (R377; log 69). -/
opaque signature : List Byte → Nat → Byte

/-- Whether the unwrap of a wrapped key succeeds, and the key pair it gives (R375). -/
opaque unwrap : BitVec 576 → Option (BitVec 512)

/-- Whether an image passes the checks of digest and signature (R382). -/
opaque imageVerifies : Nat → List Byte → Bool

/-- The security version an image carries (R382). -/
opaque imageVersion : List Byte → Nat

end Sys2Proof.Config
end

