-- ==== Sys2Proof/Machine/Ops.lean ====
section
/-! DEFINITION. The named operations on the state: its parts, the numbering of the package (R1, R370), scalar registers
and the PC, consumption of poison, what becomes of a thread and a crew that end, error records (R345, R346), and
taking and returning from a trap (R309 to R317). -/

namespace Sys2Proof.Machine

/-! ### The parts of the state -/

/-- Context `g` of the package: 4·core + context. -/
def State.ctx (s : State) (g : Nat) : Ctx := aget {} s.ctxs g

/-- The state with context `g` replaced. -/
def State.setCtx (s : State) (g : Nat) (c : Ctx) : State := { s with ctxs := aset s.ctxs g c }

/-- The context that runs. -/
def State.me (s : State) : Ctx := s.ctx s.cur

/-- The state with the running context replaced. -/
def State.setMe (s : State) (c : Ctx) : State := s.setCtx s.cur c

/-- Core `n` of the package: 16·cluster + core. -/
def State.core (s : State) (n : Nat) : Core := aget {} s.cores n

/-- The state with core `n` replaced. -/
def State.setCore (s : State) (n : Nat) (x : Core) : State := { s with cores := aset s.cores n x }

/-- Cluster `n` of the package: 16·die + cluster. -/
def State.cluster (s : State) (n : Nat) : Cluster := aget {} s.clusters n

/-- The state with cluster `n` replaced. -/
def State.setCluster (s : State) (n : Nat) (x : Cluster) : State := { s with clusters := aset s.clusters n x }

/-- C-die `n`. -/
def State.die (s : State) (n : Nat) : Die := aget {} s.dies n

/-- The state with C-die `n` replaced. -/
def State.setDie (s : State) (n : Nat) (x : Die) : State := { s with dies := aset s.dies n x }

/-- Function `n`. -/
def State.fnOf (s : State) (n : Nat) : Fn := aget {} s.fns n

/-- The state with function `n` replaced. -/
def State.setFn (s : State) (n : Nat) (x : Fn) : State := { s with fns := aset s.fns n x }

/-- Channel `ch` of core `n`. -/
def State.chan (s : State) (n ch : Nat) : Channel := aget {} (s.core n).chans ch

/-- The state with channel `ch` of core `n` replaced. -/
def State.setChan (s : State) (n ch : Nat) (x : Channel) : State :=
  s.setCore n { s.core n with chans := aset (s.core n).chans ch x }

/-- Slot `i` of the tile directory of core `n`. -/
def State.slot (s : State) (n i : Nat) : DirSlot := aget {} (s.core n).dir i

/-- The state with slot `i` of the tile directory of core `n` replaced. -/
def State.setSlot (s : State) (n i : Nat) (x : DirSlot) : State :=
  s.setCore n { s.core n with dir := aset (s.core n).dir i x }

/-- The predictive-failed arrays with the property are retired (R355): they are in use no more. Arrays are named by unit +
16·index. -/
def Die.retire (x : Die) (which : Nat → Bool) : Die :=
  let now := (x.arrays.filter fun a => a.2.failed && which a.1 && !(x.retired.contains a.1)).map (·.1)
  { x with retired := x.retired ++ now, arrays := x.arrays.filter fun a => !(now.contains a.1) }

/-- Hardware queue `q` of die `d` (R271). -/
def State.queue (s : State) (d q : Nat) : Queue := aget {} (s.die d).queues q

/-- The state with hardware queue `q` of die `d` replaced. -/
def State.setQueue (s : State) (d q : Nat) (x : Queue) : State :=
  s.setDie d { s.die d with queues := aset (s.die d).queues q x }

/-- A change of what management counts for a function (R374). -/
def State.count (s : State) (f : Nat) (upd : Usage → Usage) : State :=
  s.setFn f { s.fnOf f with usage := upd (s.fnOf f).usage }

/-- The state after one free value was taken. -/
def State.tick (s : State) : State := { s with freeCount := s.freeCount + 1 }

/-- A thread runs in a context: it is not stopped for a pre-emption, and the die is present. -/
def State.runs (s : State) (g : Nat) : Bool :=
  (s.ctx g).live && (s.ctx g).preempt != .stopped && (s.die (g / 1024)).state == .present

/-! ### Numbers of the package (R1, R53, R370) -/

/-- The core that holds context `g`. -/
def coreOf (g : Nat) : Nat := g / 4

/-- The cluster that holds context `g`. -/
def clusterOf (g : Nat) : Nat := g / 64

/-- The C-die that holds context `g`. -/
def dieOf (g : Nat) : Nat := g / 1024

/-- Mesh column of a cluster (R1). -/
def meshX (cl : Nat) : Nat := 4 * (cl / 16 % 4) + cl % 16 % 4

/-- Mesh row of a cluster (R1). -/
def meshY (cl : Nat) : Nat := 4 * (cl / 16 / 4) + cl % 16 / 4

/-- The cluster at a mesh position (R1). -/
def clusterAt (x y : Nat) : Nat := 16 * (x / 4 + 4 * (y / 4)) + (x % 4 + 4 * (y % 4))

/-- The cluster lies in the rectangle (R370). -/
def Rect.holds (r : Rect) (cl : Nat) : Bool :=
  decide (r.x0 ≤ meshX cl) && decide (meshX cl < r.x0 + r.w) &&
  decide (r.y0 ≤ meshY cl) && decide (meshY cl < r.y0 + r.h)

/-- The cluster with partition index `k` (R370). -/
def Rect.clusterOfIndex (r : Rect) (k : Nat) : Nat := clusterAt (r.x0 + k % r.w) (r.y0 + k / r.w)

/-- The partition index of a cluster (R370). -/
def Rect.indexOf (r : Rect) (cl : Nat) : Nat := (meshY cl - r.y0) * r.w + (meshX cl - r.x0)

/-- The clusters of a rectangle, in ascending partition index. -/
def Rect.clusters (r : Rect) : List Nat := (List.range (r.w * r.h)).map r.clusterOfIndex

/-- The C-dies that hold at least one cluster of the rectangle, in ascending number (R370). -/
def Rect.dies (r : Rect) : List Nat := (List.range 8).filter fun d => r.clusters.any fun cl => cl / 16 == d

/-- The place of an element in a list. -/
def placeIn (xs : List Nat) (x : Nat) : Option Nat := xs.findIdx? (· == x)

/-- The core a partition core id names, or none (R241, R370): partition die in bits 10:8, cluster in 7:4. -/
def State.coreById (s : State) (f id : Nat) : Option Nat :=
  match (s.fnOf f).part with
  | none => none
  | some r => if id / 16 < r.w * r.h then some (16 * r.clusterOfIndex (id / 16) + id % 16) else none

/-- The partition core id of a core (R370); 0 for a core outside the partition. -/
def State.idOfCore (s : State) (f core : Nat) : Nat :=
  match (s.fnOf f).part with
  | none => 0
  | some r => 16 * r.indexOf (core / 16) + core % 16

/-- The C-die a partition C-die number names, or none (R370). -/
def State.dieById (s : State) (f n : Nat) : Option Nat :=
  match (s.fnOf f).part with
  | none => none
  | some r => r.dies[n]?

/-- The partition C-die number of a C-die; 0 where it has none (R370). -/
def State.idOfDie (s : State) (f d : Nat) : Nat :=
  match (s.fnOf f).part with
  | none => 0
  | some r => (placeIn r.dies d).getD 0

/-! ### Scalar registers and the PC (R44, R53) -/

/-- A scalar register as the register file holds it: value and poison; s0 reads 0. -/
def Ctx.raw (c : Ctx) (r : BitVec 5) : Word × Bool :=
  if r = 0 then (0, false) else (aget 0 c.regs r.toNat, c.poison.getLsbD r.toNat)

/-- A scalar operand: as captured when a reissued vector instruction entered the queue (R136), else the register. -/
def Ctx.operand (c : Ctx) (r : BitVec 5) : Word × Bool :=
  match c.reissue with
  | none => c.raw r
  | some e =>
    match e.caps.find? (fun k => k.reg == r) with
    | some k => (k.value, k.poison)
    | none => c.raw r

/-- The value of a scalar operand. -/
def State.rv (s : State) (r : BitVec 5) : Word := (s.me.operand r).1

/-- The poison bit of a scalar operand. -/
def State.rp (s : State) (r : BitVec 5) : Bool := (s.me.operand r).2

/-- A scalar register written with a value and its poison; s0 ignores writes (R44, R53). -/
def Ctx.setReg (c : Ctx) (d : BitVec 5) (v : Word) (p : Bool) : Ctx :=
  if d = 0 then c
  else
    { c with
      regs := aput 0 c.regs d.toNat v
      poison := if p then c.poison ||| BitVec.twoPow 32 d.toNat else c.poison &&& ~~~(BitVec.twoPow 32 d.toNat) }

/-- The address of the running instruction: its own PC, or where it stood when it runs again out of the queue. -/
def Ctx.here (c : Ctx) : Word :=
  match c.reissue with
  | none => c.pc
  | some e => e.addr

/-- The PC after an instruction that does not branch: the next word, or unchanged for one that runs again out of
the queue (R317: the scalar stream resumes where it stood). -/
def Ctx.advance (c : Ctx) : Ctx :=
  { c with pc := if c.reissue.isSome then c.pc else c.pc + 4, reissue := none, wait := none, cut := none }

/-- The state after the running instruction ended. -/
def State.advance (s : State) : State := s.setMe s.me.advance

/-! ### Consumption of poison (R339 to R341) -/

/-- A saturating 16-bit count at bit `lo` raised by one (R341). -/
def bumpCount (w : Word) (lo : Nat) : Word :=
  if bitsOf w.toNat lo 16 = 65535 then w else w + BitVec.ofNat 64 (2 ^ lo)

/-- Poison was consumed: CIR.PCONS is set and CIR.PCNT raised (R339). -/
def Ctx.consume (c : Ctx) (p : Bool) : Ctx :=
  if p then { c with cir := bumpCount c.cir 32 ||| 1#64 } else c

/-- The end of an instruction that writes one scalar register: the value, its poison, whether a source it read was
poisoned. -/
def State.retire (s : State) (d : BitVec 5) (v : Word) (p consumed : Bool) : State :=
  s.setMe ((s.me.setReg d v p).consume consumed).advance

/-! ### Levels and trap registers (R309 to R314) -/

/-- The code of a level (R309). -/
def Level.code : Level → Nat
  | .user => 0
  | .supervisor => 1
  | .firmware => 2

/-- The level of a code. -/
def Level.ofCode : Nat → Level
  | 0 => .user
  | 1 => .supervisor
  | _ => .firmware

/-- The trap registers of a level from supervisor up. -/
def Ctx.trapSet (c : Ctx) : Level → TrapSet
  | .firmware => c.firm
  | _ => c.sup

/-- The context with the trap registers of a level replaced. -/
def Ctx.setTrapSet (c : Ctx) (l : Level) (t : TrapSet) : Ctx :=
  match l with
  | .firmware => { c with firm := t }
  | _ => { c with sup := t }

/-- The number of traps in progress. -/
def Ctx.trapDepth (c : Ctx) : Nat := ofBool c.uip + c.sup.regs.depth.toNat + c.firm.regs.depth.toNat

/-- A trap is in progress at some level (R309). -/
def Ctx.inTrap (c : Ctx) : Bool := c.uip || c.sup.regs.depth != 0 || c.firm.regs.depth != 0

/-! ### Lanes given back, threads and crews that end (R77, R111, R112, R196) -/

/-- The lanes a thread holds. -/
def Ctx.lanes (c : Ctx) : Nat := c.vec.lanes.length

/-- The number of lanes of a cluster in a state. -/
def Cluster.count (x : Cluster) (p : LaneState → Bool) : Nat := (x.lanes.filter fun l => p l.2).length

/-- The waiter a lane is earmarked for, one still draining included, and when the earmark was made (R119). -/
def LaneState.mark : LaneState → Option (Nat × Nat)
  | .earmarked g n => some (g, n)
  | .draining _ d => d
  | _ => none

/-- The lane is earmarked for a thread. -/
def LaneState.markedFor (x : LaneState) (g : Nat) : Bool := (x.mark.map (·.1)) == some g

/-- The lane without its earmark. -/
def LaneState.unmarked : LaneState → LaneState
  | .earmarked _ _ => .free
  | .draining g _ => .draining g none
  | x => x

/-- The contexts of a cluster. -/
def clusterCtxs (cl : Nat) : List Nat := (List.range 64).map (64 * cl + ·)

/-- Lanes draining from a context that return to it or the pool: those of no waiter. -/
def Cluster.drainingOf (x : Cluster) (g : Nat) : Nat := x.count fun l => l == .draining g none

/-- Reserved lanes of a thread (R102): its reservation less what it holds or what drains back to it. Lanes of a revoked thread
that end draining are free until only its reservation is left to drain, and then reserved: the order is the model's choice
(log 107). -/
def State.reservedOf (s : State) (g : Nat) : Nat :=
  let c := s.ctx g
  if c.live then c.gres - (c.lanes + (s.cluster (clusterOf g)).drainingOf g) else 0

/-- Lanes of a cluster that no list names: free or reserved. -/
def State.unlisted (s : State) (cl : Nat) : Nat := 256 - (s.cluster cl).lanes.length

/-- Reserved lanes of a cluster. -/
def State.reservedIn (s : State) (cl : Nat) : Nat := (clusterCtxs cl).foldl (fun n g => n + s.reservedOf g) 0

/-- Free lanes of a cluster (R102). -/
def State.freeIn (s : State) (cl : Nat) : Nat := s.unlisted cl - s.reservedIn cl

/-- Lanes of a cluster became free: a reservation that a quarantine lowered takes the first of them (R119). -/
def State.honour (s : State) (cl : Nat) : State :=
  (clusterCtxs cl).foldl (fun s g =>
    let c := s.ctx g
    if c.live && decide (c.gres < c.laneMin) && decide (0 < s.freeIn cl) then
      s.setCtx g { c with gres := min c.laneMin (c.gres + s.freeIn cl) }
    else s) s

/-- A lane that its holder gives back: it drains where its creel still holds lines (R102, R112), with its earmark. -/
def Cluster.released (x : Cluster) (g l : Nat) (dest : LaneState) : LaneState :=
  if (aget [] x.creels l).isEmpty then dest else .draining g dest.mark

/-- Every lane a thread holds returns to the pool, and its earmarks end (R112). -/
def State.returnLanes (s : State) (g : Nat) : State :=
  let cl := s.cluster (clusterOf g)
  let left (p : Nat × LaneState) : LaneState :=
    match p.2 with
    | .granted h => if h = g then cl.released g p.1 .free else p.2
    | .earmarked h _ => if h = g then .free else p.2
    | x => x
  s.setCluster (clusterOf g)
    { cl with lanes := (cl.lanes.map fun p => (p.1, left p)).filter (fun p => p.2 != .free) }

/-- VGIVE's effect on a thread (R112): no grant, no vector state, VL 0, no waiter. -/
def State.giveBack (s : State) (g : Nat) : State :=
  let s := s.returnLanes g
  s.setCtx g { s.ctx g with vec := {}, vl := 0, short := 0, waiting := 0 }

/-- A directory slot freed: its generation advances (R303). -/
def DirSlot.freed (e : DirSlot) : DirSlot := { gen := e.gen + 1 }

/-- The region of a crew on a core is freed (R196, R290): its granules become L1 ways with no line, its valid
directory entries are freed. -/
def State.freeRegion (s : State) (crew core : Nat) : State :=
  let x := s.core core
  s.setCore core
    { x with
      roles := x.roles.filter fun p => match p.2 with | .scratch c _ => c != crew | .l1 => true
      dir := x.dir.map fun p => if p.2.state = .valid ∧ p.2.crew = crew then (p.1, p.2.freed) else p }

/-- Launch `k` with an update. -/
def State.updLaunch (s : State) (k : Nat) (upd : Launch → Launch) : State :=
  match s.launches.find? (fun p => p.1 == k) with
  | none => s
  | some p => { s with launches := aset s.launches k (upd p.2) }

/-- Where a launch stands in the table. -/
def launchKey (f lid : Nat) : Nat := f * 2 ^ 32 + lid

/-- The crew, if it is listed. -/
def State.crewOf (s : State) (k : Nat) : Option Crew := (s.crews.find? (fun p => p.1 == k)).map (·.2)

/-- The threads of a crew that have not exited. -/
def Crew.live (c : Crew) : List Nat := (List.range c.threads.length).filter fun i => !c.exited.contains i

/-- The generation of every crew barrier at which all live threads have arrived completes (R93). -/
def Crew.settle (c : Crew) : Crew :=
  let live := c.live.length
  let full (a : List Nat) : Bool := a.length != 0 && a.length == live
  { c with
    arrivals := c.arrivals.map fun a => if full a then [] else a
    parity := c.parity ^^^ BitVec.ofNat 4
      ((List.range 4).foldl (fun n b => if full ((c.arrivals[b]?).getD []) then n + 2 ^ b else n) 0) }

/-- No context: the former holder of draining lanes whose thread has ended. -/
def noCtx : Nat := 8192

/-- Lanes still draining from a thread that ends, or for one, belong to nobody (R102, R110). -/
def State.forgetDraining (s : State) (g : Nat) : State :=
  let cl := s.cluster (clusterOf g)
  s.setCluster (clusterOf g) { cl with lanes := cl.lanes.map fun p =>
    match p.2 with
    | .draining h d => (p.1, .draining (if h = g then noCtx else h) (if d.map (·.1) = some g then none else d))
    | _ => p }

/-- The context is free (R77): nothing of the thread is left in it. -/
def State.freeCtx (s : State) (g : Nat) : State := ((s.returnLanes g).forgetDraining g).setCtx g {}

/-! ### The end of censuses and moves (R295, R303) -/

/-- A census is no longer in progress: no MSET, visited set or stub names it. -/
def State.forgetCensus (s : State) (k : Nat) : State :=
  let keep (xs : List Nat) : List Nat := xs.filter fun j => j != k
  { s with
    forwards := s.forwards.filter fun p => p.2.census != k
    cores := s.cores.map fun p =>
      (p.1, { p.2 with
        seen := keep p.2.seen
        dir := p.2.dir.map fun e =>
          (e.1, { e.2 with
            mset := keep e.2.mset
            state := match e.2.state with | .stub d g a => .stub d g (keep a) | x => x }) }) }

/-- An id is freed, and its generation advances (R295). -/
def State.freeCensus (s : State) (k : Nat) : State :=
  let s := s.forgetCensus k
  let d := s.die (k / 256)
  s.setDie (k / 256) { d with
    censuses := aerase d.censuses (k % 256)
    generations := aset d.generations (k % 256) ((aget 0 d.generations (k % 256) + 1) % 4096) }

/-- Every census with the property ends and its id is freed. -/
def State.endCensuses (s : State) (which : Census → Bool) : State :=
  (s.dies.flatMap fun d => (d.2.censuses.filter fun c => which c.2).map fun c => 256 * d.1 + c.1).foldl
    (fun s k => s.freeCensus k) s

/-- A DMOVE that is not installed ends without its copy (R303): the destination slot is freed, the source is valid again,
and forwards that wait on the destination turn to the source. -/
def State.cancelMove (s : State) (i : Nat) (m : Move) : State :=
  let e := s.slot (m.source / 64) (m.source % 64)
  let d := s.slot (m.dest / 64) (m.dest % 64)
  let s := s.setSlot (m.dest / 64) (m.dest % 64) d.freed
  let s := s.setSlot (m.source / 64) (m.source % 64) { e with state := .valid }
  { s with
    moves := aerase s.moves i
    forwards := s.forwards.map fun p =>
      if p.2.dest = m.dest ∧ p.2.gen = d.gen then (p.1, { p.2 with dest := m.source, gen := e.gen }) else p }

/-- The moves of a thread that ends early are cancelled. -/
def State.cancelMovesOf (s : State) (g : Nat) : State :=
  (s.moves.filter fun p => p.2.thread == g).foldl (fun s p => s.cancelMove p.1 p.2) s

/-- A context leaves every queue's waiters (R277). -/
def State.leaveQueues (s : State) (g : Nat) : State :=
  { s with dies := s.dies.map fun p =>
      (p.1, { p.2 with queues := p.2.queues.map fun q =>
        (q.1, { q.2 with waiters := q.2.waiters.filter fun h => h.1 != g }) }) }

/-- Nothing of the thread's waits, statuses to come, censuses and moves is left (R77, R295, R303). -/
def State.settleThread (s : State) (g : Nat) : State :=
  let s := ((s.leaveQueues g).endCensuses fun c => c.owner == g).cancelMovesOf g
  { s with wires := s.wires.filter fun p => !(p.2.waits && p.2.sender == some g) }

/-- The name under which a saved thread owns its censuses. -/
def savedOwner (crew tidx : Nat) : Nat := 16384 + 64 * crew + tidx

/-- The crew ends at once (R100, R310, R352, R353): its contexts and regions are freed with all that its threads had. -/
def State.endCrew (s : State) (k : Nat) : State :=
  match s.crewOf k with
  | none => s
  | some c =>
    let s := (List.range c.threads.length).foldl (fun s i =>
      s.endCensuses fun x => x.owner == savedOwner k i) s
    let s := c.threads.foldl (fun s g => if (s.ctx g).crew = some k then (s.settleThread g).freeCtx g else s) s
    let s := c.cores.foldl (fun s n => s.freeRegion k n) s
    { s.honour c.cluster with crews := aerase s.crews k }

/-- The crew is lost (R310, R352, R353): its launch counts a lost crew with the cause of the first. A completion message
names the die of the crew that ended last, also where it was lost, which is the model's choice (log 83). -/
def State.loseCrew (s : State) (k cause : Nat) : State :=
  match s.crewOf k with
  | none => s
  | some c =>
    (s.endCrew k).updLaunch (launchKey c.fn c.lid) fun l =>
      { l with lost := l.lost + 1, lossCause := if l.lossCause = 0 then cause else l.lossCause,
               lastDie := c.cluster / 16 }

/-! ### Error records (R345, R346) -/

/-- A message enters the table of messages on their way. -/
def State.post (s : State) (w : Wire) : State := { s with wires := aset s.wires s.serial w, serial := s.serial + 1 }

/-- The endpoint value of a unit of a C-die, as a function numbers the die (R241, R370). -/
def State.unitEndpoint (s : State) (f d unit : Nat) : Nat := (0x800 + 256 * s.idOfDie f d + unit) * 64

/-- The endpoint value that names a thread as a sender (R248). -/
def State.senderEndpoint (s : State) (g : Nat) : Nat := s.idOfCore (s.ctx g).fn (coreOf g) * 64 + g % 4

/-- The fields of an error record (R346); `vf` 127 is none. -/
structure Record where
  cause  : Nat
  bound  : Nat := 0
  action : Nat := 0
  vf     : Nat := 127
  core   : Nat := 0
  lane   : Nat := 0xFF
  unit   : Nat := 0
  addr   : Nat := 0
  count  : Nat := 0
  deriving DecidableEq, Repr

/-- CYCLE of a die (R58). -/
def State.cycle (s : State) (d : Nat) : Word := BitVec.ofNat 64 (s.clock - (s.die d).clockBase)

/-- The 64 bytes of a record. -/
def Record.word (r : Record) (time : Word) : BitVec 512 :=
  BitVec.ofNat 512 (r.cause + r.bound * 2 ^ 16 + r.action * 2 ^ 20 + r.vf * 2 ^ 24 + r.core * 2 ^ 32 + r.lane * 2 ^ 48 +
    r.unit * 2 ^ 56 + r.addr * 2 ^ 64 + time.toNat * 2 ^ 128 + r.count * 2 ^ 192)

/-- The key of the firmware's queue, which holds every record of the die (R345). -/
def firmQueue : Nat := 65

/-- A record enters one queue: lost where the queue holds 256; a record that enters an empty queue sends the notice. -/
def State.pushRecord (s : State) (d key : Nat) (r : Record) (w : BitVec 512) : State :=
  let x := s.die d
  let q := aget {} x.errors key
  if 256 ≤ q.records.length then s.setDie d { x with errors := aset x.errors key { q with lost := q.lost + 1 } }
  else
    let s := s.setDie d { x with errors := aset x.errors key { q with records := q.records ++ [w] } }
    match q.records, q.notice with
    | [], some e =>
      let f := min key 64
      s.post
        { src := s.unitEndpoint f d 9, fn := f, dest := e, cls := bitsOf (Config.freeWord (s.freeCount + key)).toNat 0 4,
          kind := 5, device := true,
          payload := BitVec.ofNat 256 (2 ^ 64 - 1 + r.addr * 2 ^ 64 + r.cause * 2 ^ 128 + 2 ^ 160) }
    | _, _ => s

/-- A record goes to the host by Advanced Error Reporting, while a host link is up (R367). -/
def State.carryAer (s : State) (w : BitVec 512) : State :=
  if s.hostLinks.any (·.2) then { s with aer := s.aer ++ [w] } else s

/-- A record is written on a die: to the firmware's queue, and to that of the function it names. -/
def State.record (s : State) (d : Nat) (r : Record) : State :=
  let w := r.word (s.cycle d)
  let s := (s.carryAer w).pushRecord d firmQueue r w
  if r.vf ≤ 64 then s.pushRecord d r.vf r w else s

/-- A record of a context: its function, its core as the function numbers it. -/
def State.recordCtx (s : State) (g : Nat) (r : Record) : State :=
  let f := (s.ctx g).fn
  s.record (dieOf g) { r with vf := f, core := s.idOfCore f (coreOf g) }

/-! ### Taking a trap (R309 to R315) -/

/-- What a trap delivers: cause, value, return address, the fault description, the guest physical address of a
stage-2 fault, and whether it was raised on the vector side. -/
structure TrapInfo where
  cause : Nat
  value : Word := 0
  epc   : Word
  telem : Word := 0
  gpa   : BitVec 52 := 0
  vside : Bool := false
  deriving DecidableEq, Repr

/-- The causes whose natural level is firmware wherever they are raised (R310). -/
def firmwareCause (c : Nat) : Bool := c = 0x085 || c = 0x086 || c = 0x087 || c = 0x088 || c = 0x089 || c = 0x08A

/-- The natural level of a cause raised at a level (R310); the user-level delivery of LANE_REVOKE is `userTrap`. -/
def naturalLevel (cause : Nat) (l : Level) : Level :=
  if firmwareCause cause || (cause = 0x100 && l == .supervisor) then .firmware else .supervisor

/-- The target level: the natural level or the level in force, whichever is higher (R310). -/
def targetLevel (cause : Nat) (l : Level) : Level :=
  if (naturalLevel cause l).code < l.code then l else naturalLevel cause l

/-- The handler's address (R311, R315): BASE, or BASE + 256·cause[9:7] in MODE 1. -/
def trapVector (vec : Word) (cause : Nat) : Word :=
  let base := (vec >>> 8) <<< 8
  if bit vec 0 then base + BitVec.ofNat 64 (256 * (cause / 128 % 8)) else base

/-- Entry into a level (R315). -/
def Ctx.enter (c : Ctx) (l : Level) (t : TrapInfo) : Ctx :=
  let ts := c.trapSet l
  let regs : TrapRegs :=
    { cause := BitVec.ofNat 10 t.cause, val := t.value, epc := (t.epc >>> 2) <<< 2, telem := t.telem,
      ppl := BitVec.ofNat 2 c.level.code, vside := t.vside, depth := ts.regs.depth + 1,
      gpa := if l = .firmware then t.gpa else 0 }
  let c := c.setTrapSet l { ts with regs := regs, shadow := if ts.regs.depth = 1 then ts.regs else ts.shadow }
  { c with level := l, pc := trapVector ts.vec t.cause, reissue := none, wait := none, cut := none }

/-- The same trap one level higher, because it met DEPTH 2 (R310). -/
def TrapInfo.doubled (t : TrapInfo) : TrapInfo :=
  { t with cause := 0x0D0, value := BitVec.ofNat 64 t.cause, telem := 0, gpa := 0 }

/-- The running context takes a trap at a level, or where that level is at DEPTH 2 one level higher (R310, R315). -/
def State.trapAt (s : State) (l : Level) (t : TrapInfo) : State :=
  let c := s.me
  if (c.trapSet l).regs.depth != 2 then s.setMe (c.enter l t)
  else if l != .firmware && c.firm.regs.depth != 2 then s.setMe (c.enter .firmware t.doubled)
  else
    let s := s.recordCtx s.cur { cause := 0x0D0, bound := 4, action := 6 }
    match c.crew with
    | some k => s.loseCrew k 0x0D0
    | none => s.freeCtx s.cur

/-- The running context takes a trap at its target level (R310). -/
def State.trap (s : State) (t : TrapInfo) : State := s.trapAt (targetLevel t.cause s.me.level) t

/-- A precise trap of the running instruction: the return address is its own, and nothing else changes. -/
def State.trapHere (s : State) (cause : Nat) (value : Word) : State :=
  s.trap { cause := cause, value := value, epc := s.me.here }

/-- A precise trap whose value the spec does not state: a free value (log 35). -/
def State.trapOpen (s : State) (cause : Nat) : State := (s.trapHere cause (Config.freeWord s.freeCount)).tick

/-- The record of a trap that confines an error to its thread (R352; log 55). -/
def State.recordTrapped (s : State) (cause : Nat) : State :=
  s.recordCtx s.cur { cause := cause, bound := 3, action := 4 }

/-- The poisoned-control trap of a register source (R66, R340). -/
def State.poisonTrap (s : State) (r : BitVec 5) : State :=
  let s := s.recordTrapped 0x380
  (s.setMe { (s.me.consume true) with cir := (s.me.consume true).cir ||| 2#64 }).trapHere 0x380
    (BitVec.ofNat 64 r.toNat)

/-- The poisoned-control trap of a memory source at an address (R340): TVAL names its granule. -/
def State.poisonTrapAt (s : State) (a : Word) : State :=
  let s := s.recordTrapped 0x380
  let c := s.me.consume true
  (s.setMe { c with cir := c.cir ||| 2#64 }).trap
    { cause := 0x380, value := (a >>> 6) <<< 6, epc := s.me.here, telem := 0x10000000#64 }

/-- LANE_REVOKE delivered to the user handler RVEC (R124, R315). -/
def State.userTrap (s : State) (rvec : Word) : State :=
  let c := s.me
  s.setMe { c with uepc := (c.here >>> 2) <<< 2, uip := true, pc := rvec, reissue := none, wait := none, cut := none }

/-! ### Return from a trap (R75, R316) -/

/-- The replay queue reissues (R316): what the ending trap put there goes ahead of the instruction at the PC, and after what
the handler queued (R75, R124). -/
def Ctx.reissueReplay (c : Ctx) : Ctx :=
  { c with
    vq := c.vq ++ c.replay.filter fun e => decide (c.trapDepth ≤ e.depth)
    replay := c.replay.filter fun e => !decide (c.trapDepth ≤ e.depth) }

/-- ERET at supervisor or firmware level with a trap in progress there. -/
def Ctx.leave (c : Ctx) (l : Level) : Ctx :=
  let ts := c.trapSet l
  let r := ts.regs
  let regs : TrapRegs := if r.depth = 2 then ts.shadow else { r with depth := r.depth - 1 }
  { (c.reissueReplay.setTrapSet l { ts with regs := regs }) with
    level := Level.ofCode (min r.ppl.toNat l.code)
    pc := if r.vside then c.resume else r.epc }

/-- ERET (R75, R316): from the level in force, or ERET_STRAY where no trap is in progress there. -/
def State.eret (s : State) : State :=
  let c := s.me
  match c.level with
  | .user =>
    if c.uip then s.setMe { c.reissueReplay with pc := c.uepc, uip := false }
    else s.trapHere 0x101 0
  | l => if (c.trapSet l).regs.depth = 0 then s.trapHere 0x101 0 else s.setMe (c.leave l)

end Sys2Proof.Machine
end

