-- ==== Sys2Proof/Machine/Memory.lean ====
section
/-! DEFINITION. Bytes at their homes: device memory, host and peer memory, the scratch store, with poison (R337, R338),
key tags (R375, R376) and absent homes (R359, R360). A location is a physical address, or 2^52 plus the place of a
byte in the scratch store. -/

namespace Sys2Proof.Machine

/-- The first location of the scratch store. -/
def scratchBase : Nat := 2 ^ 52

/-- The end of device memory (R200): 768 GiB. -/
def deviceEnd : Nat := 0xC000000000

/-- The first physical address of the peer apertures (R362). -/
def peerBase : Nat := 0x4000000000000

/-- The first physical address of host memory (R362). -/
def hostBase : Nat := 0x8000000000000

/-- The key of an access that goes through no key slot (firmware, walkers, host and peers; log 15). -/
def noKey : Key := none

/-- The key of an access under a slot: the slot with the pair it holds. -/
def State.slotKey (s : State) (slot : Nat) : Key := if ahas s.keys slot then some (slot, aget 0 s.keys slot) else none

/-- Two keys name the same slot, or both none. -/
def sameSlot (a b : Key) : Bool := a.map (·.1) == b.map (·.1)

/-- Some cache holds a line. -/
def State.cached (s : State) (line : Nat) : Bool :=
  s.l2.any (fun p => p.2.line == line) || s.cores.any fun p => p.2.l1.any fun l => l.line == line

/-- The key under which an access to a device line sees it (R376): in the caches under its slot, the pair of when it came
in. -/
def State.viewKey (s : State) (loc : Nat) (key : Key) : Key :=
  let tag := aget noKey s.tags (loc / 64)
  if tag ≠ key ∧ loc < deviceEnd ∧ sameSlot tag key ∧ s.cached (loc / 64) then tag else key

/-- Bytes of one unified array (R193). -/
def arrayBytes : Nat := 327680

/-- The location of byte `off` of granule `granule` of a core's array. -/
def scratchLoc (core granule off : Nat) : Nat := scratchBase + core * arrayBytes + granule * 16384 + off

/-- The C-die that is the home of a device address (R200). -/
def homeDie (pa : Nat) : Nat := pa / (96 * 2 ^ 30)

/-- The HBM stack of a device address (R200). -/
def homeStack (pa : Nat) : Nat := 2 * homeDie pa + pa % (96 * 2 ^ 30) / 4096 % 2

/-- Where a device address stands in its stack (R200). -/
def stackOffset (pa : Nat) : Nat := pa % (96 * 2 ^ 30) / 8192 * 4096 + pa % 4096

/-- The Stiles on a route between two C-dies, its ends included: first along x, then along y (R357). -/
def routeOf (a b : Nat) : List Nat :=
  let span (x y : Nat) : List Nat := (List.range (max x y - min x y + 1)).map fun i => min x y + i
  (span (a % 4) (b % 4)).map (4 * (a / 4) + ·) ++ (span (a / 4) (b / 4)).map (4 * · + b % 4)

/-- Traffic from one C-die reaches another's Stile: no island on the way has failed or is not ready (R361, R378). -/
def State.routeOpen (s : State) (a b : Nat) : Bool :=
  a == b || (routeOf a b).all fun x => ((s.die x).stile || (s.die x).islandBusy) && !(s.die x).stileFailed

/-- Flits between two C-dies are held: an island on the way is being reset (R361). -/
def State.routeHeld (s : State) (a b : Nat) : Bool := a != b && (routeOf a b).any fun x => (s.die x).islandBusy

/-- The C-die that accesses are made from: that of a unit at work, else that of the running thread. -/
def State.viewDie (s : State) : Nat := s.viewer.getD (dieOf s.cur)

/-- The way from the viewing die to a C-die is held: an island on it is being reset (R361). -/
def State.wayHeld (s : State) (d : Nat) : Bool := s.routeHeld s.viewDie d

/-- A unit of a C-die acts, in the place of the running thread. -/
def State.viewing (s : State) (d : Nat) (act : State → State) : State :=
  { act { s with viewer := some d } with viewer := s.viewer }

/-- The same for what also gives a result. -/
def State.seenFrom {α : Type} (s : State) (d : Nat) (act : State → State × α) : State × α :=
  let r := act { s with viewer := some d }
  ({ r.1 with viewer := s.viewer }, r.2)

/-- What the step in progress does crosses a way that is held, if `b` says so (R361, R366). -/
def State.block (s : State) (b : Bool) : State := { s with blocked := s.blocked || b }

/-- The home of a device address serves: its die is present, with its memory released and its stack ready (R360, R378). -/
def State.homeServes (s : State) (pa : Nat) : Bool :=
  let d := s.die (homeDie pa)
  d.state == .present && !d.memHeld && aget false s.hbmStacks (homeStack pa)

/-- The home of a device address does not serve, or is not reached (R338, R359 to R361, R378). -/
def State.homeAbsent (s : State) (pa : Nat) : Bool :=
  !(s.homeServes pa) || !(s.routeOpen s.viewDie (homeDie pa))

/-- The location lies in memory whose home is absent; a scratch region is absent with its die. -/
def State.locAbsent (s : State) (loc : Nat) : Bool :=
  if loc < deviceEnd then s.homeAbsent loc
  else if scratchBase ≤ loc then (s.die ((loc - scratchBase) / arrayBytes / 256)).state != .present
  else false

/-- The byte stored at a location. -/
def State.stored (s : State) (loc : Nat) : Byte :=
  if loc < scratchBase then aget 0 s.mem loc else aget 0 s.scratch (loc - scratchBase)

/-- The HBM that holds a device address was poisoned whole, and its values are lost (R353, R360). -/
def State.lostHome (s : State) (loc : Nat) : Bool := decide (loc < deviceEnd) && (s.die (homeDie loc)).lostMemory

/-- The 64-byte granule of a location is poisoned (R337). -/
def State.granulePoison (s : State) (loc : Nat) : Bool :=
  if loc < scratchBase then aget (s.lostHome loc) s.memPoison (loc / 64)
  else aget false s.scrPoison ((loc - scratchBase) / 64)

/-- The bytes stored in the line of a location. -/
def State.lineStored (s : State) (loc : Nat) : List Byte := (List.range 64).map fun i => s.stored (loc / 64 * 64 + i)

/-- The line of a device location as an access under a key reads it (R376). -/
def State.lineUnder (s : State) (loc : Nat) (key : Key) : List Byte :=
  recipher (aget key s.lineKey (loc / 64)) key (loc / 64 * 64) (s.lineStored loc)

/-- A byte as an access under a key reads it (R376). -/
def State.plain (s : State) (loc : Nat) (access : Key) : Byte :=
  let key := s.viewKey loc access
  if loc < deviceEnd ∧ aget key s.lineKey (loc / 64) ≠ key then ((s.lineUnder loc key)[loc % 64]?).getD 0
  else s.stored loc

/-- A byte as a read under a key slot returns it: a free value behind an absent home, in a peer device, and where a
die's HBM lost its values. -/
def State.byteAt (s : State) (loc : Nat) (key : Key) : Byte :=
  if s.locAbsent loc || (decide (peerBase ≤ loc) && decide (loc < hostBase)) || (s.lostHome loc && s.granulePoison loc)
  then Config.freeByte s.freeCount loc
  else s.plain loc key

/-- The location lies in a peer device (R362). -/
def inPeer (loc : Nat) : Bool := decide (peerBase ≤ loc) && decide (loc < hostBase)

/-- A peer refuses an access at a location, by a free choice: its windows are its own (R365; log 57). -/
def State.peerRefuses (s : State) (loc : Nat) : Bool := inPeer loc && Config.freeBool (s.freeCount + loc)

/-- The `n` bytes from a location on, and whether one of their granules is poisoned or absent (R338), or a peer refuses
them (R365). -/
def State.readLoc (s : State) (loc n : Nat) (key : Key) : List Byte × Bool :=
  ((List.range n).map fun i => s.byteAt (loc + i) key,
   s.peerRefuses loc || (List.range n).any fun i => s.granulePoison (loc + i) || s.locAbsent (loc + i))

/-- Where one page of an access lies: the location of its first byte and the key pair it goes under. `dead`: no link
carries it, and it is answered as for an absent home (R366, R378). -/
structure Place where
  loc  : Nat
  key  : Key
  dead : Bool := false
  deriving DecidableEq, Repr

/-- The `n` bytes at a place with their poison; behind a link that is not up they are free and poisoned (R359, R366). -/
def State.readPlace (s : State) (p : Place) (n : Nat) : List Byte × Bool :=
  if p.dead then ((List.range n).map fun i => Config.freeByte s.freeCount (p.loc + i), true)
  else s.readLoc p.loc n p.key

/-- One byte stored at a location. -/
def State.storeByte (s : State) (loc : Nat) (b : Byte) : State :=
  if loc < scratchBase then { s with mem := aput 0 s.mem loc b }
  else { s with scratch := aput 0 s.scratch (loc - scratchBase) b }

/-- The poison of the granule of a location set or cleared. -/
def State.setPoison (s : State) (loc : Nat) (p : Bool) : State :=
  if loc < scratchBase then { s with memPoison := aput (s.lostHome loc) s.memPoison (loc / 64) p }
  else { s with scrPoison := aput false s.scrPoison ((loc - scratchBase) / 64) p }

/-- Bytes stored from a location on, one after the other. -/
def State.storeBytes (s : State) (loc : Nat) : List Byte → State
  | [] => s
  | b :: rest => (s.storeByte loc b).storeBytes (loc + 1) rest

/-- The line of a device location comes under a key: what an access under it reads is what is then stored (R376). -/
def State.retag (s : State) (loc : Nat) (key : Key) : State :=
  if loc < deviceEnd then
    let view := s.viewKey loc key
    let s := if aget view s.lineKey (loc / 64) = view then s else s.storeBytes (loc / 64 * 64) (s.lineUnder loc view)
    { s with lineKey := aset s.lineKey (loc / 64) key, tags := aput noKey s.tags (loc / 64) key }
  else s

/-- The first locations of the granules that `n` bytes from `loc` on touch. -/
def granulesOf (loc n : Nat) : List Nat :=
  if n = 0 then [] else (List.range ((loc + n - 1) / 64 - loc / 64 + 1)).map fun i => (loc / 64 + i) * 64

/-- Part `lo` to `hi` of a store's bytes within the granule at `g`. -/
def sliceFor (loc : Nat) (bytes : List Byte) (g : Nat) : Nat × List Byte :=
  let lo := max loc g
  (lo, (bytes.drop (lo - loc)).take (g + 64 - lo))

/-- The cause of a record for which the spec names none: one of the codes of R356 that appear in records (log 46). -/
def State.freeCause (s : State) (n : Nat) : Nat := 0x390 + (Config.freeWord (s.freeCount + n)).toNat % 13

/-- A store is performed in one granule (R338): discarded and logged behind an absent home, with a record when the log
overflows (R360; its cause is a free value, log 46) and where the home is a scratch region, and behind a failed route the granule of a home that serves is poisoned
at once (log 52); a store of poison poisons the granule, a clean whole granule
clears it. -/
def State.storeGranule (s : State) (loc : Nat) (bytes : List Byte) (poison : Bool) (key : Key) (g : Nat) : State :=
  if s.locAbsent g then
    if g < deviceEnd then
      if s.homeServes g then s.setPoison g true else
      let d := s.die (homeDie g)
      if d.log.contains g then s
      else if d.log.length < 65536 then s.setDie (homeDie g) { d with log := g :: d.log }
      else if d.overflow then s
      else (s.setDie (homeDie g) { d with overflow := true }).record (homeDie g)
        { cause := s.freeCause g, bound := 8, unit := 7 }
    else s.record ((g - scratchBase) / arrayBytes / 256) { cause := s.freeCause g, bound := 8, unit := 7 }
  else if decide (peerBase ≤ g) && decide (g < hostBase) then s
  else
    let part := sliceFor loc bytes g
    let s := (s.retag g key).storeBytes part.1 part.2
    if poison then s.setPoison g true else if part.2.length = 64 then s.setPoison g false else s

/-- A store of bytes from a location on is performed (R219, R338). -/
def State.storeLoc (s : State) (loc : Nat) (bytes : List Byte) (poison : Bool) (key : Key) : State :=
  (granulesOf loc bytes.length).foldl (fun s g => s.storeGranule loc bytes poison key g) s

/-! ### Stores not performed yet (R203, R219 to R221) -/

/-- Two byte ranges overlap. -/
def overlaps (a n b m : Nat) : Bool := decide (a < b + m) && decide (b < a + n) && n != 0 && m != 0

/-- The bytes a pending access touches. -/
def Pending.size (p : Pending) : Nat :=
  match p.load with
  | some l => l.len
  | none => p.bytes.length

/-- A pending store is performed. -/
def State.performOne (s : State) (p : Pending) : State := s.storeLoc p.loc p.bytes p.poison p.key

/-- The accesses that a younger access of a class on a path must follow (R220, R221). -/
def orderedBefore (path : Path) (cls : Nat) (p : Pending) : Bool :=
  p.path == path && (p.cls == cls || p.cls % 16 == 15 || cls % 16 == 15)

/-- What a thread's own pending stores on a path put over bytes read from a location (R219). -/
def forward (path : Path) (loc : Nat) : List Pending → List Byte × Bool → List Byte × Bool
  | [], r => r
  | p :: rest, r =>
    let r' :=
      if p.path == path && overlaps p.loc p.bytes.length loc r.1.length then
        ((List.range r.1.length).map fun i =>
          if p.loc ≤ loc + i ∧ loc + i < p.loc + p.bytes.length then
            (p.bytes[loc + i - p.loc]?).getD 0
          else (r.1[i]?).getD 0,
         r.2 || p.poison)
      else r
    forward path loc rest r'

/-- The single-copy-atomic block of the network an access at a location crosses (R223): 64 bytes in the package, 32 over
a Euvex link, 8 over the host link. -/
def blockOf (loc : Nat) : Nat :=
  if loc < peerBase ∨ scratchBase ≤ loc then 64 else if loc < hostBase then 32 else 8

/-- The pieces of `n` bytes from a location on, cut at the block boundaries: first location and length (R223). -/
def piecesOf (loc n : Nat) : List (Nat × Nat) :=
  let k := blockOf loc
  if n = 0 then [] else
    (List.range ((loc + n - 1) / k - loc / k + 1)).map fun i =>
      let lo := max loc ((loc / k + i) * k)
      (lo, min (loc + n) ((loc / k + i + 1) * k) - lo)

/-- A number for the pieces of one more divided access of a thread. -/
def freshPiece (ps : List Pending) : Nat := ps.foldl (fun n p => max n p.piece) 0 + 1

/-- The pieces of a pending access, in the order of their locations. -/
def Pending.divide (p : Pending) : List Pending :=
  (piecesOf p.loc p.size).map fun q => { p with
    loc := q.1, bytes := (p.bytes.drop (q.1 - p.loc)).take q.2
    load := p.load.map fun l => { l with off := l.off + (q.1 - p.loc), len := q.2 } }

/-- An access, given by its parts in single pages, enters a thread's pending accesses, divided where it crosses a block
boundary (R223). -/
def addAccess (ps es : List Pending) : List Pending :=
  match es.flatMap Pending.divide with
  | [e] => ps ++ [e]
  | qs => ps ++ qs.map fun q => { q with piece := freshPiece ps }

/-- Entries of the store buffer (R203): scalar stores whose pieces are not all performed. -/
def bufferedStores (ps : List Pending) : Nat :=
  let bs := ps.filter (·.buffered)
  (bs.filter (·.piece == 0)).length + ((bs.filter (·.piece != 0)).map (·.piece)).eraseDups.length

end Sys2Proof.Machine
end

