-- ==== Sys2Proof/Machine/Caches.lean ====
section
/-! DEFINITION. What the caches hold (R193, R201, R202): the tags of the L1s and the L2s, what the home directory tracks
of them, and what a write removes. The bytes themselves are at their homes: the caches are coherent (R202). -/

namespace Sys2Proof.Machine

/-! ### The L2s (R201) -/

/-- The slice of a line (R201): the XOR of the 5-bit fields of its address from bit 6 on, with bit 51 at bit 0. -/
def l2Slice (pa : Nat) : Nat :=
  (List.range 9).foldl (fun v i => v ^^^ bitsOf pa (6 + 5 * i) 5) (bitsOf pa 51 1)

/-- The set of a line in its slice (R201). -/
def l2Set (pa : Nat) : Nat := bitsOf pa 11 12

/-- Ways of one die's L2, all slices and sets together. -/
def l2Span : Nat := 24 * (4096 * 32)

/-- Where a way of a line's set stands in the table of L2 lines. -/
def l2Index (die pa way : Nat) : Nat := 24 * (4096 * (32 * die + l2Slice pa) + l2Set pa) + way

/-- The ways a die caches a line in: 0 to 17 where it is the line's home, 18 to 23 for a visitor line (R201). -/
def l2Ways (die pa : Nat) : List Nat := if homeDie pa = die then List.range 18 else (List.range 6).map (18 + ·)

/-- The line that stands at a place of an L2. -/
def State.l2At (s : State) (i : Nat) : Option L2Line := (s.l2.find? fun p => p.1 == i).map (·.2)

/-- A die's L2 holds the line of a device address. -/
def State.l2Holds (s : State) (die pa : Nat) : Bool :=
  (l2Ways die pa).any fun w => (s.l2At (l2Index die pa w)).any fun l => l.line == pa / 64

/-- An access of a die to a device line passes through its L2: hit, or fill of an unused way of those the line may take,
else of one that the spec leaves open (log 73). -/
def State.touchL2 (s : State) (die pa : Nat) (write : Bool) : State :=
  if pa < deviceEnd then
    let ways := l2Ways die pa
    let at_ (w : Nat) : Option L2Line := s.l2At (l2Index die pa w)
    match ways.find? fun w => (at_ w).any fun l => l.line == pa / 64 with
    | some w =>
      let l : L2Line := { line := pa / 64, dirty := write || (at_ w).any (·.dirty) }
      { s with l2 := aset s.l2 (l2Index die pa w) l }
    | none =>
      let w := (ways.find? fun w => (at_ w).isNone).getD
        ((ways[Config.l2Way (s.freeCount + pa) % ways.length]?).getD 0)
      { s with l2 := aset s.l2 (l2Index die pa w) { line := pa / 64, dirty := write } }
  else s

/-- A read by a die passes its L2; a visitor line that misses there is read at its home's L2 first (R202). -/
def State.passL2 (s : State) (die pa : Nat) : State :=
  let s := if homeDie pa = die || s.l2Holds die pa then s else s.touchL2 (homeDie pa) pa false
  s.touchL2 die pa false

/-- The lines of every L2 with the property are removed. -/
def State.dropL2 (s : State) (which : Nat → L2Line → Bool) : State :=
  { s with l2 := s.l2.filter fun p => !(which (p.1 / l2Span) p.2) }

/-! ### The L1s (R193) -/

/-- The ways of a core's L1: the granules in the L1 role, lowest first. -/
def Core.ways (x : Core) : List Nat := (List.range 20).filter fun i => aget Role.l1 x.roles i == .l1

/-- The core's L1 after an access to a device line: hit, or fill of an unused way, else of the way least recently
used in the set. A write takes the line with write ownership (R202). -/
def Core.touch (x : Core) (line : Nat) (write : Bool) : Core :=
  match x.l1.find? (fun l => l.line == line) with
  | some l =>
    { x with l1 := { l with dirty := l.dirty || write, owned := l.owned || write } ::
        x.l1.filter (fun m => m.line != line) }
  | none =>
    let inSet := x.l1.filter fun l => l.line % 256 == line % 256
    match x.ways.find? (fun wy => !(inSet.any fun l => l.granule == wy)) with
    | some wy => { x with l1 := { granule := wy, line := line, dirty := write, owned := write } :: x.l1 }
    | none =>
      match inSet.getLast? with
      | none => x
      | some v =>
        { x with l1 := { granule := v.granule, line := line, dirty := write, owned := write } ::
            x.l1.filter (fun m => m.line != v.line) }

/-- Dirty lines are written back to their homes' L2s (R193, R195). -/
def State.writeBack (s : State) (lines : List L1Line) : State :=
  (lines.filter (·.dirty)).foldl (fun s l => s.touchL2 (homeDie (64 * l.line)) (64 * l.line) true) s

/-- An access of a core to device memory passes through its L1; a read that misses passes through its die's L2, a write
that misses through the home's, and a dirty line that is replaced is written back. -/
def State.touchL1 (s : State) (core loc : Nat) (write : Bool) : State :=
  if loc < deviceEnd then
    let x := s.core core
    let y := x.touch (loc / 64) write
    let hit := x.l1.any fun l => l.line == loc / 64
    let s := if hit then s else if write then s.touchL2 (homeDie loc) loc false else s.passL2 (core / 256) loc
    let s := if hit then s else s.writeBack (x.l1.filter fun l => !(y.l1.any fun m => m.line == l.line))
    s.setCore core y
  else s

/-- An access of a core to `n` bytes passes through its L1, line by line. -/
def State.touchLines (s : State) (core loc n : Nat) (write : Bool) : State :=
  (granulesOf loc n).foldl (fun s g => s.touchL1 core g write) s

/-- A read by a die that passes no L1 goes through its L2, line by line (R193). -/
def State.passLines (s : State) (die loc n : Nat) : State :=
  (granulesOf loc n).foldl (fun s g => s.passL2 die g) s

/-! ### The home directory (R202) -/

/-- The dies, other than the line's home, that hold a visitor copy. -/
def State.visitorDies (s : State) (pa : Nat) : List Nat :=
  (List.range 8).filter fun d => d != homeDie pa && s.l2Holds d pa

/-- The cores of the home die whose L1 holds a copy. -/
def State.homeHolders (s : State) (pa : Nat) : List Nat :=
  (s.cores.filter fun p => p.1 / 256 == homeDie pa && p.2.l1.any fun l => l.line == pa / 64).map (·.1)

/-- The dies, other than the line's home, one of whose L1s holds the line with write ownership. -/
def State.ownerDies (s : State) (pa : Nat) : List Nat :=
  (List.range 8).filter fun d => d != homeDie pa &&
    s.cores.any fun p => p.1 / 256 == d && p.2.l1.any fun l => l.line == pa / 64 && l.owned

/-- Every copy of the line but the home's, and but the given core's, is removed before a write is performed (R202):
copies in L1s and visitor copies. -/
def State.dropCopies (s : State) (loc : Nat) (keep : Option Nat) : State :=
  if loc < deviceEnd then
    { s.dropL2 fun d l => l.line == loc / 64 && d != homeDie loc with
      cores := s.cores.map fun p =>
        if keep = some p.1 then p else (p.1, { p.2 with l1 := p.2.l1.filter fun l => l.line != loc / 64 }) }
  else s

/-- An access under a key comes to a device line (R376): cached under another slot, the line is written back and invalidated
first; where it is not cached, it comes in under the access's key. -/
def State.enterLine (s : State) (loc : Nat) (key : Key) : State :=
  let tag := aget noKey s.tags (loc / 64)
  if tag = key ∨ deviceEnd ≤ loc then s
  else if !(s.cached (loc / 64)) then { s with tags := aput noKey s.tags (loc / 64) key }
  else if sameSlot tag key then s
  else
    { (s.dropCopies loc none).dropL2 (fun _ l => l.line == loc / 64) with tags := aput noKey s.tags (loc / 64) key }

/-- An access under a key comes to `n` bytes, line by line. -/
def State.enterLines (s : State) (loc n : Nat) (key : Key) : State :=
  (granulesOf loc n).foldl (fun s g => s.enterLine g key) s

/-- A write is performed at the home (R202, R236): other copies are removed first, and the home's L2 holds the line. -/
def State.writeHome (s : State) (loc : Nat) (bytes : List Byte) (poison : Bool) (key : Key) : State :=
  (granulesOf loc bytes.length).foldl (fun s g => (s.dropCopies g none).touchL2 (homeDie g) g true)
    ((s.enterLines loc bytes.length key).storeLoc loc bytes poison key)

end Sys2Proof.Machine
end

