-- ==== Sys2Proof/Machine/Reach.lean ====
section
/-! DEFINITION. What lies beyond the package (R362, R363, R366 to R368, R378): the links that carry an access, and the
records that reads of absent homes and refused accesses write (R359, R365). -/

namespace Sys2Proof.Machine

/-- The host link of a function's traffic (R368): the one firmware assigned, else the default. -/
def State.hostLinkOf (s : State) (f : Nat) : Nat := (s.fnOf f).hostLink.getD (if f < 32 then 0 else 1)

/-- The host link of a function is up; the physical function has both (R368). -/
def State.hostUp (s : State) (f : Nat) : Bool :=
  if f = 64 then aget false s.hostLinks 0 || aget false s.hostLinks 1 else aget false s.hostLinks (s.hostLinkOf f)

/-- A Euvex link. -/
def State.euvex (s : State) (l : Nat) : Link := aget {} s.links l

/-- The state with a link replaced. -/
def State.setEuvex (s : State) (l : Nat) (x : Link) : State := { s with links := aset s.links l x }

/-- The states of the links of a peer's set (R363). -/
def State.peerLinks (s : State) (dev : Nat) : List LinkState :=
  (aget [] s.linkSets dev).map fun l => (s.euvex l).state

/-- The link that traffic of an agent's context on a path and in a class takes to a peer (R363): the one its hash names,
and while that one is not UP another UP link of the set (R366). -/
def State.linkFor (s : State) (agent path cls dev : Nat) : Option Nat :=
  let set := aget [] s.linkSets dev
  match set[Config.linkHash agent path cls % set.length]? with
  | none => none
  | some l => if (s.euvex l).state = .up then some l else set.find? fun m => (s.euvex m).state == .up

/-- Traffic passes a link: the flit at hand got through, and none of its retries counts any more (R366). -/
def State.passLink (s : State) (agent path cls dev : Nat) : State :=
  match s.linkFor agent path cls dev with
  | none => s
  | some l => if (s.euvex l).retries = 0 then s else s.setEuvex l { s.euvex l with retries := 0 }

/-- The peer device that a physical address names through its aperture (R362). -/
def State.deviceAt (s : State) (pa : Nat) : Option Nat :=
  if inPeer pa then (s.apertures.find? fun p => p.1 == bitsOf pa 40 10).map (·.2.dev) else none

/-- No link carries a function's access at a physical address: every link of the peer's set is DOWN (R366), or the host
link is not up (R368, R378). -/
def State.unreached (s : State) (f pa : Nat) : Bool :=
  match s.deviceAt pa with
  | some dev => (s.peerLinks dev).all (· == .down)
  | none => decide (hostBase ≤ pa) && decide (pa < scratchBase) && !(s.hostUp f)

/-- A line is recorded as held, with write ownership, by a die whose tag walk is still running (R353). -/
def State.awaitsWalk (s : State) (pa : Nat) : Bool := s.dies.any fun p => p.2.walkOwned.contains (pa / 64 * 64)

/-- An access from a die waits: an island on its way is being reset (R361), every link of the peer's set that may
still come up is retraining (R366), or the tag walk of a die that is lost still concerns the line (R353). -/
def State.heldFrom (s : State) (d pa : Nat) : Bool :=
  (decide (pa < deviceEnd) && s.awaitsWalk pa) ||
  (decide (pa < deviceEnd) && s.routeHeld d (homeDie pa)) ||
  match s.deviceAt pa with
  | some dev => !((s.peerLinks dev).any (· == .up)) && (s.peerLinks dev).any (· == .retrain)
  | none => false

/-- An access from the viewing die waits. -/
def State.heldAt (s : State) (pa : Nat) : Bool := s.heldFrom s.viewDie pa

/-- Traffic of a function to host memory uses an address translation of the host, which its X-die caches: the 4,096 used
last (R367). -/
def State.useAts (s : State) (f pa : Nat) : State :=
  if decide (hostBase ≤ pa) && decide (pa < scratchBase) then
    let x := s.hostLinkOf f
    let page := (f, (pa - hostBase) / 4096)
    { s with ats := aset s.ats x ((page :: (aget [] s.ats x).filter (· != page)).take 4096) }
  else s

/-- A physical address as the place of a function's access under a key. -/
def State.placeAt (s : State) (f pa : Nat) (key : Key) : Place :=
  { loc := pa, key := if pa < deviceEnd then key else noKey, dead := s.unreached f pa }

/-- A read that meets an absent home is recorded (R359; log 26): by the Stile of the home's die. -/
def State.noteAbsent (s : State) (loc : Nat) : State :=
  if decide (loc < deviceEnd) && s.homeAbsent loc then
    s.record (homeDie loc) { cause := 0x391, bound := 1, action := 1, unit := 7, addr := loc / 64 * 64 }
  else s

/-- A peer's refusal is recorded here too (R365; logs 46, 57). -/
def State.noteRefused (s : State) (loc : Nat) : State :=
  if s.peerRefuses loc then
    s.record 0 { cause := s.freeCause loc, bound := 7, unit := 6, addr := loc / 64 * 64 }
  else s

/-- A store that no link carries is discarded, which is recorded (R338, R366; logs 46, 57). -/
def State.noteDead (s : State) (p : Place) : State :=
  if p.dead then
    s.record 0 { cause := s.freeCause p.loc, bound := 7, unit := 6, addr := p.loc / 64 * 64 }
  else s

/-- What a store by a unit at a place records: that no link carries it, or that the peer refuses it (R365). -/
def State.noteStore (s : State) (p : Place) : State := if p.dead then s.noteDead p else s.noteRefused p.loc

/-- What a read at a place records: that no link carries it, that its home is absent, or that the peer refuses it. -/
def State.noteRead (s : State) (p : Place) : State :=
  if p.dead then s.record 0 { cause := 0x391, bound := 7, action := 1, unit := 6, addr := p.loc / 64 * 64 }
  else (s.noteAbsent p.loc).noteRefused p.loc

end Sys2Proof.Machine
end

