-- ==== Sys2Proof/Machine/Translate.lean ====
section
/-! DEFINITION. Addresses: the scratch window (R197, R198), the two stages of translation and their faults (R319 to
R325, R329), and what an access of a thread finds. -/

namespace Sys2Proof.Machine

/-- Who an access is made for: the function and level whose tables it uses, the crew and cluster whose regions the
scratch window names, the thread's own core. `stalls`: an instruction of a thread makes it, and waits where the way to the
home is held. -/
structure Agent where
  fn      : Nat
  level   : Level
  crew    : Option Nat
  cluster : Nat
  core    : Nat
  stalls  : Bool := false
  deriving DecidableEq, Repr

/-- The code by which an access that waits is known among faults: no cause of the spec (R361, R366; log 52). -/
def heldCause : Nat := 0x400

/-- A fault of an access: its place in the order of R329, its cause, the stage and level of R314, the guest
physical address of a stage-2 fault. -/
structure MemFault where
  rank  : Nat
  cause : Nat
  stg   : Nat := 0
  lvl   : Nat := 0
  gpa   : Nat := 0
  /-- The entry a walk found poisoned. -/
  entry : Nat := 0
  /-- The translation a walk found that lacks a permission of the access: a cache may keep it (R322, R325). -/
  seen  : Option TlbEntry := none
  deriving DecidableEq, Repr

/-- A leaf of stage 2 (R321, R322): the page's address and size, key, permissions, A and D, and the entry's own
location. -/
structure Leaf where
  pa    : Nat
  bits  : Nat
  key   : Nat
  r     : Bool
  w     : Bool
  x     : Bool
  u     : Bool
  g64   : Bool
  a     : Bool
  d     : Bool
  entry : Nat
  ekey  : Key
  /-- For a leaf of stage 1, the guest physical address of its entry; for one of stage 2, the address it translated. -/
  egpa  : Nat := 0
  deriving DecidableEq, Repr

/-! ### Page-table entries (R322) -/

/-- The page size in bits of a leaf at a level (R321). -/
def leafBits (level : Nat) : Nat := if level = 1 then 30 else if level = 2 then 21 else 12

/-- The index bits of an address at a level (R321): 17 bits at level 0 of stage 1, 13 of stage 2, 9 below. -/
def tableIndex (addr level top : Nat) : Nat :=
  if level = 0 then bitsOf addr 39 top else bitsOf addr (39 - 9 * level) 9

/-- A valid entry is malformed (R322). -/
def badEntry (e stage level addr : Nat) : Bool :=
  let leaf := bitsOf e 1 1 = 1
  bitsOf e 62 2 != 0 || bitsOf e 9 3 != 0 ||
  (decide leaf && level = 0) || (!(decide leaf) && level = 3) ||
  (bitsOf e 3 1 = 1 && bitsOf e 2 1 = 0) ||
  (stage = 1 && bitsOf e 5 1 != 0) ||
  (bitsOf e 52 10 != 0 && (stage = 0 || !(decide leaf))) ||
  (decide leaf && bitsOf e 12 (leafBits level - 12) != 0) ||
  (decide leaf && level = 3 && bitsOf e 8 1 = 1 && bitsOf e 12 4 != bitsOf addr 12 4)

/-- What an entry says once it was read: a leaf, the next table, or a fault. -/
def readEntry (e : Nat) (poison : Bool) (stage level addr entry : Nat) (ekey : Key) : Except MemFault (Leaf ⊕ Nat) :=
  let fault (cause : Nat) : Except MemFault (Leaf ⊕ Nat) :=
    .error { rank := if stage = 0 then 4 else 5, cause := cause, stg := stage, lvl := level,
             gpa := if stage = 0 then 0 else addr, entry := entry }
  if poison then fault 0x089
  else if bitsOf e 0 1 = 0 then fault (if stage = 0 then 0x082 else 0x085)
  else if badEntry e stage level addr then fault (if stage = 0 then 0x084 else 0x087)
  else if bitsOf e 1 1 = 1 then
    .ok (.inl
      { pa := bitsOf e 12 40 * 4096, bits := leafBits level, key := bitsOf e 52 10,
        r := bitsOf e 2 1 = 1, w := bitsOf e 3 1 = 1, x := bitsOf e 4 1 = 1, u := bitsOf e 5 1 = 1,
        g64 := level = 3 && bitsOf e 8 1 = 1, a := bitsOf e 6 1 = 1, d := bitsOf e 7 1 = 1,
        entry := entry, ekey := ekey })
  else .ok (.inr (bitsOf e 12 40 * 4096))

/-! ### Physical addresses (R319, R320, R362) -/

/-- A physical address maps nothing for a function (R320, R362). -/
def State.unmapped (s : State) (fn pa : Nat) : Bool :=
  if pa < deviceEnd then false
  else if pa < peerBase then true
  else if pa < hostBase then
    match (s.apertures.find? (fun p => p.1 == bitsOf pa 40 10)) with
    | none => true
    | some p => !p.2.mask.getLsbD fn
  else decide (2 ^ 52 ≤ pa)

/-- The entry at a physical address and its poison. -/
def State.entryAt (s : State) (pa : Nat) (key : Key) : Nat × Bool :=
  let r := s.readLoc pa 8 key
  (leNat r.1, r.2)

/-! ### The walks (R321 to R324) -/

/-- A cached non-leaf entry serves the walk of an address at a level of a stage (R325). -/
def WalkEntry.serves (e : WalkEntry) (fn stage level addr : Nat) : Bool :=
  e.fn == fn && e.stage == stage && e.level == level && e.tag == addr / 2 ^ (39 - 9 * level)

/-- The next table as the walk finds it, where the tables now give `fresh` for it: that one, or by a free choice one that
the walk cache still holds (R322, R325; log 12). -/
def State.nextTable (s : State) (fn stage level addr : Nat) (fresh : Option Nat) : Option Nat :=
  match s.walks.filter fun e => e.serves fn stage level addr && some e.next != fresh with
  | [] => fresh
  | es => match es[Config.cached s.freeCount (addr + 2 ^ 64 * (4 * stage + level)) % (es.length + 1)]? with
    | some e => some e.next
    | none => fresh

/-- The next table that an entry as it was read gives. -/
def freshTable : Except MemFault (Leaf ⊕ Nat) → Option Nat
  | .ok (.inr n) => some n
  | _ => none

/-- The walk of stage 2 from a table at a level: the leaf with the non-leaf entries used, or the fault. -/
def State.walk2 (s : State) (fn gpa : Nat) : Nat → Nat → List WalkEntry → Except MemFault (Leaf × List WalkEntry)
  | 0, _, _ => .error { rank := 5, cause := 0x087, stg := 1, lvl := 3, gpa := gpa }
  | fuel + 1, table, used =>
    let level := 3 - fuel
    let pa := table + 8 * tableIndex gpa level 13
    let found : Except MemFault (Leaf ⊕ Nat) :=
      if s.unmapped fn pa then .error { rank := 6, cause := 0x088, stg := 1, lvl := level, gpa := gpa }
      else if s.heldAt pa then .error { rank := 9, cause := heldCause }
      else readEntry (s.entryAt pa noKey).1 (s.entryAt pa noKey).2 1 level gpa pa noKey
    match s.nextTable fn 1 level gpa (freshTable found), found with
    | some next, _ =>
      s.walk2 fn gpa fuel next
        ({ fn := fn, stage := 1, level := level, tag := gpa / 2 ^ (39 - 9 * level), next := next } :: used)
    | none, .error x => .error x
    | none, .ok (.inl leaf) => .ok ({ leaf with egpa := gpa }, used)
    | none, .ok (.inr _) => .error { rank := 5, cause := 0x087, stg := 1, lvl := level, gpa := gpa }

/-- Stage 2 of a guest physical address for a function: the leaf with the non-leaf entries used, or the fault (a function
without a root finds no valid entry). -/
def State.stage2Path (s : State) (fn gpa : Nat) : Except MemFault (Leaf × List WalkEntry) :=
  match (s.fnOf fn).s2root with
  | none => .error { rank := 5, cause := 0x085, stg := 1, lvl := 0, gpa := gpa }
  | some root => s.walk2 fn gpa 4 root []

/-- Stage 2 of a guest physical address for a function: the leaf, or the fault. -/
def State.stage2 (s : State) (fn gpa : Nat) : Except MemFault Leaf :=
  match s.stage2Path fn gpa with
  | .error x => .error x
  | .ok r => .ok r.1

/-- The address inside a leaf's page. -/
def Leaf.at (l : Leaf) (addr : Nat) : Nat := l.pa + addr % 2 ^ l.bits

/-- The level at which a leaf of a size stands. -/
def levelOfBits (bits : Nat) : Nat := if bits = 30 then 1 else if bits = 21 then 2 else 3

/-- A page of device memory is under a key slot that holds no key (R329, R375). -/
def State.keyMissing (s : State) (l : Leaf) (addr : Nat) : Bool :=
  decide (l.at addr < deviceEnd) && !(ahas s.keys l.key)

/-- What a walk has used so far: the stage-2 leaves of its table reads, latest first, and the non-leaf entries. -/
structure Trail where
  leaves : List Leaf := []
  tables : List WalkEntry := []
  deriving DecidableEq, Repr

/-- The walk of stage 1 from a table at a level: the leaf, and what the table reads used. -/
def State.walk1 (s : State) (fn va : Nat) : Nat → Nat → Trail → Except MemFault (Leaf × Trail)
  | 0, _, _ => .error { rank := 4, cause := 0x084, lvl := 3 }
  | fuel + 1, table, used =>
    let level := 3 - fuel
    let gpa := table + 8 * tableIndex va level 17
    match s.stage2Path fn gpa with
    | .error x => .error { x with rank := if x.cause = heldCause then 9 else 4 }
    | .ok (l2, tables2) =>
      let seen : Trail := { leaves := l2 :: used.leaves, tables := tables2 ++ used.tables }
      let refused (cause : Nat) : Except MemFault (Leaf ⊕ Nat) :=
        .error { rank := 4, cause := cause, stg := 1, lvl := levelOfBits l2.bits, gpa := gpa }
      let found : Except MemFault (Leaf ⊕ Nat) :=
        if !l2.r then refused 0x086
        else if s.unmapped fn (l2.at gpa) then refused 0x088
        else if s.keyMissing l2 gpa then refused 0x08A
        else if s.heldAt (l2.at gpa) then .error { rank := 9, cause := heldCause }
        else
          let key := (s.placeAt fn (l2.at gpa) (s.slotKey l2.key)).key
          readEntry (s.entryAt (l2.at gpa) key).1 (s.entryAt (l2.at gpa) key).2 0 level va (l2.at gpa) key
      match s.nextTable fn 0 level va (freshTable found), found with
      | some next, _ =>
        s.walk1 fn va fuel next { seen with tables :=
          { fn := fn, stage := 0, level := level, tag := va / 2 ^ (39 - 9 * level), next := next,
            via := seen.leaves.map fun l => (l.egpa / 2 ^ l.bits, l.bits) } :: seen.tables }
      | none, .error x => .error x
      | none, .ok (.inl leaf) => .ok ({ leaf with egpa := gpa }, seen)
      | none, .ok (.inr _) => .error { rank := 4, cause := 0x084, lvl := level }

/-- What an access needs (R323). -/
structure Need where
  r : Bool
  w : Bool
  x : Bool
  deriving DecidableEq, Repr

/-- The permissions an access kind needs (R323). -/
def needOf : AccKind → Need
  | .fetch => { r := false, w := false, x := true }
  | .load => { r := true, w := false, x := false }
  | .store => { r := false, w := true, x := false }
  | .atomic => { r := true, w := true, x := false }
  | .fill => { r := true, w := false, x := false }
  | .spill => { r := false, w := true, x := false }

/-- The KIND code of R314. -/
def kindCode : AccKind → Nat
  | .fetch => 0
  | .load => 1
  | .store => 2
  | .atomic => 3
  | .fill => 4
  | .spill => 5

/-- The permissions suffice. -/
def Need.met (n : Need) (r w x : Bool) : Bool := (!n.r || r) && (!n.w || w) && (!n.x || x)

/-- The U bit allows the access (R323): user level needs it, a supervisor fetch must not have it. -/
def userRule (level : Level) (k : AccKind) (u : Bool) : Bool :=
  match level with
  | .user => u
  | _ => !(k == .fetch && u)

/-- Both stages of one address (R319 to R324): the joined translation, the two leaves, the stage-2 leaves of the table
reads, and the non-leaf entries. -/
structure Walked where
  entry  : TlbEntry
  leaf1  : Leaf
  leaf2  : Leaf
  used   : List Leaf
  tables : List WalkEntry := []
  deriving DecidableEq, Repr

/-- The joined translation of two leaves (R325): its page is the smaller of theirs, a 64 KiB run counting as one
where both are runs or larger. -/
def joinLeaves (fn va gpa : Nat) (l1 l2 : Leaf) (used : List Leaf) : TlbEntry :=
  let b1 := if l1.g64 then 16 else l1.bits
  let b2 := if l2.g64 then 16 else l2.bits
  let bits := min b1 b2
  let off := va % 2 ^ bits
  { fn := fn, va := va - off, bits := bits, pa := l2.at gpa - off, gpa := gpa - off, key := l2.key,
    r := l1.r && l2.r, w := l1.w && l2.w, x := l1.x && l2.x, u := l1.u, d := l1.d && l2.d
    via := used.map fun l => (l.egpa / 2 ^ l.bits, l.bits), r1 := l1.r, w1 := l1.w, x1 := l1.x }

/-- What a walk whose stage-1 leaf lacks a permission leaves in the caches, where its page is reached (R322, R325). -/
def State.seenEntry (s : State) (fn va : Nat) (l1 : Leaf) (used : List Leaf) : Option TlbEntry :=
  match s.stage2 fn (l1.at va) with
  | .ok l2 => some (joinLeaves fn va (l1.at va) l1 l2 used)
  | .error _ => none

/-- The walk of a virtual address for an access of a kind at a level: the fault of R329, or what it found. -/
def State.walk (s : State) (fn : Nat) (level : Level) (k : AccKind) (va : Nat) : Except MemFault Walked :=
  match (s.fnOf fn).s1root with
  | none => .error { rank := 4, cause := 0x082 }
  | some root =>
    match s.walk1 fn va 4 root {} with
    | .error x => .error x
    | .ok (l1, trail) =>
      let used := trail.leaves
      let gpa := l1.at va
      let stores := (needOf k).w
      if !((needOf k).met l1.r l1.w l1.x && userRule level k l1.u) then
        .error { rank := 4, cause := 0x083, lvl := levelOfBits l1.bits, seen := s.seenEntry fn va l1 used }
      else if (!l1.a || (stores && !l1.d)) && !((used.head?.map (·.w)).getD true) then
        .error { rank := 4, cause := 0x086, stg := 1, lvl := (used.head?.map fun l => levelOfBits l.bits).getD 3,
                 gpa := l1.egpa }
      else
        match s.stage2Path fn gpa with
        | .error x => .error x
        | .ok (l2, tables2) =>
          if !((needOf k).met l2.r l2.w l2.x) then
            .error { rank := 5, cause := 0x086, stg := 1, lvl := levelOfBits l2.bits, gpa := gpa
                     seen := some (joinLeaves fn va gpa l1 l2 used) }
          else if s.unmapped fn (l2.at gpa) then
            .error { rank := 6, cause := 0x088, stg := 1, lvl := levelOfBits l2.bits, gpa := gpa }
          else if s.keyMissing l2 gpa then
            .error { rank := 7, cause := 0x08A, stg := 1, lvl := levelOfBits l2.bits, gpa := gpa }
          else
            .ok { entry := joinLeaves fn va gpa l1 l2 used, leaf1 := l1, leaf2 := l2, used := used
                  tables := tables2 ++ trail.tables }

/-- A bit of an entry set at its home (R236, R324): the copies of its line go first (R202). -/
def State.orEntry (s : State) (l : Leaf) (bits : Nat) : State :=
  let e := s.entryAt l.entry l.ekey
  let v := e.1 ||| bits
  if v = e.1 then s else s.writeHome l.entry (leBytes 8 v) e.2 l.ekey

/-- The A bit, and for a write the D bit, of the stage-2 leaf of a guest physical address that an engine or a peer uses
(R324). -/
def State.markFrame (s : State) (f gpa : Nat) (write : Bool) : State :=
  match s.stage2 f gpa with
  | .ok l => s.orEntry l (if write then 0xC0 else 0x40)
  | .error _ => s

/-- The A and D bits a walk sets (R324): A in every leaf used, D in both leaves for a store, and D in the stage-2 leaf
of a table page whose entry changed. -/
def State.setAD (s : State) (k : AccKind) (x : Walked) : State :=
  let d := if (needOf k).w then 0xC0 else 0x40
  let changes1 := !x.leaf1.a || ((needOf k).w && !x.leaf1.d)
  let s := x.used.foldl (fun s l => s.orEntry l 0x40) s
  let s := match x.used with
    | [] => s
    | l :: _ => if changes1 then s.orEntry l 0xC0 else s
  (s.orEntry x.leaf1 d).orEntry x.leaf2 d

/-! ### One page of an access -/

/-- The address lies in the scratch window (R197). -/
def inWindow (a : Nat) : Bool := decide (0xFFFFFFFF00000000 ≤ a) && decide (a ≤ 0xFFFFFFFF01FFFFFF)

/-- The granule that holds byte `off` of a crew's region on a core, if the crew has a region there. -/
def Core.granuleFor (x : Core) (crew k : Nat) : Option Nat :=
  (x.roles.find? fun p => p.2 == Role.scratch crew k).map (·.1)

/-- The crew has a region on the core. -/
def Core.hasRegion (x : Core) (crew : Nat) : Bool := (x.granuleFor crew 0).isSome

/-- The core a window slot names for an agent (R197). -/
def Agent.slotCore (ag : Agent) (slot : Nat) : Option Nat :=
  if slot < 16 then some (ag.cluster * 16 + slot) else if slot = 16 then some ag.core else none

/-- A window address of an agent (R197, R198). -/
def State.windowPlace (s : State) (ag : Agent) (a : Nat) : Except MemFault Place :=
  match ag.slotCore (bitsOf a 20 5), ag.crew with
  | some core, some crew =>
    if (s.core core).hasRegion crew then
      match (s.core core).granuleFor crew (bitsOf a 0 20 / 16384) with
      | some g => .ok { loc := scratchLoc core g (bitsOf a 0 20 % 16384), key := none }
      | none => .error { rank := 3, cause := 0x0E1 }
    else .error { rank := 3, cause := 0x0E0 }
  | _, _ => .error { rank := 3, cause := 0x0E0 }

/-- An address is canonical: bits 63 to 55 are equal (R319). -/
def canonical (a : Nat) : Bool := bitsOf a 55 9 = 0 || bitsOf a 55 9 = 511

/-- A cached translation covers an address for a function. -/
def TlbEntry.covers (e : TlbEntry) (fn va : Nat) : Bool := e.fn = fn && e.va / 2 ^ e.bits = va / 2 ^ e.bits

/-- A cached translation allows an access without a walk: permissions, and D set for a store (R324). -/
def TlbEntry.allows (e : TlbEntry) (level : Level) (k : AccKind) : Bool :=
  (needOf k).met e.r e.w e.x && userRule level k e.u && (!(needOf k).w || e.d)

/-- A cached translation lacks a permission of an access. -/
def TlbEntry.refuses (e : TlbEntry) (level : Level) (k : AccKind) : Bool :=
  !((needOf k).met e.r e.w e.x && userRule level k e.u)

/-- The fault of an access that a cached translation refuses: stage 1 first (R323, R329). -/
def TlbEntry.refusal (e : TlbEntry) (level : Level) (k : AccKind) (va : Nat) : MemFault :=
  if !((needOf k).met e.r1 e.w1 e.x1 && userRule level k e.u) then
    { rank := 4, cause := 0x083, lvl := levelOfBits e.bits }
  else { rank := 5, cause := 0x086, stg := 1, lvl := levelOfBits e.bits, gpa := e.gpa + va % 2 ^ e.bits }

/-- The physical address a cached translation gives. -/
def TlbEntry.paOf (e : TlbEntry) (va : Nat) : Nat := e.pa + va % 2 ^ e.bits

/-- The place a cached translation gives, or that nothing is there any more: an aperture that does not allow the access
(R362), or a key slot that holds no key (R375). -/
def State.placeOf (s : State) (fn : Nat) (e : TlbEntry) (va : Nat) : Except MemFault Place :=
  if s.unmapped fn (e.paOf va) then .error { rank := 6, cause := 0x088, stg := 1, lvl := levelOfBits e.bits }
  else if e.paOf va < deviceEnd ∧ !(ahas s.keys e.key) then
    .error { rank := 7, cause := 0x08A, stg := 1, lvl := levelOfBits e.bits }
  else .ok (s.placeAt fn (e.paOf va) (s.slotKey e.key))

/-- A walk would change an A or a D bit. -/
def Walked.marks (x : Walked) (k : AccKind) : Bool :=
  (x.leaf1 :: x.leaf2 :: x.used).any (fun l => !l.a) || ((needOf k).w && (!x.leaf1.d || !x.leaf2.d))

/-- The translation a walk leaves in the TLBs: with D set for a store (R324). -/
def Walked.cached (x : Walked) (k : AccKind) : TlbEntry := { x.entry with d := x.entry.d || (needOf k).w }

/-- The cached translations that an access may use and whose use differs from a walk of the tables as they are (R322,
R325): those that refuse it among them. -/
def State.staleFor (s : State) (fn : Nat) (level : Level) (k : AccKind) (va : Nat) : List TlbEntry :=
  let walked := s.walk fn level k va
  s.tlb.filter fun e => e.covers fn va && (e.refuses level k || (e.allows level k &&
    match walked with
    | .error _ => true
    | .ok x => x.marks k || e.paOf va != x.entry.paOf va || e.key != x.entry.key))

/-- The cached translation that an access uses in the place of a walk, by a free choice (R322, R325; log 12). -/
def State.staleHit (s : State) (fn : Nat) (level : Level) (k : AccKind) (va : Nat) : Option TlbEntry :=
  match s.staleFor fn level k va with
  | [] => none
  | es => es[Config.cached s.freeCount va % (es.length + 1)]?

/-- An access walks the tables: no cached translation serves it, or none of those that differ is taken. -/
def State.walksFor (s : State) (fn : Nat) (level : Level) (k : AccKind) (va : Nat) : Bool :=
  (s.staleHit fn level k va).isNone &&
  (!(s.tlb.any fun e => e.covers fn va && e.allows level k) || !(s.staleFor fn level k va).isEmpty)

/-- The translation and the non-leaf entries of a walk enter the caches (R325). -/
def State.cacheWalk (s : State) (k : AccKind) (x : Walked) : State :=
  { s with
    tlb := if s.tlb.contains (x.cached k) then s.tlb else x.cached k :: s.tlb
    walks := (x.tables.filter fun e => !(s.walks.contains e)) ++ s.walks }

/-- One page of an access, translated: the place or the fault, and the state with the walk's effects. -/
def State.translate (s : State) (fn : Nat) (level : Level) (k : AccKind) (va : Nat) :
    State × Except MemFault Place :=
  match s.staleHit fn level k va with
  | some e => (s, if e.refuses level k then .error (e.refusal level k va) else s.placeOf fn e va)
  | none =>
    match s.walk fn level k va with
    | .error x => (s, .error x)
    | .ok x => ((s.setAD k x).cacheWalk k x, s.placeOf fn (x.cached k) va)

/-- A place for an agent: an instruction's access waits where the way to the home is held (R361, R366). -/
def State.waitAt (s : State) (ag : Agent) (p : Place) : Except MemFault Place :=
  if ag.stalls && s.heldAt p.loc then .error { rank := 9, cause := heldCause } else .ok p

/-- One page of an access of an agent (R197, R319): firmware addresses are physical, the window is not translated. -/
def State.page (s : State) (ag : Agent) (k : AccKind) (va : Nat) : State × Except MemFault Place :=
  if ag.level = .firmware then
    if 2 ^ 52 ≤ va ∨ s.unmapped ag.fn va then (s, .error { rank := 6, cause := 0x088 })
    else (s, s.waitAt ag (s.placeAt ag.fn va noKey))
  else if !(canonical va) then (s, .error { rank := 2, cause := 0x081 })
  else if inWindow va then
    (s, if k = .fetch then .error { rank := 3, cause := 0x0E3 } else s.windowPlace ag va)
  else
    match s.translate ag.fn ag.level k va with
    | (t, .ok p) => (t, t.waitAt ag p)
    | r => r

/-! ### A whole access -/

/-- One part of an access that lies in one page: its first address, its length and its place. -/
structure Part where
  va  : Nat
  len : Nat
  place : Place
  deriving DecidableEq, Repr

/-- The parts of `n` bytes from an address on, cut at 4 KiB; addresses are taken modulo 2^64. -/
def cutPages : Nat → Nat → Nat → List (Nat × Nat)
  | 0, _, _ => []
  | fuel + 1, a, n =>
    if n = 0 then []
    else
      let len := min n (4096 - a % 4096)
      (a % 2 ^ 64, len) :: cutPages fuel (a + len) (n - len)

/-- The parts of an access. -/
def partsOf (a n : Nat) : List (Nat × Nat) := cutPages (n / 4096 + 2) a n

/-- A fault together with the lowest faulting byte address. -/
structure AccFault where
  fault : MemFault
  addr  : Nat
  deriving DecidableEq, Repr

/-- Of two faults of one access, the one taken: the first in the order of R329, at equal place the lower address. -/
def AccFault.first (x : Option AccFault) (y : AccFault) : AccFault :=
  match x with
  | none => y
  | some x => if y.fault.rank < x.fault.rank then y else x

/-- Every part of an access looked up in turn: the state after the walks, the parts found, the fault taken. -/
def State.lookup (s : State) (ag : Agent) (k : AccKind) :
    List (Nat × Nat) → State × List Part × Option AccFault
  | [] => (s, [], none)
  | (va, len) :: rest =>
    match s.page ag k va with
    | (s, .error x) =>
      let r := s.lookup ag k rest
      (r.1, r.2.1, some (match r.2.2 with
        | none => { fault := x, addr := va }
        | some y => if y.fault.rank < x.rank then y else { fault := x, addr := va }))
    | (s, .ok p) =>
      let r := s.lookup ag k rest
      (r.1, { va := va, len := len, place := p } :: r.2.1, r.2.2)

/-- The bytes of an access lie partly inside and partly outside the window (R198). -/
def straddlesWindow (a n : Nat) : Bool :=
  (partsOf a n).any (fun p => inWindow p.1) && (partsOf a n).any (fun p => !inWindow p.1)

/-- An access of `n` bytes at an address, translated and checked on every byte before any takes effect (R204). -/
def State.resolve (s : State) (ag : Agent) (k : AccKind) (a n : Nat) : State × Except AccFault (List Part) :=
  if ag.level ≠ .firmware ∧ straddlesWindow a n ∧ ((partsOf a n).all fun p => canonical p.1) then
    (s, .error { fault := { rank := 3, cause := if k = .fetch then 0x0E3 else 0x0E1 }, addr := a })
  else
    match s.lookup ag k (partsOf a n) with
    | (s', parts, none) => (s', .ok parts)
    | (_, _, some x) => (s, .error x)

end Sys2Proof.Machine
end

