-- ==== Sys2Proof/Machine/Access.lean ====
section
/-! DEFINITION. The accesses a thread makes: agents, paths, the L1 tags (R193, R202), loads, stores and atomic
updates with their ordering (R219 to R237), and the trap a faulting access takes (R314, R329). -/

namespace Sys2Proof.Machine

/-- The agent of a thread's own accesses. -/
def State.agentOf (s : State) (g : Nat) : Agent :=
  let c := s.ctx g
  { fn := c.fn, level := c.level, crew := c.crew, cluster := clusterOf g, core := coreOf g }

/-- The agent of the running instruction: a vector instruction out of the queue makes its accesses at the level it was
issued at (R315, R319, R323). -/
def State.agent (s : State) : Agent :=
  { s.agentOf s.cur with level := (s.me.reissue.map (·.level)).getD s.me.level, stalls := true }

/-- The agent of the accesses that go under the thread's translation at user level (R122, R124, R180). -/
def State.userAgent (s : State) (g : Nat) : Agent := { s.agentOf g with level := .user }

/-- The path an access takes: HOST for SCALAR and LANE accesses outside the package (R226). -/
def pathFor (path : Path) (loc : Nat) : Path :=
  if (path == .scalar || path == .lane) && decide (deviceEnd ≤ loc) && decide (loc < scratchBase) then .host else path

/-- The number of a path (R226). -/
def pathCode : Path → Nat
  | .scalar => 0
  | .lane => 1
  | .copy => 2
  | .gather => 3
  | .msg => 4
  | .host => 5

/-! ### Accesses performed (R219 to R223) -/

/-- A piece of a late load is read: its bytes go to the register, and the sign of the value with its top byte (R203).
Poison is consumed once by the load. -/
def Ctx.late (c : Ctx) (l : LatePiece) (bytes : List Byte) (poison : Bool) : Ctx :=
  let old := c.raw l.dest
  let v := old.1 ||| (BitVec.ofNat 64 (leNat bytes) <<< (8 * l.off))
  let v := if l.sext then (v <<< (64 - 8 * l.size)).sshiftRight (64 - 8 * l.size) else v
  (c.setReg l.dest v (old.2 || poison)).consume (poison && !old.2)

/-- An access of a context outside the package passes its link (R363, R366), to the host with a cached translation (R367). -/
def State.passLinkFor (s : State) (g : Nat) (path : Path) (cls loc : Nat) : State :=
  match s.deviceAt loc with
  | some dev => s.passLink g (pathCode path) cls dev
  | none => s.useAts (s.ctx g).fn loc

/-- A line of a context's vector state is written, and leaves the creels of its lanes (R199). -/
def State.unload (s : State) (g : Nat) (e : Pending) : State :=
  let x := s.cluster (clusterOf g)
  let mine (l : Nat) : Bool := match aget LaneState.free x.lanes l with
    | .granted h | .draining h _ => h == g
    | _ => false
  if e.path == .lane && x.creels.any fun p => mine p.1 && p.2.any (·.loc == e.loc) then
    let left := x.creels.map fun p => if mine p.1 then (p.1, p.2.filter (·.loc != e.loc)) else p
    s.setCluster (clusterOf g) { x with creels := left.filter fun p => !p.2.isEmpty }
  else s

/-- What performing a pending access of a context does, seen from its die. -/
def State.performHere (s : State) (g : Nat) (p : Pending) : State :=
  let s := (s.passLinkFor g p.path p.cls p.loc).unload g p
  match p.load with
  | some l =>
    let s := (s.noteRead { loc := p.loc, key := p.key }).enterLines p.loc l.len p.key
    let r := s.readLoc p.loc l.len p.key
    let s := if p.path == .scalar then s.touchLines (coreOf g) p.loc l.len false else s
    s.setCtx g ((s.ctx g).late l r.1 r.2)
  | none =>
    let own := p.path == .scalar
    let s := (granulesOf p.loc p.bytes.length).foldl
      (fun s l => s.dropCopies l (if own then some (coreOf g) else none))
      ((s.noteRefused p.loc).enterLines p.loc p.bytes.length p.key)
    let s := s.performOne p
    if own then s.touchLines (coreOf g) p.loc p.bytes.length true
    else (granulesOf p.loc p.bytes.length).foldl (fun s l => s.touchL2 (homeDie l) l true) s

/-- A pending access of a context is performed; one whose way is held keeps the step waiting (R361, R366). -/
def State.performFor (s : State) (g : Nat) (p : Pending) : State :=
  (s.block (s.heldFrom (dieOf g) p.loc)).viewing (dieOf g) fun s => s.performHere g p

/-- Pending stores of a context are performed in their order. -/
def State.performList (s : State) (g : Nat) : List Pending → State
  | [] => s
  | p :: rest => (s.performFor g p).performList g rest

/-- An older pending access that must be performed before another of the same thread (R219 to R221): pieces of one access
have no order (R223). -/
def Pending.precedes (p q : Pending) : Bool :=
  !(p.piece != 0 && p.piece == q.piece) && p.path == q.path &&
    (p.cls == q.cls || p.cls % 16 == 15 || q.cls % 16 == 15 || overlaps p.loc p.size q.loc q.size)

/-- Which pending stores must be performed so that those with the property are: they, and what must precede them. -/
def neededFor (q : Pending → Bool) : List Pending → List (Pending × Bool)
  | [] => []
  | p :: rest =>
    let r := neededFor q rest
    (p, q p || r.any fun x => x.2 && p.precedes x.1) :: r

/-- The context's pending stores with the property are performed, with those that precede them, in their order. -/
def State.drain (s : State) (g : Nat) (q : Pending → Bool) : State :=
  let c := s.ctx g
  let marks := neededFor q c.pend
  if marks.any (·.2) then
    (s.setCtx g { c with pend := (marks.filter fun x => !x.2).map (·.1) }).performList g
      ((marks.filter (·.2)).map (·.1))
  else s

/-- Every pending store of a context is performed. -/
def State.drainAll (s : State) (g : Nat) : State := s.drain g (fun _ => true)

/-- The `k`-th pending store of a context performed out of its turn, where nothing older precedes it. -/
def State.mayPerform (s : State) (g k : Nat) : Option State :=
  let c := s.ctx g
  match c.pend[k]? with
  | none => none
  | some p =>
    if (c.pend.take k).any (fun q => q.precedes p) then none
    else some ((s.setCtx g { c with pend := c.pend.take k ++ c.pend.drop (k + 1) }).performFor g p)

/-! ### Loads and stores -/

/-- A walk for an access of a thread follows its older SCALAR stores (R324). -/
def State.beforeWalk (s : State) (g : Nat) (ag : Agent) (k : AccKind) (a n : Nat) : State :=
  if ag.level = .firmware then s
  else if (partsOf a n).all (fun p => inWindow p.1 || !(s.walksFor ag.fn ag.level k p.1)) then s
  else s.drain g (fun p => p.path == .scalar && p.load.isNone)

/-- The path and the class under which a part of an access goes. -/
def partPath (path : Path) (cls : Nat) (p : Part) : Path × Nat :=
  let q := pathFor path p.place.loc
  (q, if q == .host then cls % 16 else cls)

/-- The pending accesses that a read of `n` bytes must follow (R219 to R221). -/
def readFollows (path : Path) (cls loc n : Nat) (e : Pending) : Bool :=
  orderedBefore path cls e || (e.load.isSome && e.path == path && overlaps e.loc e.size loc n)

/-- One part of a load of context `g`: the bytes and their poison, and the state with the caches touched. Only SCALAR accesses
pass the L1 (R193): the reads of WGATH, WLDB and WDRAIN.S go to the L2 (log 75). -/
def State.loadPart (s : State) (g : Nat) (path : Path) (cls : Nat) (p : Part) : State × List Byte × Bool :=
  let q := partPath path cls p
  let loc := p.place.loc
  let s := (s.drain g (readFollows q.1 q.2 loc p.len)).noteRead p.place
  let s := if p.place.dead then s else (s.passLinkFor g q.1 q.2 loc).enterLines loc p.len p.place.key
  let r := forward q.1 loc (s.ctx g).pend (s.readPlace p.place p.len)
  let l2 := decide (loc < deviceEnd) && q.1 != .msg
  (if q.1 == .scalar then s.touchLines (coreOf g) loc p.len false else if l2 then s.passLines (dieOf g) loc p.len else s, r)

/-- The parts of a load of context `g`, one after the other. -/
def State.loadParts (s : State) (g : Nat) (path : Path) (cls : Nat) : List Part → State × List Byte × Bool
  | [] => (s, [], false)
  | p :: rest =>
    match s.loadPart g path cls p with
    | (s, bytes, poison) =>
      match s.loadParts g path cls rest with
      | (s, bytes', poison') => (s, bytes ++ bytes', poison || poison')

/-- MemRead of context `g` for an agent (R4, R219): the bytes and their poison, or the fault with nothing changed. -/
def State.load (s : State) (g : Nat) (ag : Agent) (k : AccKind) (path : Path) (cls a n : Nat) :
    State × Except AccFault (List Byte × Bool) :=
  match (s.beforeWalk g ag k a n).resolve ag k a n with
  | (_, .error x) => (s, .error x)
  | (s, .ok parts) =>
    match s.loadParts g path cls parts with
    | (s, r) => (s, .ok r)

/-- A load of context `g` on the SCALAR path whose value is fixed later (R217): it is checked now, the register awaits
its bytes; none where a link does not carry it. -/
def State.deferLoad (s : State) (g : Nat) (cls a n : Nat) (dest : BitVec 5) (sext : Bool) : Option State :=
  match (s.beforeWalk g s.agent .load a n).resolve s.agent .load a n with
  | (_, .error _) => none
  | (s, .ok parts) =>
    if parts.any (·.place.dead) then none
    else
      let entry (off : Nat) (p : Part) : Pending :=
        { path := (partPath .scalar cls p).1, cls := cls, loc := p.place.loc, key := p.place.key, bytes := []
          load := some { dest := dest, off := off, len := p.len, size := n, sext := sext } }
      let rec entries (off : Nat) : List Part → List Pending
        | [] => []
        | p :: rest => entry off p :: entries (off + p.len) rest
      let c := (s.ctx g).setReg dest 0 false
      some (s.setCtx g { c with pend := addAccess c.pend (entries 0 parts) })

/-- Room for one more store of the scalar unit: the store buffer holds 16 (R203), and its oldest is performed. -/
def State.makeRoom (s : State) (g : Nat) : State :=
  if bufferedStores (s.ctx g).pend < 16 then s
  else
    match (s.ctx g).pend.find? (·.buffered) with
    | none => s
    | some p => s.drain g fun e => e.buffered && (e == p || (p.piece != 0 && e.piece == p.piece))

/-- The pending accesses of the parts of a store; what no link carries is discarded (R366, R378). -/
def storeEntries (path : Path) (cls : Nat) (poison : Bool) : List Part → List Byte → List Pending
  | [], _ => []
  | p :: rest, bytes =>
    let more := storeEntries path cls poison rest (bytes.drop p.len)
    if p.place.dead then more
    else
      { path := (partPath path cls p).1, cls := (partPath path cls p).2, loc := p.place.loc, key := p.place.key
        bytes := bytes.take p.len, poison := poison, buffered := path == .scalar } :: more

/-- The parts of a store of context `g` enter the pending accesses; what no link carries is recorded. -/
def State.storeParts (s : State) (g : Nat) (path : Path) (cls : Nat) (parts : List Part) (bytes : List Byte)
    (poison : Bool) : State :=
  let s := parts.foldl (fun s p => s.noteDead p.place) (if path == .scalar then s.makeRoom g else s)
  s.setCtx g { s.ctx g with pend := addAccess (s.ctx g).pend (storeEntries path cls poison parts bytes) }

/-- MemWrite of context `g` for an agent (R4, R219), or the fault with nothing changed. -/
def State.store (s : State) (g : Nat) (ag : Agent) (k : AccKind) (path : Path) (cls a : Nat) (bytes : List Byte)
    (poison : Bool) : State × Except AccFault Unit :=
  match (s.beforeWalk g ag k a bytes.length).resolve ag k a bytes.length with
  | (_, .error x) => (s, .error x)
  | (s, .ok parts) => (s.storeParts g path cls parts bytes poison, .ok ())

/-- The places of a resolved access lie outside the package (R226, R237). -/
def outsidePackage (parts : List Part) : Bool :=
  parts.any fun p => decide (deviceEnd ≤ p.place.loc) && decide (p.place.loc < scratchBase)

/-- Where an atomic update of `n` bytes at an aligned address is made: the place, ATOM_REMOTE outside the package, or
the fault (R235). -/
def State.atomicPlace (s : State) (g : Nat) (ag : Agent) (a n : Nat) : State × Except AccFault Place :=
  match (s.beforeWalk g ag .atomic a n).resolve ag .atomic a n with
  | (_, .error x) => (s, .error x)
  | (s', .ok parts) =>
    if outsidePackage parts then (s, .error { fault := { rank := 8, cause := 0x0F1 }, addr := a })
    else
      match parts with
      | [] => (s, .error { fault := { rank := 8, cause := 0x0F1 }, addr := a })
      | p :: _ => (s', .ok p.place)

/-- The bytes at a place as an atomic operation of context `g` on the SCALAR path finds them: its older accesses of
the class, and its own stores to the bytes, are performed first (R219, R220, R235). -/
def State.atomicRead (s : State) (g cls : Nat) (p : Place) (n : Nat) : State × List Byte × Bool :=
  let s := s.drain g fun e => orderedBefore .scalar cls e ||
    (e.path == .scalar && overlaps e.loc e.size p.loc n)
  let s := (s.noteRead p).enterLines p.loc n p.key
  (s, s.readPlace p n)

/-! ### The trap of a faulting access -/

/-- TELEM of a memory fault (R314). -/
def telemOf (k : AccKind) (elem : Option Nat) (x : MemFault) : Word :=
  BitVec.ofNat 64 ((match elem with | some e => 2 ^ 31 + e | none => 0) + kindCode k * 2 ^ 28 + x.stg * 2 ^ 27 +
    x.lvl * 2 ^ 25)

/-- What a faulting access delivers (R312, R314, R329). -/
def AccFault.info (x : AccFault) (k : AccKind) (epc : Word) (elem : Option Nat) : TrapInfo :=
  { cause := x.fault.cause, value := BitVec.ofNat 64 x.addr, epc := epc,
    telem := if x.fault.cause = 0x0F1 ∧ elem.isNone then 0 else telemOf k elem x.fault,
    gpa := if 0x085 ≤ x.fault.cause ∧ x.fault.cause ≤ 0x087 then BitVec.ofNat 52 x.fault.gpa else 0 }

/-- The running instruction has issued and waits for its way: nothing of it happens yet, and a vector instruction stands in
the queue again. -/
def State.stall (s : State) : State :=
  match s.me.reissue with
  | none => if s.me.wait.isNone then s.setMe { s.me with wait := some .held } else s
  | some e => s.setMe { s.me with vq := e :: s.me.vq, reissue := none, cut := none }

/-- What the walk of a faulting access leaves: a table read that met an absent home is recorded (R329, R359), one that a
peer refused too (R365), and a translation that lacks a permission may be cached (R322, R325). -/
def State.noteWalk (s : State) (x : AccFault) : State :=
  let s := if x.fault.cause = 0x089 then (s.noteAbsent x.fault.entry).noteRefused x.fault.entry else s
  match x.fault.seen with
  | some e => if s.tlb.contains e then s else { s with tlb := e :: s.tlb }
  | none => s

/-- The fault of an access that no thread's instruction makes: where its way is held the step waits (R361, R366). -/
def State.unitFault (s : State) (x : AccFault) : State := (s.noteWalk x).block (x.fault.cause == heldCause)

/-- The resolved parts of such an access: where one's way is held the step waits. -/
def State.blockParts (s : State) (ps : List Part) : State := s.block (ps.any fun p => s.heldAt p.place.loc)

/-- The running instruction takes the trap of a faulting access, precisely; an access that is held waits. -/
def State.trapFault (s : State) (k : AccKind) (x : AccFault) : State :=
  if x.fault.cause = heldCause then s.stall else (s.noteWalk x).trap (x.info k s.me.here none)

end Sys2Proof.Machine
end

