-- ==== Sys2Proof/Machine/Geometry.lean ====
section
/-! DEFINITION. The geometry of a thread's vector state (R101 to R104), the counts of the lane pool (R102), and the
image of vector state that a spill area holds (R123). -/

namespace Sys2Proof.Machine

/-- The register count of a code (R106, R107). -/
def regCount (code : Nat) : Nat := 8 * 2 ^ code

/-- The element width in bits of a VTYPE (R133). -/
def typeEw (vtype : Word) : Nat := 8 * 2 ^ bitsOf vtype.toNat 0 2

/-- Rows per register for a register count and a tile count (R103). -/
def rowsPerReg (n tl : Nat) : Nat := (64 - 16 * tl) / n

/-- A geometry (R103): register count, tile count, lanes, element width. -/
structure Geo where
  n  : Nat
  tl : Nat
  g  : Nat
  ew : Nat
  deriving DecidableEq, Repr

/-- Rows per register. -/
def Geo.rpr (x : Geo) : Nat := rowsPerReg x.n x.tl

/-- Elements per row. -/
def Geo.epr (x : Geo) : Nat := 512 / x.ew

/-- VLMAX (R103). -/
def Geo.vlmax (x : Geo) : Nat := x.epr * x.g * x.rpr

/-- The geometry in force. -/
def Ctx.geo (c : Ctx) : Geo :=
  { n := regCount c.ncode.toNat, tl := c.tl.toNat, g := c.lanes, ew := typeEw c.vtype }

/-- A register row of a logical lane and its poison (R103, R132). -/
def VecState.row (v : VecState) (lane r : Nat) : Row × Bool :=
  (aget 0 v.rows (64 * lane + r), aget false v.rowPoison (64 * lane + r))

/-- A register row of a logical lane written. -/
def VecState.setRow (v : VecState) (lane r : Nat) (x : Row) (p : Bool) : VecState :=
  { v with rows := aput 0 v.rows (64 * lane + r) x, rowPoison := aput false v.rowPoison (64 * lane + r) p }

/-- Segment `i` of mask `m` and its poison (R150, R151). -/
def VecState.segment (v : VecState) (m i : Nat) : Row × Bool :=
  (aget 0 v.masks (256 * m + i), aget false v.maskPoison (256 * m + i))

/-- Segment `i` of mask `m` written. -/
def VecState.setSegment (v : VecState) (m i : Nat) (x : Row) (p : Bool) : VecState :=
  { v with masks := aput 0 v.masks (256 * m + i) x, maskPoison := aput false v.maskPoison (256 * m + i) p }

/-- The low `k` bits of a row. -/
def keepLow (x : Row) (k : Nat) : Row := x &&& BitVec.ofNat 512 (2 ^ k - 1)

/-- The register row that holds row `r` of tile `t` on a lane (R168). -/
def tileRow (t r : Nat) : Nat := 64 - 16 * (t + 1) + r % 16

/-- Latches cleared (R169). -/
def VecState.clearLatches (v : VecState) : VecState :=
  { v with slots := [], latchPoison := [], valid := [], lsel := 0 }

/-- The `16` slots from `16·j` on of a latch row as one line (R169). -/
def VecState.latchLine (v : VecState) (x t j : Nat) : Row :=
  BitVec.ofNat 512 ((List.range 16).foldl (fun n i =>
    n + (aget (0 : BitVec 32) v.slots (256 * (64 * x + t) + 16 * j + i)).toNat * 2 ^ (32 * i)) 0)

/-- The 16 slots of a line of a latch row written. -/
def VecState.setLatchLine (v : VecState) (x t j : Nat) (y : Row) : VecState :=
  { v with slots := (List.range 16).foldl (fun m i =>
      aput (0 : BitVec 32) m (256 * (64 * x + t) + 16 * j + i) (y.extractLsb' (32 * i) 32)) v.slots }

/-! ### The spill image (R123) -/

/-- The lines of one register, in element order. -/
def VecState.regLines (v : VecState) (x : Geo) (k : Nat) : List (Row × Bool) :=
  (List.range (x.rpr * x.g)).map fun i => v.row (i % x.g) (k * x.rpr + i / x.g)

/-- The 64-byte lines of a mask. -/
def VecState.maskLines (v : VecState) (x : Geo) (m : Nat) : List (Row × Bool) :=
  (List.range ((x.vlmax + 511) / 512)).map fun i => v.segment m i

/-- The lines of a tile of a weave of side `g`. -/
def VecState.tileLines (v : VecState) (t : Nat) : List (Row × Bool) :=
  (List.range (16 * v.side * v.side)).map fun i =>
    v.row (i / v.side / 16 * v.side + i % v.side) (tileRow t (i / v.side))

/-- The lines of a latch buffer of a weave of side `g`. -/
def VecState.bufLines (v : VecState) (x : Nat) : List (Row × Bool) :=
  (List.range (64 * v.side)).map fun i =>
    (v.latchLine x (i / v.side) (i % v.side), aget false v.latchPoison (64 * x + i / v.side))

/-- Everything after the header of a spill area, line by line. -/
def Ctx.spillLines (c : Ctx) : List (Row × Bool) :=
  let x := c.geo
  (List.range x.n).flatMap (c.vec.regLines x) ++ (List.range 16).flatMap (c.vec.maskLines x) ++
  (if c.vec.side = 0 then []
   else (List.range x.tl).flatMap c.vec.tileLines ++ (List.range 4).flatMap c.vec.bufLines)

/-- Bytes 8 to 63 of a spill header (R123): all but RVEC, which only the program writes. -/
def Ctx.spillHeader (c : Ctx) (kind cause : Nat) : List Byte :=
  leBytes 4 c.vl.toNat ++ leBytes 4 c.vstart.toNat ++ leBytes 2 (bitsOf c.vtype.toNat 0 9) ++ leBytes 2 c.lanes ++
  leBytes 1 c.vec.side ++ leBytes 1 (c.ncode.toNat + 4 * c.tl.toNat) ++ leBytes 1 kind ++ leBytes 1 cause ++
  (List.range 4).map (fun x => BitVec.ofNat 8 (aget 0 c.vec.valid x)) ++ leBytes 1 c.vec.lsel.toNat ++ leBytes 3 0 ++
  leBytes 8 c.vstat.toNat ++ leBytes 24 0

/-- Lines stored from an address on, on the LANE path in class 15, until one faults (R122, R127). -/
def State.storeLines (s : State) (g : Nat) (ag : Agent) (a : Nat) : List (Row × Bool) → State × Option AccFault
  | [] => (s, none)
  | (x, p) :: rest =>
    match s.store g ag .spill .lane 15 a (leBytes 64 x.toNat) p with
    | (s, .error f) => (s, some f)
    | (s, .ok ()) => s.storeLines g ag ((a + 64) % 2 ^ 64) rest

/-! ### The lane pool's counts (R102, R109, R110) -/

/-- Lanes earmarked for a context, those still draining included. -/
def Cluster.earmarkedFor (x : Cluster) (g : Nat) : Nat := x.count fun l => l.markedFor g

/-- The quota of a function in a cluster (R373). -/
def State.quotaOf (s : State) (f cl : Nat) : Nat := aget 256 (s.cluster cl).quotas f

/-- The weight of a function at an HBM stack, 1 where none was set (R373). -/
def State.hbmWeight (s : State) (f stack : Nat) : Nat := aget 1 (s.fnOf f).weights stack

/-- A waiter (R110): a thread whose last SETVL left a shortfall. -/
def Ctx.isWaiter (c : Ctx) : Bool := c.live && c.short != 0

/-- The lanes of a context that leave it, each set to a state. -/
def markLanes (lanes : Assoc LaneState) (which : List Nat) (x : LaneState) : Assoc LaneState :=
  which.foldl (fun m l => aput LaneState.free m l x) lanes

end Sys2Proof.Machine
end

