-- ==== Sys2Proof/Machine/Operands.lean ====
section
/-! DEFINITION. The operand forms of the scalar formats (R33 to R35): immediates, offsets, branch targets, and the
shapes most scalar instructions share. -/

namespace Sys2Proof.Machine

/-- The outcome type of a meaning. -/
abbrev Out := Host.Outcome State Fault Refusal

/-- An immediate sign-extended to a word (R34). -/
def simm {n : Nat} (x : BitVec n) : Word := x.signExtend 64

/-- A branch or jump target: the updated PC plus 4 times the signed word offset (R34, R67). -/
def target {n : Nat} (pc : Word) (off : BitVec n) : Word := pc + 4 + 4 * simm off

/-- A register operation of two sources: the value, poisoned when either source is (R59). -/
def State.alu2 (s : State) (d a b : BitVec 5) (f : Word → Word → Word) : State :=
  s.retire d (f (s.rv a) (s.rv b)) (s.rp a || s.rp b) (s.rp a || s.rp b)

/-- A register operation of one source (R59, R61). -/
def State.alu1 (s : State) (d a : BitVec 5) (f : Word → Word) : State :=
  s.retire d (f (s.rv a)) (s.rp a) (s.rp a)

/-- The event goes ahead where its condition holds; else it cannot happen in this state. -/
def whenEnabled (name : String) (b : Bool) (s : State) : Out :=
  if b then .next s else .refused (.notEnabled name)

end Sys2Proof.Machine
end

