-- ==== Sys2Proof/Machine/Revoke.lean ====
section
/-! DEFINITION. Forced revocation (R119 to R126): the spill, the pending LANE_REVOKE or LANE_SPILL and the points at
which it is taken; traps of the vector side (R317); lanes that become free. -/

namespace Sys2Proof.Machine

/-! ### Vector-side traps (R317) -/

/-- Entries enter the replay queue as those that a trap of the given depth put there; one that was cut begins anew at
VSTART. -/
def Ctx.toReplay (c : Ctx) (es : List VqEntry) (depth : Nat) : Ctx :=
  { c with replay := c.replay ++ es.map fun e => { e with depth := depth, begun := none, part := (0, false) } }

/-- The running vector instruction traps after decode: it and the younger instructions of the vector queue stand in
the replay queue, and the scalar stream resumes where it stands (R317). -/
def State.vsideTrap (s : State) (cause value : Nat) (telem : Word) (gpa : BitVec 52) : State :=
  let c := s.me
  let es := c.reissue.toList ++ c.vq
  let c' := { c.toReplay es (c.trapDepth + 1) with vq := [], resume := c.pc }
  (s.setMe c').trap
    { cause := cause, value := BitVec.ofNat 64 value, epc := c.here, telem := telem, gpa := gpa, vside := true }

/-- A vector memory fault in an element (R208, R314); an access that is held waits. -/
def State.vsideFault (s : State) (k : AccKind) (elem : Option Nat) (x : AccFault) : State :=
  let t := x.info k 0 elem
  if x.fault.cause = heldCause then s.stall else (s.noteWalk x).vsideTrap t.cause t.value.toNat t.telem t.gpa

/-! ### Lanes that become free (R101, R119) -/

/-- The earmarks with the property end, and their lanes become free (R110, R119). -/
def State.endEarmarks (s : State) (cl : Nat) (which : Nat × Nat → Bool) : State :=
  let x := s.cluster cl
  let lanes := (x.lanes.map fun p => (p.1, if p.2.mark.any which then p.2.unmarked else p.2)).filter fun p => p.2 != .free
  s.setCluster cl { x with lanes := lanes }

/-- The earmarks held for a thread end (R110, R119). -/
def State.dropEarmarks (s : State) (g : Nat) : State := s.endEarmarks (clusterOf g) fun m => m.1 == g

/-! ### The revocation (R119 to R123, R125) -/

/-- How many lanes of a revoked thread become earmarked for a waiter (R119). -/
def State.earmarksFrom (s : State) (g : Nat) : Option Nat → Nat
  | none => 0
  | some w =>
    min ((s.ctx g).lanes - (s.ctx g).gres)
      ((s.ctx w).short - (s.cluster (clusterOf w)).earmarkedFor w)

/-- The pending LANE_SPILL of a fault (R125): a spill fault is vector-side, of KIND 5 (R314, R317). -/
def AccFault.pending (x : AccFault) : PendingRevoke := .spill (BitVec.ofNat 64 x.addr) (x.info .spill 0 none).telem

/-- The spill of a context's vector state (R122, R123, R125): its writes, the pending trap. -/
def State.spill (s : State) (g cause : Nat) : State × PendingRevoke :=
  let c := s.ctx g
  let ag := s.userAgent g
  let a := c.vspill.toNat
  match s.storeLines g ag ((a + 64) % 2 ^ 64) c.spillLines with
  | (s, some f) =>
    (((s.unitFault f).store g ag .spill .lane 15 ((a + 8) % 2 ^ 64) (c.spillHeader 3 cause) false).1, f.pending)
  | (s, none) =>
    match s.store g ag .spill .lane 15 ((a + 8) % 2 ^ 64) (c.spillHeader 1 cause) false with
    | (s, .ok ()) => (s, .revoke cause)
    | (s, .error f) => (s.unitFault f, f.pending)

/-- What the creels of the lanes hold of a spill (R122, R199): its lines, dealt out over the lanes. -/
def creelShares (lanes : List Nat) (ps : List Pending) (creels : Assoc (List CreelLine)) : Assoc (List CreelLine) :=
  (lanes.zip (List.range lanes.length)).foldl (fun m l =>
    let share := (ps.zip (List.range ps.length)).filterMap fun p =>
      if p.2 % lanes.length = l.2 then
        some { loc := p.1.loc, key := p.1.key, bytes := p.1.bytes, poison := p.1.poison : CreelLine }
      else none
    if share.isEmpty then aerase m l.1 else aset m l.1 share) creels

/-- SETVL or SETVLI. -/
def setsLength (i : Instr) : Bool :=
  match i with
  | .setvl _ _ _ | .setvli _ _ _ => true
  | _ => false

/-- The words of the entries stand one after the other from an address on, up to the PC. -/
def Ctx.runOn (c : Ctx) : Word → List VqEntry → Bool
  | a, [] => a == c.pc
  | a, e :: rest => e.addr == a && c.runOn (a + 4) rest

/-- The queue before its oldest SETVL or SETVLI, and from it on, where scalar decode has taken nothing but instructions of
the queue since (R126). -/
def Ctx.atAllocator (c : Ctx) : Option (List VqEntry × List VqEntry) :=
  let tail := c.vq.dropWhile fun e => !(setsLength e.instr)
  match tail with
  | [] => none
  | e :: _ =>
    if !e.passed && c.runOn e.addr tail then some (c.vq.takeWhile (fun e => !(setsLength e.instr)), tail) else none

/-- The SETVL at the allocator when a revocation comes is squashed with what follows it, and is the point at which the trap is
taken (R126). Scalar decode goes back to it, with the decode type and count of then (log 99). -/
def Ctx.unissue (c : Ctx) : Ctx :=
  match c.atAllocator with
  | some (older, e :: rest) =>
    { c with vq := older, pc := e.addr, dtype := c.vtype, dcode := c.ncode,
             svHold := (e :: rest).foldl (fun h x => h ||| x.after) c.svHold }
  | _ => c

/-- The cause under which a thread is revoked (R126): a pre-emption request that meets the revocation revokes instead; whether
it came in the same cycle is a free choice (log 77). -/
def State.causeFor (s : State) (g cause : Nat) : Nat :=
  if (s.ctx g).preempt != .none && Config.freeBool (s.freeCount + g) then 0 else cause

/-- A thread that holds lanes is revoked (R119 to R122): its queued vector instructions stand in the replay queue, its
state is spilled through the creels, its lanes drain, for a waiter as far as the cause earmarks them. -/
def State.forceRevoke (s : State) (g cause : Nat) (waiter : Option Nat) : State :=
  let c := s.ctx g
  if c.lanes = 0 then s
  else
    let marks := s.earmarksFrom g waiter
    let cause := s.causeFor g cause
    let c' := c.unissue
    let s := s.setCtx g { c'.toReplay c'.vq 0 with vq := [] }
    let s := s.drain g (fun p => p.path == .lane)
    match s.seenFrom (dieOf g) fun s => s.spill g cause with
    | (s, pending) =>
      let written := (s.ctx g).pend.filter fun p => p.path == .lane
      let s := s.drain g (fun p => p.path == .lane)
      let cl := s.cluster (clusterOf g)
      let kept := c.vec.lanes.take (c.lanes - marks)
      let lanes := markLanes (markLanes cl.lanes kept (.draining g none))
        (c.vec.lanes.drop (c.lanes - marks)) (.draining g (waiter.map fun w => (w, s.clock)))
      let s := s.setCluster (clusterOf g) { cl with lanes := lanes, creels := creelShares c.vec.lanes written cl.creels }
      let c := s.ctx g
      let s := s.setCtx g { c with vec := {}, vl := 0, revoke := some pending }
      s.count c.fn fun u => { u with revokes := aset u.revokes cause (aget 0 u.revokes cause + 1) }

/-! ### The points at which it is taken (R124) -/

/-- The pending trap is about to be taken: what the revocation squashed belongs to it. -/
def Ctx.ownReplay (c : Ctx) : Ctx :=
  { c with
    revoke := none
    replay := c.replay.map fun e => if e.depth = 0 then { e with depth := c.trapDepth + 1 } else e }

/-- RVEC as R124 reads it: 0 where the read faults or returns poison. -/
def State.readRvec (s : State) : State × Word :=
  match s.load s.cur (s.userAgent s.cur) .load .lane 15 s.me.vspill.toNat 8 with
  | (s, .error x) => (s.unitFault x, 0)
  | (s, .ok (bytes, poison)) => (s, if poison then 0 else BitVec.ofNat 64 (leNat bytes))

/-- The pending LANE_REVOKE or LANE_SPILL is taken (R124, R125): TVAL is VSPILL as it stands (log 78); LANE_SPILL is
vector-side, and the scalar stream resumes at the instruction that took it (R317). -/
def State.takeRevoke (s : State) (r : PendingRevoke) : State :=
  let c := s.me
  let s := s.setMe c.ownReplay
  match r with
  | .spill a telem =>
    (s.setMe { s.me with resume := c.here }).trapAt .supervisor
      { cause := 0x181, value := a, epc := c.here, telem := telem, vside := true }
  | .revoke _ =>
    if c.level = .user ∧ !c.uip then
      match s.readRvec with
      | (s, v) => if v = 0 then s.trapHere 0x180 c.vspill else s.userTrap v
    else s.trapHere 0x180 c.vspill

/-- A point of R124: the pending trap is taken before any effect, else the instruction goes on. -/
def State.atPoint (s : State) (k : State → State) : State :=
  match s.me.revoke with
  | some r => s.takeRevoke r
  | none => k s

/-! ### The events -/

/-- The waiters of a cluster whose waiting time has reached the starvation bound and whose shortfall the earmarks do
not cover (R119). -/
def State.starving (s : State) (g : Nat) : Bool :=
  (s.ctx g).isWaiter && decide (65536 ≤ (s.ctx g).waiting) &&
  decide ((s.cluster (clusterOf g)).earmarkedFor g < (s.ctx g).short)

/-- Of two candidates, the victim R119 picks first: lowest own level, most lanes beyond the reservation, highest core
id and context. -/
def State.victimFirst (s : State) (x y : Nat) : Bool :=
  let a := s.ctx x
  let b := s.ctx y
  if a.prio != b.prio then decide (a.prio.toNat < b.prio.toNat)
  else if a.lanes - a.gres ≠ b.lanes - b.gres then decide (b.lanes - b.gres < a.lanes - a.gres)
  else decide (y < x)

/-- The victim of a waiter, if there is one (R119). -/
def State.victim (s : State) (w : Nat) : Option Nat :=
  ((clusterCtxs (clusterOf w)).filter fun g =>
    (s.ctx g).live && decide ((s.ctx g).gres < (s.ctx g).lanes) &&
    decide ((s.ctx g).prio.toNat < (s.ctx w).prio.toNat)).foldl
    (fun best g => match best with
      | none => some g
      | some b => if s.victimFirst g b then some g else some b) none

/-- The starvation cause acts for a waiter (R119): one victim is revoked. -/
def State.starve (s : State) (w : Nat) (name : String) : Out :=
  match s.victim w with
  | none => .refused (.notEnabled name)
  | some v => whenEnabled name (s.starving w) (s.forceRevoke v 2 (some w))

/-- The waiter for which the starvation cause takes a thread's grant, if there is one (R119). -/
def State.starvedBy (s : State) (g : Nat) : Option Nat :=
  (clusterCtxs (clusterOf g)).find? fun w => s.starving w && s.victim w == some g

/-- A cause for which a thread's grant is taken by force is there (R119): a pre-emption, a quarantined lane of the grant, a
waiter whose first victim it is. -/
def State.revocable (s : State) (g cause : Nat) : Bool :=
  match cause with
  | 0 => (s.ctx g).preempt != .none
  | 1 => (s.ctx g).vec.lanes.any fun l => aget LaneState.free (s.cluster (clusterOf g)).lanes l == .quarantined
  | 2 => (s.starvedBy g).isSome
  | _ => false

/-- FORCED_REVOCATION (R119 to R122): a request whose cause is there reaches a thread that holds lanes. The boundary is where
its oldest queued instruction stands. -/
def execForcedRevocation (g cause : Nat) (s : State) : Out :=
  whenEnabled "FORCED_REVOCATION" ((s.ctx g).live && (s.ctx g).lanes != 0 && s.revocable g cause)
    (s.forceRevoke g cause (if cause = 2 then s.starvedBy g else none))

/-- STARVATION_REVOCATION (R119): a waiter's waiting time reaches 65,536 cycles and its first victim is revoked. -/
def execStarvationRevocation (g : Nat) (s : State) : Out := s.starve g "STARVATION_REVOCATION"

/-- STARVATION_VICTIM_PICK (R119): a further victim, while the earmarks do not cover the shortfall. -/
def execStarvationVictimPick (g : Nat) (s : State) : Out := s.starve g "STARVATION_VICTIM_PICK"

/-- An earmark has been held for 65,536 cycles (R119). -/
def State.lapsed (s : State) (m : Nat × Nat) : Bool := decide (m.2 + 65536 ≤ s.clock)

/-- EARMARK_LAPSE (R119): the earmarks of a waiter that were made 65,536 cycles ago lapse. -/
def execEarmarkLapse (g : Nat) (s : State) : Out :=
  let old (m : Nat × Nat) : Bool := m.1 == g && s.lapsed m
  whenEnabled "EARMARK_LAPSE" ((s.cluster (clusterOf g)).lanes.any fun p => p.2.mark.any old)
    ((s.endEarmarks (clusterOf g) old).honour (clusterOf g))

/-- LANE_DRAIN_COMPLETE (R122): the lane's creel is empty, and the lane becomes free, reserved or earmarked. -/
def execLaneDrainComplete (cl lane : Nat) (s : State) : Out :=
  let x := s.cluster cl
  match aget LaneState.free x.lanes lane with
  | .draining _ d =>
    let dst := match d with | some w => LaneState.earmarked w.1 w.2 | none => .free
    .next ((s.setCluster cl { x with
      lanes := aput LaneState.free x.lanes lane dst, creels := aerase x.creels lane }).honour cl)
  | _ => .refused (.notEnabled "LANE_DRAIN_COMPLETE")

end Sys2Proof.Machine
end

