-- ==== Sys2Proof/Machine/ScalarMem.lean ====
section
/-! DEFINITION. Scalar loads and stores, PREF, CFLUSH and CINV: majors 0x10 to 0x12 and two codes of 0x13 (R193, R198,
R203, R204, R213, R214). -/

namespace Sys2Proof.Machine

/-- The address of a scalar load or store (R203). -/
def State.ea (s : State) (a : BitVec 5) (imm : BitVec 10) : Word := s.rv a + simm imm

/-- A scalar load (R203): `f` makes the register's value of the bytes' number. -/
def State.scalarLoad (s : State) (d a : BitVec 5) (c : BitVec 4) (imm : BitVec 10) (size : Nat)
    (f : Nat → Word) : State :=
  if s.rp a then s.poisonTrap a
  else
    match s.load s.cur s.agent .load .scalar c.toNat (s.ea a imm).toNat size with
    | (s, .error x) => s.trapFault .load x
    | (s, .ok (bytes, poison)) => s.retire d (f (leNat bytes)) poison poison

/-- A scalar store of the low bytes of register `d` (R203). -/
def State.scalarStore (s : State) (d a : BitVec 5) (c : BitVec 4) (imm : BitVec 10) (size : Nat) : State :=
  if s.rp a then s.poisonTrap a
  else
    match s.store s.cur s.agent .store .scalar c.toNat (s.ea a imm).toNat (leBytes size (s.rv d).toNat) (s.rp d) with
    | (s', .error x) => s'.trapFault .store x
    | (s', .ok ()) => (s'.setMe (s'.me.consume (s.rp d))).advance

/-- A number of `n` bits sign-extended to a word. -/
def signed (n v : Nat) : Word := (BitVec.ofNat n v).signExtend 64

/-- LD.B (R203). -/
def execLdB (d a : BitVec 5) (c : BitVec 4) (imm : BitVec 10) (s : State) : Out := .next (s.scalarLoad d a c imm 1 (signed 8))
/-- LD.H (R203). -/
def execLdH (d a : BitVec 5) (c : BitVec 4) (imm : BitVec 10) (s : State) : Out := .next (s.scalarLoad d a c imm 2 (signed 16))
/-- LD.W (R203). -/
def execLdW (d a : BitVec 5) (c : BitVec 4) (imm : BitVec 10) (s : State) : Out := .next (s.scalarLoad d a c imm 4 (signed 32))
/-- LD.D (R203). -/
def execLdD (d a : BitVec 5) (c : BitVec 4) (imm : BitVec 10) (s : State) : Out :=
  .next (s.scalarLoad d a c imm 8 (BitVec.ofNat 64))
/-- LD.BU (R203). -/
def execLdBu (d a : BitVec 5) (c : BitVec 4) (imm : BitVec 10) (s : State) : Out :=
  .next (s.scalarLoad d a c imm 1 (BitVec.ofNat 64))
/-- LD.HU (R203). -/
def execLdHu (d a : BitVec 5) (c : BitVec 4) (imm : BitVec 10) (s : State) : Out :=
  .next (s.scalarLoad d a c imm 2 (BitVec.ofNat 64))
/-- LD.WU (R203). -/
def execLdWu (d a : BitVec 5) (c : BitVec 4) (imm : BitVec 10) (s : State) : Out :=
  .next (s.scalarLoad d a c imm 4 (BitVec.ofNat 64))
/-- ST.B (R203). -/
def execStB (d a : BitVec 5) (c : BitVec 4) (imm : BitVec 10) (s : State) : Out := .next (s.scalarStore d a c imm 1)
/-- ST.H (R203). -/
def execStH (d a : BitVec 5) (c : BitVec 4) (imm : BitVec 10) (s : State) : Out := .next (s.scalarStore d a c imm 2)
/-- ST.W (R203). -/
def execStW (d a : BitVec 5) (c : BitVec 4) (imm : BitVec 10) (s : State) : Out := .next (s.scalarStore d a c imm 4)
/-- ST.D (R203). -/
def execStD (d a : BitVec 5) (c : BitVec 4) (imm : BitVec 10) (s : State) : Out := .next (s.scalarStore d a c imm 8)

/-- PREF (R213): at level 0 the line enters the core's L1, at level 1 the die's L2, unless the prefetch is dropped; it
never traps. The A bits its walk sets stay. -/
def execPref (l a : BitVec 5) (imm : BitVec 10) (s : State) : Out :=
  let at_ := (s.ea a imm).toNat
  if s.rp a ∨ inWindow at_ then .next s.advance
  else
    match (s.beforeWalk s.cur s.agent .load at_ 1).resolve s.agent .load at_ 1 with
    | (_, .error _) => .next s.advance
    | (t, .ok parts) =>
      let touched := match parts with
        | p :: _ =>
          if Config.freeBool s.freeCount || decide (deviceEnd ≤ p.place.loc) then t
          else if l = 0 then t.touchL1 (coreOf t.cur) p.place.loc false
          else t.passL2 (dieOf t.cur) p.place.loc
        | [] => t
      .next touched.advance

/-- What CFLUSH and CINV leave of a line in an L1 (R214). -/
def Core.maintain (x : Core) (line : Nat) (remove : Bool) : Core :=
  if remove then { x with l1 := x.l1.filter fun l => l.line != line }
  else { x with l1 := x.l1.map fun l => if l.line = line then { l with dirty := false } else l }

/-- Every dirty copy of a line is written back to HBM, and every copy removed where `remove` says so (R214). -/
def State.maintain (s : State) (line : Nat) (remove : Bool) : State :=
  let s := { s with cores := s.cores.map fun (x : Nat × Core) => (x.1, x.2.maintain line remove) }
  if remove then s.dropL2 fun _ l => l.line == line
  else { s with l2 := s.l2.map fun (p : Nat × L2Line) => if p.2.line = line then (p.1, { p.2 with dirty := false }) else p }

/-- CFLUSH and CINV (R198, R214): a store of the class on the SCALAR path, checked as a one-byte load. -/
def State.cacheOp (s : State) (a : BitVec 5) (c : BitVec 4) (remove : Bool) : State :=
  if s.rp a then s.poisonTrap a
  else if s.me.level ≠ .firmware ∧ inWindow (s.rv a).toNat then s.advance
  else
    match (s.beforeWalk s.cur s.agent .load (s.rv a).toNat 1).resolve s.agent .load (s.rv a).toNat 1 with
    | (_, .error x) => s.trapFault .load x
    | (s, .ok parts) =>
      match parts with
      | [] => s.advance
      | p :: _ =>
        let line := p.place.loc / 64
        let s := s.drain s.cur fun e => orderedBefore .scalar c.toNat e ||
          (e.path == .scalar && overlaps e.loc e.size (line * 64) 64)
        (if p.place.loc < deviceEnd then s.maintain line remove else s).advance

/-- CFLUSH (R214). -/
def execCflush (a : BitVec 5) (c : BitVec 4) (s : State) : Out := .next (s.cacheOp a c false)
/-- CINV (R214). -/
def execCinv (a : BitVec 5) (c : BitVec 4) (s : State) : Out := .next (s.cacheOp a c true)

end Sys2Proof.Machine
end

