-- ==== Sys2Proof/Machine/Atomics.lean ====
section
/-! DEFINITION. LD.acq, ST.rel and the atomic operations of major 0x13 (R232 to R237). -/

namespace Sys2Proof.Machine

/-- LD.acq (R232): loads are performed when they run, so every younger access follows it. -/
def execLdAcq (d a : BitVec 5) (_sx : BitVec 2) (c : BitVec 4) (s : State) : Out :=
  .next (if s.rp a then s.poisonTrap a
    else if (s.rv a).toNat % 8 ≠ 0 then s.trapHere 0x0F0 (s.rv a)
    else
      match s.load s.cur s.agent .load .scalar c.toNat (s.rv a).toNat 8 with
      | (s, .error x) => s.trapFault .load x
      | (s, .ok (bytes, poison)) => s.retire d (BitVec.ofNat 64 (leNat bytes)) poison poison)

/-- The older accesses a release orders (R232): SCALAR and LANE, with HOST where the release acts outside the
package. -/
def releases (outside : Bool) (p : Pending) : Bool :=
  p.path == .scalar || p.path == .lane || (outside && p.path == .host)

/-- No agent lies in a thread's crew scope but the thread itself (R218): no other thread of its crew is live, and it holds
no lanes. -/
def State.aloneInCrew (s : State) (g : Nat) : Bool :=
  (s.ctx g).lanes == 0 &&
    !(s.ctxs.any fun p => p.1 != g && p.2.live && p.2.crew == (s.ctx g).crew && p.2.crew.isSome)

/-- A release orders nothing beyond its class (R233): it names crew scope, where no agent is that could see the order, and
the free choice is so (log 76). A release outside the package acts at system scope (R232). -/
def State.unscoped (s : State) (sx : BitVec 2) (outside : Bool) : Bool :=
  sx == 0 && !outside && s.aloneInCrew s.cur && Config.freeBool s.freeCount

/-- ST.rel (R232): a point of R124, since it waits for older vector memory instructions; the older SCALAR and LANE
accesses are performed, then the store is made. -/
def execStRel (d a : BitVec 5) (sx : BitVec 2) (c : BitVec 4) (s : State) : Out :=
  .next (s.atPoint fun s =>
    if s.rp a then s.poisonTrap a
    else if (s.rv a).toNat % 8 ≠ 0 then s.trapHere 0x0F0 (s.rv a)
    else
      match (s.beforeWalk s.cur s.agent .store (s.rv a).toNat 8).resolve s.agent .store (s.rv a).toNat 8 with
      | (_, .error x) => s.trapFault .store x
      | (t, .ok parts) =>
        let t := if s.unscoped sx (outsidePackage parts) then t else t.drain t.cur (releases (outsidePackage parts))
        ((t.storeParts t.cur .scalar c.toNat parts (leBytes 8 (s.rv d).toNat) (s.rp d)).setMe
          ((t.storeParts t.cur .scalar c.toNat parts (leBytes 8 (s.rv d).toNat) (s.rp d)).me.consume (s.rp d))).advance)

/-- An atomic operation on `n` bytes (R234 to R236): `f` gives the new value, or none for no write. The result is the old
value sign-extended, poisoned when the old value is. -/
def State.amo (s : State) (d a : BitVec 5) (n cls : Nat) (sources : Bool)
    (f : Nat → Bool → Option (Nat × Bool)) : State :=
  if s.rp a then s.poisonTrap a
  else if (s.rv a).toNat % n ≠ 0 then s.trapHere 0x0F0 (s.rv a)
  else
    match s.atomicPlace s.cur s.agent (s.rv a).toNat n with
    | (s, .error x) => s.trapFault .atomic x
    | (s, .ok p) =>
      match s.atomicRead s.cur cls p n with
      | (s, bytes, poison) =>
        let old := leNat bytes
        let s := match f old poison with
          | none => s
          | some (v, q) => if s.locAbsent p.loc then s else s.writeHome p.loc (leBytes n v) q p.key
        s.retire d (signed (8 * n) old) poison (poison || sources)

/-- An operation that always writes: poisoned where the old value or sb is. -/
def State.amoWrite (s : State) (d a b : BitVec 5) (c : BitVec 4) (n : Nat) (f : Nat → Nat → Nat) : State :=
  s.amo d a n c.toNat (s.rp b) fun old p => some (f old ((s.rv b).toNat % 2 ^ (8 * n)), p || s.rp b)

/-- The lesser or greater of two numbers of `n` bits read signed (R234). -/
def pickSigned (n : Nat) (greater : Bool) (x y : Nat) : Nat :=
  if (BitVec.ofNat n x).slt (BitVec.ofNat n y) == greater then y else x

/-- AMOCAS (R234, R235): no write where old or sd is poisoned, or where they differ. -/
def State.amoCas (s : State) (d a b : BitVec 5) (c : BitVec 4) (n : Nat) : State :=
  s.amo d a n c.toNat (s.rp b || s.rp d) fun old p =>
    if p || s.rp d || old != (s.rv d).toNat % 2 ^ (8 * n) then none
    else some ((s.rv b).toNat % 2 ^ (8 * n), s.rp b)

/-- AMOADD.W (R234, R235). -/
def execAmoaddW (d a b : BitVec 5) (c : BitVec 4) (s : State) : Out :=
  .next (s.amoWrite d a b c 4 (fun x y => x + y))
/-- AMOADD.D (R234, R235). -/
def execAmoaddD (d a b : BitVec 5) (c : BitVec 4) (s : State) : Out :=
  .next (s.amoWrite d a b c 8 (fun x y => x + y))
/-- AMOMIN.W (R234, R235). -/
def execAmominW (d a b : BitVec 5) (c : BitVec 4) (s : State) : Out :=
  .next (s.amoWrite d a b c 4 (pickSigned 32 false))
/-- AMOMIN.D (R234, R235). -/
def execAmominD (d a b : BitVec 5) (c : BitVec 4) (s : State) : Out :=
  .next (s.amoWrite d a b c 8 (pickSigned 64 false))
/-- AMOMAX.W (R234, R235). -/
def execAmomaxW (d a b : BitVec 5) (c : BitVec 4) (s : State) : Out :=
  .next (s.amoWrite d a b c 4 (pickSigned 32 true))
/-- AMOMAX.D (R234, R235). -/
def execAmomaxD (d a b : BitVec 5) (c : BitVec 4) (s : State) : Out :=
  .next (s.amoWrite d a b c 8 (pickSigned 64 true))
/-- AMOAND.W (R234, R235). -/
def execAmoandW (d a b : BitVec 5) (c : BitVec 4) (s : State) : Out :=
  .next (s.amoWrite d a b c 4 (fun x y => x &&& y))
/-- AMOAND.D (R234, R235). -/
def execAmoandD (d a b : BitVec 5) (c : BitVec 4) (s : State) : Out :=
  .next (s.amoWrite d a b c 8 (fun x y => x &&& y))
/-- AMOOR.W (R234, R235). -/
def execAmoorW (d a b : BitVec 5) (c : BitVec 4) (s : State) : Out :=
  .next (s.amoWrite d a b c 4 (fun x y => x ||| y))
/-- AMOOR.D (R234, R235). -/
def execAmoorD (d a b : BitVec 5) (c : BitVec 4) (s : State) : Out :=
  .next (s.amoWrite d a b c 8 (fun x y => x ||| y))
/-- AMOXOR.W (R234, R235). -/
def execAmoxorW (d a b : BitVec 5) (c : BitVec 4) (s : State) : Out :=
  .next (s.amoWrite d a b c 4 (fun x y => x ^^^ y))
/-- AMOXOR.D (R234, R235). -/
def execAmoxorD (d a b : BitVec 5) (c : BitVec 4) (s : State) : Out :=
  .next (s.amoWrite d a b c 8 (fun x y => x ^^^ y))
/-- AMOSWP.W (R234, R235). -/
def execAmoswpW (d a b : BitVec 5) (c : BitVec 4) (s : State) : Out :=
  .next (s.amoWrite d a b c 4 (fun _ y => y))
/-- AMOSWP.D (R234, R235). -/
def execAmoswpD (d a b : BitVec 5) (c : BitVec 4) (s : State) : Out :=
  .next (s.amoWrite d a b c 8 (fun _ y => y))
/-- AMOCAS.W (R234, R235). -/
def execAmocasW (d a b : BitVec 5) (c : BitVec 4) (s : State) : Out := .next (s.amoCas d a b c 4)
/-- AMOCAS.D (R234, R235). -/
def execAmocasD (d a b : BitVec 5) (c : BitVec 4) (s : State) : Out := .next (s.amoCas d a b c 8)

end Sys2Proof.Machine
end

