-- ==== Sys2Proof/Machine/BarObj.lean ====
section
/-! DEFINITION. Barrier objects: their layout and what an arrival, a delivery and an observation make of one (R263, R264,
R266). -/

namespace Sys2Proof.Machine

/-! ### The object (R263, R264) -/

/-- A valid barrier object by its fields. -/
structure BarObj where
  expect  : Nat
  arrived : Nat
  phase   : Nat
  ovr     : Bool
  bovr    : Bool
  bytes   : Nat
  deriving DecidableEq, Repr

/-- The object in 128 bits; none where it is invalid. -/
def BarObj.of (x : Nat) : Option BarObj :=
  if bitsOf x 0 16 = 0 ∨ bitsOf x 38 26 ≠ 0 ∨ bitsOf x 112 16 ≠ 0 then none
  else
    some { expect := bitsOf x 0 16, arrived := bitsOf x 16 16, phase := bitsOf x 32 4, ovr := bitsOf x 36 1 = 1,
           bovr := bitsOf x 37 1 = 1, bytes := bitsOf x 64 48 }

/-- The object as its 16 bytes. -/
def BarObj.bytesOf (o : BarObj) : List Byte :=
  leBytes 16 (o.expect + o.arrived * 2 ^ 16 + o.phase * 2 ^ 32 + ofBool o.ovr * 2 ^ 36 + ofBool o.bovr * 2 ^ 37 +
    o.bytes * 2 ^ 64)

/-- The phase completes. -/
def BarObj.complete (o : BarObj) : BarObj := { o with phase := (o.phase + 1) % 16, arrived := 0, bytes := 0 }

/-- The phase completes where every arrival and byte has come. -/
def BarObj.settle (o : BarObj) : BarObj := if o.arrived = o.expect ∧ o.bytes = 0 then o.complete else o

/-- An arrival of `c`. -/
def BarObj.arrive (o : BarObj) (c : Nat) : BarObj :=
  (if o.expect < o.arrived + c then { o with ovr := true }.complete else { o with arrived := o.arrived + c }).settle

/-- A delivery of `n` bytes. -/
def BarObj.deliver (o : BarObj) (n : Nat) : BarObj :=
  (if o.bytes < n then { o with bovr := true }.complete else { o with bytes := o.bytes - n }).settle

/-- What one observation of BWAIT answers: 2 for an overrun, 0 for another phase, none while it waits (R266). -/
def BarObj.observed (o : BarObj) (phase : Nat) : Option Nat :=
  if o.ovr || o.bovr then some 2 else if o.phase ≠ phase then some 0 else none

/-- A thread that waits on the object at a place finds that its BWAIT can go on (R91, R266): the phase has moved, an overrun
is set, or the object no longer reads as a valid one. -/
def State.barMoved (s : State) (loc : Nat) (key : Key) (phase : Nat) : Bool :=
  let r := s.readLoc loc 16 key
  r.2 || ((BarObj.of (leNat r.1)).map fun o => (o.observed phase).isSome).getD true

end Sys2Proof.Machine
end

