-- ==== Sys2Proof/Machine/Barrier.lean ====
section
/-! DEFINITION. The barrier instructions, major 0x35, and the decrement of a PUT (R257, R263 to R267). -/

namespace Sys2Proof.Machine

/-! ### Decrements and the object at an address -/

/-- A decrement at a PUT's end (R257, R264): the result of its completion message. -/
def State.putDecrement (s : State) (loc : Nat) (key : Key) (n : Nat) : State × Nat :=
  let r := s.readLoc loc 16 key
  if r.2 then (s, 3)
  else
    match BarObj.of (leNat r.1) with
    | none => (s, 2)
    | some o => (s.writeHome loc (o.deliver n).bytesOf false key, 0)

/-! ### The instructions (R265 to R267) -/

/-- A valid object found at an address: the state, and its place with its value, or the state that trapped. -/
def State.barObject (s : State) (a : Word) (cls : Nat) : State × Except State (Place × Nat × BarObj) :=
  match s.atomicPlace s.cur s.agent a.toNat 16 with
  | (s, .error x) => (s, .error (s.trapFault .atomic x))
  | (s, .ok p) =>
    match s.atomicRead s.cur cls p 16 with
    | (s, bytes, poison) =>
      if poison then (s, .error (s.poisonTrapAt a))
      else
        match BarObj.of (leNat bytes) with
        | none => (s, .error (s.trapOpen 0x207))
        | some o => (s, .ok (p, leNat bytes, o))

/-- What the barrier instructions share: poisoned operands, then alignment. -/
def State.barrierChecks (s : State) (a : BitVec 5) (others : List (BitVec 5)) (k : State → State) : State :=
  match (a :: others).find? fun r => s.rp r with
  | some r => s.poisonTrap r
  | none => if (s.rv a).toNat % 16 ≠ 0 then s.trapOpen 0x205 else k s

/-- A count of 1 to 65,535 (R266). -/
def barCount (b : Word) : Bool := decide (1 ≤ b.toNat) && decide (b.toNat ≤ 65535)

/-- BINIT (R266). -/
def execBinit (a b : BitVec 5) (c : BitVec 4) (s : State) : Out :=
  .next (s.barrierChecks a [b] fun s =>
    if !(barCount (s.rv b)) then s.trapOpen 0x206
    else
      match s.atomicPlace s.cur s.agent (s.rv a).toNat 16 with
      | (s, .error x) => s.trapFault .atomic x
      | (s, .ok p) =>
        let t := (s.atomicRead s.cur c.toNat p 16).1
        (t.writeHome p.loc (leBytes 16 (s.rv b).toNat) false p.key).advance)

/-- The releases of BARR and BEXP (R267): older SCALAR and LANE accesses are performed before the object is read, so that
the read-modify-write is one (R264); where it then traps, they are merely performed early. -/
def State.barrierRelease (s : State) : State := s.drain s.cur fun p => p.path == .scalar || p.path == .lane

/-- BARR (R266): a release, so a point of R124. -/
def execBarr (d a b : BitVec 5) (c : BitVec 4) (s : State) : Out :=
  .next (s.atPoint fun s => s.barrierChecks a [b] fun s =>
    if !(barCount (s.rv b)) then s.trapOpen 0x206
    else
      match s.barrierRelease.barObject (s.rv a) c.toNat with
      | (_, .error t) => t
      | (s, .ok (p, _, o)) =>
        let n := o.arrive (s.rv b).toNat
        let past := decide (o.expect < o.arrived + (s.rv b).toNat)
        (s.writeHome p.loc n.bytesOf false p.key).retire d
          (BitVec.ofNat 64 (o.phase + ofBool (n.phase != o.phase) * 16 + ofBool past * 32 + o.arrived * 2 ^ 16))
          false false)

/-- BEXP (R266): a release where it writes, so a point of R124. -/
def execBexp (d a b : BitVec 5) (c : BitVec 4) (s : State) : Out :=
  .next (s.atPoint fun s => s.barrierChecks a [b] fun s =>
    match s.barrierRelease.barObject (s.rv a) c.toNat with
    | (_, .error t) => t
    | (s, .ok (p, _, o)) =>
      let n := o.bytes + (s.rv b).toNat
      if 2 ^ 48 ≤ n then s.retire d 1 false false
      else (s.writeHome p.loc { o with bytes := n }.bytesOf false p.key).retire d 0 false false)

/-- BWAIT (R266): the object is observed each time the thread issues; at the bound once more, and 1 where it still
waits. -/
def execBwait (d a b : BitVec 5) (c : BitVec 4) (s : State) : Out :=
  .next (s.barrierChecks a [b] fun s =>
    match s.barObject (s.rv a) c.toNat with
    | (_, .error t) => t
    | (s, .ok (p, _, o)) =>
      let phase := bitsOf (s.rv b).toNat 0 4
      match o.observed phase, s.me.wait with
      | some v, _ => s.retire d (BitVec.ofNat 64 v) false false
      | none, some (.answered v) => s.retire d v false false
      | none, _ => s.setMe { s.me with wait := some (.bwait p.loc p.key phase ((s.rv b).toNat / 16)) })

/-- BQRY (R266). -/
def execBqry (d a b : BitVec 5) (c : BitVec 4) (s : State) : Out :=
  .next (s.barrierChecks a [b] fun s =>
    if 1 < (s.rv b).toNat then s.trapOpen 0x206
    else
      match s.barObject (s.rv a) c.toNat with
      | (_, .error t) => t
      | (s, .ok (_, x, _)) =>
        s.retire d (BitVec.ofNat 64 (bitsOf x (64 * (s.rv b).toNat) 64)) false false)

end Sys2Proof.Machine
end

