-- ==== Sys2Proof/Machine/Float.lean ====
section
/-! DEFINITION. Numbers (R4 to R25): type codes, floating formats, rounding, arithmetic, conversions, bit planes.
Encodings are natural numbers; flags have the layout of FSTAT bits 5 to 0. -/

namespace Sys2Proof.Machine

/-- Flags in the layout of FSTAT bits 5:0: SAT, NV, DZ, OF, UF, NX (R19). -/
abbrev Flags := BitVec 6

/-- No flag. -/
def noFlags : Flags := 0
/-- Invalid operation (R10). -/
def flagNV : Flags := 16
/-- Division of a finite nonzero value by zero. -/
def flagDZ : Flags := 8
/-- Overflow and inexact (R18). -/
def flagOFNX : Flags := 5
/-- Underflow. -/
def flagUF : Flags := 2
/-- Inexact. -/
def flagNX : Flags := 1
/-- Saturated (R7, R15). -/
def flagSAT : Flags := 32

/-! ### Type codes (R6) -/

/-- The element width in bits of a type code. -/
def typeWidth (t : Nat) : Nat := 8 * 2 ^ (t % 4)

/-- The type code names a float. -/
def typeFloat (t : Nat) : Bool := decide (8 ≤ t)

/-- The type code names a signed integer. -/
def typeSigned (t : Nat) : Bool := decide (t < 4)

/-- A floating format: exponent bits, fraction bits, the encoding of the largest finite magnitude, whether it has
infinities. -/
structure Format where
  ebits  : Nat
  mbits  : Nat
  maxFin : Nat
  hasInf : Bool
  deriving DecidableEq, Repr

/-- The format of a float type code (R8, R13, R14). -/
def formatOf (t : Nat) : Format :=
  match t with
  | 8 => { ebits := 4, mbits := 3, maxFin := 0x7E, hasInf := false }
  | 9 => { ebits := 5, mbits := 10, maxFin := 0x7BFF, hasInf := true }
  | 10 => { ebits := 8, mbits := 23, maxFin := 0x7F7FFFFF, hasInf := true }
  | 11 => { ebits := 11, mbits := 52, maxFin := 0x7FEFFFFFFFFFFFFF, hasInf := true }
  | 12 => { ebits := 5, mbits := 2, maxFin := 0x7B, hasInf := true }
  | _ => { ebits := 8, mbits := 7, maxFin := 0x7F7F, hasInf := true }

/-- The type code of a float code: FP64, FP32, FP16, BF16 (R36). -/
def floatCode (f : Nat) : Nat := match f with | 0 => 11 | 1 => 10 | 2 => 9 | _ => 13

/-- The default NaN of a float type (R10). -/
def defaultNaN (t : Nat) : Nat :=
  match t with
  | 8 => 0x7F
  | 9 => 0x7E00
  | 10 => 0x7FC00000
  | 11 => 0x7FF8000000000000
  | 12 => 0x7E
  | _ => 0x7FC0

/-- The sign bit of a format. -/
def Format.signBit (f : Format) : Nat := 2 ^ (f.ebits + f.mbits)

/-- The exponent bias. -/
def Format.bias (f : Format) : Int := 2 ^ (f.ebits - 1) - 1

/-- The exponent of the smallest subnormal: every value is a multiple of 2 to it. -/
def Format.qmin (f : Format) : Int := 1 - f.bias - f.mbits

/-- An encoding with its sign. -/
def Format.signed (f : Format) (neg : Bool) (mag : Nat) : Nat := if neg then f.signBit + mag else mag

/-- The encoding of an infinity. -/
def Format.inf (f : Format) (neg : Bool) : Nat := f.signed neg (f.maxFin + 1)

/-- What an encoding stands for: a NaN, an infinity, or (−1)^neg · m · 2^e. -/
inductive Value where
  | nan (signalling : Bool)
  | inf (neg : Bool)
  | fin (neg : Bool) (m : Nat) (e : Int)
  deriving DecidableEq, Repr

/-- Decode(x, T) (R5, R8, R13, R14). -/
def decodeFloat (t x : Nat) : Value :=
  let f := formatOf t
  let neg := bitsOf x (f.ebits + f.mbits) 1 = 1
  let ex := bitsOf x f.mbits f.ebits
  let fr := x % 2 ^ f.mbits
  if ex = 2 ^ f.ebits - 1 ∧ f.hasInf then
    if fr = 0 then .inf neg else .nan (bitsOf x (f.mbits - 1) 1 = 0)
  else if !f.hasInf && x % f.signBit = f.maxFin + 1 then .nan false
  else if ex = 0 then .fin neg fr f.qmin
  else .fin neg (2 ^ f.mbits + fr) (f.qmin + (ex - 1))

/-! ### Rounding (R9, R16, R18) -/

/-- A magnitude m · 2^e, with a part between it and the next when sticky, rounded to a multiple of 2^q: the multiple
and whether it is inexact. -/
def roundAt (rm : Nat) (neg : Bool) (m : Nat) (e : Int) (sticky : Bool) (q : Int) : Nat × Bool :=
  if q ≤ e then (m * 2 ^ (e - q).toNat, sticky)
  else
    let k := (q - e).toNat
    let kept := m / 2 ^ k
    let rem := m % 2 ^ k
    let half := 2 ^ (k - 1)
    let inexact := rem != 0 || sticky
    let above := decide (half < rem) || (rem == half && sticky)
    let tie := rem == half && !sticky
    let up := match rm with
      | 0 => above || (tie && kept % 2 == 1)
      | 1 => false
      | 2 => neg && inexact
      | 3 => !neg && inexact
      | _ => above || tie
    (if up then kept + 1 else kept, inexact)

/-- The mode takes an overflow of the sign to infinity (R18). -/
def overflowsToInf (rm : Nat) (neg : Bool) : Bool :=
  match rm with | 0 => true | 1 => false | 2 => neg | 3 => !neg | _ => true

/-- Round(y, T, rm) of a nonzero exact value (R5, R9, R18); a conversion into E4M3 or E5M2 then follows R15 under
the saturate bit. -/
def roundTo (t rm : Nat) (sat neg : Bool) (m : Nat) (e : Int) (sticky : Bool) : Nat × Flags :=
  let f := formatOf t
  let top : Int := (m.log2 : Int) + e
  let q := max (top - f.mbits) f.qmin
  let r := roundAt rm neg m e sticky q
  let mag := (q - f.qmin).toNat * 2 ^ f.mbits + r.1
  if f.maxFin < mag then
    if overflowsToInf rm neg then
      if t = 8 ∨ t = 12 then
        if sat then (f.signed neg f.maxFin, flagOFNX ||| flagSAT)
        else (if t = 8 then defaultNaN 8 else f.inf neg, flagOFNX)
      else (f.inf neg, flagOFNX)
    else (f.signed neg f.maxFin, flagOFNX)
  else
    let emin := f.qmin + f.mbits
    let tiny := decide (top < emin) &&
      !(decide (top = emin - 1) && (roundAt rm neg m e sticky (top - f.mbits)).1 == 2 ^ (f.mbits + 1))
    (f.signed neg mag, if r.2 then (if tiny then flagUF ||| flagNX else flagNX) else noFlags)

/-- Round of an exact value that may be zero: a zero keeps its sign. -/
def roundExact (t rm : Nat) (neg : Bool) (m : Nat) (e : Int) : Nat × Flags :=
  if m = 0 then ((formatOf t).signed neg 0, noFlags) else roundTo t rm false neg m e false

/-! ### Arithmetic (R9, R10) -/

/-- A signed integer times 2^e as a common form. -/
def signedOf (neg : Bool) (m : Nat) : Int := if neg then -(m : Int) else m

/-- The exact sum of two finite values: an integer and its exponent. -/
def addExact (n1 : Bool) (m1 : Nat) (e1 : Int) (n2 : Bool) (m2 : Nat) (e2 : Int) : Int × Int :=
  let e := min e1 e2
  (signedOf n1 (m1 * 2 ^ (e1 - e).toNat) + signedOf n2 (m2 * 2 ^ (e2 - e).toNat), e)

/-- Round of an exact sum: an exact zero has the common sign of two like operands, else +0, or −0 under RDN (R9). -/
def roundSum (t rm : Nat) (n1 n2 : Bool) (y : Int × Int) : Nat × Flags :=
  if y.1 = 0 then ((formatOf t).signed (if n1 = n2 then n1 else rm == 2) 0, noFlags)
  else roundTo t rm false (decide (y.1 < 0)) y.1.natAbs y.2 false

/-- The result of an operation with a NaN operand (R10). -/
def nanResult (t : Nat) (signalling : Bool) : Nat × Flags := (defaultNaN t, if signalling then flagNV else noFlags)

/-- The result of an invalid operation (R10). -/
def invalid (t : Nat) : Nat × Flags := (defaultNaN t, flagNV)

/-- The value is a signalling NaN. -/
def Value.sig : Value → Bool
  | .nan g => g
  | _ => false

/-- The value is a NaN. -/
def Value.isNan : Value → Bool
  | .nan _ => true
  | _ => false

/-- The sign of a value that is no NaN. -/
def Value.negative : Value → Bool
  | .nan _ => false
  | .inf n => n
  | .fin n _ _ => n

/-- The value with its sign turned. -/
def Value.negate : Value → Value
  | .nan g => .nan g
  | .inf n => .inf (!n)
  | .fin n m e => .fin (!n) m e

/-- x + y of values. -/
def addValues (t rm : Nat) (x y : Value) : Nat × Flags :=
  match x, y with
  | .nan g, y => nanResult t (g || y.sig)
  | x, .nan g => nanResult t (g || x.sig)
  | .inf n1, .inf n2 => if n1 = n2 then ((formatOf t).inf n1, noFlags) else invalid t
  | .inf n, _ => ((formatOf t).inf n, noFlags)
  | _, .inf n => ((formatOf t).inf n, noFlags)
  | .fin n1 m1 e1, .fin n2 m2 e2 => roundSum t rm n1 n2 (addExact n1 m1 e1 n2 m2 e2)

/-- x · y of values. -/
def mulValues (t rm : Nat) (x y : Value) : Nat × Flags :=
  match x, y with
  | .nan g, y => nanResult t (g || y.sig)
  | x, .nan g => nanResult t (g || x.sig)
  | .inf n1, .inf n2 => ((formatOf t).inf (n1 != n2), noFlags)
  | .inf n1, .fin n2 m2 _ => if m2 = 0 then invalid t else ((formatOf t).inf (n1 != n2), noFlags)
  | .fin n1 m1 _, .inf n2 => if m1 = 0 then invalid t else ((formatOf t).inf (n1 != n2), noFlags)
  | .fin n1 m1 e1, .fin n2 m2 e2 => roundExact t rm (n1 != n2) (m1 * m2) (e1 + e2)

/-- The exact quotient of two nonzero finite magnitudes, with enough bits to round: multiple, exponent, rest. -/
def divExact (t m1 : Nat) (e1 : Int) (m2 : Nat) (e2 : Int) : Nat × Int × Bool :=
  let k := (formatOf t).mbits + 4 + m2.log2
  (m1 * 2 ^ k / m2, e1 - e2 - k, m1 * 2 ^ k % m2 != 0)

/-- x / y of values. -/
def divValues (t rm : Nat) (x y : Value) : Nat × Flags :=
  match x, y with
  | .nan g, y => nanResult t (g || y.sig)
  | x, .nan g => nanResult t (g || x.sig)
  | .inf _, .inf _ => invalid t
  | .inf n1, .fin n2 _ _ => ((formatOf t).inf (n1 != n2), noFlags)
  | .fin n1 _ _, .inf n2 => ((formatOf t).signed (n1 != n2) 0, noFlags)
  | .fin n1 m1 e1, .fin n2 m2 e2 =>
    if m2 = 0 then (if m1 = 0 then invalid t else ((formatOf t).inf (n1 != n2), flagDZ))
    else if m1 = 0 then ((formatOf t).signed (n1 != n2) 0, noFlags)
    else
      let q := divExact t m1 e1 m2 e2
      roundTo t rm false (n1 != n2) q.1 q.2.1 q.2.2

/-- The integer square root, bit by bit from `2^(fuel−1)` down. -/
def isqrtFrom (n : Nat) : Nat → Nat → Nat
  | 0, r => r
  | fuel + 1, r => isqrtFrom n fuel (if (r + 2 ^ fuel) * (r + 2 ^ fuel) ≤ n then r + 2 ^ fuel else r)

/-- The integer square root. -/
def isqrt (n : Nat) : Nat := isqrtFrom n (n.log2 / 2 + 1) 0

/-- The square root of a nonzero magnitude, with enough bits to round. -/
def sqrtExact (t m : Nat) (e : Int) : Nat × Int × Bool :=
  let k0 := 2 * ((formatOf t).mbits + 4)
  let k := if (e - k0) % 2 = 0 then k0 else k0 + 1
  let n := m * 2 ^ k
  let r := isqrt n
  (r, (e - k) / 2, r * r != n)

/-- sqrt(x) of a value. -/
def sqrtValue (t rm : Nat) (x : Value) : Nat × Flags :=
  match x with
  | .nan g => nanResult t g
  | .inf n => if n then invalid t else ((formatOf t).inf false, noFlags)
  | .fin n m e =>
    if m = 0 then ((formatOf t).signed n 0, noFlags)
    else if n then invalid t
    else
      let q := sqrtExact t m e
      roundTo t rm false false q.1 q.2.1 q.2.2

/-- x · y + c of values, rounded once; NV for 0 × ∞ whatever c is (R10). -/
def fmaValues (t rm : Nat) (x y c : Value) : Nat × Flags :=
  let zeroInf := match x, y with
    | .inf _, .fin _ m _ => m == 0
    | .fin _ m _, .inf _ => m == 0
    | _, _ => false
  if zeroInf then invalid t
  else if x.isNan || y.isNan || c.isNan then nanResult t (x.sig || y.sig || c.sig)
  else
    match x, y with
    | .fin n1 m1 e1, .fin n2 m2 e2 => addValues t rm (.fin (n1 != n2) (m1 * m2) (e1 + e2)) c
    | _, _ => addValues t rm (.inf (x.negative != y.negative)) c

/-- The order of two values that are no NaNs; −0 and +0 are equal. -/
def Value.cmp (x y : Value) : Ordering :=
  match x, y with
  | .inf n1, .inf n2 => if n1 = n2 then .eq else if n1 then .lt else .gt
  | .inf n, _ => if n then .lt else .gt
  | _, .inf n => if n then .gt else .lt
  | .fin n1 m1 e1, .fin n2 m2 e2 =>
    let e := min e1 e2
    compare (signedOf n1 (m1 * 2 ^ (e1 - e).toNat)) (signedOf n2 (m2 * 2 ^ (e2 - e).toNat))
  | _, _ => .eq

/-- FMinN and FMaxN (R11). -/
def minMaxFloat (t : Nat) (isMax : Bool) (a b : Nat) : Nat × Flags :=
  let x := decodeFloat t a
  let y := decodeFloat t b
  let fl := if x.sig || y.sig then flagNV else noFlags
  if x.isNan then (if y.isNan then defaultNaN t else b, fl)
  else if y.isNan then (a, fl)
  else
    let less := match x.cmp y with
      | .lt => true
      | .gt => false
      | .eq => x.negative || !y.negative
    (if less != isMax then a else b, fl)

/-- The comparisons of R12. -/
inductive FCmp where
  | eq | ne | lt | le
  deriving DecidableEq, Repr

/-- A floating comparison with its flags (R12). -/
def compareFloat (t : Nat) (k : FCmp) (a b : Nat) : Bool × Flags :=
  let x := decodeFloat t a
  let y := decodeFloat t b
  let quiet := k == .eq || k == .ne
  if x.isNan || y.isNan then
    (k == .ne, if !quiet || x.sig || y.sig then flagNV else noFlags)
  else
    (match k with
      | .eq => x.cmp y == .eq
      | .ne => x.cmp y != .eq
      | .lt => x.cmp y == .lt
      | .le => x.cmp y != .gt, noFlags)

/-! ### Integers and conversions (R7, R15, R22) -/

/-- The integer an encoding of an integer type stands for. -/
def intOf (t x : Nat) : Int :=
  let w := typeWidth t
  if typeSigned t ∧ 2 ^ (w - 1) ≤ x % 2 ^ w then (x % 2 ^ w : Nat) - (2 ^ w : Nat) else (x % 2 ^ w : Nat)

/-- The encoding of an integer modulo 2^EW. -/
def encodeInt (w : Nat) (y : Int) : Nat := (y % (2 ^ w : Nat)).toNat

/-- The least integer of a type. -/
def intMin (t : Nat) : Int := if typeSigned t then -((2 ^ (typeWidth t - 1) : Nat) : Int) else 0

/-- The greatest integer of a type. -/
def intMax (t : Nat) : Int := if typeSigned t then (2 ^ (typeWidth t - 1) : Nat) - 1 else (2 ^ typeWidth t : Nat) - 1

/-- Sat(y, T) (R7): the encoding and the SAT flag. -/
def satInt (t : Nat) (y : Int) : Nat × Flags :=
  if y < intMin t then (encodeInt (typeWidth t) (intMin t), flagSAT)
  else if intMax t < y then (encodeInt (typeWidth t) (intMax t), flagSAT)
  else (encodeInt (typeWidth t) y, noFlags)

/-- A float converted to an integer type (R22). -/
def floatToInt (t rm : Nat) (x : Value) : Nat × Flags :=
  match x with
  | .nan _ => (0, flagNV)
  | .inf n => (encodeInt (typeWidth t) (if n then intMin t else intMax t), flagNV)
  | .fin n m e =>
    let r := roundAt rm n m e false 0
    let y := signedOf n r.1
    if y < intMin t then (encodeInt (typeWidth t) (intMin t), flagNV)
    else if intMax t < y then (encodeInt (typeWidth t) (intMax t), flagNV)
    else (encodeInt (typeWidth t) y, if r.2 then flagNX else noFlags)

/-- A value converted to a float type (R10, R15, R18, R22). -/
def valueToFloat (t rm : Nat) (sat : Bool) (x : Value) : Nat × Flags :=
  match x with
  | .nan g => nanResult t g
  | .inf n =>
    if t = 8 then
      if sat then ((formatOf 8).signed n (formatOf 8).maxFin, flagNX ||| flagSAT) else (defaultNaN 8, flagNV)
    else ((formatOf t).inf n, noFlags)
  | .fin n m e =>
    if m = 0 then ((formatOf t).signed n 0, noFlags) else roundTo t rm sat n m e false

/-- Cvt(x, S, T, rm, sat) (R22). -/
def convert (x src dst rm : Nat) (sat : Bool) : Nat × Flags :=
  match typeFloat src, typeFloat dst with
  | true, true => valueToFloat dst rm sat (decodeFloat src x)
  | true, false => floatToInt dst rm (decodeFloat src x)
  | false, true => valueToFloat dst rm sat (.fin (decide (intOf src x < 0)) (intOf src x).natAbs 0)
  | false, false => if sat then satInt dst (intOf src x) else (encodeInt (typeWidth dst) (intOf src x), noFlags)

/-! ### Bit planes (R24) -/

/-- The value of the first `p` of `planes` planes of an element with bits `b`, centred where `c` is set. -/
def planeValue (planes p : Nat) (c : Bool) (b : Nat) : Int :=
  let low := (List.range (p - 1)).foldl (fun (a : Int) i => a + (bitsOf b (planes - 2 - i) 1 * 2 ^ (planes - 2 - i) : Nat)) 0
  low - (bitsOf b (planes - 1) 1 * 2 ^ (planes - 1) : Nat) + (if c && decide (p < planes) then (2 ^ (planes - p - 1) : Nat) else 0)

end Sys2Proof.Machine
end

