-- ==== Sys2Proof/Machine/Flags.lean ====
section
/-! DEFINITION. The sticky flags and the rounding mode of FSTAT (R16, R19, R20). -/

namespace Sys2Proof.Machine

/-- Flags merge into FSTAT (R20): they are only ever set. -/
def Ctx.raise (c : Ctx) (f : Flags) : Ctx := { c with fstat := c.fstat ||| f.zeroExtend 64 }

/-- FSTAT.FRM (R19). -/
def Ctx.frm (c : Ctx) : Nat := bitsOf c.fstat.toNat 8 3

/-- The rounding mode of a scalar instruction: its field, or FRM for DYN (R16). -/
def Ctx.scalarRm (c : Ctx) (r : BitVec 3) : Nat := if r = 7 then c.frm else r.toNat

/-- The write of FSTAT (R16, R19): reserved bits read zero, a rounding code of 5 or more leaves FRM unchanged. -/
def fstatWrite (old new : Word) : Word :=
  let frm := if 5 ≤ bitsOf new.toNat 8 3 then bitsOf old.toNat 8 3 else bitsOf new.toNat 8 3
  BitVec.ofNat 64 (frm * 256 + bitsOf new.toNat 0 6)

/-- The end of a scalar floating-point instruction: the encoding with zeros above it, and its flags. -/
def State.retireF (s : State) (d : BitVec 5) (r : Nat × Flags) (p : Bool) : State :=
  (s.setMe (s.me.raise r.2)).retire d (BitVec.ofNat 64 r.1) p p

end Sys2Proof.Machine
end

