-- ==== Sys2Proof/WellFormed.lean ====
section
/-! DEFINITION. Which terms of Instr stand for an instruction word or an event of the machine: the checks of R43
that a row's operand fields decide, and the ranges of the numbers an event names. -/

namespace Sys2Proof

/-- Rounding codes 5 and 6 are no rounding mode (R16, ILL_RM). -/
def badRm (r : BitVec 3) : Bool := r == 5#3 || r == 6#3

/-- Type codes of kind 3 and width 2 or 3 are reserved pairs (R6, ILL_TYPE). -/
def badT4 (t : BitVec 4) : Bool := t == 14#4 || t == 15#4

/-- FENCE.P names at least two paths (R38). -/
def fewerThanTwo (p : BitVec 6) : Bool := p &&& (p - 1#6) == 0#6

/-- The checks of R43 that the operand fields of a row decide, in the order of its table: pairs of 'the check
fails' and the cause it then has. -/
def Instr.checks : Instr → List (Bool × IllCause)
  | .add _ _ _ => []
  | .sub _ _ _ => []
  | .and _ _ _ => []
  | .or _ _ _ => []
  | .xor _ _ _ => []
  | .sll _ _ _ => []
  | .srl _ _ _ => []
  | .sra _ _ _ => []
  | .slt _ _ _ => []
  | .sltu _ _ _ => []
  | .min _ _ _ => []
  | .max _ _ _ => []
  | .minu _ _ _ => []
  | .maxu _ _ _ => []
  | .clz _ _ => []
  | .ctz _ _ => []
  | .popc _ _ => []
  | .mul _ _ _ => []
  | .mulh _ _ _ => []
  | .mulhu _ _ _ => []
  | .div _ _ _ => []
  | .divu _ _ _ => []
  | .rem _ _ _ => []
  | .remu _ _ _ => []
  | .sel _ _ _ _ => []
  | .addi _ _ _ => []
  | .andi _ _ _ => []
  | .ori _ _ _ => []
  | .xori _ _ _ => []
  | .slti _ _ _ => []
  | .slli _ _ _ => []
  | .srli _ _ _ => []
  | .srai _ _ _ => []
  | .bfx _ _ p l => [(decide (64 < p.toNat + (l.toNat + 1)), .illRange)]
  | .bfi _ _ p l => [(decide (64 < p.toNat + (l.toNat + 1)), .illRange)]
  | .lih _ _ => []
  | .addpc _ _ => []
  | .fadd _ _ _ r _ => [(badRm r, .illRm)]
  | .fsub _ _ _ r _ => [(badRm r, .illRm)]
  | .fmul _ _ _ r _ => [(badRm r, .illRm)]
  | .fdiv _ _ _ r _ => [(badRm r, .illRm)]
  | .fsqrt _ _ r _ => [(badRm r, .illRm)]
  | .fmin _ _ _ _ => []
  | .fmax _ _ _ _ => []
  | .feq _ _ _ _ => []
  | .flt _ _ _ _ => []
  | .fle _ _ _ _ => []
  | .fma _ _ _ _ r _ => [(badRm r, .illRm)]
  | .fcvt _ _ r sx t => [(sx == t, .illFn), (badT4 sx || badT4 t, .illType), (badRm r, .illRm)]
  | .beq _ _ _ => []
  | .bne _ _ _ => []
  | .blt _ _ _ => []
  | .bge _ _ _ => []
  | .bltu _ _ _ => []
  | .bgeu _ _ _ => []
  | .jal _ _ => []
  | .jalr _ _ _ => []
  | .jtab _ _ _ => []
  | .ldB _ _ _ _ => []
  | .ldH _ _ _ _ => []
  | .ldW _ _ _ _ => []
  | .ldD _ _ _ _ => []
  | .stB _ _ _ _ => []
  | .stH _ _ _ _ => []
  | .stW _ _ _ _ => []
  | .stD _ _ _ _ => []
  | .ldBu _ _ _ _ => []
  | .ldHu _ _ _ _ => []
  | .ldWu _ _ _ _ => []
  | .pref l _ _ => [(decide (1 < l.toNat), .illRange)]
  | .ldAcq _ _ _ _ => []
  | .stRel _ _ _ _ => []
  | .amoaddW _ _ _ _ => []
  | .amoaddD _ _ _ _ => []
  | .amominW _ _ _ _ => []
  | .amominD _ _ _ _ => []
  | .amomaxW _ _ _ _ => []
  | .amomaxD _ _ _ _ => []
  | .amoandW _ _ _ _ => []
  | .amoandD _ _ _ _ => []
  | .amoorW _ _ _ _ => []
  | .amoorD _ _ _ _ => []
  | .amoxorW _ _ _ _ => []
  | .amoxorD _ _ _ _ => []
  | .amoswpW _ _ _ _ => []
  | .amoswpD _ _ _ _ => []
  | .amocasW _ _ _ _ => []
  | .amocasD _ _ _ _ => []
  | .cflush _ _ => []
  | .cinv _ _ => []
  | .crr _ _ => []
  | .crw _ _ => []
  | .crs _ _ _ => []
  | .crc _ _ _ => []
  | .fenceC k => [(k == 0, .illRange)]
  | .fenceP p => [(fewerThanTwo p, .illRange)]
  | .fenceSv k => [(k == 0, .illRange)]
  | .trap _ => []
  | .preempt => []
  | .resume => []
  | .setvec => []
  | .attest => []
  | .eret => []
  | .yield => []
  | .exit => []
  | .launch _ _ => []
  | .cbar _ _ => []
  | .prio _ _ => []
  | .tsleep _ _ => []
  | .twake _ _ => []
  | .setvl _ _ v => [(badT4 (v.extractLsb' 0 4), .illType), (badRm (v.extractLsb' 4 3), .illRm)]
  | .vdecl _ => []
  | .vgive => []
  | .vsave => []
  | .vrefill _ => []
  | .vgeom _ _ => []
  | .setvli _ v _ => [(badT4 (v.extractLsb' 0 4), .illType), (badRm (v.extractLsb' 4 3), .illRm)]
  | .vaddVV _ _ _ _ => []
  | .vsubVV _ _ _ _ => []
  | .vmulVV _ _ _ _ => []
  | .vmulhVV _ _ _ _ => []
  | .vminVV _ _ _ _ => []
  | .vmaxVV _ _ _ _ => []
  | .vandVV _ _ _ _ => []
  | .vorVV _ _ _ _ => []
  | .vxorVV _ _ _ _ => []
  | .vsllVV _ _ _ _ => []
  | .vsrlVV _ _ _ _ => []
  | .vsraVV _ _ _ _ => []
  | .vaddsVV _ _ _ _ => []
  | .vsubsVV _ _ _ _ => []
  | .vaddVS _ _ _ _ => []
  | .vsubVS _ _ _ _ => []
  | .vmulVS _ _ _ _ => []
  | .vmulhVS _ _ _ _ => []
  | .vminVS _ _ _ _ => []
  | .vmaxVS _ _ _ _ => []
  | .vandVS _ _ _ _ => []
  | .vorVS _ _ _ _ => []
  | .vxorVS _ _ _ _ => []
  | .vsllVS _ _ _ _ => []
  | .vsrlVS _ _ _ _ => []
  | .vsraVS _ _ _ _ => []
  | .vaddsVS _ _ _ _ => []
  | .vsubsVS _ _ _ _ => []
  | .vwadd _ _ _ _ => []
  | .vwmacc _ _ _ _ => []
  | .vwmaccu _ _ _ _ => []
  | .vnclip _ _ _ _ => []
  | .vfaddVV _ _ _ _ => []
  | .vfsubVV _ _ _ _ => []
  | .vfmulVV _ _ _ _ => []
  | .vfmaVV _ _ _ _ => []
  | .vfmsVV _ _ _ _ => []
  | .vfnmaVV _ _ _ _ => []
  | .vfdivVV _ _ _ _ => []
  | .vfminVV _ _ _ _ => []
  | .vfmaxVV _ _ _ _ => []
  | .vfaddVS _ _ _ _ => []
  | .vfsubVS _ _ _ _ => []
  | .vfmulVS _ _ _ _ => []
  | .vfmaVS _ _ _ _ => []
  | .vfmsVS _ _ _ _ => []
  | .vfnmaVS _ _ _ _ => []
  | .vfdivVS _ _ _ _ => []
  | .vfminVS _ _ _ _ => []
  | .vfmaxVS _ _ _ _ => []
  | .vfsqrt _ _ _ => []
  | .vfrsq _ _ _ => []
  | .vfrec _ _ _ => []
  | .vfexp2 _ _ _ => []
  | .vflog2 _ _ _ => []
  | .vfsin _ _ _ => []
  | .vfcos _ _ _ => []
  | .vcvt _ _ _ sx => [(badT4 sx, .illType)]
  | .vmv _ _ _ => []
  | .vbcast _ _ _ => []
  | .vidx _ _ => []
  | .vcmpEqVV _ _ _ _ => []
  | .vcmpNeVV _ _ _ _ => []
  | .vcmpLtVV _ _ _ _ => []
  | .vcmpLeVV _ _ _ _ => []
  | .vcmpGtVV _ _ _ _ => []
  | .vcmpGeVV _ _ _ _ => []
  | .vcmpEqVS _ _ _ _ => []
  | .vcmpNeVS _ _ _ _ => []
  | .vcmpLtVS _ _ _ _ => []
  | .vcmpLeVS _ _ _ _ => []
  | .vcmpGtVS _ _ _ _ => []
  | .vcmpGeVS _ _ _ _ => []
  | .vfcmpEq _ _ _ _ => []
  | .vfcmpNe _ _ _ _ => []
  | .vfcmpLt _ _ _ _ => []
  | .vfcmpLe _ _ _ _ => []
  | .vrsum _ _ _ _ => []
  | .vrmax _ _ _ _ => []
  | .vrmin _ _ _ _ => []
  | .vfrsum _ _ _ _ => []
  | .vfrmax _ _ _ _ => []
  | .mand _ _ _ => []
  | .mor _ _ _ => []
  | .mxor _ _ _ => []
  | .mnot _ _ => []
  | .mset _ => []
  | .mclr _ => []
  | .mcnt _ _ => []
  | .many _ _ => []
  | .mfirst _ _ => []
  | .vmaxix _ _ _ m => [(m == 0, .illRange)]
  | .vcprs _ _ _ m => [(m == 0, .illRange)]
  | .vexpd _ _ m => [(m == 0, .illRange)]
  | .vperm _ _ _ _ => []
  | .vpush _ _ _ _ => []
  | .vslup _ _ _ _ => []
  | .vsldn _ _ _ _ => []
  | .vrot _ _ _ _ => []
  | .vgrpt2 _ _ _ _ => []
  | .vgrpmsk _ _ _ _ => []
  | .vnofm _ _ _ _ => []
  | .vld _ _ _ _ => []
  | .vldff _ _ _ _ => []
  | .vldp _ _ _ _ _ => []
  | .vlds _ _ _ _ _ => []
  | .vldx _ _ _ _ _ => []
  | .vst _ _ _ _ => []
  | .vsts _ _ _ _ _ => []
  | .vstx _ _ _ _ _ => []
  | .vstxadd _ _ _ _ _ => []
  | .wform _ => []
  | .wsplit => []
  | .wzero _ => []
  | .wdrain _ _ _ => []
  | .wfmt _ _ => []
  | .wgath _ _ _ => []
  | .wldb _ _ => []
  | .wop _ _ t => [(decide (5 ≤ t.toNat), .illType)]
  | .wops _ _ t => [(decide (5 ≤ t.toNat), .illType)]
  | .wbp _ _ p => [(decide (8 ≤ p.toNat), .illRange)]
  | .wopv _ _ _ _ t => [(decide (5 ≤ t.toNat), .illType)]
  | .send _ a _ _ => [(decide (28 < a.toNat), .illRange)]
  | .sendP a _ _ => [(decide (28 < a.toNat), .illRange)]
  | .mpop _ _ b _ => [(b == 0 || decide (28 < b.toNat), .illRange)]
  | .mret => []
  | .waitm _ _ _ => []
  | .eng _ a _ _ => [(decide (28 < a.toNat), .illRange)]
  | .put _ _ _ _ _ => []
  | .putm _ _ _ _ _ => []
  | .chbind _ _ _ => []
  | .chen _ _ => []
  | .chdis _ _ => []
  | .chpendRead _ _ _ => []
  | .chpendSet _ _ _ => []
  | .chpendClear _ _ _ => []
  | .binit _ _ _ => []
  | .barr _ _ _ _ => []
  | .bexp _ _ _ _ => []
  | .bwait _ _ _ _ => []
  | .bqry _ _ _ _ => []
  | .tqpush _ _ _ _ => []
  | .queueOpen _ _ _ _ => []
  | .queueClose _ _ _ _ => []
  | .queueResume _ _ _ _ => []
  | .queuePurge _ _ _ _ => []
  | .tget _ _ _ _ => []
  | .tdone _ _ => []
  | .tdepRead _ _ _ _ => []
  | .tdepAdd _ _ _ _ => []
  | .tdepSet _ _ _ _ => []
  | .tileq _ _ _ _ => []
  | .xdisp _ _ _ _ _ => []
  | .xcomb _ _ _ _ _ => []
  | .dreg _ _ => []
  | .ddel _ _ => []
  | .dmove _ _ _ => []
  | .solicit _ _ _ _ => []
  | .reply _ _ _ => []
  | .cwait _ _ _ => []
  | .cresResult _ _ _ => []
  | .cresStatus _ _ _ => []
  | .cresFree _ _ _ => []
  | .cresAbandon _ _ _ => []
  | .tlbinvVa _ _ _ => []
  | .tlbinvAll _ _ _ => []
  | .tlbinvRoot _ _ _ => []
  | .tlbinvGpa _ _ _ => []
  | .tlbinvVfall _ _ _ => []
  | .chkerr _ _ => []
  | .errqPop _ _ _ => []
  | .errqNotice _ _ _ => []
  | .poisonMark _ _ => []
  | .poisonClear _ _ => []
  | .illegalInstruction _ _ => []
  | .handlerRun _ => []
  | .messageArrival _ => []
  | .bounce _ => []
  | .remoteStatusTimeout _ => []
  | .deviceMessageRetry _ => []
  | .deviceMessageDrop _ => []
  | .waitmTimeout _ => []
  | .bwaitTimeout _ => []
  | .tsleepTimeout _ => []
  | .tgetTimeout _ => []
  | .cwaitTimeout _ => []
  | .launchPortWrite _ _ _ => []
  | .portstatRead _ => []
  | .crewPlacement _ _ => []
  | .launchHeadAging _ _ => []
  | .launchCompletion _ _ => []
  | .threadPreemptionStop _ => []
  | .preemptDeferTimeout _ => []
  | .crewSave _ => []
  | .prqPreempt _ _ => []
  | .prqResume _ _ => []
  | .crewMove _ _ => []
  | .vftvecWrite _ _ => []
  | .registerWrite _ _ _ => []
  | .starvationRevocation _ => []
  | .starvationVictimPick _ => []
  | .earmarkLapse _ => []
  | .forcedRevocation _ _ => []
  | .laneDrainComplete _ _ => []
  | .engCopy _ _ => []
  | .engCopy2d _ _ => []
  | .engFill _ _ => []
  | .engPlanepack _ _ => []
  | .engMigrate _ _ => []
  | .engUnassignedOpcode _ _ => []
  | .engineReply _ _ => []
  | .engineReset _ _ => []
  | .putDeliveryComplete _ => []
  | .taskDispatch _ _ => []
  | .ringRefill _ _ => []
  | .censusVisit _ _ _ => []
  | .censusForward _ => []
  | .dmoveInstall _ => []
  | .stubFree _ _ => []
  | .censusComplete _ _ => []
  | .pageWalk _ _ _ => []
  | .checkMismatch _ _ => []
  | .parityRepair _ _ _ => []
  | .uncorrectableError _ => []
  | .correctedError _ _ _ => []
  | .errthrWindowEnd _ _ => []
  | .ctxLost _ => []
  | .vfReset _ => []
  | .vfResetEnd _ => []
  | .dieReset _ => []
  | .dieHeartbeatLoss _ => []
  | .dieRequestTimeout _ => []
  | .stileFlit _ _ => []
  | .dieReady _ => []
  | .islandReset _ => []
  | .islandFailed _ => []
  | .linkRetry _ => []
  | .linkReset _ => []
  | .linkRetrainEnd _ _ => []
  | .peerInboundAccess _ => []
  | .hostInterruptMessage _ => []
  | .atsInvalidation _ _ _ => []
  | .partition _ _ _ _ _ => []
  | .quota _ _ _ => []
  | .hbmshare _ _ _ => []
  | .s2root _ _ => []
  | .qassign _ _ _ _ _ _ => []
  | .aperture _ _ _ _ _ => []
  | .peerlinks _ _ => []
  | .inbound _ _ _ _ _ => []
  | .keyload _ _ => []
  | .keyclear _ => []
  | .memrelease _ => []
  | .counters _ => []
  | .attestReport _ _ => []
  | .firmwareUpdate _ _ => []
  | .pldmDiscovery => []
  | .sensorRead _ => []
  | .powerCapSet _ => []
  | .powerGood => []
  | .mgmtReady => []
  | .xdieReady => []
  | .stileReady _ => []
  | .hbmReady _ => []
  | .engineReady _ _ => []
  | .euvexLinkUp _ => []
  | .hostLinkUp _ => []
  | .readyTimeout _ => []
  | .thermalThrottle _ _ => []
  | .thermalTrip _ => []
  | .hostLinkDown _ => []
  | .msixVectorUnmask _ _ => []
  | .diePowerOff _ => []
  | .diePowerLoss _ => []
  | .tagWalkTimeout _ => []
  | .undervoltOffsetRestore _ _ _ => []

/-- The first failing check names the cause (R43). -/
def firstFault : List (Bool × IllCause) → Instr → Except IllCause Instr
  | [], i => .ok i
  | (bad, c) :: rest, i => if bad then .error c else firstFault rest i

/-- The numbers an event names lie in the ranges of the machine (R1, R2); a TRAP code that is a firmware service
is that service's own row (R330, R377). -/
def Instr.inRange : Instr → Bool
  | .add _ _ _ => true
  | .sub _ _ _ => true
  | .and _ _ _ => true
  | .or _ _ _ => true
  | .xor _ _ _ => true
  | .sll _ _ _ => true
  | .srl _ _ _ => true
  | .sra _ _ _ => true
  | .slt _ _ _ => true
  | .sltu _ _ _ => true
  | .min _ _ _ => true
  | .max _ _ _ => true
  | .minu _ _ _ => true
  | .maxu _ _ _ => true
  | .clz _ _ => true
  | .ctz _ _ => true
  | .popc _ _ => true
  | .mul _ _ _ => true
  | .mulh _ _ _ => true
  | .mulhu _ _ _ => true
  | .div _ _ _ => true
  | .divu _ _ _ => true
  | .rem _ _ _ => true
  | .remu _ _ _ => true
  | .sel _ _ _ _ => true
  | .addi _ _ _ => true
  | .andi _ _ _ => true
  | .ori _ _ _ => true
  | .xori _ _ _ => true
  | .slti _ _ _ => true
  | .slli _ _ _ => true
  | .srli _ _ _ => true
  | .srai _ _ _ => true
  | .bfx _ _ _ _ => true
  | .bfi _ _ _ _ => true
  | .lih _ _ => true
  | .addpc _ _ => true
  | .fadd _ _ _ _ _ => true
  | .fsub _ _ _ _ _ => true
  | .fmul _ _ _ _ _ => true
  | .fdiv _ _ _ _ _ => true
  | .fsqrt _ _ _ _ => true
  | .fmin _ _ _ _ => true
  | .fmax _ _ _ _ => true
  | .feq _ _ _ _ => true
  | .flt _ _ _ _ => true
  | .fle _ _ _ _ => true
  | .fma _ _ _ _ _ _ => true
  | .fcvt _ _ _ _ _ => true
  | .beq _ _ _ => true
  | .bne _ _ _ => true
  | .blt _ _ _ => true
  | .bge _ _ _ => true
  | .bltu _ _ _ => true
  | .bgeu _ _ _ => true
  | .jal _ _ => true
  | .jalr _ _ _ => true
  | .jtab _ _ _ => true
  | .ldB _ _ _ _ => true
  | .ldH _ _ _ _ => true
  | .ldW _ _ _ _ => true
  | .ldD _ _ _ _ => true
  | .stB _ _ _ _ => true
  | .stH _ _ _ _ => true
  | .stW _ _ _ _ => true
  | .stD _ _ _ _ => true
  | .ldBu _ _ _ _ => true
  | .ldHu _ _ _ _ => true
  | .ldWu _ _ _ _ => true
  | .pref _ _ _ => true
  | .ldAcq _ _ _ _ => true
  | .stRel _ _ _ _ => true
  | .amoaddW _ _ _ _ => true
  | .amoaddD _ _ _ _ => true
  | .amominW _ _ _ _ => true
  | .amominD _ _ _ _ => true
  | .amomaxW _ _ _ _ => true
  | .amomaxD _ _ _ _ => true
  | .amoandW _ _ _ _ => true
  | .amoandD _ _ _ _ => true
  | .amoorW _ _ _ _ => true
  | .amoorD _ _ _ _ => true
  | .amoxorW _ _ _ _ => true
  | .amoxorD _ _ _ _ => true
  | .amoswpW _ _ _ _ => true
  | .amoswpD _ _ _ _ => true
  | .amocasW _ _ _ _ => true
  | .amocasD _ _ _ _ => true
  | .cflush _ _ => true
  | .cinv _ _ => true
  | .crr _ _ => true
  | .crw _ _ => true
  | .crs _ _ _ => true
  | .crc _ _ _ => true
  | .fenceC _ => true
  | .fenceP _ => true
  | .fenceSv _ => true
  | .trap imm => !(decide (0x100 ≤ imm.toNat) && decide (imm.toNat ≤ 0x103))
  | .preempt => true
  | .resume => true
  | .setvec => true
  | .attest => true
  | .eret => true
  | .yield => true
  | .exit => true
  | .launch _ _ => true
  | .cbar _ _ => true
  | .prio _ _ => true
  | .tsleep _ _ => true
  | .twake _ _ => true
  | .setvl _ _ _ => true
  | .vdecl _ => true
  | .vgive => true
  | .vsave => true
  | .vrefill _ => true
  | .vgeom _ _ => true
  | .setvli _ _ _ => true
  | .vaddVV _ _ _ _ => true
  | .vsubVV _ _ _ _ => true
  | .vmulVV _ _ _ _ => true
  | .vmulhVV _ _ _ _ => true
  | .vminVV _ _ _ _ => true
  | .vmaxVV _ _ _ _ => true
  | .vandVV _ _ _ _ => true
  | .vorVV _ _ _ _ => true
  | .vxorVV _ _ _ _ => true
  | .vsllVV _ _ _ _ => true
  | .vsrlVV _ _ _ _ => true
  | .vsraVV _ _ _ _ => true
  | .vaddsVV _ _ _ _ => true
  | .vsubsVV _ _ _ _ => true
  | .vaddVS _ _ _ _ => true
  | .vsubVS _ _ _ _ => true
  | .vmulVS _ _ _ _ => true
  | .vmulhVS _ _ _ _ => true
  | .vminVS _ _ _ _ => true
  | .vmaxVS _ _ _ _ => true
  | .vandVS _ _ _ _ => true
  | .vorVS _ _ _ _ => true
  | .vxorVS _ _ _ _ => true
  | .vsllVS _ _ _ _ => true
  | .vsrlVS _ _ _ _ => true
  | .vsraVS _ _ _ _ => true
  | .vaddsVS _ _ _ _ => true
  | .vsubsVS _ _ _ _ => true
  | .vwadd _ _ _ _ => true
  | .vwmacc _ _ _ _ => true
  | .vwmaccu _ _ _ _ => true
  | .vnclip _ _ _ _ => true
  | .vfaddVV _ _ _ _ => true
  | .vfsubVV _ _ _ _ => true
  | .vfmulVV _ _ _ _ => true
  | .vfmaVV _ _ _ _ => true
  | .vfmsVV _ _ _ _ => true
  | .vfnmaVV _ _ _ _ => true
  | .vfdivVV _ _ _ _ => true
  | .vfminVV _ _ _ _ => true
  | .vfmaxVV _ _ _ _ => true
  | .vfaddVS _ _ _ _ => true
  | .vfsubVS _ _ _ _ => true
  | .vfmulVS _ _ _ _ => true
  | .vfmaVS _ _ _ _ => true
  | .vfmsVS _ _ _ _ => true
  | .vfnmaVS _ _ _ _ => true
  | .vfdivVS _ _ _ _ => true
  | .vfminVS _ _ _ _ => true
  | .vfmaxVS _ _ _ _ => true
  | .vfsqrt _ _ _ => true
  | .vfrsq _ _ _ => true
  | .vfrec _ _ _ => true
  | .vfexp2 _ _ _ => true
  | .vflog2 _ _ _ => true
  | .vfsin _ _ _ => true
  | .vfcos _ _ _ => true
  | .vcvt _ _ _ _ => true
  | .vmv _ _ _ => true
  | .vbcast _ _ _ => true
  | .vidx _ _ => true
  | .vcmpEqVV _ _ _ _ => true
  | .vcmpNeVV _ _ _ _ => true
  | .vcmpLtVV _ _ _ _ => true
  | .vcmpLeVV _ _ _ _ => true
  | .vcmpGtVV _ _ _ _ => true
  | .vcmpGeVV _ _ _ _ => true
  | .vcmpEqVS _ _ _ _ => true
  | .vcmpNeVS _ _ _ _ => true
  | .vcmpLtVS _ _ _ _ => true
  | .vcmpLeVS _ _ _ _ => true
  | .vcmpGtVS _ _ _ _ => true
  | .vcmpGeVS _ _ _ _ => true
  | .vfcmpEq _ _ _ _ => true
  | .vfcmpNe _ _ _ _ => true
  | .vfcmpLt _ _ _ _ => true
  | .vfcmpLe _ _ _ _ => true
  | .vrsum _ _ _ _ => true
  | .vrmax _ _ _ _ => true
  | .vrmin _ _ _ _ => true
  | .vfrsum _ _ _ _ => true
  | .vfrmax _ _ _ _ => true
  | .mand _ _ _ => true
  | .mor _ _ _ => true
  | .mxor _ _ _ => true
  | .mnot _ _ => true
  | .mset _ => true
  | .mclr _ => true
  | .mcnt _ _ => true
  | .many _ _ => true
  | .mfirst _ _ => true
  | .vmaxix _ _ _ _ => true
  | .vcprs _ _ _ _ => true
  | .vexpd _ _ _ => true
  | .vperm _ _ _ _ => true
  | .vpush _ _ _ _ => true
  | .vslup _ _ _ _ => true
  | .vsldn _ _ _ _ => true
  | .vrot _ _ _ _ => true
  | .vgrpt2 _ _ _ _ => true
  | .vgrpmsk _ _ _ _ => true
  | .vnofm _ _ _ _ => true
  | .vld _ _ _ _ => true
  | .vldff _ _ _ _ => true
  | .vldp _ _ _ _ _ => true
  | .vlds _ _ _ _ _ => true
  | .vldx _ _ _ _ _ => true
  | .vst _ _ _ _ => true
  | .vsts _ _ _ _ _ => true
  | .vstx _ _ _ _ _ => true
  | .vstxadd _ _ _ _ _ => true
  | .wform _ => true
  | .wsplit => true
  | .wzero _ => true
  | .wdrain _ _ _ => true
  | .wfmt _ _ => true
  | .wgath _ _ _ => true
  | .wldb _ _ => true
  | .wop _ _ _ => true
  | .wops _ _ _ => true
  | .wbp _ _ _ => true
  | .wopv _ _ _ _ _ => true
  | .send _ _ _ _ => true
  | .sendP _ _ _ => true
  | .mpop _ _ _ _ => true
  | .mret => true
  | .waitm _ _ _ => true
  | .eng _ _ _ _ => true
  | .put _ _ _ _ _ => true
  | .putm _ _ _ _ _ => true
  | .chbind _ _ _ => true
  | .chen _ _ => true
  | .chdis _ _ => true
  | .chpendRead _ _ _ => true
  | .chpendSet _ _ _ => true
  | .chpendClear _ _ _ => true
  | .binit _ _ _ => true
  | .barr _ _ _ _ => true
  | .bexp _ _ _ _ => true
  | .bwait _ _ _ _ => true
  | .bqry _ _ _ _ => true
  | .tqpush _ _ _ _ => true
  | .queueOpen _ _ _ _ => true
  | .queueClose _ _ _ _ => true
  | .queueResume _ _ _ _ => true
  | .queuePurge _ _ _ _ => true
  | .tget _ _ _ _ => true
  | .tdone _ _ => true
  | .tdepRead _ _ _ _ => true
  | .tdepAdd _ _ _ _ => true
  | .tdepSet _ _ _ _ => true
  | .tileq _ _ _ _ => true
  | .xdisp _ _ _ _ _ => true
  | .xcomb _ _ _ _ _ => true
  | .dreg _ _ => true
  | .ddel _ _ => true
  | .dmove _ _ _ => true
  | .solicit _ _ _ _ => true
  | .reply _ _ _ => true
  | .cwait _ _ _ => true
  | .cresResult _ _ _ => true
  | .cresStatus _ _ _ => true
  | .cresFree _ _ _ => true
  | .cresAbandon _ _ _ => true
  | .tlbinvVa _ _ _ => true
  | .tlbinvAll _ _ _ => true
  | .tlbinvRoot _ _ _ => true
  | .tlbinvGpa _ _ _ => true
  | .tlbinvVfall _ _ _ => true
  | .chkerr _ _ => true
  | .errqPop _ _ _ => true
  | .errqNotice _ _ _ => true
  | .poisonMark _ _ => true
  | .poisonClear _ _ => true
  | .illegalInstruction _ _ => true
  | .handlerRun g => decide (g < 8192)
  | .messageArrival _ => true
  | .bounce _ => true
  | .remoteStatusTimeout g => decide (g < 8192)
  | .deviceMessageRetry _ => true
  | .deviceMessageDrop _ => true
  | .waitmTimeout g => decide (g < 8192)
  | .bwaitTimeout g => decide (g < 8192)
  | .tsleepTimeout g => decide (g < 8192)
  | .tgetTimeout g => decide (g < 8192)
  | .cwaitTimeout g => decide (g < 8192)
  | .launchPortWrite f _ _ => decide (f < 65)
  | .portstatRead f => decide (f < 65)
  | .crewPlacement die f => decide (die < 8) && decide (f < 65)
  | .launchHeadAging f _ => decide (f < 65)
  | .launchCompletion f _ => decide (f < 65)
  | .threadPreemptionStop g => decide (g < 8192)
  | .preemptDeferTimeout g => decide (g < 8192)
  | .crewSave die => decide (die < 8)
  | .prqPreempt die _ => decide (die < 8)
  | .prqResume die _ => decide (die < 8)
  | .crewMove _ cl => decide (cl < 128)
  | .vftvecWrite die _ => decide (die < 8)
  | .registerWrite g _ _ => decide (g < 8192)
  | .starvationRevocation g => decide (g < 8192)
  | .starvationVictimPick g => decide (g < 8192)
  | .earmarkLapse g => decide (g < 8192)
  | .forcedRevocation g _ => decide (g < 8192)
  | .laneDrainComplete cl _ => decide (cl < 128)
  | .engCopy die u => decide (die < 8) && decide (u < 4)
  | .engCopy2d die u => decide (die < 8) && decide (u < 4)
  | .engFill die u => decide (die < 8) && decide (u < 4)
  | .engPlanepack die u => decide (die < 8) && decide (u < 4)
  | .engMigrate die u => decide (die < 8) && decide (u < 4)
  | .engUnassignedOpcode die u => decide (die < 8) && decide (u < 4)
  | .engineReply die u => decide (die < 8) && decide (u < 4)
  | .engineReset die u => decide (die < 8) && decide (u < 4)
  | .putDeliveryComplete _ => true
  | .taskDispatch die q => decide (die < 8) && decide (q < 256)
  | .ringRefill die q => decide (die < 8) && decide (q < 256)
  | .censusVisit die cid core => decide (die < 8) && decide (cid < 256) && decide (core < 2048)
  | .censusForward _ => true
  | .dmoveInstall _ => true
  | .stubFree core slot => decide (core < 2048) && decide (slot < 64)
  | .censusComplete die cid => decide (die < 8) && decide (cid < 256)
  | .pageWalk g _ _ => decide (g < 8192)
  | .checkMismatch g _ => decide (g < 8192)
  | .parityRepair g _ _ => decide (g < 8192)
  | .uncorrectableError _ => true
  | .correctedError die _ _ => decide (die < 8)
  | .errthrWindowEnd die _ => decide (die < 8)
  | .ctxLost g => decide (g < 8192)
  | .vfReset f => decide (f < 64)
  | .vfResetEnd f => decide (f < 64)
  | .dieReset die => decide (die < 8)
  | .dieHeartbeatLoss die => decide (die < 8)
  | .dieRequestTimeout die => decide (die < 8)
  | .stileFlit die _ => decide (die < 8)
  | .dieReady die => decide (die < 8)
  | .islandReset die => decide (die < 8)
  | .islandFailed die => decide (die < 8)
  | .linkRetry l => decide (l < 16)
  | .linkReset l => decide (l < 16)
  | .linkRetrainEnd l _ => decide (l < 16)
  | .peerInboundAccess _ => true
  | .hostInterruptMessage _ => true
  | .atsInvalidation x f _ => decide (x < 2) && decide (f < 65)
  | .partition f _ _ _ _ => decide (f < 65)
  | .quota f cl _ => decide (f < 65) && decide (cl < 128)
  | .hbmshare f stack _ => decide (f < 65) && decide (stack < 16)
  | .s2root f _ => decide (f < 65)
  | .qassign f die _ _ _ _ => decide (f < 65) && decide (die < 8)
  | .aperture idx _ _ _ _ => decide (idx < 1024)
  | .peerlinks _ _ => true
  | .inbound idx _ _ f _ => decide (idx < 1024) && decide (f < 65)
  | .keyload slot _ => decide (slot < 1024)
  | .keyclear slot => decide (slot < 1024)
  | .memrelease die => decide (die < 8)
  | .counters f => decide (f < 65)
  | .attestReport f _ => decide (f < 65)
  | .firmwareUpdate _ _ => true
  | .pldmDiscovery => true
  | .sensorRead _ => true
  | .powerCapSet _ => true
  | .powerGood => true
  | .mgmtReady => true
  | .xdieReady => true
  | .stileReady die => decide (die < 8)
  | .hbmReady stack => decide (stack < 16)
  | .engineReady die u => decide (die < 8) && decide (u < 4)
  | .euvexLinkUp l => decide (l < 16)
  | .hostLinkUp x => decide (x < 2)
  | .readyTimeout _ => true
  | .thermalThrottle die _ => decide (die < 8)
  | .thermalTrip die => decide (die < 8)
  | .hostLinkDown x => decide (x < 2)
  | .msixVectorUnmask f _ => decide (f < 65)
  | .diePowerOff die => decide (die < 8)
  | .diePowerLoss die => decide (die < 8)
  | .tagWalkTimeout die => decide (die < 8)
  | .undervoltOffsetRestore die _ _ => decide (die < 8)

/-- A well-formed instruction: no check of its row fails and every number it names is in range. -/
def WellFormed (i : Instr) : Bool := i.checks.all (fun p => !p.1) && i.inRange

end Sys2Proof
end

