-- ==== Sys2Proof/Decode.lean ====
section
/-! DEFINITION. The decoder (R32 to R43): a word to the instruction it is, or to the first cause of R43 that the
word alone decides; and the encoder, written from the same tables. -/

namespace Sys2Proof

/-- The last step of decoding a word: the zero fields of its row (ILL_FIELD), then the row's own checks (R43). -/
def accept (zeroFields : Bool) (i : Instr) : Except IllCause Instr :=
  if zeroFields then firstFault i.checks i else .error .illField

/-- TRAP codes 0x100 to 0x103 are rows of their own: the firmware services of R330 and R377. -/
def serviceRow (imm : BitVec 16) : Instr :=
  if imm = 0x100#16 then .preempt
  else if imm = 0x101#16 then .resume
  else if imm = 0x102#16 then .setvec
  else if imm = 0x103#16 then .attest
  else .trap imm

/-- Words of major 0x01 (R36 to R42). -/
def decodeMajor01 (w : BitVec 32) : Except IllCause Instr :=
  match (w.extractLsb' 27 5).toNat with
  | 0 => accept (w.extractLsb' 21 6 == 0) (.add (w.extractLsb' 6 5) (w.extractLsb' 11 5) (w.extractLsb' 16 5))
  | 1 => accept (w.extractLsb' 21 6 == 0) (.sub (w.extractLsb' 6 5) (w.extractLsb' 11 5) (w.extractLsb' 16 5))
  | 2 => accept (w.extractLsb' 21 6 == 0) (.and (w.extractLsb' 6 5) (w.extractLsb' 11 5) (w.extractLsb' 16 5))
  | 3 => accept (w.extractLsb' 21 6 == 0) (.or (w.extractLsb' 6 5) (w.extractLsb' 11 5) (w.extractLsb' 16 5))
  | 4 => accept (w.extractLsb' 21 6 == 0) (.xor (w.extractLsb' 6 5) (w.extractLsb' 11 5) (w.extractLsb' 16 5))
  | 5 => accept (w.extractLsb' 21 6 == 0) (.sll (w.extractLsb' 6 5) (w.extractLsb' 11 5) (w.extractLsb' 16 5))
  | 6 => accept (w.extractLsb' 21 6 == 0) (.srl (w.extractLsb' 6 5) (w.extractLsb' 11 5) (w.extractLsb' 16 5))
  | 7 => accept (w.extractLsb' 21 6 == 0) (.sra (w.extractLsb' 6 5) (w.extractLsb' 11 5) (w.extractLsb' 16 5))
  | 8 => accept (w.extractLsb' 21 6 == 0) (.slt (w.extractLsb' 6 5) (w.extractLsb' 11 5) (w.extractLsb' 16 5))
  | 9 => accept (w.extractLsb' 21 6 == 0) (.sltu (w.extractLsb' 6 5) (w.extractLsb' 11 5) (w.extractLsb' 16 5))
  | 10 => accept (w.extractLsb' 21 6 == 0) (.min (w.extractLsb' 6 5) (w.extractLsb' 11 5) (w.extractLsb' 16 5))
  | 11 => accept (w.extractLsb' 21 6 == 0) (.max (w.extractLsb' 6 5) (w.extractLsb' 11 5) (w.extractLsb' 16 5))
  | 12 => accept (w.extractLsb' 21 6 == 0) (.minu (w.extractLsb' 6 5) (w.extractLsb' 11 5) (w.extractLsb' 16 5))
  | 13 => accept (w.extractLsb' 21 6 == 0) (.maxu (w.extractLsb' 6 5) (w.extractLsb' 11 5) (w.extractLsb' 16 5))
  | 14 => accept (w.extractLsb' 16 11 == 0) (.clz (w.extractLsb' 6 5) (w.extractLsb' 11 5))
  | 15 => accept (w.extractLsb' 16 11 == 0) (.ctz (w.extractLsb' 6 5) (w.extractLsb' 11 5))
  | 16 => accept (w.extractLsb' 16 11 == 0) (.popc (w.extractLsb' 6 5) (w.extractLsb' 11 5))
  | 17 => accept (w.extractLsb' 21 6 == 0) (.mul (w.extractLsb' 6 5) (w.extractLsb' 11 5) (w.extractLsb' 16 5))
  | 18 => accept (w.extractLsb' 21 6 == 0) (.mulh (w.extractLsb' 6 5) (w.extractLsb' 11 5) (w.extractLsb' 16 5))
  | 19 => accept (w.extractLsb' 21 6 == 0) (.mulhu (w.extractLsb' 6 5) (w.extractLsb' 11 5) (w.extractLsb' 16 5))
  | 20 => accept (w.extractLsb' 21 6 == 0) (.div (w.extractLsb' 6 5) (w.extractLsb' 11 5) (w.extractLsb' 16 5))
  | 21 => accept (w.extractLsb' 21 6 == 0) (.divu (w.extractLsb' 6 5) (w.extractLsb' 11 5) (w.extractLsb' 16 5))
  | 22 => accept (w.extractLsb' 21 6 == 0) (.rem (w.extractLsb' 6 5) (w.extractLsb' 11 5) (w.extractLsb' 16 5))
  | 23 => accept (w.extractLsb' 21 6 == 0) (.remu (w.extractLsb' 6 5) (w.extractLsb' 11 5) (w.extractLsb' 16 5))
  | _ => .error .illFn

/-- Words of major 0x02 (R36 to R42). -/
def decodeMajor02 (w : BitVec 32) : Except IllCause Instr :=
  match (w.extractLsb' 26 6).toNat with
  | 0 => accept true (.sel (w.extractLsb' 6 5) (w.extractLsb' 11 5) (w.extractLsb' 16 5) (w.extractLsb' 21 5))
  | _ => .error .illFn

/-- Words of major 0x03 (R36 to R42). -/
def decodeMajor03 (w : BitVec 32) : Except IllCause Instr :=
  accept true (.addi (w.extractLsb' 6 5) (w.extractLsb' 11 5) (w.extractLsb' 16 16))

/-- Words of major 0x04 (R36 to R42). -/
def decodeMajor04 (w : BitVec 32) : Except IllCause Instr :=
  match (w.extractLsb' 30 2).toNat with
  | 0 => accept true (.andi (w.extractLsb' 6 5) (w.extractLsb' 11 5) (w.extractLsb' 16 14))
  | 1 => accept true (.ori (w.extractLsb' 6 5) (w.extractLsb' 11 5) (w.extractLsb' 16 14))
  | 2 => accept true (.xori (w.extractLsb' 6 5) (w.extractLsb' 11 5) (w.extractLsb' 16 14))
  | 3 => accept true (.slti (w.extractLsb' 6 5) (w.extractLsb' 11 5) (w.extractLsb' 16 14))
  | _ => .error .illFn

/-- Words of major 0x05 (R36 to R42). -/
def decodeMajor05 (w : BitVec 32) : Except IllCause Instr :=
  match (w.extractLsb' 28 4).toNat with
  | 0 => accept (w.extractLsb' 22 6 == 0) (.slli (w.extractLsb' 6 5) (w.extractLsb' 11 5) (w.extractLsb' 16 6))
  | 1 => accept (w.extractLsb' 22 6 == 0) (.srli (w.extractLsb' 6 5) (w.extractLsb' 11 5) (w.extractLsb' 16 6))
  | 2 => accept (w.extractLsb' 22 6 == 0) (.srai (w.extractLsb' 6 5) (w.extractLsb' 11 5) (w.extractLsb' 16 6))
  | 3 => accept true (.bfx (w.extractLsb' 6 5) (w.extractLsb' 11 5) (w.extractLsb' 16 6) (w.extractLsb' 22 6))
  | 4 => accept true (.bfi (w.extractLsb' 6 5) (w.extractLsb' 11 5) (w.extractLsb' 16 6) (w.extractLsb' 22 6))
  | _ => .error .illFn

/-- Words of major 0x06 (R36 to R42). -/
def decodeMajor06 (w : BitVec 32) : Except IllCause Instr :=
  accept true (.lih (w.extractLsb' 6 5) (w.extractLsb' 11 21))

/-- Words of major 0x07 (R36 to R42). -/
def decodeMajor07 (w : BitVec 32) : Except IllCause Instr :=
  accept true (.addpc (w.extractLsb' 6 5) (w.extractLsb' 11 21))

/-- Words of major 0x08 (R36 to R42). -/
def decodeMajor08 (w : BitVec 32) : Except IllCause Instr :=
  match (w.extractLsb' 27 5).toNat with
  | 0 => accept (w.extractLsb' 21 1 == 0) (.fadd (w.extractLsb' 6 5) (w.extractLsb' 11 5) (w.extractLsb' 16 5) (w.extractLsb' 22 3) (w.extractLsb' 25 2))
  | 1 => accept (w.extractLsb' 21 1 == 0) (.fsub (w.extractLsb' 6 5) (w.extractLsb' 11 5) (w.extractLsb' 16 5) (w.extractLsb' 22 3) (w.extractLsb' 25 2))
  | 2 => accept (w.extractLsb' 21 1 == 0) (.fmul (w.extractLsb' 6 5) (w.extractLsb' 11 5) (w.extractLsb' 16 5) (w.extractLsb' 22 3) (w.extractLsb' 25 2))
  | 3 => accept (w.extractLsb' 21 1 == 0) (.fdiv (w.extractLsb' 6 5) (w.extractLsb' 11 5) (w.extractLsb' 16 5) (w.extractLsb' 22 3) (w.extractLsb' 25 2))
  | 4 => accept (w.extractLsb' 16 6 == 0) (.fsqrt (w.extractLsb' 6 5) (w.extractLsb' 11 5) (w.extractLsb' 22 3) (w.extractLsb' 25 2))
  | 5 => accept (w.extractLsb' 21 4 == 0) (.fmin (w.extractLsb' 6 5) (w.extractLsb' 11 5) (w.extractLsb' 16 5) (w.extractLsb' 25 2))
  | 6 => accept (w.extractLsb' 21 4 == 0) (.fmax (w.extractLsb' 6 5) (w.extractLsb' 11 5) (w.extractLsb' 16 5) (w.extractLsb' 25 2))
  | 7 => accept (w.extractLsb' 21 4 == 0) (.feq (w.extractLsb' 6 5) (w.extractLsb' 11 5) (w.extractLsb' 16 5) (w.extractLsb' 25 2))
  | 8 => accept (w.extractLsb' 21 4 == 0) (.flt (w.extractLsb' 6 5) (w.extractLsb' 11 5) (w.extractLsb' 16 5) (w.extractLsb' 25 2))
  | 9 => accept (w.extractLsb' 21 4 == 0) (.fle (w.extractLsb' 6 5) (w.extractLsb' 11 5) (w.extractLsb' 16 5) (w.extractLsb' 25 2))
  | _ => .error .illFn

/-- Words of major 0x09 (R36 to R42). -/
def decodeMajor09 (w : BitVec 32) : Except IllCause Instr :=
  accept (w.extractLsb' 26 1 == 0) (.fma (w.extractLsb' 6 5) (w.extractLsb' 11 5) (w.extractLsb' 16 5) (w.extractLsb' 21 5) (w.extractLsb' 27 3) (w.extractLsb' 30 2))

/-- Words of major 0x0A (R36 to R42). -/
def decodeMajor0A (w : BitVec 32) : Except IllCause Instr :=
  if w.extractLsb' 24 4 == w.extractLsb' 28 4 then .error .illFn else accept (w.extractLsb' 16 5 == 0) (.fcvt (w.extractLsb' 6 5) (w.extractLsb' 11 5) (w.extractLsb' 21 3) (w.extractLsb' 24 4) (w.extractLsb' 28 4))

/-- Words of major 0x0C (R36 to R42). -/
def decodeMajor0C (w : BitVec 32) : Except IllCause Instr :=
  match (w.extractLsb' 29 3).toNat with
  | 0 => accept true (.beq (w.extractLsb' 6 5) (w.extractLsb' 11 5) (w.extractLsb' 16 13))
  | 1 => accept true (.bne (w.extractLsb' 6 5) (w.extractLsb' 11 5) (w.extractLsb' 16 13))
  | 2 => accept true (.blt (w.extractLsb' 6 5) (w.extractLsb' 11 5) (w.extractLsb' 16 13))
  | 3 => accept true (.bge (w.extractLsb' 6 5) (w.extractLsb' 11 5) (w.extractLsb' 16 13))
  | 4 => accept true (.bltu (w.extractLsb' 6 5) (w.extractLsb' 11 5) (w.extractLsb' 16 13))
  | 5 => accept true (.bgeu (w.extractLsb' 6 5) (w.extractLsb' 11 5) (w.extractLsb' 16 13))
  | _ => .error .illFn

/-- Words of major 0x0D (R36 to R42). -/
def decodeMajor0D (w : BitVec 32) : Except IllCause Instr :=
  accept true (.jal (w.extractLsb' 6 5) (w.extractLsb' 11 21))

/-- Words of major 0x0E (R36 to R42). -/
def decodeMajor0E (w : BitVec 32) : Except IllCause Instr :=
  accept true (.jalr (w.extractLsb' 6 5) (w.extractLsb' 11 5) (w.extractLsb' 16 16))

/-- Words of major 0x0F (R36 to R42). -/
def decodeMajor0F (w : BitVec 32) : Except IllCause Instr :=
  accept true (.jtab (w.extractLsb' 6 5) (w.extractLsb' 11 5) (w.extractLsb' 16 16))

/-- Words of major 0x10 (R36 to R42). -/
def decodeMajor10 (w : BitVec 32) : Except IllCause Instr :=
  match (w.extractLsb' 30 2).toNat with
  | 0 => accept true (.ldB (w.extractLsb' 6 5) (w.extractLsb' 11 5) (w.extractLsb' 16 4) (w.extractLsb' 20 10))
  | 1 => accept true (.ldH (w.extractLsb' 6 5) (w.extractLsb' 11 5) (w.extractLsb' 16 4) (w.extractLsb' 20 10))
  | 2 => accept true (.ldW (w.extractLsb' 6 5) (w.extractLsb' 11 5) (w.extractLsb' 16 4) (w.extractLsb' 20 10))
  | 3 => accept true (.ldD (w.extractLsb' 6 5) (w.extractLsb' 11 5) (w.extractLsb' 16 4) (w.extractLsb' 20 10))
  | _ => .error .illFn

/-- Words of major 0x11 (R36 to R42). -/
def decodeMajor11 (w : BitVec 32) : Except IllCause Instr :=
  match (w.extractLsb' 30 2).toNat with
  | 0 => accept true (.stB (w.extractLsb' 6 5) (w.extractLsb' 11 5) (w.extractLsb' 16 4) (w.extractLsb' 20 10))
  | 1 => accept true (.stH (w.extractLsb' 6 5) (w.extractLsb' 11 5) (w.extractLsb' 16 4) (w.extractLsb' 20 10))
  | 2 => accept true (.stW (w.extractLsb' 6 5) (w.extractLsb' 11 5) (w.extractLsb' 16 4) (w.extractLsb' 20 10))
  | 3 => accept true (.stD (w.extractLsb' 6 5) (w.extractLsb' 11 5) (w.extractLsb' 16 4) (w.extractLsb' 20 10))
  | _ => .error .illFn

/-- Words of major 0x12 (R36 to R42). -/
def decodeMajor12 (w : BitVec 32) : Except IllCause Instr :=
  match (w.extractLsb' 30 2).toNat with
  | 0 => accept true (.ldBu (w.extractLsb' 6 5) (w.extractLsb' 11 5) (w.extractLsb' 16 4) (w.extractLsb' 20 10))
  | 1 => accept true (.ldHu (w.extractLsb' 6 5) (w.extractLsb' 11 5) (w.extractLsb' 16 4) (w.extractLsb' 20 10))
  | 2 => accept true (.ldWu (w.extractLsb' 6 5) (w.extractLsb' 11 5) (w.extractLsb' 16 4) (w.extractLsb' 20 10))
  | 3 => accept (w.extractLsb' 16 4 == 0) (.pref (w.extractLsb' 6 5) (w.extractLsb' 11 5) (w.extractLsb' 20 10))
  | _ => .error .illFn

/-- Words of major 0x13 (R36 to R42). -/
def decodeMajor13 (w : BitVec 32) : Except IllCause Instr :=
  match (w.extractLsb' 27 5).toNat with
  | 0 => accept (w.extractLsb' 16 5 == 0) (.ldAcq (w.extractLsb' 6 5) (w.extractLsb' 11 5) (w.extractLsb' 21 2) (w.extractLsb' 23 4))
  | 1 => accept (w.extractLsb' 16 5 == 0) (.stRel (w.extractLsb' 6 5) (w.extractLsb' 11 5) (w.extractLsb' 21 2) (w.extractLsb' 23 4))
  | 2 => accept (w.extractLsb' 21 2 == 0) (.amoaddW (w.extractLsb' 6 5) (w.extractLsb' 11 5) (w.extractLsb' 16 5) (w.extractLsb' 23 4))
  | 3 => accept (w.extractLsb' 21 2 == 0) (.amoaddD (w.extractLsb' 6 5) (w.extractLsb' 11 5) (w.extractLsb' 16 5) (w.extractLsb' 23 4))
  | 4 => accept (w.extractLsb' 21 2 == 0) (.amominW (w.extractLsb' 6 5) (w.extractLsb' 11 5) (w.extractLsb' 16 5) (w.extractLsb' 23 4))
  | 5 => accept (w.extractLsb' 21 2 == 0) (.amominD (w.extractLsb' 6 5) (w.extractLsb' 11 5) (w.extractLsb' 16 5) (w.extractLsb' 23 4))
  | 6 => accept (w.extractLsb' 21 2 == 0) (.amomaxW (w.extractLsb' 6 5) (w.extractLsb' 11 5) (w.extractLsb' 16 5) (w.extractLsb' 23 4))
  | 7 => accept (w.extractLsb' 21 2 == 0) (.amomaxD (w.extractLsb' 6 5) (w.extractLsb' 11 5) (w.extractLsb' 16 5) (w.extractLsb' 23 4))
  | 8 => accept (w.extractLsb' 21 2 == 0) (.amoandW (w.extractLsb' 6 5) (w.extractLsb' 11 5) (w.extractLsb' 16 5) (w.extractLsb' 23 4))
  | 9 => accept (w.extractLsb' 21 2 == 0) (.amoandD (w.extractLsb' 6 5) (w.extractLsb' 11 5) (w.extractLsb' 16 5) (w.extractLsb' 23 4))
  | 10 => accept (w.extractLsb' 21 2 == 0) (.amoorW (w.extractLsb' 6 5) (w.extractLsb' 11 5) (w.extractLsb' 16 5) (w.extractLsb' 23 4))
  | 11 => accept (w.extractLsb' 21 2 == 0) (.amoorD (w.extractLsb' 6 5) (w.extractLsb' 11 5) (w.extractLsb' 16 5) (w.extractLsb' 23 4))
  | 12 => accept (w.extractLsb' 21 2 == 0) (.amoxorW (w.extractLsb' 6 5) (w.extractLsb' 11 5) (w.extractLsb' 16 5) (w.extractLsb' 23 4))
  | 13 => accept (w.extractLsb' 21 2 == 0) (.amoxorD (w.extractLsb' 6 5) (w.extractLsb' 11 5) (w.extractLsb' 16 5) (w.extractLsb' 23 4))
  | 14 => accept (w.extractLsb' 21 2 == 0) (.amoswpW (w.extractLsb' 6 5) (w.extractLsb' 11 5) (w.extractLsb' 16 5) (w.extractLsb' 23 4))
  | 15 => accept (w.extractLsb' 21 2 == 0) (.amoswpD (w.extractLsb' 6 5) (w.extractLsb' 11 5) (w.extractLsb' 16 5) (w.extractLsb' 23 4))
  | 16 => accept (w.extractLsb' 21 2 == 0) (.amocasW (w.extractLsb' 6 5) (w.extractLsb' 11 5) (w.extractLsb' 16 5) (w.extractLsb' 23 4))
  | 17 => accept (w.extractLsb' 21 2 == 0) (.amocasD (w.extractLsb' 6 5) (w.extractLsb' 11 5) (w.extractLsb' 16 5) (w.extractLsb' 23 4))
  | 18 => accept (w.extractLsb' 6 5 == 0 && w.extractLsb' 16 7 == 0) (.cflush (w.extractLsb' 11 5) (w.extractLsb' 23 4))
  | 19 => accept (w.extractLsb' 6 5 == 0 && w.extractLsb' 16 7 == 0) (.cinv (w.extractLsb' 11 5) (w.extractLsb' 23 4))
  | _ => .error .illFn

/-- Words of major 0x14 (R36 to R42). -/
def decodeMajor14 (w : BitVec 32) : Except IllCause Instr :=
  match (w.extractLsb' 28 4).toNat with
  | 0 => accept (w.extractLsb' 11 5 == 0) (.crr (w.extractLsb' 6 5) (w.extractLsb' 16 12))
  | 1 => accept (w.extractLsb' 6 5 == 0) (.crw (w.extractLsb' 11 5) (w.extractLsb' 16 12))
  | 2 => accept true (.crs (w.extractLsb' 6 5) (w.extractLsb' 11 5) (w.extractLsb' 16 12))
  | 3 => accept true (.crc (w.extractLsb' 6 5) (w.extractLsb' 11 5) (w.extractLsb' 16 12))
  | _ => .error .illFn

/-- Words of major 0x15 (R36 to R42). -/
def decodeMajor15 (w : BitVec 32) : Except IllCause Instr :=
  match (w.extractLsb' 11 5).toNat with
  | 0 => accept (w.extractLsb' 6 5 == 0) (.fenceC (w.extractLsb' 16 16))
  | 1 => accept (w.extractLsb' 6 5 == 0 && w.extractLsb' 22 10 == 0) (.fenceP (w.extractLsb' 16 6))
  | 2 => accept (w.extractLsb' 6 5 == 0 && w.extractLsb' 22 10 == 0) (.fenceSv (w.extractLsb' 16 6))
  | 3 => accept (w.extractLsb' 6 5 == 0) (serviceRow (w.extractLsb' 16 16))
  | 4 => accept (w.extractLsb' 6 5 == 0 && w.extractLsb' 16 16 == 0) (.eret)
  | 5 => accept (w.extractLsb' 6 5 == 0 && w.extractLsb' 16 16 == 0) (.yield)
  | 6 => accept (w.extractLsb' 6 5 == 0 && w.extractLsb' 16 16 == 0) (.exit)
  | _ => .error .illFn

/-- Words of major 0x16 (R36 to R42). -/
def decodeMajor16 (w : BitVec 32) : Except IllCause Instr :=
  match (w.extractLsb' 27 5).toNat with
  | 0 => accept (w.extractLsb' 16 11 == 0) (.launch (w.extractLsb' 6 5) (w.extractLsb' 11 5))
  | 1 => accept (w.extractLsb' 16 11 == 0) (.cbar (w.extractLsb' 6 5) (w.extractLsb' 11 5))
  | 2 => accept (w.extractLsb' 16 11 == 0) (.prio (w.extractLsb' 6 5) (w.extractLsb' 11 5))
  | 3 => accept (w.extractLsb' 16 11 == 0) (.tsleep (w.extractLsb' 6 5) (w.extractLsb' 11 5))
  | 4 => accept (w.extractLsb' 16 11 == 0) (.twake (w.extractLsb' 6 5) (w.extractLsb' 11 5))
  | _ => .error .illFn

/-- Words of major 0x18 (R36 to R42). -/
def decodeMajor18 (w : BitVec 32) : Except IllCause Instr :=
  match (w.extractLsb' 30 2).toNat with
  | 0 => accept (w.extractLsb' 16 5 == 0) (.setvl (w.extractLsb' 6 5) (w.extractLsb' 11 5) (w.extractLsb' 21 9))
  | 1 =>
    match (w.extractLsb' 25 5).toNat with
    | 0 => accept (w.extractLsb' 6 15 == 0 && w.extractLsb' 23 2 == 0) (.vdecl (w.extractLsb' 21 2))
    | 1 => accept (w.extractLsb' 6 19 == 0) (.vgive)
    | 2 => accept (w.extractLsb' 6 19 == 0) (.vsave)
    | 3 => accept (w.extractLsb' 11 14 == 0) (.vrefill (w.extractLsb' 6 5))
    | 4 => accept (w.extractLsb' 16 9 == 0) (.vgeom (w.extractLsb' 6 5) (w.extractLsb' 11 5))
    | _ => .error .illFn
  | _ => .error .illFn

/-- Words of major 0x19 (R36 to R42). -/
def decodeMajor19 (w : BitVec 32) : Except IllCause Instr :=
  accept true (.setvli (w.extractLsb' 6 5) (w.extractLsb' 11 9) (w.extractLsb' 20 12))

/-- Words of major 0x1A (R36 to R42). -/
def decodeMajor1A (w : BitVec 32) : Except IllCause Instr :=
  match (w.extractLsb' 28 4).toNat with
  | 0 => accept true (.vaddVV (w.extractLsb' 6 6) (w.extractLsb' 12 6) (w.extractLsb' 18 6) (w.extractLsb' 24 4))
  | 1 => accept true (.vsubVV (w.extractLsb' 6 6) (w.extractLsb' 12 6) (w.extractLsb' 18 6) (w.extractLsb' 24 4))
  | 2 => accept true (.vmulVV (w.extractLsb' 6 6) (w.extractLsb' 12 6) (w.extractLsb' 18 6) (w.extractLsb' 24 4))
  | 3 => accept true (.vmulhVV (w.extractLsb' 6 6) (w.extractLsb' 12 6) (w.extractLsb' 18 6) (w.extractLsb' 24 4))
  | 4 => accept true (.vminVV (w.extractLsb' 6 6) (w.extractLsb' 12 6) (w.extractLsb' 18 6) (w.extractLsb' 24 4))
  | 5 => accept true (.vmaxVV (w.extractLsb' 6 6) (w.extractLsb' 12 6) (w.extractLsb' 18 6) (w.extractLsb' 24 4))
  | 6 => accept true (.vandVV (w.extractLsb' 6 6) (w.extractLsb' 12 6) (w.extractLsb' 18 6) (w.extractLsb' 24 4))
  | 7 => accept true (.vorVV (w.extractLsb' 6 6) (w.extractLsb' 12 6) (w.extractLsb' 18 6) (w.extractLsb' 24 4))
  | 8 => accept true (.vxorVV (w.extractLsb' 6 6) (w.extractLsb' 12 6) (w.extractLsb' 18 6) (w.extractLsb' 24 4))
  | 9 => accept true (.vsllVV (w.extractLsb' 6 6) (w.extractLsb' 12 6) (w.extractLsb' 18 6) (w.extractLsb' 24 4))
  | 10 => accept true (.vsrlVV (w.extractLsb' 6 6) (w.extractLsb' 12 6) (w.extractLsb' 18 6) (w.extractLsb' 24 4))
  | 11 => accept true (.vsraVV (w.extractLsb' 6 6) (w.extractLsb' 12 6) (w.extractLsb' 18 6) (w.extractLsb' 24 4))
  | 12 => accept true (.vaddsVV (w.extractLsb' 6 6) (w.extractLsb' 12 6) (w.extractLsb' 18 6) (w.extractLsb' 24 4))
  | 13 => accept true (.vsubsVV (w.extractLsb' 6 6) (w.extractLsb' 12 6) (w.extractLsb' 18 6) (w.extractLsb' 24 4))
  | _ => .error .illFn

/-- Words of major 0x1B (R36 to R42). -/
def decodeMajor1B (w : BitVec 32) : Except IllCause Instr :=
  match (w.extractLsb' 27 4).toNat with
  | 0 => accept (w.extractLsb' 31 1 == 0) (.vaddVS (w.extractLsb' 6 6) (w.extractLsb' 12 6) (w.extractLsb' 18 5) (w.extractLsb' 23 4))
  | 1 => accept (w.extractLsb' 31 1 == 0) (.vsubVS (w.extractLsb' 6 6) (w.extractLsb' 12 6) (w.extractLsb' 18 5) (w.extractLsb' 23 4))
  | 2 => accept (w.extractLsb' 31 1 == 0) (.vmulVS (w.extractLsb' 6 6) (w.extractLsb' 12 6) (w.extractLsb' 18 5) (w.extractLsb' 23 4))
  | 3 => accept (w.extractLsb' 31 1 == 0) (.vmulhVS (w.extractLsb' 6 6) (w.extractLsb' 12 6) (w.extractLsb' 18 5) (w.extractLsb' 23 4))
  | 4 => accept (w.extractLsb' 31 1 == 0) (.vminVS (w.extractLsb' 6 6) (w.extractLsb' 12 6) (w.extractLsb' 18 5) (w.extractLsb' 23 4))
  | 5 => accept (w.extractLsb' 31 1 == 0) (.vmaxVS (w.extractLsb' 6 6) (w.extractLsb' 12 6) (w.extractLsb' 18 5) (w.extractLsb' 23 4))
  | 6 => accept (w.extractLsb' 31 1 == 0) (.vandVS (w.extractLsb' 6 6) (w.extractLsb' 12 6) (w.extractLsb' 18 5) (w.extractLsb' 23 4))
  | 7 => accept (w.extractLsb' 31 1 == 0) (.vorVS (w.extractLsb' 6 6) (w.extractLsb' 12 6) (w.extractLsb' 18 5) (w.extractLsb' 23 4))
  | 8 => accept (w.extractLsb' 31 1 == 0) (.vxorVS (w.extractLsb' 6 6) (w.extractLsb' 12 6) (w.extractLsb' 18 5) (w.extractLsb' 23 4))
  | 9 => accept (w.extractLsb' 31 1 == 0) (.vsllVS (w.extractLsb' 6 6) (w.extractLsb' 12 6) (w.extractLsb' 18 5) (w.extractLsb' 23 4))
  | 10 => accept (w.extractLsb' 31 1 == 0) (.vsrlVS (w.extractLsb' 6 6) (w.extractLsb' 12 6) (w.extractLsb' 18 5) (w.extractLsb' 23 4))
  | 11 => accept (w.extractLsb' 31 1 == 0) (.vsraVS (w.extractLsb' 6 6) (w.extractLsb' 12 6) (w.extractLsb' 18 5) (w.extractLsb' 23 4))
  | 12 => accept (w.extractLsb' 31 1 == 0) (.vaddsVS (w.extractLsb' 6 6) (w.extractLsb' 12 6) (w.extractLsb' 18 5) (w.extractLsb' 23 4))
  | 13 => accept (w.extractLsb' 31 1 == 0) (.vsubsVS (w.extractLsb' 6 6) (w.extractLsb' 12 6) (w.extractLsb' 18 5) (w.extractLsb' 23 4))
  | _ => .error .illFn

/-- Words of major 0x1C (R36 to R42). -/
def decodeMajor1C (w : BitVec 32) : Except IllCause Instr :=
  match (w.extractLsb' 28 4).toNat with
  | 0 => accept true (.vwadd (w.extractLsb' 6 6) (w.extractLsb' 12 6) (w.extractLsb' 18 6) (w.extractLsb' 24 4))
  | 1 => accept true (.vwmacc (w.extractLsb' 6 6) (w.extractLsb' 12 6) (w.extractLsb' 18 6) (w.extractLsb' 24 4))
  | 2 => accept true (.vwmaccu (w.extractLsb' 6 6) (w.extractLsb' 12 6) (w.extractLsb' 18 6) (w.extractLsb' 24 4))
  | 3 => accept true (.vnclip (w.extractLsb' 6 6) (w.extractLsb' 12 6) (w.extractLsb' 18 6) (w.extractLsb' 24 4))
  | _ => .error .illFn

/-- Words of major 0x1D (R36 to R42). -/
def decodeMajor1D (w : BitVec 32) : Except IllCause Instr :=
  match (w.extractLsb' 28 4).toNat with
  | 0 => accept true (.vfaddVV (w.extractLsb' 6 6) (w.extractLsb' 12 6) (w.extractLsb' 18 6) (w.extractLsb' 24 4))
  | 1 => accept true (.vfsubVV (w.extractLsb' 6 6) (w.extractLsb' 12 6) (w.extractLsb' 18 6) (w.extractLsb' 24 4))
  | 2 => accept true (.vfmulVV (w.extractLsb' 6 6) (w.extractLsb' 12 6) (w.extractLsb' 18 6) (w.extractLsb' 24 4))
  | 3 => accept true (.vfmaVV (w.extractLsb' 6 6) (w.extractLsb' 12 6) (w.extractLsb' 18 6) (w.extractLsb' 24 4))
  | 4 => accept true (.vfmsVV (w.extractLsb' 6 6) (w.extractLsb' 12 6) (w.extractLsb' 18 6) (w.extractLsb' 24 4))
  | 5 => accept true (.vfnmaVV (w.extractLsb' 6 6) (w.extractLsb' 12 6) (w.extractLsb' 18 6) (w.extractLsb' 24 4))
  | 6 => accept true (.vfdivVV (w.extractLsb' 6 6) (w.extractLsb' 12 6) (w.extractLsb' 18 6) (w.extractLsb' 24 4))
  | 7 => accept true (.vfminVV (w.extractLsb' 6 6) (w.extractLsb' 12 6) (w.extractLsb' 18 6) (w.extractLsb' 24 4))
  | 8 => accept true (.vfmaxVV (w.extractLsb' 6 6) (w.extractLsb' 12 6) (w.extractLsb' 18 6) (w.extractLsb' 24 4))
  | _ => .error .illFn

/-- Words of major 0x1E (R36 to R42). -/
def decodeMajor1E (w : BitVec 32) : Except IllCause Instr :=
  match (w.extractLsb' 27 4).toNat with
  | 0 => accept (w.extractLsb' 31 1 == 0) (.vfaddVS (w.extractLsb' 6 6) (w.extractLsb' 12 6) (w.extractLsb' 18 5) (w.extractLsb' 23 4))
  | 1 => accept (w.extractLsb' 31 1 == 0) (.vfsubVS (w.extractLsb' 6 6) (w.extractLsb' 12 6) (w.extractLsb' 18 5) (w.extractLsb' 23 4))
  | 2 => accept (w.extractLsb' 31 1 == 0) (.vfmulVS (w.extractLsb' 6 6) (w.extractLsb' 12 6) (w.extractLsb' 18 5) (w.extractLsb' 23 4))
  | 3 => accept (w.extractLsb' 31 1 == 0) (.vfmaVS (w.extractLsb' 6 6) (w.extractLsb' 12 6) (w.extractLsb' 18 5) (w.extractLsb' 23 4))
  | 4 => accept (w.extractLsb' 31 1 == 0) (.vfmsVS (w.extractLsb' 6 6) (w.extractLsb' 12 6) (w.extractLsb' 18 5) (w.extractLsb' 23 4))
  | 5 => accept (w.extractLsb' 31 1 == 0) (.vfnmaVS (w.extractLsb' 6 6) (w.extractLsb' 12 6) (w.extractLsb' 18 5) (w.extractLsb' 23 4))
  | 6 => accept (w.extractLsb' 31 1 == 0) (.vfdivVS (w.extractLsb' 6 6) (w.extractLsb' 12 6) (w.extractLsb' 18 5) (w.extractLsb' 23 4))
  | 7 => accept (w.extractLsb' 31 1 == 0) (.vfminVS (w.extractLsb' 6 6) (w.extractLsb' 12 6) (w.extractLsb' 18 5) (w.extractLsb' 23 4))
  | 8 => accept (w.extractLsb' 31 1 == 0) (.vfmaxVS (w.extractLsb' 6 6) (w.extractLsb' 12 6) (w.extractLsb' 18 5) (w.extractLsb' 23 4))
  | _ => .error .illFn

/-- Words of major 0x1F (R36 to R42). -/
def decodeMajor1F (w : BitVec 32) : Except IllCause Instr :=
  match (w.extractLsb' 28 4).toNat with
  | 0 => accept (w.extractLsb' 18 6 == 0) (.vfsqrt (w.extractLsb' 6 6) (w.extractLsb' 12 6) (w.extractLsb' 24 4))
  | 1 => accept (w.extractLsb' 18 6 == 0) (.vfrsq (w.extractLsb' 6 6) (w.extractLsb' 12 6) (w.extractLsb' 24 4))
  | 2 => accept (w.extractLsb' 18 6 == 0) (.vfrec (w.extractLsb' 6 6) (w.extractLsb' 12 6) (w.extractLsb' 24 4))
  | 3 => accept (w.extractLsb' 18 6 == 0) (.vfexp2 (w.extractLsb' 6 6) (w.extractLsb' 12 6) (w.extractLsb' 24 4))
  | 4 => accept (w.extractLsb' 18 6 == 0) (.vflog2 (w.extractLsb' 6 6) (w.extractLsb' 12 6) (w.extractLsb' 24 4))
  | 5 => accept (w.extractLsb' 18 6 == 0) (.vfsin (w.extractLsb' 6 6) (w.extractLsb' 12 6) (w.extractLsb' 24 4))
  | 6 => accept (w.extractLsb' 18 6 == 0) (.vfcos (w.extractLsb' 6 6) (w.extractLsb' 12 6) (w.extractLsb' 24 4))
  | _ => .error .illFn

/-- Words of major 0x20 (R36 to R42). -/
def decodeMajor20 (w : BitVec 32) : Except IllCause Instr :=
  accept (w.extractLsb' 18 6 == 0) (.vcvt (w.extractLsb' 6 6) (w.extractLsb' 12 6) (w.extractLsb' 24 4) (w.extractLsb' 28 4))

/-- Words of major 0x21 (R36 to R42). -/
def decodeMajor21 (w : BitVec 32) : Except IllCause Instr :=
  match (w.extractLsb' 27 4).toNat with
  | 0 => accept (w.extractLsb' 18 5 == 0 && w.extractLsb' 31 1 == 0) (.vmv (w.extractLsb' 6 6) (w.extractLsb' 12 6) (w.extractLsb' 23 4))
  | 1 => accept (w.extractLsb' 12 6 == 0 && w.extractLsb' 31 1 == 0) (.vbcast (w.extractLsb' 6 6) (w.extractLsb' 18 5) (w.extractLsb' 23 4))
  | 2 => accept (w.extractLsb' 12 11 == 0 && w.extractLsb' 31 1 == 0) (.vidx (w.extractLsb' 6 6) (w.extractLsb' 23 4))
  | _ => .error .illFn

/-- Words of major 0x22 (R36 to R42). -/
def decodeMajor22 (w : BitVec 32) : Except IllCause Instr :=
  match (w.extractLsb' 28 4).toNat with
  | 0 => accept (w.extractLsb' 10 2 == 0) (.vcmpEqVV (w.extractLsb' 6 4) (w.extractLsb' 12 6) (w.extractLsb' 18 6) (w.extractLsb' 24 4))
  | 1 => accept (w.extractLsb' 10 2 == 0) (.vcmpNeVV (w.extractLsb' 6 4) (w.extractLsb' 12 6) (w.extractLsb' 18 6) (w.extractLsb' 24 4))
  | 2 => accept (w.extractLsb' 10 2 == 0) (.vcmpLtVV (w.extractLsb' 6 4) (w.extractLsb' 12 6) (w.extractLsb' 18 6) (w.extractLsb' 24 4))
  | 3 => accept (w.extractLsb' 10 2 == 0) (.vcmpLeVV (w.extractLsb' 6 4) (w.extractLsb' 12 6) (w.extractLsb' 18 6) (w.extractLsb' 24 4))
  | 4 => accept (w.extractLsb' 10 2 == 0) (.vcmpGtVV (w.extractLsb' 6 4) (w.extractLsb' 12 6) (w.extractLsb' 18 6) (w.extractLsb' 24 4))
  | 5 => accept (w.extractLsb' 10 2 == 0) (.vcmpGeVV (w.extractLsb' 6 4) (w.extractLsb' 12 6) (w.extractLsb' 18 6) (w.extractLsb' 24 4))
  | _ => .error .illFn

/-- Words of major 0x23 (R36 to R42). -/
def decodeMajor23 (w : BitVec 32) : Except IllCause Instr :=
  match (w.extractLsb' 27 4).toNat with
  | 0 => accept (w.extractLsb' 10 2 == 0 && w.extractLsb' 31 1 == 0) (.vcmpEqVS (w.extractLsb' 6 4) (w.extractLsb' 12 6) (w.extractLsb' 18 5) (w.extractLsb' 23 4))
  | 1 => accept (w.extractLsb' 10 2 == 0 && w.extractLsb' 31 1 == 0) (.vcmpNeVS (w.extractLsb' 6 4) (w.extractLsb' 12 6) (w.extractLsb' 18 5) (w.extractLsb' 23 4))
  | 2 => accept (w.extractLsb' 10 2 == 0 && w.extractLsb' 31 1 == 0) (.vcmpLtVS (w.extractLsb' 6 4) (w.extractLsb' 12 6) (w.extractLsb' 18 5) (w.extractLsb' 23 4))
  | 3 => accept (w.extractLsb' 10 2 == 0 && w.extractLsb' 31 1 == 0) (.vcmpLeVS (w.extractLsb' 6 4) (w.extractLsb' 12 6) (w.extractLsb' 18 5) (w.extractLsb' 23 4))
  | 4 => accept (w.extractLsb' 10 2 == 0 && w.extractLsb' 31 1 == 0) (.vcmpGtVS (w.extractLsb' 6 4) (w.extractLsb' 12 6) (w.extractLsb' 18 5) (w.extractLsb' 23 4))
  | 5 => accept (w.extractLsb' 10 2 == 0 && w.extractLsb' 31 1 == 0) (.vcmpGeVS (w.extractLsb' 6 4) (w.extractLsb' 12 6) (w.extractLsb' 18 5) (w.extractLsb' 23 4))
  | _ => .error .illFn

/-- Words of major 0x24 (R36 to R42). -/
def decodeMajor24 (w : BitVec 32) : Except IllCause Instr :=
  match (w.extractLsb' 28 4).toNat with
  | 0 => accept (w.extractLsb' 10 2 == 0) (.vfcmpEq (w.extractLsb' 6 4) (w.extractLsb' 12 6) (w.extractLsb' 18 6) (w.extractLsb' 24 4))
  | 1 => accept (w.extractLsb' 10 2 == 0) (.vfcmpNe (w.extractLsb' 6 4) (w.extractLsb' 12 6) (w.extractLsb' 18 6) (w.extractLsb' 24 4))
  | 2 => accept (w.extractLsb' 10 2 == 0) (.vfcmpLt (w.extractLsb' 6 4) (w.extractLsb' 12 6) (w.extractLsb' 18 6) (w.extractLsb' 24 4))
  | 3 => accept (w.extractLsb' 10 2 == 0) (.vfcmpLe (w.extractLsb' 6 4) (w.extractLsb' 12 6) (w.extractLsb' 18 6) (w.extractLsb' 24 4))
  | _ => .error .illFn

/-- Words of major 0x25 (R36 to R42). -/
def decodeMajor25 (w : BitVec 32) : Except IllCause Instr :=
  match (w.extractLsb' 27 4).toNat with
  | 0 => accept (w.extractLsb' 11 1 == 0 && w.extractLsb' 31 1 == 0) (.vrsum (w.extractLsb' 6 5) (w.extractLsb' 12 6) (w.extractLsb' 18 5) (w.extractLsb' 23 4))
  | 1 => accept (w.extractLsb' 11 1 == 0 && w.extractLsb' 31 1 == 0) (.vrmax (w.extractLsb' 6 5) (w.extractLsb' 12 6) (w.extractLsb' 18 5) (w.extractLsb' 23 4))
  | 2 => accept (w.extractLsb' 11 1 == 0 && w.extractLsb' 31 1 == 0) (.vrmin (w.extractLsb' 6 5) (w.extractLsb' 12 6) (w.extractLsb' 18 5) (w.extractLsb' 23 4))
  | 3 => accept (w.extractLsb' 11 1 == 0 && w.extractLsb' 31 1 == 0) (.vfrsum (w.extractLsb' 6 5) (w.extractLsb' 12 6) (w.extractLsb' 18 5) (w.extractLsb' 23 4))
  | 4 => accept (w.extractLsb' 11 1 == 0 && w.extractLsb' 31 1 == 0) (.vfrmax (w.extractLsb' 6 5) (w.extractLsb' 12 6) (w.extractLsb' 18 5) (w.extractLsb' 23 4))
  | _ => .error .illFn

/-- Words of major 0x26 (R36 to R42). -/
def decodeMajor26 (w : BitVec 32) : Except IllCause Instr :=
  match (w.extractLsb' 28 4).toNat with
  | 0 => accept (w.extractLsb' 10 2 == 0 && w.extractLsb' 16 2 == 0 && w.extractLsb' 22 6 == 0) (.mand (w.extractLsb' 6 4) (w.extractLsb' 12 4) (w.extractLsb' 18 4))
  | 1 => accept (w.extractLsb' 10 2 == 0 && w.extractLsb' 16 2 == 0 && w.extractLsb' 22 6 == 0) (.mor (w.extractLsb' 6 4) (w.extractLsb' 12 4) (w.extractLsb' 18 4))
  | 2 => accept (w.extractLsb' 10 2 == 0 && w.extractLsb' 16 2 == 0 && w.extractLsb' 22 6 == 0) (.mxor (w.extractLsb' 6 4) (w.extractLsb' 12 4) (w.extractLsb' 18 4))
  | 3 => accept (w.extractLsb' 10 2 == 0 && w.extractLsb' 16 12 == 0) (.mnot (w.extractLsb' 6 4) (w.extractLsb' 12 4))
  | 4 => accept (w.extractLsb' 10 18 == 0) (.mset (w.extractLsb' 6 4))
  | 5 => accept (w.extractLsb' 10 18 == 0) (.mclr (w.extractLsb' 6 4))
  | _ => .error .illFn

/-- Words of major 0x27 (R36 to R42). -/
def decodeMajor27 (w : BitVec 32) : Except IllCause Instr :=
  match (w.extractLsb' 27 4).toNat with
  | 0 => accept (w.extractLsb' 11 1 == 0 && w.extractLsb' 16 11 == 0 && w.extractLsb' 31 1 == 0) (.mcnt (w.extractLsb' 6 5) (w.extractLsb' 12 4))
  | 1 => accept (w.extractLsb' 11 1 == 0 && w.extractLsb' 16 11 == 0 && w.extractLsb' 31 1 == 0) (.many (w.extractLsb' 6 5) (w.extractLsb' 12 4))
  | 2 => accept (w.extractLsb' 11 1 == 0 && w.extractLsb' 16 11 == 0 && w.extractLsb' 31 1 == 0) (.mfirst (w.extractLsb' 6 5) (w.extractLsb' 12 4))
  | 3 => accept (w.extractLsb' 11 1 == 0 && w.extractLsb' 31 1 == 0) (.vmaxix (w.extractLsb' 6 5) (w.extractLsb' 12 6) (w.extractLsb' 18 5) (w.extractLsb' 23 4))
  | _ => .error .illFn

/-- Words of major 0x28 (R36 to R42). -/
def decodeMajor28 (w : BitVec 32) : Except IllCause Instr :=
  match (w.extractLsb' 28 4).toNat with
  | 0 => accept (w.extractLsb' 23 1 == 0) (.vcprs (w.extractLsb' 6 6) (w.extractLsb' 12 6) (w.extractLsb' 18 5) (w.extractLsb' 24 4))
  | 1 => accept (w.extractLsb' 18 6 == 0) (.vexpd (w.extractLsb' 6 6) (w.extractLsb' 12 6) (w.extractLsb' 24 4))
  | 2 => accept true (.vperm (w.extractLsb' 6 6) (w.extractLsb' 12 6) (w.extractLsb' 18 6) (w.extractLsb' 24 4))
  | 3 => accept true (.vpush (w.extractLsb' 6 6) (w.extractLsb' 12 6) (w.extractLsb' 18 6) (w.extractLsb' 24 4))
  | _ => .error .illFn

/-- Words of major 0x29 (R36 to R42). -/
def decodeMajor29 (w : BitVec 32) : Except IllCause Instr :=
  match (w.extractLsb' 27 4).toNat with
  | 0 => accept (w.extractLsb' 31 1 == 0) (.vslup (w.extractLsb' 6 6) (w.extractLsb' 12 6) (w.extractLsb' 18 5) (w.extractLsb' 23 4))
  | 1 => accept (w.extractLsb' 31 1 == 0) (.vsldn (w.extractLsb' 6 6) (w.extractLsb' 12 6) (w.extractLsb' 18 5) (w.extractLsb' 23 4))
  | 2 => accept (w.extractLsb' 31 1 == 0) (.vrot (w.extractLsb' 6 6) (w.extractLsb' 12 6) (w.extractLsb' 18 5) (w.extractLsb' 23 4))
  | 3 => accept (w.extractLsb' 31 1 == 0) (.vgrpt2 (w.extractLsb' 6 6) (w.extractLsb' 12 6) (w.extractLsb' 18 5) (w.extractLsb' 23 4))
  | 4 => accept (w.extractLsb' 10 2 == 0 && w.extractLsb' 16 2 == 0 && w.extractLsb' 31 1 == 0) (.vgrpmsk (w.extractLsb' 6 4) (w.extractLsb' 12 4) (w.extractLsb' 18 5) (w.extractLsb' 23 4))
  | 5 => accept (w.extractLsb' 31 1 == 0) (.vnofm (w.extractLsb' 6 6) (w.extractLsb' 12 6) (w.extractLsb' 18 5) (w.extractLsb' 23 4))
  | _ => .error .illFn

/-- Words of major 0x2A (R36 to R42). -/
def decodeMajor2A (w : BitVec 32) : Except IllCause Instr :=
  if w.extractLsb' 31 1 = 1#1 then
    accept (w.extractLsb' 30 1 == 0) (.vlds (w.extractLsb' 6 6) (w.extractLsb' 12 5) (w.extractLsb' 17 4) (w.extractLsb' 21 4) (w.extractLsb' 25 5))
  else
    match (w.extractLsb' 28 3).toNat with
    | 0 => accept (w.extractLsb' 25 3 == 0) (.vld (w.extractLsb' 6 6) (w.extractLsb' 12 5) (w.extractLsb' 17 4) (w.extractLsb' 21 4))
    | 1 => accept (w.extractLsb' 25 3 == 0) (.vldff (w.extractLsb' 6 6) (w.extractLsb' 12 5) (w.extractLsb' 17 4) (w.extractLsb' 21 4))
    | 2 => accept true (.vldp (w.extractLsb' 6 6) (w.extractLsb' 12 5) (w.extractLsb' 17 4) (w.extractLsb' 21 4) (w.extractLsb' 25 3))
    | _ => .error .illFn

/-- Words of major 0x2B (R36 to R42). -/
def decodeMajor2B (w : BitVec 32) : Except IllCause Instr :=
  match (w.extractLsb' 31 1).toNat with
  | 0 => accept true (.vldx (w.extractLsb' 6 6) (w.extractLsb' 12 5) (w.extractLsb' 17 4) (w.extractLsb' 21 4) (w.extractLsb' 25 6))
  | _ => .error .illFn

/-- Words of major 0x2C (R36 to R42). -/
def decodeMajor2C (w : BitVec 32) : Except IllCause Instr :=
  match (w.extractLsb' 31 1).toNat with
  | 0 => accept (w.extractLsb' 25 6 == 0) (.vst (w.extractLsb' 6 6) (w.extractLsb' 12 5) (w.extractLsb' 17 4) (w.extractLsb' 21 4))
  | 1 => accept (w.extractLsb' 30 1 == 0) (.vsts (w.extractLsb' 6 6) (w.extractLsb' 12 5) (w.extractLsb' 17 4) (w.extractLsb' 21 4) (w.extractLsb' 25 5))
  | _ => .error .illFn

/-- Words of major 0x2D (R36 to R42). -/
def decodeMajor2D (w : BitVec 32) : Except IllCause Instr :=
  match (w.extractLsb' 31 1).toNat with
  | 0 => accept true (.vstx (w.extractLsb' 6 6) (w.extractLsb' 12 5) (w.extractLsb' 17 4) (w.extractLsb' 21 4) (w.extractLsb' 25 6))
  | 1 => accept true (.vstxadd (w.extractLsb' 6 6) (w.extractLsb' 12 5) (w.extractLsb' 17 4) (w.extractLsb' 21 4) (w.extractLsb' 25 6))
  | _ => .error .illFn

/-- Words of major 0x2E (R36 to R42). -/
def decodeMajor2E (w : BitVec 32) : Except IllCause Instr :=
  match (w.extractLsb' 28 4).toNat with
  | 0 => accept (w.extractLsb' 6 18 == 0) (.wform (w.extractLsb' 24 4))
  | 1 => accept (w.extractLsb' 6 22 == 0) (.wsplit)
  | 2 => accept (w.extractLsb' 8 20 == 0) (.wzero (w.extractLsb' 6 2))
  | 3 => accept (w.extractLsb' 14 10 == 0 && w.extractLsb' 25 3 == 0) (.wdrain (w.extractLsb' 6 2) (w.extractLsb' 8 6) (w.extractLsb' 24 1))
  | 4 => accept (w.extractLsb' 6 2 == 0 && w.extractLsb' 13 1 == 0 && w.extractLsb' 19 9 == 0) (.wfmt (w.extractLsb' 8 5) (w.extractLsb' 14 5))
  | _ => .error .illFn

/-- Words of major 0x2F (R36 to R42). -/
def decodeMajor2F (w : BitVec 32) : Except IllCause Instr :=
  match (w.extractLsb' 28 4).toNat with
  | 0 => accept (w.extractLsb' 6 2 == 0 && w.extractLsb' 19 1 == 0 && w.extractLsb' 24 4 == 0) (.wgath (w.extractLsb' 8 6) (w.extractLsb' 14 5) (w.extractLsb' 20 4))
  | 1 => accept (w.extractLsb' 6 2 == 0 && w.extractLsb' 13 1 == 0 && w.extractLsb' 19 9 == 0) (.wldb (w.extractLsb' 8 5) (w.extractLsb' 14 5))
  | _ => .error .illFn

/-- Words of major 0x30 (R36 to R42). -/
def decodeMajor30 (w : BitVec 32) : Except IllCause Instr :=
  match (w.extractLsb' 28 4).toNat with
  | 0 => accept (w.extractLsb' 14 10 == 0) (.wop (w.extractLsb' 6 2) (w.extractLsb' 8 6) (w.extractLsb' 24 4))
  | 1 => accept (w.extractLsb' 14 10 == 0) (.wops (w.extractLsb' 6 2) (w.extractLsb' 8 6) (w.extractLsb' 24 4))
  | 2 => accept (w.extractLsb' 14 10 == 0) (.wbp (w.extractLsb' 6 2) (w.extractLsb' 8 6) (w.extractLsb' 24 4))
  | 3 => accept true (.wopv (w.extractLsb' 6 2) (w.extractLsb' 8 6) (w.extractLsb' 14 6) (w.extractLsb' 20 4) (w.extractLsb' 24 4))
  | _ => .error .illFn

/-- Words of major 0x32 (R36 to R42). -/
noncomputable def decodeMajor32 (w : BitVec 32) : Except IllCause Instr :=
  match (w.extractLsb' 27 5).toNat with
  | 0 => accept (w.extractLsb' 21 2 == 0) (.send (w.extractLsb' 6 5) (w.extractLsb' 11 5) (w.extractLsb' 16 5) (w.extractLsb' 23 4))
  | 1 => accept (w.extractLsb' 6 5 == 0 && w.extractLsb' 21 2 == 0) (.sendP (w.extractLsb' 11 5) (w.extractLsb' 16 5) (w.extractLsb' 23 4))
  | 2 => accept (w.extractLsb' 21 2 == 0) (.mpop (w.extractLsb' 6 5) (w.extractLsb' 11 5) (w.extractLsb' 16 5) (w.extractLsb' 23 4))
  | 3 => accept (w.extractLsb' 6 21 == 0) (.mret)
  | 4 => accept (w.extractLsb' 21 6 == 0) (.waitm (w.extractLsb' 6 5) (w.extractLsb' 11 5) (w.extractLsb' 16 5))
  | 5 => accept (w.extractLsb' 21 2 == 0) (.eng (w.extractLsb' 6 5) (w.extractLsb' 11 5) (w.extractLsb' 16 5) (w.extractLsb' 23 4))
  | _ => .error .illFn

/-- Words of major 0x33 (R36 to R42). -/
noncomputable def decodeMajor33 (w : BitVec 32) : Except IllCause Instr :=
  match (w.extractLsb' 30 2).toNat with
  | 0 => accept true (.put (w.extractLsb' 6 5) (w.extractLsb' 11 5) (w.extractLsb' 16 5) (w.extractLsb' 21 5) (w.extractLsb' 26 4))
  | 1 => accept true (.putm (w.extractLsb' 6 5) (w.extractLsb' 11 5) (w.extractLsb' 16 5) (w.extractLsb' 21 5) (w.extractLsb' 26 4))
  | _ => .error .illFn

/-- Words of major 0x34 (R36 to R42). -/
noncomputable def decodeMajor34 (w : BitVec 32) : Except IllCause Instr :=
  match (w.extractLsb' 27 5).toNat with
  | 0 => accept (w.extractLsb' 21 6 == 0) (.chbind (w.extractLsb' 6 5) (w.extractLsb' 11 5) (w.extractLsb' 16 5))
  | 1 => accept (w.extractLsb' 16 11 == 0) (.chen (w.extractLsb' 6 5) (w.extractLsb' 11 5))
  | 2 => accept (w.extractLsb' 16 11 == 0) (.chdis (w.extractLsb' 6 5) (w.extractLsb' 11 5))
  | 3 => accept (w.extractLsb' 21 6 == 0) (.chpendRead (w.extractLsb' 6 5) (w.extractLsb' 11 5) (w.extractLsb' 16 5))
  | _ => .error .illFn

/-- Words of major 0x35 (R36 to R42). -/
noncomputable def decodeMajor35 (w : BitVec 32) : Except IllCause Instr :=
  match (w.extractLsb' 27 5).toNat with
  | 0 => accept (w.extractLsb' 6 5 == 0 && w.extractLsb' 21 2 == 0) (.binit (w.extractLsb' 11 5) (w.extractLsb' 16 5) (w.extractLsb' 23 4))
  | 1 => accept (w.extractLsb' 21 2 == 0) (.barr (w.extractLsb' 6 5) (w.extractLsb' 11 5) (w.extractLsb' 16 5) (w.extractLsb' 23 4))
  | 2 => accept (w.extractLsb' 21 2 == 0) (.bexp (w.extractLsb' 6 5) (w.extractLsb' 11 5) (w.extractLsb' 16 5) (w.extractLsb' 23 4))
  | 3 => accept (w.extractLsb' 21 2 == 0) (.bwait (w.extractLsb' 6 5) (w.extractLsb' 11 5) (w.extractLsb' 16 5) (w.extractLsb' 23 4))
  | 4 => accept (w.extractLsb' 21 2 == 0) (.bqry (w.extractLsb' 6 5) (w.extractLsb' 11 5) (w.extractLsb' 16 5) (w.extractLsb' 23 4))
  | _ => .error .illFn

/-- Words of major 0x36 (R36 to R42). -/
noncomputable def decodeMajor36 (w : BitVec 32) : Except IllCause Instr :=
  match (w.extractLsb' 27 5).toNat with
  | 0 => accept (w.extractLsb' 21 2 == 0) (.tqpush (w.extractLsb' 6 5) (w.extractLsb' 11 5) (w.extractLsb' 16 5) (w.extractLsb' 23 4))
  | 1 => accept (w.extractLsb' 21 2 == 0) (.tget (w.extractLsb' 6 5) (w.extractLsb' 11 5) (w.extractLsb' 16 5) (w.extractLsb' 23 4))
  | 2 => accept (w.extractLsb' 11 12 == 0) (.tdone (w.extractLsb' 6 5) (w.extractLsb' 23 4))
  | 3 => accept (w.extractLsb' 21 2 == 0) (.tdepRead (w.extractLsb' 6 5) (w.extractLsb' 11 5) (w.extractLsb' 16 5) (w.extractLsb' 23 4))
  | 4 => accept (w.extractLsb' 21 2 == 0) (.tileq (w.extractLsb' 6 5) (w.extractLsb' 11 5) (w.extractLsb' 16 5) (w.extractLsb' 23 4))
  | _ => .error .illFn

/-- Words of major 0x37 (R36 to R42). -/
noncomputable def decodeMajor37 (w : BitVec 32) : Except IllCause Instr :=
  match (w.extractLsb' 30 2).toNat with
  | 0 => accept true (.xdisp (w.extractLsb' 6 5) (w.extractLsb' 11 5) (w.extractLsb' 16 5) (w.extractLsb' 21 5) (w.extractLsb' 26 4))
  | 1 => accept true (.xcomb (w.extractLsb' 6 5) (w.extractLsb' 11 5) (w.extractLsb' 16 5) (w.extractLsb' 21 5) (w.extractLsb' 26 4))
  | _ => .error .illFn

/-- Words of major 0x38 (R36 to R42). -/
noncomputable def decodeMajor38 (w : BitVec 32) : Except IllCause Instr :=
  match (w.extractLsb' 27 5).toNat with
  | 0 => accept (w.extractLsb' 16 11 == 0) (.dreg (w.extractLsb' 6 5) (w.extractLsb' 11 5))
  | 1 => accept (w.extractLsb' 16 11 == 0) (.ddel (w.extractLsb' 6 5) (w.extractLsb' 11 5))
  | 2 => accept (w.extractLsb' 21 6 == 0) (.dmove (w.extractLsb' 6 5) (w.extractLsb' 11 5) (w.extractLsb' 16 5))
  | _ => .error .illFn

/-- Words of major 0x39 (R36 to R42). -/
noncomputable def decodeMajor39 (w : BitVec 32) : Except IllCause Instr :=
  match (w.extractLsb' 27 5).toNat with
  | 0 => accept (w.extractLsb' 21 3 == 0) (.solicit (w.extractLsb' 6 5) (w.extractLsb' 11 5) (w.extractLsb' 16 5) (w.extractLsb' 24 3))
  | 1 => accept (w.extractLsb' 21 6 == 0) (.reply (w.extractLsb' 6 5) (w.extractLsb' 11 5) (w.extractLsb' 16 5))
  | 2 => accept (w.extractLsb' 21 6 == 0) (.cwait (w.extractLsb' 6 5) (w.extractLsb' 11 5) (w.extractLsb' 16 5))
  | 3 => accept (w.extractLsb' 21 6 == 0) (.cresResult (w.extractLsb' 6 5) (w.extractLsb' 11 5) (w.extractLsb' 16 5))
  | _ => .error .illFn

/-- Words of major 0x3A (R36 to R42). -/
noncomputable def decodeMajor3A (w : BitVec 32) : Except IllCause Instr :=
  match (w.extractLsb' 27 5).toNat with
  | 0 => accept (w.extractLsb' 21 6 == 0) (.tlbinvVa (w.extractLsb' 6 5) (w.extractLsb' 11 5) (w.extractLsb' 16 5))
  | 1 => accept (w.extractLsb' 16 11 == 0) (.chkerr (w.extractLsb' 6 5) (w.extractLsb' 11 5))
  | 2 => accept (w.extractLsb' 21 6 == 0) (.errqPop (w.extractLsb' 6 5) (w.extractLsb' 11 5) (w.extractLsb' 16 5))
  | 3 => accept (w.extractLsb' 6 5 == 0 && w.extractLsb' 21 6 == 0) (.poisonMark (w.extractLsb' 11 5) (w.extractLsb' 16 5))
  | _ => .error .illFn

/-- The instruction a word of a major up to 0x30 is (R43 rows 2 to 7): the majors that hold every instruction the
vector queue takes. -/
def decodeLow (w : BitVec 32) : Except IllCause Instr :=
  match (w.extractLsb' 0 6).toNat with
  | 1 => decodeMajor01 w
  | 2 => decodeMajor02 w
  | 3 => decodeMajor03 w
  | 4 => decodeMajor04 w
  | 5 => decodeMajor05 w
  | 6 => decodeMajor06 w
  | 7 => decodeMajor07 w
  | 8 => decodeMajor08 w
  | 9 => decodeMajor09 w
  | 10 => decodeMajor0A w
  | 12 => decodeMajor0C w
  | 13 => decodeMajor0D w
  | 14 => decodeMajor0E w
  | 15 => decodeMajor0F w
  | 16 => decodeMajor10 w
  | 17 => decodeMajor11 w
  | 18 => decodeMajor12 w
  | 19 => decodeMajor13 w
  | 20 => decodeMajor14 w
  | 21 => decodeMajor15 w
  | 22 => decodeMajor16 w
  | 24 => decodeMajor18 w
  | 25 => decodeMajor19 w
  | 26 => decodeMajor1A w
  | 27 => decodeMajor1B w
  | 28 => decodeMajor1C w
  | 29 => decodeMajor1D w
  | 30 => decodeMajor1E w
  | 31 => decodeMajor1F w
  | 32 => decodeMajor20 w
  | 33 => decodeMajor21 w
  | 34 => decodeMajor22 w
  | 35 => decodeMajor23 w
  | 36 => decodeMajor24 w
  | 37 => decodeMajor25 w
  | 38 => decodeMajor26 w
  | 39 => decodeMajor27 w
  | 40 => decodeMajor28 w
  | 41 => decodeMajor29 w
  | 42 => decodeMajor2A w
  | 43 => decodeMajor2B w
  | 44 => decodeMajor2C w
  | 45 => decodeMajor2D w
  | 46 => decodeMajor2E w
  | 47 => decodeMajor2F w
  | 48 => decodeMajor30 w
  | _ => .error .illMajor

/-- The instruction a word is, or the first cause of R43 that the word alone decides (rows 1 to 7). -/
noncomputable def decode (w : BitVec 32) : Except IllCause Instr :=
  if w = 0#32 then .error .illZero
  else
    match (w.extractLsb' 0 6).toNat with
    | 50 => decodeMajor32 w
    | 51 => decodeMajor33 w
    | 52 => decodeMajor34 w
    | 53 => decodeMajor35 w
    | 54 => decodeMajor36 w
    | 55 => decodeMajor37 w
    | 56 => decodeMajor38 w
    | 57 => decodeMajor39 w
    | 58 => decodeMajor3A w
    | _ => decodeLow w

/-- The word of an instruction, from the encoding tables of R33 to R42; an event has none. -/
def encode : Instr → Option (BitVec 32)
  | .add d a b => some (0#11 ++ b ++ a ++ d ++ 1#6)
  | .sub d a b => some (64#11 ++ b ++ a ++ d ++ 1#6)
  | .and d a b => some (128#11 ++ b ++ a ++ d ++ 1#6)
  | .or d a b => some (192#11 ++ b ++ a ++ d ++ 1#6)
  | .xor d a b => some (256#11 ++ b ++ a ++ d ++ 1#6)
  | .sll d a b => some (320#11 ++ b ++ a ++ d ++ 1#6)
  | .srl d a b => some (384#11 ++ b ++ a ++ d ++ 1#6)
  | .sra d a b => some (448#11 ++ b ++ a ++ d ++ 1#6)
  | .slt d a b => some (512#11 ++ b ++ a ++ d ++ 1#6)
  | .sltu d a b => some (576#11 ++ b ++ a ++ d ++ 1#6)
  | .min d a b => some (640#11 ++ b ++ a ++ d ++ 1#6)
  | .max d a b => some (704#11 ++ b ++ a ++ d ++ 1#6)
  | .minu d a b => some (768#11 ++ b ++ a ++ d ++ 1#6)
  | .maxu d a b => some (832#11 ++ b ++ a ++ d ++ 1#6)
  | .clz d a => some (28672#16 ++ a ++ d ++ 1#6)
  | .ctz d a => some (30720#16 ++ a ++ d ++ 1#6)
  | .popc d a => some (32768#16 ++ a ++ d ++ 1#6)
  | .mul d a b => some (1088#11 ++ b ++ a ++ d ++ 1#6)
  | .mulh d a b => some (1152#11 ++ b ++ a ++ d ++ 1#6)
  | .mulhu d a b => some (1216#11 ++ b ++ a ++ d ++ 1#6)
  | .div d a b => some (1280#11 ++ b ++ a ++ d ++ 1#6)
  | .divu d a b => some (1344#11 ++ b ++ a ++ d ++ 1#6)
  | .rem d a b => some (1408#11 ++ b ++ a ++ d ++ 1#6)
  | .remu d a b => some (1472#11 ++ b ++ a ++ d ++ 1#6)
  | .sel d a b e => some (0#6 ++ e ++ b ++ a ++ d ++ 2#6)
  | .addi d a imm => some (imm ++ a ++ d ++ 3#6)
  | .andi d a imm => some (0#2 ++ imm ++ a ++ d ++ 4#6)
  | .ori d a imm => some (1#2 ++ imm ++ a ++ d ++ 4#6)
  | .xori d a imm => some (2#2 ++ imm ++ a ++ d ++ 4#6)
  | .slti d a imm => some (3#2 ++ imm ++ a ++ d ++ 4#6)
  | .slli d a h => some (0#10 ++ h ++ a ++ d ++ 5#6)
  | .srli d a h => some (64#10 ++ h ++ a ++ d ++ 5#6)
  | .srai d a h => some (128#10 ++ h ++ a ++ d ++ 5#6)
  | .bfx d a p l => some (3#4 ++ l ++ p ++ a ++ d ++ 5#6)
  | .bfi d a p l => some (4#4 ++ l ++ p ++ a ++ d ++ 5#6)
  | .lih d imm => some (imm ++ d ++ 6#6)
  | .addpc d imm => some (imm ++ d ++ 7#6)
  | .fadd d a b r t => some (0#5 ++ t ++ r ++ 0#1 ++ b ++ a ++ d ++ 8#6)
  | .fsub d a b r t => some (1#5 ++ t ++ r ++ 0#1 ++ b ++ a ++ d ++ 8#6)
  | .fmul d a b r t => some (2#5 ++ t ++ r ++ 0#1 ++ b ++ a ++ d ++ 8#6)
  | .fdiv d a b r t => some (3#5 ++ t ++ r ++ 0#1 ++ b ++ a ++ d ++ 8#6)
  | .fsqrt d a r t => some (4#5 ++ t ++ r ++ 0#6 ++ a ++ d ++ 8#6)
  | .fmin d a b t => some (5#5 ++ t ++ 0#4 ++ b ++ a ++ d ++ 8#6)
  | .fmax d a b t => some (6#5 ++ t ++ 0#4 ++ b ++ a ++ d ++ 8#6)
  | .feq d a b t => some (7#5 ++ t ++ 0#4 ++ b ++ a ++ d ++ 8#6)
  | .flt d a b t => some (8#5 ++ t ++ 0#4 ++ b ++ a ++ d ++ 8#6)
  | .fle d a b t => some (9#5 ++ t ++ 0#4 ++ b ++ a ++ d ++ 8#6)
  | .fma d a b e r t => some (t ++ r ++ 0#1 ++ e ++ b ++ a ++ d ++ 9#6)
  | .fcvt d a r sx t => some (t ++ sx ++ r ++ 0#5 ++ a ++ d ++ 10#6)
  | .beq a b o => some (0#3 ++ o ++ b ++ a ++ 12#6)
  | .bne a b o => some (1#3 ++ o ++ b ++ a ++ 12#6)
  | .blt a b o => some (2#3 ++ o ++ b ++ a ++ 12#6)
  | .bge a b o => some (3#3 ++ o ++ b ++ a ++ 12#6)
  | .bltu a b o => some (4#3 ++ o ++ b ++ a ++ 12#6)
  | .bgeu a b o => some (5#3 ++ o ++ b ++ a ++ 12#6)
  | .jal d o => some (o ++ d ++ 13#6)
  | .jalr d a imm => some (imm ++ a ++ d ++ 14#6)
  | .jtab d a n => some (n ++ a ++ d ++ 15#6)
  | .ldB d a c imm => some (0#2 ++ imm ++ c ++ a ++ d ++ 16#6)
  | .ldH d a c imm => some (1#2 ++ imm ++ c ++ a ++ d ++ 16#6)
  | .ldW d a c imm => some (2#2 ++ imm ++ c ++ a ++ d ++ 16#6)
  | .ldD d a c imm => some (3#2 ++ imm ++ c ++ a ++ d ++ 16#6)
  | .stB d a c imm => some (0#2 ++ imm ++ c ++ a ++ d ++ 17#6)
  | .stH d a c imm => some (1#2 ++ imm ++ c ++ a ++ d ++ 17#6)
  | .stW d a c imm => some (2#2 ++ imm ++ c ++ a ++ d ++ 17#6)
  | .stD d a c imm => some (3#2 ++ imm ++ c ++ a ++ d ++ 17#6)
  | .ldBu d a c imm => some (0#2 ++ imm ++ c ++ a ++ d ++ 18#6)
  | .ldHu d a c imm => some (1#2 ++ imm ++ c ++ a ++ d ++ 18#6)
  | .ldWu d a c imm => some (2#2 ++ imm ++ c ++ a ++ d ++ 18#6)
  | .pref l a imm => some (3#2 ++ imm ++ 0#4 ++ a ++ l ++ 18#6)
  | .ldAcq d a sx c => some (0#5 ++ c ++ sx ++ 0#5 ++ a ++ d ++ 19#6)
  | .stRel d a sx c => some (1#5 ++ c ++ sx ++ 0#5 ++ a ++ d ++ 19#6)
  | .amoaddW d a b c => some (2#5 ++ c ++ 0#2 ++ b ++ a ++ d ++ 19#6)
  | .amoaddD d a b c => some (3#5 ++ c ++ 0#2 ++ b ++ a ++ d ++ 19#6)
  | .amominW d a b c => some (4#5 ++ c ++ 0#2 ++ b ++ a ++ d ++ 19#6)
  | .amominD d a b c => some (5#5 ++ c ++ 0#2 ++ b ++ a ++ d ++ 19#6)
  | .amomaxW d a b c => some (6#5 ++ c ++ 0#2 ++ b ++ a ++ d ++ 19#6)
  | .amomaxD d a b c => some (7#5 ++ c ++ 0#2 ++ b ++ a ++ d ++ 19#6)
  | .amoandW d a b c => some (8#5 ++ c ++ 0#2 ++ b ++ a ++ d ++ 19#6)
  | .amoandD d a b c => some (9#5 ++ c ++ 0#2 ++ b ++ a ++ d ++ 19#6)
  | .amoorW d a b c => some (10#5 ++ c ++ 0#2 ++ b ++ a ++ d ++ 19#6)
  | .amoorD d a b c => some (11#5 ++ c ++ 0#2 ++ b ++ a ++ d ++ 19#6)
  | .amoxorW d a b c => some (12#5 ++ c ++ 0#2 ++ b ++ a ++ d ++ 19#6)
  | .amoxorD d a b c => some (13#5 ++ c ++ 0#2 ++ b ++ a ++ d ++ 19#6)
  | .amoswpW d a b c => some (14#5 ++ c ++ 0#2 ++ b ++ a ++ d ++ 19#6)
  | .amoswpD d a b c => some (15#5 ++ c ++ 0#2 ++ b ++ a ++ d ++ 19#6)
  | .amocasW d a b c => some (16#5 ++ c ++ 0#2 ++ b ++ a ++ d ++ 19#6)
  | .amocasD d a b c => some (17#5 ++ c ++ 0#2 ++ b ++ a ++ d ++ 19#6)
  | .cflush a c => some (18#5 ++ c ++ 0#7 ++ a ++ 19#11)
  | .cinv a c => some (19#5 ++ c ++ 0#7 ++ a ++ 19#11)
  | .crr d r => some (0#4 ++ r ++ 0#5 ++ d ++ 20#6)
  | .crw a r => some (1#4 ++ r ++ a ++ 20#11)
  | .crs d a r => some (2#4 ++ r ++ a ++ d ++ 20#6)
  | .crc d a r => some (3#4 ++ r ++ a ++ d ++ 20#6)
  | .fenceC k => some (k ++ 21#16)
  | .fenceP p => some (0#10 ++ p ++ 2069#16)
  | .fenceSv k => some (0#10 ++ k ++ 4117#16)
  | .trap imm => some (imm ++ 6165#16)
  | .preempt => some (16783381#32)
  | .resume => some (16848917#32)
  | .setvec => some (16914453#32)
  | .attest => some (16979989#32)
  | .eret => some (8213#32)
  | .yield => some (10261#32)
  | .exit => some (12309#32)
  | .launch d a => some (0#16 ++ a ++ d ++ 22#6)
  | .cbar d a => some (2048#16 ++ a ++ d ++ 22#6)
  | .prio d a => some (4096#16 ++ a ++ d ++ 22#6)
  | .tsleep d a => some (6144#16 ++ a ++ d ++ 22#6)
  | .twake d a => some (8192#16 ++ a ++ d ++ 22#6)
  | .setvl d a v => some (0#2 ++ v ++ 0#5 ++ a ++ d ++ 24#6)
  | .vdecl n => some (128#9 ++ n ++ 24#21)
  | .vgive => some (1107296280#32)
  | .vsave => some (1140850712#32)
  | .vrefill d => some (573440#21 ++ d ++ 24#6)
  | .vgeom d a => some (18432#16 ++ a ++ d ++ 24#6)
  | .setvli d v l => some (l ++ v ++ d ++ 25#6)
  | .vaddVV d a b m => some (0#4 ++ m ++ b ++ a ++ d ++ 26#6)
  | .vsubVV d a b m => some (1#4 ++ m ++ b ++ a ++ d ++ 26#6)
  | .vmulVV d a b m => some (2#4 ++ m ++ b ++ a ++ d ++ 26#6)
  | .vmulhVV d a b m => some (3#4 ++ m ++ b ++ a ++ d ++ 26#6)
  | .vminVV d a b m => some (4#4 ++ m ++ b ++ a ++ d ++ 26#6)
  | .vmaxVV d a b m => some (5#4 ++ m ++ b ++ a ++ d ++ 26#6)
  | .vandVV d a b m => some (6#4 ++ m ++ b ++ a ++ d ++ 26#6)
  | .vorVV d a b m => some (7#4 ++ m ++ b ++ a ++ d ++ 26#6)
  | .vxorVV d a b m => some (8#4 ++ m ++ b ++ a ++ d ++ 26#6)
  | .vsllVV d a b m => some (9#4 ++ m ++ b ++ a ++ d ++ 26#6)
  | .vsrlVV d a b m => some (10#4 ++ m ++ b ++ a ++ d ++ 26#6)
  | .vsraVV d a b m => some (11#4 ++ m ++ b ++ a ++ d ++ 26#6)
  | .vaddsVV d a b m => some (12#4 ++ m ++ b ++ a ++ d ++ 26#6)
  | .vsubsVV d a b m => some (13#4 ++ m ++ b ++ a ++ d ++ 26#6)
  | .vaddVS d a b m => some (0#5 ++ m ++ b ++ a ++ d ++ 27#6)
  | .vsubVS d a b m => some (1#5 ++ m ++ b ++ a ++ d ++ 27#6)
  | .vmulVS d a b m => some (2#5 ++ m ++ b ++ a ++ d ++ 27#6)
  | .vmulhVS d a b m => some (3#5 ++ m ++ b ++ a ++ d ++ 27#6)
  | .vminVS d a b m => some (4#5 ++ m ++ b ++ a ++ d ++ 27#6)
  | .vmaxVS d a b m => some (5#5 ++ m ++ b ++ a ++ d ++ 27#6)
  | .vandVS d a b m => some (6#5 ++ m ++ b ++ a ++ d ++ 27#6)
  | .vorVS d a b m => some (7#5 ++ m ++ b ++ a ++ d ++ 27#6)
  | .vxorVS d a b m => some (8#5 ++ m ++ b ++ a ++ d ++ 27#6)
  | .vsllVS d a b m => some (9#5 ++ m ++ b ++ a ++ d ++ 27#6)
  | .vsrlVS d a b m => some (10#5 ++ m ++ b ++ a ++ d ++ 27#6)
  | .vsraVS d a b m => some (11#5 ++ m ++ b ++ a ++ d ++ 27#6)
  | .vaddsVS d a b m => some (12#5 ++ m ++ b ++ a ++ d ++ 27#6)
  | .vsubsVS d a b m => some (13#5 ++ m ++ b ++ a ++ d ++ 27#6)
  | .vwadd d a b m => some (0#4 ++ m ++ b ++ a ++ d ++ 28#6)
  | .vwmacc d a b m => some (1#4 ++ m ++ b ++ a ++ d ++ 28#6)
  | .vwmaccu d a b m => some (2#4 ++ m ++ b ++ a ++ d ++ 28#6)
  | .vnclip d a b m => some (3#4 ++ m ++ b ++ a ++ d ++ 28#6)
  | .vfaddVV d a b m => some (0#4 ++ m ++ b ++ a ++ d ++ 29#6)
  | .vfsubVV d a b m => some (1#4 ++ m ++ b ++ a ++ d ++ 29#6)
  | .vfmulVV d a b m => some (2#4 ++ m ++ b ++ a ++ d ++ 29#6)
  | .vfmaVV d a b m => some (3#4 ++ m ++ b ++ a ++ d ++ 29#6)
  | .vfmsVV d a b m => some (4#4 ++ m ++ b ++ a ++ d ++ 29#6)
  | .vfnmaVV d a b m => some (5#4 ++ m ++ b ++ a ++ d ++ 29#6)
  | .vfdivVV d a b m => some (6#4 ++ m ++ b ++ a ++ d ++ 29#6)
  | .vfminVV d a b m => some (7#4 ++ m ++ b ++ a ++ d ++ 29#6)
  | .vfmaxVV d a b m => some (8#4 ++ m ++ b ++ a ++ d ++ 29#6)
  | .vfaddVS d a b m => some (0#5 ++ m ++ b ++ a ++ d ++ 30#6)
  | .vfsubVS d a b m => some (1#5 ++ m ++ b ++ a ++ d ++ 30#6)
  | .vfmulVS d a b m => some (2#5 ++ m ++ b ++ a ++ d ++ 30#6)
  | .vfmaVS d a b m => some (3#5 ++ m ++ b ++ a ++ d ++ 30#6)
  | .vfmsVS d a b m => some (4#5 ++ m ++ b ++ a ++ d ++ 30#6)
  | .vfnmaVS d a b m => some (5#5 ++ m ++ b ++ a ++ d ++ 30#6)
  | .vfdivVS d a b m => some (6#5 ++ m ++ b ++ a ++ d ++ 30#6)
  | .vfminVS d a b m => some (7#5 ++ m ++ b ++ a ++ d ++ 30#6)
  | .vfmaxVS d a b m => some (8#5 ++ m ++ b ++ a ++ d ++ 30#6)
  | .vfsqrt d a m => some (0#4 ++ m ++ 0#6 ++ a ++ d ++ 31#6)
  | .vfrsq d a m => some (1#4 ++ m ++ 0#6 ++ a ++ d ++ 31#6)
  | .vfrec d a m => some (2#4 ++ m ++ 0#6 ++ a ++ d ++ 31#6)
  | .vfexp2 d a m => some (3#4 ++ m ++ 0#6 ++ a ++ d ++ 31#6)
  | .vflog2 d a m => some (4#4 ++ m ++ 0#6 ++ a ++ d ++ 31#6)
  | .vfsin d a m => some (5#4 ++ m ++ 0#6 ++ a ++ d ++ 31#6)
  | .vfcos d a m => some (6#4 ++ m ++ 0#6 ++ a ++ d ++ 31#6)
  | .vcvt d a m sx => some (sx ++ m ++ 0#6 ++ a ++ d ++ 32#6)
  | .vmv d a m => some (0#5 ++ m ++ 0#5 ++ a ++ d ++ 33#6)
  | .vbcast d b m => some (1#5 ++ m ++ b ++ 0#6 ++ d ++ 33#6)
  | .vidx d m => some (2#5 ++ m ++ 0#11 ++ d ++ 33#6)
  | .vcmpEqVV d a b m => some (0#4 ++ m ++ b ++ a ++ 0#2 ++ d ++ 34#6)
  | .vcmpNeVV d a b m => some (1#4 ++ m ++ b ++ a ++ 0#2 ++ d ++ 34#6)
  | .vcmpLtVV d a b m => some (2#4 ++ m ++ b ++ a ++ 0#2 ++ d ++ 34#6)
  | .vcmpLeVV d a b m => some (3#4 ++ m ++ b ++ a ++ 0#2 ++ d ++ 34#6)
  | .vcmpGtVV d a b m => some (4#4 ++ m ++ b ++ a ++ 0#2 ++ d ++ 34#6)
  | .vcmpGeVV d a b m => some (5#4 ++ m ++ b ++ a ++ 0#2 ++ d ++ 34#6)
  | .vcmpEqVS d a b m => some (0#5 ++ m ++ b ++ a ++ 0#2 ++ d ++ 35#6)
  | .vcmpNeVS d a b m => some (1#5 ++ m ++ b ++ a ++ 0#2 ++ d ++ 35#6)
  | .vcmpLtVS d a b m => some (2#5 ++ m ++ b ++ a ++ 0#2 ++ d ++ 35#6)
  | .vcmpLeVS d a b m => some (3#5 ++ m ++ b ++ a ++ 0#2 ++ d ++ 35#6)
  | .vcmpGtVS d a b m => some (4#5 ++ m ++ b ++ a ++ 0#2 ++ d ++ 35#6)
  | .vcmpGeVS d a b m => some (5#5 ++ m ++ b ++ a ++ 0#2 ++ d ++ 35#6)
  | .vfcmpEq d a b m => some (0#4 ++ m ++ b ++ a ++ 0#2 ++ d ++ 36#6)
  | .vfcmpNe d a b m => some (1#4 ++ m ++ b ++ a ++ 0#2 ++ d ++ 36#6)
  | .vfcmpLt d a b m => some (2#4 ++ m ++ b ++ a ++ 0#2 ++ d ++ 36#6)
  | .vfcmpLe d a b m => some (3#4 ++ m ++ b ++ a ++ 0#2 ++ d ++ 36#6)
  | .vrsum d a b m => some (0#5 ++ m ++ b ++ a ++ 0#1 ++ d ++ 37#6)
  | .vrmax d a b m => some (1#5 ++ m ++ b ++ a ++ 0#1 ++ d ++ 37#6)
  | .vrmin d a b m => some (2#5 ++ m ++ b ++ a ++ 0#1 ++ d ++ 37#6)
  | .vfrsum d a b m => some (3#5 ++ m ++ b ++ a ++ 0#1 ++ d ++ 37#6)
  | .vfrmax d a b m => some (4#5 ++ m ++ b ++ a ++ 0#1 ++ d ++ 37#6)
  | .mand d a b => some (0#10 ++ b ++ 0#2 ++ a ++ 0#2 ++ d ++ 38#6)
  | .mor d a b => some (64#10 ++ b ++ 0#2 ++ a ++ 0#2 ++ d ++ 38#6)
  | .mxor d a b => some (128#10 ++ b ++ 0#2 ++ a ++ 0#2 ++ d ++ 38#6)
  | .mnot d a => some (12288#16 ++ a ++ 0#2 ++ d ++ 38#6)
  | .mset d => some (1048576#22 ++ d ++ 38#6)
  | .mclr d => some (1310720#22 ++ d ++ 38#6)
  | .mcnt d a => some (0#16 ++ a ++ 0#1 ++ d ++ 39#6)
  | .many d a => some (2048#16 ++ a ++ 0#1 ++ d ++ 39#6)
  | .mfirst d a => some (4096#16 ++ a ++ 0#1 ++ d ++ 39#6)
  | .vmaxix d a b m => some (3#5 ++ m ++ b ++ a ++ 0#1 ++ d ++ 39#6)
  | .vcprs d a b m => some (0#4 ++ m ++ 0#1 ++ b ++ a ++ d ++ 40#6)
  | .vexpd d a m => some (1#4 ++ m ++ 0#6 ++ a ++ d ++ 40#6)
  | .vperm d a b m => some (2#4 ++ m ++ b ++ a ++ d ++ 40#6)
  | .vpush d a b m => some (3#4 ++ m ++ b ++ a ++ d ++ 40#6)
  | .vslup d a b m => some (0#5 ++ m ++ b ++ a ++ d ++ 41#6)
  | .vsldn d a b m => some (1#5 ++ m ++ b ++ a ++ d ++ 41#6)
  | .vrot d a b m => some (2#5 ++ m ++ b ++ a ++ d ++ 41#6)
  | .vgrpt2 d a b m => some (3#5 ++ m ++ b ++ a ++ d ++ 41#6)
  | .vgrpmsk d a b m => some (4#5 ++ m ++ b ++ 0#2 ++ a ++ 0#2 ++ d ++ 41#6)
  | .vnofm d a b m => some (5#5 ++ m ++ b ++ a ++ d ++ 41#6)
  | .vld d a c m => some (0#7 ++ m ++ c ++ a ++ d ++ 42#6)
  | .vldff d a c m => some (8#7 ++ m ++ c ++ a ++ d ++ 42#6)
  | .vldp d a c m p => some (2#4 ++ p ++ m ++ c ++ a ++ d ++ 42#6)
  | .vlds d a c m sx => some (2#2 ++ sx ++ m ++ c ++ a ++ d ++ 42#6)
  | .vldx d a c m x => some (0#1 ++ x ++ m ++ c ++ a ++ d ++ 43#6)
  | .vst d a c m => some (0#7 ++ m ++ c ++ a ++ d ++ 44#6)
  | .vsts d a c m sx => some (2#2 ++ sx ++ m ++ c ++ a ++ d ++ 44#6)
  | .vstx d a c m x => some (0#1 ++ x ++ m ++ c ++ a ++ d ++ 45#6)
  | .vstxadd d a c m x => some (1#1 ++ x ++ m ++ c ++ a ++ d ++ 45#6)
  | .wform g => some (0#4 ++ g ++ 46#24)
  | .wsplit => some (268435502#32)
  | .wzero w => some (2097152#24 ++ w ++ 46#6)
  | .wdrain w d sx => some (24#7 ++ sx ++ 0#10 ++ d ++ w ++ 46#6)
  | .wfmt a b => some (2048#13 ++ b ++ 0#1 ++ a ++ 46#8)
  | .wgath a b m => some (0#8 ++ m ++ 0#1 ++ b ++ a ++ 47#8)
  | .wldb a b => some (512#13 ++ b ++ 0#1 ++ a ++ 47#8)
  | .wop w k t => some (0#4 ++ t ++ 0#10 ++ k ++ w ++ 48#6)
  | .wops w k t => some (1#4 ++ t ++ 0#10 ++ k ++ w ++ 48#6)
  | .wbp w k p => some (2#4 ++ p ++ 0#10 ++ k ++ w ++ 48#6)
  | .wopv w a b m t => some (3#4 ++ t ++ m ++ b ++ a ++ w ++ 48#6)
  | .send d a b c => some (0#5 ++ c ++ 0#2 ++ b ++ a ++ d ++ 50#6)
  | .sendP a b c => some (1#5 ++ c ++ 0#2 ++ b ++ a ++ 50#11)
  | .mpop d a b c => some (2#5 ++ c ++ 0#2 ++ b ++ a ++ d ++ 50#6)
  | .mret => some (402653234#32)
  | .waitm d a b => some (256#11 ++ b ++ a ++ d ++ 50#6)
  | .eng d a b c => some (5#5 ++ c ++ 0#2 ++ b ++ a ++ d ++ 50#6)
  | .put d a b e c => some (0#2 ++ c ++ e ++ b ++ a ++ d ++ 51#6)
  | .putm d a b e c => some (1#2 ++ c ++ e ++ b ++ a ++ d ++ 51#6)
  | .chbind d a b => some (0#11 ++ b ++ a ++ d ++ 52#6)
  | .chen d a => some (2048#16 ++ a ++ d ++ 52#6)
  | .chdis d a => some (4096#16 ++ a ++ d ++ 52#6)
  | .chpendRead d a b => some (192#11 ++ b ++ a ++ d ++ 52#6)
  | .chpendSet d a b => some (192#11 ++ b ++ a ++ d ++ 52#6)
  | .chpendClear d a b => some (192#11 ++ b ++ a ++ d ++ 52#6)
  | .binit a b c => some (0#5 ++ c ++ 0#2 ++ b ++ a ++ 53#11)
  | .barr d a b c => some (1#5 ++ c ++ 0#2 ++ b ++ a ++ d ++ 53#6)
  | .bexp d a b c => some (2#5 ++ c ++ 0#2 ++ b ++ a ++ d ++ 53#6)
  | .bwait d a b c => some (3#5 ++ c ++ 0#2 ++ b ++ a ++ d ++ 53#6)
  | .bqry d a b c => some (4#5 ++ c ++ 0#2 ++ b ++ a ++ d ++ 53#6)
  | .tqpush d a b c => some (0#5 ++ c ++ 0#2 ++ b ++ a ++ d ++ 54#6)
  | .queueOpen d a b c => some (0#5 ++ c ++ 0#2 ++ b ++ a ++ d ++ 54#6)
  | .queueClose d a b c => some (0#5 ++ c ++ 0#2 ++ b ++ a ++ d ++ 54#6)
  | .queueResume d a b c => some (0#5 ++ c ++ 0#2 ++ b ++ a ++ d ++ 54#6)
  | .queuePurge d a b c => some (0#5 ++ c ++ 0#2 ++ b ++ a ++ d ++ 54#6)
  | .tget d a b c => some (1#5 ++ c ++ 0#2 ++ b ++ a ++ d ++ 54#6)
  | .tdone d c => some (2#5 ++ c ++ 0#12 ++ d ++ 54#6)
  | .tdepRead d a b c => some (3#5 ++ c ++ 0#2 ++ b ++ a ++ d ++ 54#6)
  | .tdepAdd d a b c => some (3#5 ++ c ++ 0#2 ++ b ++ a ++ d ++ 54#6)
  | .tdepSet d a b c => some (3#5 ++ c ++ 0#2 ++ b ++ a ++ d ++ 54#6)
  | .tileq d a b c => some (4#5 ++ c ++ 0#2 ++ b ++ a ++ d ++ 54#6)
  | .xdisp d a b e c => some (0#2 ++ c ++ e ++ b ++ a ++ d ++ 55#6)
  | .xcomb d a b e c => some (1#2 ++ c ++ e ++ b ++ a ++ d ++ 55#6)
  | .dreg d a => some (0#16 ++ a ++ d ++ 56#6)
  | .ddel d a => some (2048#16 ++ a ++ d ++ 56#6)
  | .dmove d a b => some (128#11 ++ b ++ a ++ d ++ 56#6)
  | .solicit d a b o => some (0#5 ++ o ++ 0#3 ++ b ++ a ++ d ++ 57#6)
  | .reply d a b => some (64#11 ++ b ++ a ++ d ++ 57#6)
  | .cwait d a b => some (128#11 ++ b ++ a ++ d ++ 57#6)
  | .cresResult d a b => some (192#11 ++ b ++ a ++ d ++ 57#6)
  | .cresStatus d a b => some (192#11 ++ b ++ a ++ d ++ 57#6)
  | .cresFree d a b => some (192#11 ++ b ++ a ++ d ++ 57#6)
  | .cresAbandon d a b => some (192#11 ++ b ++ a ++ d ++ 57#6)
  | .tlbinvVa d a b => some (0#11 ++ b ++ a ++ d ++ 58#6)
  | .tlbinvAll d a b => some (0#11 ++ b ++ a ++ d ++ 58#6)
  | .tlbinvRoot d a b => some (0#11 ++ b ++ a ++ d ++ 58#6)
  | .tlbinvGpa d a b => some (0#11 ++ b ++ a ++ d ++ 58#6)
  | .tlbinvVfall d a b => some (0#11 ++ b ++ a ++ d ++ 58#6)
  | .chkerr d a => some (2048#16 ++ a ++ d ++ 58#6)
  | .errqPop d a b => some (128#11 ++ b ++ a ++ d ++ 58#6)
  | .errqNotice d a b => some (128#11 ++ b ++ a ++ d ++ 58#6)
  | .poisonMark a b => some (192#11 ++ b ++ a ++ 58#11)
  | .poisonClear a b => some (192#11 ++ b ++ a ++ 58#11)
  | .illegalInstruction _ _ => none
  | .handlerRun _ => none
  | .messageArrival _ => none
  | .bounce _ => none
  | .remoteStatusTimeout _ => none
  | .deviceMessageRetry _ => none
  | .deviceMessageDrop _ => none
  | .waitmTimeout _ => none
  | .bwaitTimeout _ => none
  | .tsleepTimeout _ => none
  | .tgetTimeout _ => none
  | .cwaitTimeout _ => none
  | .launchPortWrite _ _ _ => none
  | .portstatRead _ => none
  | .crewPlacement _ _ => none
  | .launchHeadAging _ _ => none
  | .launchCompletion _ _ => none
  | .threadPreemptionStop _ => none
  | .preemptDeferTimeout _ => none
  | .crewSave _ => none
  | .prqPreempt _ _ => none
  | .prqResume _ _ => none
  | .crewMove _ _ => none
  | .vftvecWrite _ _ => none
  | .registerWrite _ _ _ => none
  | .starvationRevocation _ => none
  | .starvationVictimPick _ => none
  | .earmarkLapse _ => none
  | .forcedRevocation _ _ => none
  | .laneDrainComplete _ _ => none
  | .engCopy _ _ => none
  | .engCopy2d _ _ => none
  | .engFill _ _ => none
  | .engPlanepack _ _ => none
  | .engMigrate _ _ => none
  | .engUnassignedOpcode _ _ => none
  | .engineReply _ _ => none
  | .engineReset _ _ => none
  | .putDeliveryComplete _ => none
  | .taskDispatch _ _ => none
  | .ringRefill _ _ => none
  | .censusVisit _ _ _ => none
  | .censusForward _ => none
  | .dmoveInstall _ => none
  | .stubFree _ _ => none
  | .censusComplete _ _ => none
  | .pageWalk _ _ _ => none
  | .checkMismatch _ _ => none
  | .parityRepair _ _ _ => none
  | .uncorrectableError _ => none
  | .correctedError _ _ _ => none
  | .errthrWindowEnd _ _ => none
  | .ctxLost _ => none
  | .vfReset _ => none
  | .vfResetEnd _ => none
  | .dieReset _ => none
  | .dieHeartbeatLoss _ => none
  | .dieRequestTimeout _ => none
  | .stileFlit _ _ => none
  | .dieReady _ => none
  | .islandReset _ => none
  | .islandFailed _ => none
  | .linkRetry _ => none
  | .linkReset _ => none
  | .linkRetrainEnd _ _ => none
  | .peerInboundAccess _ => none
  | .hostInterruptMessage _ => none
  | .atsInvalidation _ _ _ => none
  | .partition _ _ _ _ _ => none
  | .quota _ _ _ => none
  | .hbmshare _ _ _ => none
  | .s2root _ _ => none
  | .qassign _ _ _ _ _ _ => none
  | .aperture _ _ _ _ _ => none
  | .peerlinks _ _ => none
  | .inbound _ _ _ _ _ => none
  | .keyload _ _ => none
  | .keyclear _ => none
  | .memrelease _ => none
  | .counters _ => none
  | .attestReport _ _ => none
  | .firmwareUpdate _ _ => none
  | .pldmDiscovery => none
  | .sensorRead _ => none
  | .powerCapSet _ => none
  | .powerGood => none
  | .mgmtReady => none
  | .xdieReady => none
  | .stileReady _ => none
  | .hbmReady _ => none
  | .engineReady _ _ => none
  | .euvexLinkUp _ => none
  | .hostLinkUp _ => none
  | .readyTimeout _ => none
  | .thermalThrottle _ _ => none
  | .thermalTrip _ => none
  | .hostLinkDown _ => none
  | .msixVectorUnmask _ _ => none
  | .diePowerOff _ => none
  | .diePowerLoss _ => none
  | .tagWalkTimeout _ => none
  | .undervoltOffsetRestore _ _ _ => none

/-- Rows that share a word decode to the first of them; which one runs follows from an operand's value. -/
noncomputable def primary : Instr → Instr
  | .chpendSet d a b => .chpendRead d a b
  | .chpendClear d a b => .chpendRead d a b
  | .queueOpen d a b c => .tqpush d a b c
  | .queueClose d a b c => .tqpush d a b c
  | .queueResume d a b c => .tqpush d a b c
  | .queuePurge d a b c => .tqpush d a b c
  | .tdepAdd d a b c => .tdepRead d a b c
  | .tdepSet d a b c => .tdepRead d a b c
  | .cresStatus d a b => .cresResult d a b
  | .cresFree d a b => .cresResult d a b
  | .cresAbandon d a b => .cresResult d a b
  | .tlbinvAll d a b => .tlbinvVa d a b
  | .tlbinvRoot d a b => .tlbinvVa d a b
  | .tlbinvGpa d a b => .tlbinvVa d a b
  | .tlbinvVfall d a b => .tlbinvVa d a b
  | .errqNotice d a b => .errqPop d a b
  | .poisonClear a b => .poisonMark a b
  | i => i

/-- The word whose bytes, lowest address first, are the four given (R32: little-endian). -/
def wordOfBytes (b0 b1 b2 b3 : Byte) : BitVec 32 := b3 ++ b2 ++ b1 ++ b0

/-- The instruction a table word is: the first 32 bits, decoded (a table row has 32 bits or none). -/
noncomputable def decodeTableWord (nbits w : Nat) : Option Instr :=
  if nbits = 0 then none else (decode (BitVec.ofNat 32 w)).toOption

end Sys2Proof
end

