-- ==== Sys2Proof/Machine/Issue.lean ====
section
/-! DEFINITION. What an instruction boundary does before the next instruction (R98), when a wait ends, the
fetch (R32, R319, R340), and the row an operand selects where rows share a word. -/

namespace Sys2Proof.Machine

/-! ### Boundaries -/

/-- The run level of a context: the PRIO of the innermost handler run (R246); none when no run is in progress. -/
def Ctx.runLevel (c : Ctx) : Option (BitVec 2) := c.handlers.head?.map (·.prio)

/-- The own level of R91: the channel's priority during a handler run, else PRIO. -/
def Ctx.ownLevel (c : Ctx) : Nat := (c.runLevel.getD c.prio).toNat

/-- The effective level of R91. -/
def Ctx.effLevel (c : Ctx) : Nat := min 3 (c.ownLevel + c.w / 1024)

/-- BOUND, EN, PRIO, CTX, SUP and the handler PC of a binding word (R243). -/
def bindBound (w : Word) : Bool := bit w 62
/-- EN of a binding word (R243). -/
def bindEn (w : Word) : Bool := bit w 61
/-- PRIO of a binding word (R243). -/
def bindPrio (w : Word) : BitVec 2 := w.extractLsb' 59 2
/-- CTX of a binding word (R243). -/
def bindCtx (w : Word) : Nat := bitsOf w.toNat 57 2
/-- SUP of a binding word (R243). -/
def bindSup (w : Word) : Bool := bit w 56
/-- The handler PC of a binding word: SignExt(HPC·4, 56) (R243). -/
def bindPc (w : Word) : Word := (((w.extractLsb' 2 54) ++ (0#2 : BitVec 2) : BitVec 56).signExtend 64)

/-- Handlers run at the context's boundary (R79, R246, R277): its instruction does not wait, or waits in one of the
instructions that let handlers run, or has not begun since its way is held. -/
def Ctx.handlersRun (c : Ctx) : Bool :=
  match c.wait with
  | none => true
  | some (.cbar _ _) => true
  | some (.tsleep _) => true
  | some (.waitm _ _) => true
  | some (.bwait _ _ _ _) => true
  | some (.tget _ _) => true
  | some (.cwait _ _) => true
  | some .held => true
  | some _ => false

/-- A channel is eligible on its bound context (R246): not where a pre-emption has been asked for, which comes first
(R98). -/
def State.eligible (s : State) (g ch : Nat) : Bool :=
  let x := s.chan (coreOf g) ch
  let c := s.ctx g
  bindBound x.binding && bindEn x.binding && x.pend && !x.held && decide (bindCtx x.binding = g % 4) && c.live &&
  !c.inTrap && c.preempt == .none && c.handlersRun &&
  (match c.runLevel with | none => true | some r => decide (r.toNat < (bindPrio x.binding).toNat))

/-- The eligible channel of highest PRIO, ties to the lowest number (R246). -/
def State.eligibleChan (s : State) (g : Nat) : Option Nat :=
  (List.range 64).foldl (fun best ch =>
    if s.eligible g ch then
      match best with
      | none => some ch
      | some b =>
        if (bindPrio (s.chan (coreOf g) b).binding).toNat < (bindPrio (s.chan (coreOf g) ch).binding).toNat then some ch
        else best
    else best) none

/-- The queue a wait on a stopped queue names: 65536 + 4·function + level for a launch queue, else 256·die + queue. -/
def State.queueStopped (s : State) (q : Nat) : Bool :=
  if 65536 ≤ q then (aget {} (s.fnOf ((q - 65536) / 4)).lqueues ((q - 65536) % 4)).stopped
  else (s.queue (q / 256) (q % 256)).stopped

/-- The census with a key 256·die + id, if the id is in use. -/
def State.census (s : State) (k : Nat) : Option Census :=
  ((s.die (k / 256)).censuses.find? (fun p => p.1 == k % 256)).map (·.2)

/-- The wait of a context can end now, so that its instruction can go on. -/
def State.waitOver (s : State) (g : Nat) : Wait → Bool
  | .cbar b _ =>
    match (s.ctx g).crew.bind s.crewOf with
    | none => true
    | some c => !(((c.arrivals[b]?).getD []).contains (s.ctx g).tidx)
  | .tsleep _ => (s.ctx g).wake
  | .waitm ch _ => !(s.chan (coreOf g) ch).fifo.isEmpty
  | .bwait loc key phase _ => s.barMoved loc key phase
  | .tget q _ => (s.ctx g).handed.isSome || !(s.queue (q / 256) (q % 256)).isOpen ||
      !((s.queue (q / 256) (q % 256)).waiters.contains (g, (s.ctx g).handlers.length))
  | .cwait k _ => match s.census k with | none => true | some c => c.done || c.owner != g
  | .remoteStatus => false
  | .stopped q _ => !(s.queueStopped q)
  | .dmove => false
  | .service _ => false
  | .held => true
  | .answered _ => true

/-- The context waits for a status that is on its way: no pre-emption point (R97, R332). -/
def Ctx.holdsPreempt (c : Ctx) : Bool :=
  match c.wait with
  | some .remoteStatus => true
  | some .dmove => true
  | some (.answered _) => true
  | _ => false

/-- The thread was asked to stop, has no queued instruction that a revocation would not squash, and is in no wait that
holds the pre-emption (R97, R332). -/
def Ctx.mayStop (c : Ctx) : Bool :=
  c.preempt == .asked && (c.vq.isEmpty || !c.vec.lanes.isEmpty) && !c.holdsPreempt

/-- The thread stops here for the pre-emption it was asked for: outside a trap handler (R97). -/
def Ctx.stopsHere (c : Ctx) : Bool := c.mayStop && !c.inTrap

/-! ### The fetch -/

/-- A fetch passes through the L2 of the core's die, and through no L1 (R384; log 101). -/
def State.passFetch (s : State) (parts : List Part) : State :=
  parts.foldl (fun s p =>
    if p.place.dead || decide (deviceEnd ≤ p.place.loc) then s else s.passLines (dieOf s.cur) p.place.loc p.len) s

/-- What the running context finds at its PC: a word, or the trap of the fetch (R32, R319, R323, R340). -/
def State.fetch (s : State) : State × Except TrapInfo (BitVec 32) :=
  let pc := s.me.pc
  if pc.toNat % 4 ≠ 0 then (s, .error { cause := 0x080, value := pc, epc := pc })
  else
    match (s.beforeWalk s.cur s.agent .fetch pc.toNat 4).resolve s.agent .fetch pc.toNat 4 with
    | (_, .error x) => (s.noteWalk x, .error { (x.info .fetch pc none) with value := pc })
    | (s, .ok parts) =>
      match (s.passFetch parts).loadParts s.cur .msg 0 parts with
      | (s, _, true) => (s.recordTrapped 0x381, .error { cause := 0x381, value := pc, epc := pc })
      | (s, bytes, false) =>
        match bytes with
        | [b0, b1, b2, b3] => (s, .ok (wordOfBytes b0 b1 b2 b3))
        | _ => (s, .error { cause := 0x088, value := pc, epc := pc })

/-! ### Rows that share a word -/

/-- The row an operand's value selects, for a word that several rows of the table share. -/
noncomputable def refine (i : Instr) (s : State) : Instr :=
  match i with
  | .chpendRead d a b =>
    if s.rv b = 1 then .chpendSet d a b else if s.rv b = 2 then .chpendClear d a b else i
  | .tqpush d a b c =>
    if bit (s.rv b) 63 then
      match bitsOf (s.rv b).toNat 60 3 with
      | 0 => .queueOpen d a b c
      | 1 => .queueClose d a b c
      | 2 => .queueResume d a b c
      | 3 => .queuePurge d a b c
      | _ => i
    else i
  | .tdepRead d a b c =>
    match bitsOf (s.rv b).toNat 16 2 with
    | 1 => .tdepAdd d a b c
    | 2 => .tdepSet d a b c
    | _ => i
  | .cresResult d a b =>
    if s.rv b = 1 then .cresStatus d a b else if s.rv b = 2 then .cresFree d a b
    else if s.rv b = 3 then .cresAbandon d a b else i
  | .tlbinvVa d a b =>
    match bitsOf (s.rv b).toNat 0 3 with
    | 1 => .tlbinvAll d a b
    | 2 => .tlbinvRoot d a b
    | 3 => .tlbinvGpa d a b
    | 4 => .tlbinvVfall d a b
    | _ => i
  | .errqPop d a b => if s.rv b = 1 then .errqNotice d a b else i
  | .poisonMark a b => if s.rv b = 1 then .poisonClear a b else i
  | i => i

/-! ### Time -/

/-- The lanes that count toward a thread (R118): those it holds, and those still draining that it held. -/
def State.heldBy (s : State) (g : Nat) (c : Ctx) : Nat :=
  c.vec.lanes.length + ((s.cluster (clusterOf g)).lanes.filter fun p =>
    match p.2 with | .draining h _ => h == g | _ => false).length

/-- The granules in the scratch role that serve crews of a function (R194). -/
def State.granulesOfFn (s : State) (f : Nat) : Nat :=
  s.cores.foldl (fun n p => n + (p.2.roles.filter fun r =>
    match r.2 with | .scratch k _ => ((s.crewOf k).map (·.fn)) == some f | .l1 => false).length) 0

/-- Cycles pass: CYCLE (R58), LANECYC (R118), the waiting time of waiters (R110), and the cycles management counts
(R374). How many is a free value. -/
def State.passTime (s : State) : State :=
  let n := Config.stepCycles s.freeCount
  { s with
    freeCount := s.freeCount + 1
    clock := s.clock + n
    ctxs := s.ctxs.map fun p =>
      (p.1, { p.2 with
        lanecyc := p.2.lanecyc + BitVec.ofNat 64 (s.heldBy p.1 p.2 * n)
        waiting := if p.2.short = 0 then 0 else p.2.waiting + n })
    fns := s.fns.map fun p =>
      let mine := s.ctxs.filter fun c => c.2.live && c.2.fn == p.1
      (p.1, { p.2 with usage := { p.2.usage with
        ctxCycles := p.2.usage.ctxCycles + mine.length * n
        laneCycles := p.2.usage.laneCycles + mine.foldl (fun m c => m + s.heldBy c.1 c.2) 0 * n
        granuleCycles := p.2.usage.granuleCycles + s.granulesOfFn p.1 * n } }) }

end Sys2Proof.Machine
end

