-- ==== Sys2Proof/Machine/Device.lean ====
section
/-! DEFINITION. Accesses that units of the device make at the home, outside any thread's pending stores: the ring and
completion writes of the scheduler, engines, saves at a pre-emption. -/

namespace Sys2Proof.Machine

/-- The agent of a unit that acts for a function at a level: no crew, so no scratch region. -/
def unitAgent (f : Nat) (l : Level) : Agent := { fn := f, level := l, crew := none, cluster := 0, core := 0 }

/-- The bytes of resolved parts, read at their homes. -/
def State.readParts (s : State) : List Part → List Byte × Bool
  | [] => ([], false)
  | p :: rest =>
    let r := s.readPlace p.place p.len
    let t := s.readParts rest
    (r.1 ++ t.1, r.2 || t.2)

/-- Bytes written at the homes of resolved parts; what no link carries is discarded (R366, R378), which is recorded, as is
what a peer refuses (R338, R365). -/
def State.writeParts (s : State) : List Part → List Byte → Bool → State
  | [], _, _ => s
  | p :: rest, bytes, poison =>
    let s := s.noteStore p.place
    (if p.place.dead then s else s.writeHome p.place.loc (bytes.take p.len) poison p.place.key).writeParts rest
      (bytes.drop p.len) poison

/-- A read by a unit: the bytes with their poison, or the fault. -/
def State.devRead (s : State) (ag : Agent) (k : AccKind) (a n : Nat) :
    State × Except AccFault (List Byte × Bool) :=
  match s.resolve ag k a n with
  | (s, .error x) => (s.unitFault x, .error x)
  | (s, .ok parts) => (parts.foldl (fun s p => s.noteRead p.place) (s.blockParts parts), .ok (s.readParts parts))

/-- A write by a unit, or the fault with nothing written. -/
def State.devWrite (s : State) (ag : Agent) (k : AccKind) (a : Nat) (bytes : List Byte) (poison : Bool) :
    State × Except AccFault Unit :=
  match s.resolve ag k a bytes.length with
  | (s, .error x) => (s.unitFault x, .error x)
  | (s, .ok parts) => ((s.blockParts parts).writeParts parts bytes poison, .ok ())

/-- Words written one after the other by a unit, each with its own poison: the state, and the first fault. -/
def State.devWriteWords (s : State) (ag : Agent) (a : Nat) : List (Word × Bool) → State × Option AccFault
  | [] => (s, none)
  | (w, p) :: rest =>
    match s.devWrite ag .store a (leBytes 8 w.toNat) p with
    | (s, .error x) => (s, some x)
    | (s, .ok ()) => s.devWriteWords ag ((a + 8) % 2 ^ 64) rest

/-- Words read one after the other by a unit, each with its own poison. -/
def State.devReadWords (s : State) (ag : Agent) : Nat → Nat → State × Except AccFault (List (Word × Bool))
  | _, 0 => (s, .ok [])
  | a, n + 1 =>
    match s.devRead ag .load a 8 with
    | (s, .error x) => (s, .error x)
    | (s, .ok (bytes, p)) =>
      match s.devReadWords ag ((a + 8) % 2 ^ 64) n with
      | (s, .error x) => (s, .error x)
      | (s, .ok ws) => (s, .ok ((BitVec.ofNat 64 (leNat bytes), p) :: ws))

/-- An atomic update of 8 bytes by a unit inside the package (R236): the state, or the fault; ATOM_REMOTE outside. An
absent home updates nothing (R359). -/
def State.devAtomic (s : State) (ag : Agent) (a : Nat) (f : Word → Word) : State × Except AccFault Unit :=
  match s.resolve ag .atomic a 8 with
  | (s, .error x) => (s.unitFault x, .error x)
  | (s', .ok parts) =>
    let s' := s'.blockParts parts
    if outsidePackage parts then (s, .error { fault := { rank := 8, cause := 0x0F1 }, addr := a })
    else if parts.any fun p => s'.locAbsent p.place.loc then (s', .ok ())
    else
      let old := s'.readParts parts
      let new := f (BitVec.ofNat 64 (leNat old.1))
      (s'.writeParts parts (leBytes 8 new.toNat) old.2, .ok ())

/-- The 64-bit words of bytes. -/
def wordsOf (bytes : List Byte) : Nat → List Word
  | 0 => []
  | n + 1 => BitVec.ofNat 64 (leNat (bytes.take 8)) :: wordsOf (bytes.drop 8) n

/-- Words as bytes. -/
def bytesOf (ws : List Word) : List Byte := ws.flatMap fun w => leBytes 8 w.toNat

end Sys2Proof.Machine
end

