-- ==== Sys2Proof/Machine/Queues.lean ====
section
/-! DEFINITION. Hardware queues (R271 to R274): task queues, tile queues and launch queues, their rings, and stops. A
queue is named by 256·die + number, or for a launch queue by 65536 + 4·function + level. -/

namespace Sys2Proof.Machine

/-- The name of a launch queue. -/
def launchQueue (f lvl : Nat) : Nat := 65536 + 4 * f + lvl

/-- The queue is a launch queue. -/
def isLaunchQueue (q : Nat) : Bool := decide (65536 ≤ q)

/-- A queue by its name. -/
def State.queueAt (s : State) (q : Nat) : Queue :=
  if isLaunchQueue q then aget {} (s.fnOf ((q - 65536) / 4)).lqueues ((q - 65536) % 4) else s.queue (q / 256) (q % 256)

/-- The state with a queue replaced. -/
def State.setQueueAt (s : State) (q : Nat) (x : Queue) : State :=
  if isLaunchQueue q then
    let f := (q - 65536) / 4
    s.setFn f { s.fnOf f with lqueues := aset (s.fnOf f).lqueues ((q - 65536) % 4) x }
  else s.setQueue (q / 256) (q % 256) x

/-- The function a queue serves. -/
def State.queueFn (s : State) (q : Nat) : Nat := if isLaunchQueue q then (q - 65536) / 4 else (s.queueAt q).fn

/-- The C-die that holds a queue (R85, R271). -/
def State.queueDie (s : State) (q : Nat) : Nat :=
  if isLaunchQueue q then (s.dieById ((q - 65536) / 4) 0).getD 0 else q / 256

/-- The handle of a queue (R271; log 20). -/
def State.queueHandle (s : State) (q : Nat) : Word :=
  if isLaunchQueue q then BitVec.ofNat 64 (2 ^ 63 + 2 ^ 59 + (q - 65536) % 4)
  else BitVec.ofNat 64 (256 * s.idOfDie (s.queueFn q) (q / 256) + q % 256)

/-- Entries a queue holds on chip (R274). -/
def chipRoom (q : Nat) : Nat := if isLaunchQueue q then 16 else 64

/-- The agent of a queue's ring accesses (R272). -/
def State.ringAgent (s : State) (q : Nat) : Agent := unitAgent (s.queueFn q) (s.queueAt q).level

/-- The address of byte `off` of a ring. -/
def Queue.ringAddr (x : Queue) (off : Nat) : Nat := (x.rbase.toNat + off % 2 ^ x.rlog2) % 2 ^ 64

/-- The number of 64-bit words of an entry, from its first word (R273, R286, R81). -/
def entryWords (q : Nat) (tile : Bool) (first : Word) : Nat :=
  if isLaunchQueue q then 8
  else if tile then 4
  else 1 + ((List.range 16).filter fun i => bit first i).length

/-- The entries a queue holds, on chip and in its ring (R274). -/
def Queue.entriesHeld (x : Queue) : Nat := x.chip.length + x.ringed

/-- The queue stops (R274): the fault record goes to SUPEP, and the stop is counted. -/
def State.stopQueue (s : State) (q cause addr : Nat) : State :=
  let x := s.queueAt q
  let f := s.queueFn q
  let s := s.setQueueAt q { x with stopped := true }
  let s := s.count f fun u => { u with stops := u.stops + 1 }
  s.post
    { src := s.unitEndpoint f (s.queueDie q) 9, fn := f, dest := x.supep, cls := x.oc, kind := 5, device := true,
      payload := BitVec.ofNat 256 ((s.queueHandle q).toNat + addr * 2 ^ 64 + cause * 2 ^ 128 +
        x.entriesHeld * 2 ^ 160) }

/-- The part of a ring access before its end wraps. -/
def Queue.ringSplit (x : Queue) (off n : Nat) : Nat := min n ((2 ^ x.rlog2 - off % 2 ^ x.rlog2) / 8)

/-- What a write of an entry into the ring does, seen from the queue's die. -/
def State.ringWriteHere (s : State) (q off : Nat) (ws : List (Word × Bool)) : State × Option AccFault :=
  let x := s.queueAt q
  let ag := s.ringAgent q
  let n := x.ringSplit off ws.length
  match s.resolve ag .store (x.ringAddr off) (8 * n),
        s.resolve ag .store (x.ringAddr (off + 8 * n)) (8 * (ws.length - n)) with
  | (_, .error e), _ => (s.unitFault e, some e)
  | _, (_, .error e) => (s.unitFault e, some e)
  | (_, .ok _), (_, .ok _) =>
    match s.devWriteWords ag (x.ringAddr off) (ws.take n) with
    | (s, some e) => (s, some e)
    | (s, none) => s.devWriteWords ag (x.ringAddr (off + 8 * n)) (ws.drop n)

/-- An entry is written into the ring whole, or not at all: the state, and the fault (R274). -/
def State.ringWrite (s : State) (q off : Nat) (ws : List (Word × Bool)) : State × Option AccFault :=
  s.seenFrom (s.queueDie q) fun s => s.ringWriteHere q off ws

/-- What a read of an entry from the ring gives, seen from the queue's die. -/
def State.ringReadHere (s : State) (q off n : Nat) : State × Except AccFault (List (Word × Bool)) :=
  let x := s.queueAt q
  let ag := s.ringAgent q
  let k := x.ringSplit off n
  match s.devReadWords ag (x.ringAddr off) k with
  | (s, .error e) => (s, .error e)
  | (s, .ok ws) =>
    match s.devReadWords ag (x.ringAddr (off + 8 * k)) (n - k) with
    | (s, .error e) => (s, .error e)
    | (s, .ok vs) => (s, .ok (ws ++ vs))

/-- An entry read from the ring. -/
def State.ringRead (s : State) (q off n : Nat) : State × Except AccFault (List (Word × Bool)) :=
  s.seenFrom (s.queueDie q) fun s => s.ringReadHere q off n

/-- Append (R274, R276): 0 appended, 1 FULL, 2 STALL; what happened is counted. `lid` and `level` are kept for a launch
queue. -/
def State.appendEntry (s : State) (q : Nat) (ws : List (Word × Bool)) (level : Level) (lid : Nat) : State × Nat :=
  let x := s.queueAt q
  let f := s.queueFn q
  let pushed (s : State) : State := s.count f fun u => { u with pushes := u.pushes + 1 }
  if x.chip.length < chipRoom q ∧ x.used = 0 then
    (pushed (s.setQueueAt q { x with chip := x.chip ++ [{ words := ws, level := level, lid := lid }] }), 0)
  else if !x.ring || decide (2 ^ x.rlog2 < x.used + 8 * ws.length) then
    (s.count f fun u => { u with fulls := u.fulls + 1 }, 1)
  else
    match s.ringWrite q (x.head + x.used) ws with
    | (s, some e) => (s.stopQueue q e.fault.cause e.addr, 2)
    | (s, none) =>
      (pushed (s.setQueueAt q { x with
        used := x.used + 8 * ws.length
        ringed := x.ringed + 1
        beside := if isLaunchQueue q then x.beside ++ [(level, lid)] else x.beside }), 0)

/-- The reserved bits of a task header are zero (R273). -/
def goodHeader (h : Word) : Bool := bitsOf h.toNat 45 19 = 0

/-- A tile record is well formed (R286). -/
def goodTile (ws : List Word) : Bool :=
  match ws with
  | [w0, w1, _, w3] => bitsOf w0.toNat 40 24 = 0 && bitsOf w1.toNat 0 6 = 0 && bitsOf w3.toNat 16 48 = 0
  | _ => false

/-- RING_REFILL's effect (R274): the oldest entry of the ring moves on chip, or the queue stops. -/
def State.refill (s : State) (q : Nat) : State :=
  let x := s.queueAt q
  match s.ringRead q x.head 1 with
  | (s, .error e) => s.stopQueue q e.fault.cause e.addr
  | (s, .ok hs) =>
    let first := (hs.head?.map (·.1)).getD 0
    if !isLaunchQueue q && !x.tile && !goodHeader first then s.stopQueue q 0x283 (x.ringAddr x.head)
    else
      let n := entryWords q x.tile first
      match s.ringRead q x.head n with
      | (s, .error e) => s.stopQueue q e.fault.cause e.addr
      | (s, .ok ws) =>
        let meta_ := x.beside.head?.getD (x.level, 0)
        s.setQueueAt q { x with
          head := (x.head + 8 * n) % 2 ^ x.rlog2
          used := x.used - 8 * n
          ringed := x.ringed - 1
          beside := x.beside.drop 1
          chip := x.chip ++ [{ words := ws, level := meta_.1, lid := meta_.2 }] }

/-- The on-chip buffer can take an entry of the ring (R274). -/
def State.canRefill (s : State) (q : Nat) : Bool :=
  let x := s.queueAt q
  decide (x.chip.length < chipRoom q) && decide (0 < x.used) && !x.stopped

/-- RING_REFILL (R274): on queue `q` of a die, or on a launch queue by its name. -/
def execRingRefill (die q : Nat) (s : State) : Out :=
  let k := if isLaunchQueue q then q else 256 * die + q
  whenEnabled "RING_REFILL" (s.canRefill k) (s.refill k)

/-! ### Items handed out and not taken (R277) -/

/-- An item goes back to its queue, ahead of what the queue holds, as if it had not been handed out (R277; log 105). -/
def Queue.takeBack (x : Queue) (item : TaskHold × List (Word × Bool)) : Queue :=
  match item.1.tile with
  | none => { x with parked :=
      { header := item.2.headD (0, false), fields := item.2.drop 1, ready := true } :: x.parked }
  | some n =>
    let i := bitsOf (item.2.headD (0, false)).1.toNat 16 32
    let given (t : TileRec) : TileRec :=
      if t.serial ≠ n then t else if t.purged then { t with next := t.next - 1 } else { t with back := i :: t.back }
    { x with tiles := (x.tiles.map given).filter (fun t => !t.purged || decide (t.done < t.next)) }

/-- The same for the queue it came from, while that is open. -/
def State.takeBack (s : State) (item : TaskHold × List (Word × Bool)) : State :=
  let x := s.queueAt item.1.queue
  if x.isOpen then
    (s.setQueueAt item.1.queue (x.takeBack item)).count x.fn fun u => { u with dispatches := u.dispatches - 1 }
  else s

/-- Every item that a context was handed and has not taken goes back. -/
def State.handBack (s : State) (g : Nat) : State :=
  let c := s.ctx g
  (c.handed.toList ++ c.handlers.filterMap (·.handed)).foldl (fun s i => s.takeBack i)
    (s.setCtx g { c with handed := none, handlers := c.handlers.map fun h => { h with handed := none } })

/-- The item that the running TGET was handed goes back. -/
def State.dropItem (s : State) : State :=
  match s.me.handed with
  | none => s
  | some i => (s.setMe { s.me with handed := none }).takeBack i

end Sys2Proof.Machine
end

