-- ==== Sys2Proof/Machine/Launch.lean ====
section
/-! DEFINITION. Launches (R81 to R90): the record and its checks, Submit, the launch port, placement and the start of
threads, completion. -/

namespace Sys2Proof.Machine

/-! ### The launch record (R81) -/

/-- A field of a launch record. -/
def field (r : BitVec 512) (lo n : Nat) : Nat := bitsOf r.toNat lo n

/-- NCREW, the threads per crew, the granules of a region, QPRIO. -/
def recCrews (r : BitVec 512) : Nat := field r 128 21
/-- T = TM1 + 1. -/
def recThreads (r : BitVec 512) : Nat := field r 149 6 + 1
/-- NG = ceil(SCRATCH/16) (R86). -/
def recGranules (r : BitVec 512) : Nat := (field r 155 10 + 15) / 16
/-- LANEMIN. -/
def recLaneMin (r : BitVec 512) : Nat := field r 167 9
/-- LANEMAX. -/
def recLaneMax (r : BitVec 512) : Nat := field r 176 9
/-- QPRIO. -/
def recLevel (r : BitVec 512) : Nat := field r 185 2

/-- The record as the eight words of a queue entry, and back. -/
def recWords (r : BitVec 512) : List (Word × Bool) :=
  (List.range 8).map fun i => (BitVec.ofNat 64 (field r (64 * i) 64), false)

/-- The record that eight words of a queue entry hold. -/
def recOf (ws : List (Word × Bool)) : BitVec 512 := BitVec.ofNat 512 (leNat (bytesOf (ws.map (·.1))))

/-- A record is one granule, which is poisoned whole (R337). -/
def recPoison (ws : List (Word × Bool)) : Bool := ws.any (·.2)

/-- ENDPT of a record names a core endpoint of the partition with a channel below 63, or a host interrupt endpoint. -/
def State.goodEndpoint (s : State) (f e : Nat) : Bool :=
  let id := bitsOf e 6 12
  if id < 2048 then (s.coreById f id).isSome && decide (bitsOf e 0 6 ≤ 62)
  else decide (bitsOf id 8 3 = 0) && decide (0x80 ≤ bitsOf id 0 8) && decide (bitsOf id 0 8 ≤ 0xBF) &&
    decide (bitsOf e 0 6 = 0)

/-- Check 1 of R82. -/
def State.recFormat (s : State) (f : Nat) (r : BitVec 512) : Bool :=
  field r 496 16 = 0 && field r 282 6 = 0 && field r 190 2 = 0 && field r 0 2 = 0 &&
  decide (1 ≤ recCrews r) && decide (recCrews r ≤ 2 ^ 20) &&
  decide (recLaneMin r ≤ recLaneMax r) && decide (recLaneMax r ≤ 256) &&
  field r 320 4 = 0 && field r 448 4 = 0 && field r 384 6 = 0 &&
  (field r 275 1 = 0 || field r 192 4 = 0) && (field r 274 1 = 0 || s.goodEndpoint f (field r 256 18))

/-- The rejection cause of a record, 0 for none (R82). -/
def State.launchCheck (s : State) (f : Nat) (r : BitVec 512) : Nat :=
  if !(s.recFormat f r) then 0x2C0
  else if 288 < field r 155 10 then 0x2C1
  else
    match (s.fnOf f).part with
    | none => 0x2C2
    | some p => if p.clusters.any fun cl => decide (recThreads r * recLaneMin r ≤ s.quotaOf f cl) then 0 else 0x2C2

/-! ### Completion (R90) -/

/-- What the count writes of a completion do, seen from the scheduler's die. -/
def State.countWritesHere (s : State) (f : Nat) (l : Level) (a : Nat) (status : Nat) : State × Bool :=
  let ag := unitAgent f l
  match s.resolve ag .atomic a 8, s.resolve ag .atomic ((a + 8) % 2 ^ 64) 8 with
  | (_, .ok ps), (_, .ok qs) =>
    if outsidePackage ps || outsidePackage qs then (s, true)
    else
      let s := (s.devAtomic ag a (· + 1)).1
      ((s.devAtomic ag ((a + 8) % 2 ^ 64) (· ||| BitVec.ofNat 64 status)).1, false)
  | (_, .error x), _ => (s.unitFault x, true)
  | _, (_, .error x) => (s.unitFault x, true)

/-- The count writes of a completion: performed both or not at all, and whether they failed. -/
def State.countWrites (s : State) (f : Nat) (l : Level) (a : Nat) (status : Nat) : State × Bool :=
  s.seenFrom ((s.dieById f 0).getD 0) fun s => s.countWritesHere f l a status

/-- A launch's completion is delivered (R90): the count, then the message. Of a record that was poisoned the message is
poisoned, and no count is written to its address (R338; log 102). -/
def State.deliver (s : State) (f : Nat) (l : Level) (r : BitVec 512) (status completed die : Nat) (bad : Bool := false) :
    State :=
  let c := if field r 275 1 = 1 then if bad then (s, true) else s.countWrites f l (field r 192 64) status else (s, false)
  if field r 274 1 = 1 then
    c.1.post
      { src := c.1.unitEndpoint f die 9, fn := f, dest := field r 256 18, cls := field r 276 4, kind := 4,
        device := true, poison := bad,
        payload := BitVec.ofNat 256 (field r 288 32 + completed % 2 ^ 32 * 2 ^ 32 +
          (status + (if c.2 then 2048 else 0)) * 2 ^ 64) }
  else c.1

/-- The status word of a launch, but for COUNTFAULT (R90). -/
def Launch.status (x : Launch) : Nat := x.lossCause + (if x.poison then 1024 else 0)

/-! ### Submit (R83 to R85) -/

/-- The queue a record goes to is stopped (R83). -/
def State.submitWaits (s : State) (f : Nat) (r : BitVec 512) : Bool :=
  s.launchCheck f r = 0 && (s.queueAt (launchQueue f (recLevel r))).stopped

/-- Submit (R82, R83, R85): the status. -/
def State.submit (s : State) (f : Nat) (l : Level) (r : BitVec 512) : State × Nat :=
  let cause := s.launchCheck f r
  if cause = 0x2C0 then (s, cause)
  else if cause ≠ 0 then (s.deliver f l r cause 0 ((s.dieById f 0).getD 0), cause)
  else
    let lid := (s.fnOf f).lid
    match s.appendEntry (launchQueue f (recLevel r)) (recWords r) l lid with
    | (s, 0) =>
      let s := s.setFn f { s.fnOf f with lid := (lid + 1) % 2 ^ 32 }
      ({ s with launches := aset s.launches (launchKey f lid) { record := r, level := l } }, 0)
    | (s, st) => (s, st)

/-! ### Placement (R86, R87, R194, R195, R242) -/

/-- A core is eligible for the next thread of a crew (R86). -/
def State.eligibleCore (s : State) (ng : Nat) (chosen : List Nat) (core : Nat) : Bool :=
  ((List.range 4).any fun i => !(s.ctx (4 * core + i)).live && !chosen.contains (4 * core + i)) &&
  (chosen.any (fun g => coreOf g == core) || decide (ng + 2 ≤ (s.core core).ways.length))

/-- The core the next thread of a crew goes to: first one that holds none of the crew, lowest number first (R86). -/
def State.nextCore (s : State) (cl ng : Nat) (chosen : List Nat) : Option Nat :=
  let ok := ((List.range 16).map (16 * cl + ·)).filter (s.eligibleCore ng chosen)
  match ok.find? fun core => !chosen.any fun g => coreOf g == core with
  | some core => some core
  | none => ok.head?

/-- The assignment of a crew's threads to contexts of a cluster, in thread order, where every thread finds one. -/
def State.assign (s : State) (cl ng : Nat) : Nat → List Nat → Option (List Nat)
  | 0, chosen => some chosen
  | t + 1, chosen =>
    match s.nextCore cl ng chosen with
    | none => none
    | some core =>
      match (List.range 4).find? fun i => !(s.ctx (4 * core + i)).live && !chosen.contains (4 * core + i) with
      | none => none
      | some i => s.assign cl ng t (chosen ++ [4 * core + i])

/-- Lanes a function's threads use of its quota in a cluster (R86, R109). -/
def State.quotaUsed (s : State) (f cl : Nat) : Nat :=
  (clusterCtxs cl).foldl (fun n g =>
    let c := s.ctx g
    if c.live && c.fn == f then n + max c.lanes c.gres else n) 0

/-- The lanes of a crew fit a cluster (R86). -/
def State.lanesFit (s : State) (f cl need : Nat) : Bool :=
  decide (need ≤ s.freeIn cl) && (decide (need = 0) || decide (s.quotaUsed f cl + need ≤ s.quotaOf f cl))

/-- A cluster takes a crew that needs so many lanes, on the contexts that an assignment gives it. -/
def State.fitsBy (s : State) (f cl need : Nat) (gs : Option (List Nat)) : Option (List Nat) :=
  if (s.die (cl / 16)).state = .present && s.lanesFit f cl need then gs else none

/-- A crew of `t` threads fits a cluster: the contexts it gets. -/
def State.fits (s : State) (f cl t laneMin ng : Nat) : Option (List Nat) :=
  s.fitsBy f cl (t * laneMin) (s.assign cl ng t [])

/-- Occupied contexts of a cluster. -/
def State.occupied (s : State) (cl : Nat) : Nat := ((clusterCtxs cl).filter fun g => (s.ctx g).live).length

/-- The cluster of a die's part of a partition that fits: fewest occupied contexts, lowest partition index (R86). -/
def State.bestCluster (s : State) (f die : Nat) (fit : Nat → Option (List Nat)) : Option (Nat × List Nat) :=
  match (s.fnOf f).part with
  | none => none
  | some p =>
    (p.clusters.filter fun cl => cl / 16 == die).foldl (fun best cl =>
      match fit cl with
      | none => best
      | some gs =>
        match best with
        | none => some (cl, gs)
        | some b => if s.occupied cl < s.occupied b.1 then some (cl, gs) else best) none

/-- The cluster of a die that a crew of `t` threads goes to (R86). -/
def State.findCluster (s : State) (f die t laneMin ng : Nat) : Option (Nat × List Nat) :=
  s.bestCluster f die fun cl => s.fits f cl t laneMin ng

/-- The place of a granule in the scratch store. -/
def granuleBase (core g : Nat) : Nat := core * arrayBytes + g * 16384

/-- A scratch region is set aside on a core (R194, R195): the highest granules of the L1 role, in descending order,
their lines written back and dropped, their bytes and poison cleared. -/
def State.setAside (s : State) (crew ng core : Nat) : State :=
  let x := s.core core
  let gs := x.ways.reverse.take ng
  let roles := (gs.zip (List.range ng)).foldl (fun m p => aset m p.1 (.scratch crew p.2)) x.roles
  let s := (s.writeBack (x.l1.filter fun l => gs.contains l.granule)).setCore core
    { x with roles := roles, l1 := x.l1.filter fun l => !gs.contains l.granule }
  let inside (k : Nat) : Bool := gs.any fun g => decide (granuleBase core g ≤ k) && decide (k < granuleBase core g + 16384)
  { s with
    scratch := s.scratch.filter fun p => !(inside p.1)
    scrPoison := s.scrPoison.filter fun p => !(inside (64 * p.1)) }

/-- The channels of a core that are bound to a context are reclaimed before it is given to a thread (R242); each
message discarded is a drop of the function. -/
def State.reclaimChannels (s : State) (g f : Nat) : State :=
  let x := s.core (coreOf g)
  let mine (c : Channel) : Bool := bit c.binding 62 && decide (bitsOf c.binding.toNat 57 2 = g % 4)
  let lost := x.chans.foldl (fun n p => if mine p.2 then n + p.2.fifo.length else n) 0
  (s.setCore (coreOf g) { x with chans := x.chans.filter fun p => !(mine p.2) }).count f
    fun u => { u with drops := u.drops + lost }

/-- The start state of a thread (R55, R87, R106, R311): `i` the thread index, `g` its context. Of a poisoned record the
registers that hold its fields are poisoned (R338). -/
def State.startCtx (s : State) (f crew : Nat) (r : BitVec 512) (bad : Bool) (c i g : Nat) : Ctx :=
  let t := recThreads r
  let gi := c * t + i
  let die := s.die (dieOf g)
  let reg (v : Nat) : Word := BitVec.ofNat 64 v
  let regs := [(2, reg (field r 320 64 + (gi + 1) * field r 448 32)), (3, reg (field r 64 64)), (4, reg c), (5, reg i),
    (6, reg t), (7, reg (recCrews r))]
  { live := true, pc := reg (field r 0 64), regs := regs.filter fun p => p.2 != 0,
    poison := if bad then 0xCC#32 else 0,
    vspill := reg (field r 384 64 + gi * field r 480 16 * 1024),
    ncode := BitVec.ofNat 2 (field r 165 2), pncode := BitVec.ofNat 2 (field r 165 2),
    dcode := BitVec.ofNat 2 (field r 165 2),
    laneMin := recLaneMin r, gres := recLaneMin r, laneMax := recLaneMax r,
    prio := BitVec.ofNat 2 (field r 187 2), iprio := BitVec.ofNat 2 (field r 187 2),
    sup := { vec := aget 0 die.vftvec f }, firm := { vec := die.ftvec },
    crew := some crew, tidx := i, fn := f }

/-- The cores of a list of contexts, in ascending number. -/
def coresOf (gs : List Nat) : List Nat :=
  gs.foldl (fun cs g => if cs.contains (coreOf g) then cs else cs ++ [coreOf g]) []

/-- A thread starts on a context. One of a poisoned record, whose PC is poisoned with it, takes POISON_CTL before its first
instruction, the record having no virtual address (R340; log 102). -/
def State.startThread (s : State) (g : Nat) (c : Ctx) (bad : Bool) : State :=
  let t := s.setCtx g c
  if bad then { (({ t with cur := g }).poisonTrapAt (Config.freeWord s.freeCount)).tick with cur := s.cur } else t

/-- Crew `c` of a launch is placed on contexts of a cluster (R86, R87); `bad`: the record reads poisoned. -/
def State.placeCrew (s : State) (f lid c : Nat) (r : BitVec 512) (bad : Bool) (cl : Nat) (gs : List Nat) : State :=
  let k := s.serial
  let ng := recGranules r
  let cores := coresOf gs
  let s := { s with serial := k + 1 }
  let s := if ng = 0 then s else cores.foldl (fun s n => s.setAside k ng n) s
  let s := gs.foldl (fun s g => s.reclaimChannels g f) s
  let s := (gs.zip (List.range gs.length)).foldl (fun s p =>
    s.startThread p.1 (s.startCtx f k r bad c p.2 p.1) bad) s
  let crew : Crew := { fn := f, lid := lid, cidx := c, cluster := cl, threads := gs, cores := cores, granules := ng }
  { s with crews := aset s.crews k crew }

/-- A launch queue holds a record, on chip or in its ring, and dispatches: a stopped one does not (R274). -/
def Queue.serves (x : Queue) : Bool := !x.stopped && (!x.chip.isEmpty || x.used != 0)

/-- The levels whose head record a placer serves for a function, in order (R80, R85): those whose head has aged, the highest
first, which is the model's choice (log 81), and only where there is none the highest that holds a record. -/
def State.servedLevels (s : State) (f : Nat) : List Nat :=
  let x := s.fnOf f
  let full := [3, 2, 1, 0].filter fun l => (aget {} x.lqueues l).serves
  match full.filter fun l => aget false x.headAge l && !(aget {} x.lqueues l).chip.isEmpty with
  | [] => full.take 1
  | aged => aged

/-- A C-die of the partition with a lower number than the die's finds a cluster for a crew: a tie goes to it (R86). -/
def State.lowerDieFits (s : State) (f die t laneMin ng : Nat) : Bool :=
  match (s.fnOf f).part with
  | none => false
  | some p => (p.dies.takeWhile (· != die)).any fun d => (s.findCluster f d t laneMin ng).isSome

/-- The placer of a die takes the next crew of a level's head record, where it fits a cluster of the die and of no C-die with
a lower number in the partition (R85, R86). A record that is still in the ring waits for its refill (R274). -/
def State.placeLevel (s : State) (die f lvl : Nat) : Option State :=
  let q := launchQueue f lvl
  match (s.queueAt q).chip with
  | [] => none
  | e :: rest =>
    let r := recOf e.words
    let key := launchKey f e.lid
    match s.launches.find? fun p => p.1 == key with
    | none => none
    | some p =>
      match s.findCluster f die (recThreads r) (recLaneMin r) (recGranules r) with
      | none => none
      | some (cl, gs) =>
        if s.lowerDieFits f die (recThreads r) (recLaneMin r) (recGranules r) then none else
        let c := p.2.placed
        let bad := recPoison e.words
        let s := s.placeCrew f e.lid c r bad cl gs
        let s := s.updLaunch key fun l => { l with record := r, tainted := l.tainted || bad, placed := c + 1 }
        let s := s.setFn f { s.fnOf f with headAge := aput false (s.fnOf f).headAge lvl false }
        some (if c + 1 = recCrews r then s.setQueueAt q { s.queueAt q with chip := rest } else s)

/-- The placer of a die takes the next crew of a function: of the first level served whose head fits, where no resumption
goes before it (R80, R85, R99). -/
def State.placeNext (s : State) (die f : Nat) (blocked : Nat → Bool) : Option State :=
  ((s.servedLevels f).filter fun lvl => !(blocked lvl)).findSome? (s.placeLevel die f)

/-! ### The events -/

/-- MSI-X vector `v` of a function is unmasked, and one held pending is sent (R369); the vector's control word follows. -/
def State.unmaskVector (s : State) (f v : Nat) : State :=
  let x := s.fnOf f
  let bit : BitVec 64 := BitVec.twoPow 64 v
  s.setFn f { x with msixMask := x.msixMask &&& ~~~bit, msixPend := x.msixPend &&& ~~~bit,
                     msixTable := aput 0 x.msixTable (16 * v + 12) (aget 0 x.msixTable (16 * v + 12) &&& 0xFE#8) }

/-- One byte of the MSI-X table written (R368): bit 0 of byte 12 of an entry is its mask. -/
def State.tableByte (s : State) (f off : Nat) (b : Byte) : State :=
  let x := s.fnOf f
  let s := s.setFn f { x with msixTable := aput 0 x.msixTable off b }
  if off % 16 ≠ 12 then s
  else if b.getLsbD 0 then s.setFn f { s.fnOf f with msixMask := (s.fnOf f).msixMask ||| BitVec.twoPow 64 (off / 16) }
  else s.unmaskVector f (off / 16)

/-- One byte of BAR0 above the launch port written (R368): NBASE, whose low 12 bits stay 0, or the MSI-X table; any other
byte is reserved. -/
def State.barByte (s : State) (f off : Nat) (b : Byte) : State :=
  if 0x1000 ≤ off ∧ off < 0x1008 then
    let x := s.fnOf f
    let k := 8 * (off - 0x1000)
    let v := BitVec.ofNat 64 (x.nbase.toNat - bitsOf x.nbase.toNat k 8 * 2 ^ k + b.toNat * 2 ^ k)
    s.setFn f { x with nbase := (v >>> 12) <<< 12 }
  else if 0x2000 ≤ off ∧ off < 0x2400 then s.tableByte f (off - 0x2000) b
  else s

/-- Bytes of BAR0 above the launch port written, one after the other. -/
def State.barBytes (s : State) (f : Nat) : Nat → List Byte → State
  | _, [] => s
  | off, b :: rest => (s.barByte f off b).barBytes f (off + 1) rest

/-- LAUNCH_PORT_WRITE (R84, R368): in the launch port, a whole slot is submitted at supervisor level, once its queue is
not stopped and no reset of the island of its die holds it (R361), and any other write sets PORTSTAT.PART; above it, the write goes to the rest of BAR0. That a record held at a
stopped queue outlives a PURGE of it, and then goes on with no LAST, is the model's choice (log 82), and so is that a record
is taken while the die that holds its queue is absent (log 45). -/
def execLaunchPortWrite (f off : Nat) (data : List Byte) (s : State) : Out :=
  let whole := data.length = 64 ∧ off % 64 = 0
  let r := BitVec.ofNat 512 (leNat data)
  let ok := s.hostUp f && decide (f ≤ 64) && !(s.fnOf f).resetting && decide (off + data.length ≤ 65536) &&
    decide (data.length ≠ 0) && (decide (4096 ≤ off) || decide (off + data.length ≤ 4096))
  if !ok then .refused (.notEnabled "LAUNCH_PORT_WRITE")
  else if 4096 ≤ off then .next (s.barBytes f off data)
  else if !(decide whole) then .next (s.setFn f { s.fnOf f with portPart := true })
  else if s.submitWaits f r || (s.dieById f 0).any (fun d => (s.die d).islandBusy) then
    .refused (.notEnabled "LAUNCH_PORT_WRITE")
  else
    match s.submit f .supervisor r with
    | (s, 0) => .next s
    | (s, st) => .next (s.setFn f { s.fnOf f with last := st })

/-- PORTSTAT (R84). -/
def State.portstat (s : State) (f : Nat) : Word :=
  let x := s.fnOf f
  BitVec.ofNat 64 (x.lid + x.last * 2 ^ 32 + ofBool ((List.range 4).any fun l => (aget {} x.lqueues l).stopped) * 2 ^ 42 +
    ofBool x.portPart * 2 ^ 43)

/-- PORTSTAT_READ (R84): the answer; PART and LAST are cleared. -/
def execPortstatRead (f : Nat) (s : State) : Out :=
  whenEnabled "PORTSTAT_READ" (s.hostUp f && decide (f ≤ 64))
    { s.setFn f { s.fnOf f with last := 0, portPart := false } with answer := s.portstat f }

/-- LAUNCH_HEAD_AGING (R85): the head record of a level has placed no crew for 65,536 cycles. -/
def execLaunchHeadAging (f lvl : Nat) (s : State) : Out :=
  whenEnabled "LAUNCH_HEAD_AGING" (decide (lvl < 4) && !(s.queueAt (launchQueue f lvl)).chip.isEmpty)
    (s.setFn f { s.fnOf f with headAge := aset (s.fnOf f).headAge lvl true })

/-- The launch is complete: every crew was placed and ended (R90). -/
def Launch.complete (x : Launch) : Bool := x.placed = recCrews x.record && x.completed + x.lost = x.placed

/-- LAUNCH_COMPLETION (R90). -/
def execLaunchCompletion (f lid : Nat) (s : State) : Out :=
  match s.launches.find? fun p => p.1 == launchKey f lid with
  | none => .refused (.notEnabled "LAUNCH_COMPLETION")
  | some p =>
    let s' := s.deliver f p.2.level p.2.record p.2.status p.2.completed p.2.lastDie p.2.tainted
    whenEnabled "LAUNCH_COMPLETION" p.2.complete { s' with launches := aerase s'.launches (launchKey f lid) }

end Sys2Proof.Machine
end

