-- ==== Sys2Proof/Machine/Deliver.lean ====
section
/-! DEFINITION. Messages and their delivery: endpoints (R241), channels (R242, R248), host interrupt endpoints (R369),
bounces, device messages (R249), PUT deliveries (R257), and the events that perform them. -/

namespace Sys2Proof.Machine

/-! ### Endpoints (R241) -/

/-- What an endpoint value names for a function. -/
inductive Target where
  | core (core chan : Nat)
  | engine (die unit : Nat)
  | host (v : Nat)
  | remote (dev : Nat)
  | absent
  deriving DecidableEq, Repr

/-- An endpoint value keeps to R241. -/
def wellFormedEndpoint (e : Nat) : Bool :=
  decide (e < 2 ^ 31) && (bitsOf e 30 1 = 1 || bitsOf e 18 12 = 0) && (bitsOf e 17 1 = 0 || bitsOf e 0 6 = 0)

/-- The unit that an endpoint id with bit 11 set names. -/
def State.unitTarget (s : State) (f die unit : Nat) : Target :=
  if unit < 4 then
    match s.dieById f die with
    | some d => .engine d unit
    | none => .absent
  else if die = 0 ∧ 0x80 ≤ unit ∧ unit ≤ 0xBF then .host (unit - 0x80)
  else .absent

/-- What an endpoint value names. -/
def State.target (s : State) (f e : Nat) : Target :=
  if bitsOf e 30 1 = 1 then .remote (bitsOf e 18 12)
  else if bitsOf e 17 1 = 1 then s.unitTarget f (bitsOf e 14 3) (bitsOf e 6 8)
  else
    match s.coreById f (bitsOf e 6 11) with
    | some c => .core c (bitsOf e 0 6)
    | none => .absent

/-- A tag (R250). -/
def tagOf (cls kind ep refuse : Nat) : Word :=
  BitVec.ofNat 64 (cls * 2 ^ 39 + refuse * 2 ^ 36 + kind * 2 ^ 33 + 2 ^ 32 + ep)

/-- The C-die a message starts from. -/
def State.wireDie (s : State) (w : Wire) : Nat :=
  match w.sender with
  | some g => dieOf g
  | none => (s.dieById w.fn (bitsOf w.src 14 3)).getD 0

/-- Endpoint traffic of a function gets from one C-die to another: it is present, the way is open, and the function is
not being reset (R353, R359). -/
def State.reaches (s : State) (f a d : Nat) : Bool :=
  (s.die d).state == .present && s.routeOpen a d && !(s.fnOf f).resetting

/-- The cluster lies in the bitmap of a function (R371, R372). -/
def State.member (s : State) (f cl : Nat) : Bool := (s.fnOf f).part.any fun r => r.holds cl

/-- A packet of a function's endpoint traffic from a thread to a cluster fails the routers' check (R372). -/
def State.strays (s : State) (f : Nat) (sender : Option Nat) (cl : Nat) : Bool :=
  !(s.member f cl) || sender.any fun g => !(s.member f (clusterOf g))

/-- A packet that failed the check is discarded and recorded, and its sender gets TENANT (R372; log 46). -/
def State.stray (s : State) (f die : Nat) : State × Nat :=
  ((s.record die { cause := s.freeCause 2, bound := 5, vf := f, unit := 7 }).tick, 3)

/-! ### Channels and engines (R242, R248, R258) -/

/-- A message reaches a channel: the status (R248). -/
def State.enter (s : State) (core ch : Nat) (m : Msg) : State × Nat :=
  let x := s.chan core ch
  if x.held then (s, 2)
  else if 8 ≤ x.fifo.length then (s, 1)
  else (s.setChan core ch { x with fifo := x.fifo ++ [m], pend := true }, 0)

/-- A command reaches an engine: the status (R258). -/
def State.enterEngine (s : State) (d u : Nat) (c : Command) : State × Nat :=
  let e := aget {} (s.die d).engines u
  if !e.ready then (s, 2)
  else if 64 ≤ e.inbox.length ∨ 16 ≤ (e.inbox.filter fun k => k.fn == c.fn).length then (s, 1)
  else (s.setDie d { s.die d with engines := aset (s.die d).engines u { e with inbox := e.inbox ++ [c] } }, 0)

/-- The command that 32 bytes of payload hold. One that a peer's or a device's message brings runs at user level for the
function it was sent to, as that of context 0 and of no crew (log 36). -/
def Wire.command (w : Wire) : Command :=
  { word0 := w.payload.extractLsb' 0 64, word1 := w.payload.extractLsb' 64 64, word2 := w.payload.extractLsb' 128 64,
    word3 := w.payload.extractLsb' 192 64, fn := w.fn, level := w.level, sender := w.sender.getD 0, crew := w.crew,
    poison := w.poison }

/-! ### The host (R369) -/

/-- Bytes written to host memory at a host address. -/
def State.hostWrite (s : State) (a : Nat) (bytes : List Byte) (poison : Bool) : State :=
  s.storeLoc (hostBase + a % 2 ^ 51) bytes poison noKey

/-- The 8-byte count of a vector's notice slot raised by 1. -/
def State.bumpNotice (s : State) (a : Nat) : State :=
  s.hostWrite a (leBytes 8 ((leNat (s.readLoc (hostBase + a % 2 ^ 51) 8 noKey).1 + 1) % 2 ^ 64)) false

/-- MSI-X vector `v` of a function is sent, or held pending while it is masked. That it was sent is seen by the host
alone. -/
def State.raiseMsix (s : State) (f v : Nat) : State :=
  let x := s.fnOf f
  if x.msixMask.getLsbD v then s.setFn f { x with msixPend := x.msixPend ||| BitVec.twoPow 64 v } else s

/-- A message to a host interrupt endpoint (R369). -/
def State.hostNotice (s : State) (f v : Nat) (payload : BitVec 256) (poison : Bool) : State :=
  let base := (s.fnOf f).nbase.toNat
  let s := if base = 0 then s
    else
      let count := base + 2048 + 8 * v
      ((s.bumpNotice count).hostWrite (base + 32 * v) (leBytes 32 payload.toNat) poison).bumpNotice count
  s.raiseMsix f v

/-! ### The status of a message -/

/-- A message is offered within the package: it is performed, with the status (R248, R258, R369, R372). -/
def State.offer (s : State) (w : Wire) : State × Nat :=
  match s.target w.fn w.dest with
  | .core core ch =>
    if s.strays w.fn w.sender (core / 16) then s.stray w.fn (s.wireDie w)
    else if s.reaches w.fn (s.wireDie w) (core / 256) then
      s.enter core ch { payload := w.payload, poison := w.poison, tag := tagOf w.cls w.kind w.src 0 }
    else (s, 2)
  | .engine d u =>
    if w.sender.any fun g => !(s.member w.fn (clusterOf g)) then s.stray w.fn (s.wireDie w)
    else if s.reaches w.fn (s.wireDie w) d then s.enterEngine d u w.command else (s, 2)
  | .host v => if s.hostUp w.fn then (s.hostNotice w.fn v w.payload w.poison, 0) else (s, 2)
  | .remote _ => (s, 2)
  | .absent => (s, 2)

/-- A message that crosses Euvex gets its status: the peer's, which is a free value, or ABSENT where no link of the
set can carry it (R365, R366). It passes the link that its sender, path and class name (R363), and the peer's TENANT is
recorded here too (R365; logs 46, 57). -/
def State.offerRemote (s : State) (w : Wire) (dev : Nat) : State × Nat :=
  if (s.peerLinks dev).all (· == .down) then (s, 2)
  else
    let st := bitsOf (Config.freeWord s.freeCount).toNat 0 2
    let t := s.passLink (w.sender.getD w.src) (pathCode .msg) w.cls dev
    ((if st = 3 then t.record 0 { cause := s.freeCause 1, bound := 7, vf := w.fn, unit := 6 } else t).tick, st)

/-- A message is offered to its destination, with its outcome counted for the sender's function (R242). -/
def State.offerAny (s : State) (w : Wire) : State × Nat :=
  let r := match s.target w.fn w.dest with
    | .remote dev => s.offerRemote w dev
    | _ => s.offer w
  (r.1.count w.fn fun u => if r.2 = 0 then { u with accepted := u.accepted + 1 } else { u with refused := u.refused + 1 },
    r.2)

/-! ### Responder requests (R298) -/

/-- A counted entry gets a null reply, if it has no answer yet. -/
def Counted.nullified (e : Counted) : Counted := if e.answer.isSome || e.null then e else { e with null := true }

/-- A census, where its id still has the generation. -/
def State.setCensus (s : State) (k : Nat) (c : Census) : State :=
  s.setDie (k / 256) { s.die (k / 256) with censuses := aset (s.die (k / 256)).censuses (k % 256) c }

/-- A responder request came to nothing (R298): its census counts a null reply for the entry. -/
def State.nullReply (s : State) (w : Wire) : State :=
  match w.census with
  | none => s
  | some (k, e) =>
    match s.census k with
    | none => s
    | some c =>
      if bitsOf w.payload.toNat 148 12 = aget 0 (s.die (k / 256)).generations (k % 256) then
        s.setCensus k { c with counted := c.counted.map fun x => if 64 * x.core + x.slot = e then x.nullified else x }
      else s

/-! ### What becomes of a message -/

/-- A message leaves the table. -/
def State.unwire (s : State) (k : Nat) : State := { s with wires := aerase s.wires k }

/-- A device message is dropped (R249). -/
def State.dropWire (s : State) (k : Nat) (w : Wire) : State :=
  ((s.unwire k).nullReply w).count w.fn fun u => { u with drops := u.drops + 1 }

/-- A message got its status (R248, R249): it is done, waits to be offered again, is dropped, or will bounce. -/
def State.settleWire (s : State) (k : Nat) (w : Wire) (st : Nat) : State :=
  if w.waits then
    let s := s.unwire k
    match w.sender with
    | some g => s.setCtx g { s.ctx g with wait := some (.answered (BitVec.ofNat 64 st)) }
    | none => s
  else if st = 0 then s.unwire k
  else if !w.device then { s with wires := aset s.wires k { w with refused := some st } }
  else if st = 1 then { s with wires := aset s.wires k { w with retry := true } }
  else s.dropWire k w

/-- A refused SEND.P or PUT completion enters FIFO 63 of the sending core, or is lost (R248). -/
def State.bounceWire (s : State) (k : Nat) (w : Wire) (st : Nat) : State :=
  let s := s.unwire k
  let core := coreOf (w.sender.getD 0)
  let x := s.chan core 63
  if (s.die (core / 256)).state != .present then s
  else if 8 ≤ x.fifo.length then s.setChan core 63 { x with lost := true }
  else
    s.setChan core 63 { x with
      fifo := x.fifo ++ [{ payload := w.payload, poison := w.poison, tag := tagOf w.cls 3 w.dest st }], pend := true }

/-- The message at a serial number. -/
def State.wireAt (s : State) (k : Nat) : Option Wire := (s.wires.find? fun p => p.1 == k).map (·.2)

/-- The delivery at a serial number. -/
def State.putAt (s : State) (k : Nat) : Option PutJob := (s.puts.find? fun p => p.1 == k).map (·.2)

/-- A message is offered and gets its status. -/
def State.arriveWire (s : State) (k : Nat) (w : Wire) : State :=
  match s.offerAny w with
  | (s, st) => s.settleWire k w st

/-! ### PUT deliveries (R257) -/

/-- The crew whose region a channel of a core names for deliveries, or none (R257). -/
def State.regionOfChan (s : State) (core ch : Nat) : Option (Nat × Crew) :=
  let x := s.chan core ch
  let c := s.ctx (4 * core + bindCtx x.binding)
  if !(bindBound x.binding) || x.held || !c.live then none
  else (c.crew.bind fun k => (s.crewOf k).map fun r => (k, r)).filter fun r => (s.core core).hasRegion r.1

/-- Where a byte of a delivery lies. -/
def State.putLoc (s : State) (j : PutJob) (i : Nat) : Option Nat :=
  ((s.core j.core).granuleFor j.crew ((j.offset + i) / 16384)).map fun g =>
    scratchLoc j.core g ((j.offset + i) % 16384)

/-- The granules a delivery touches: its first byte in each, and how many (R338). -/
def putGranules (off n : Nat) : List (Nat × Nat) :=
  (granulesOf off n).map fun g => (max off g - off, min (off + n) (g + 64) - max off g)

/-- The pieces of a delivery are stored where the region still stands, each whole in its granule (R257, R338). -/
def State.putPieces (s : State) (j : PutJob) : State :=
  (putGranules j.offset j.bytes.length).foldl (fun s p =>
    match s.putLoc j p.1 with
    | none => s
    | some loc =>
      s.storeLoc loc ((j.bytes.drop p.1).take p.2) (((j.poison.drop p.1).take p.2).any id) noKey) s

/-- The barrier of a delivery is decremented (R257, R264): the result; a place beyond the region, or behind an absent
home, holds no valid object. -/
def State.putBarrier (s : State) (j : PutJob) : State × Nat :=
  let n := j.bytes.length
  match j.barrier with
  | .none => (s, 1)
  | .at loc key => s.putDecrement loc key n
  | .region off =>
    match (s.core j.core).granuleFor j.crew (off / 16384) with
    | none => (s, 2)
    | some g => s.putDecrement (scratchLoc j.core g (off % 16384)) noKey n

/-- A delivery is performed: the pieces, the decrement, the completion message. -/
def State.completePut (s : State) (k : Nat) (j : PutJob) : State :=
  let s := { s with puts := aerase s.puts k }
  let s := s.putPieces j
  match s.putBarrier j with
  | (s, r) =>
    match j.message with
    | none => s
    | some w => s.post { w with payload := w.payload + BitVec.ofNat 256 (r * 2 ^ 192) }

/-! ### Performing what a thread's fences wait for (R219, R220, R229) -/

/-- A message or a delivery of a thread that is not performed yet: its serial number, which gives the program order, its
class, and the delivery. -/
structure OwnMsg where
  serial : Nat
  cls    : Nat
  job    : Option PutJob := none
  deriving DecidableEq, Repr

/-- Two deliveries store to a common byte. -/
def PutJob.meets (a b : PutJob) : Bool :=
  a.core == b.core && a.crew == b.crew && overlaps a.offset a.bytes.length b.offset b.bytes.length

/-- An older access of class `k` is performed before a younger one of class `cls` of the thread's path (R220, R221). -/
def ordered (cls k : Nat) : Bool := k == cls || k == 15 || cls == 15

/-- An older message or delivery that must be performed before another of its thread: by their classes, or deliveries to a
common byte (R219 to R221). -/
def OwnMsg.precedes (a b : OwnMsg) : Bool :=
  ordered b.cls a.cls ||
  match a.job, b.job with
  | some x, some y => x.meets y
  | _, _ => false

/-- An item put into its place by serial number. -/
def OwnMsg.insert (x : OwnMsg) : List OwnMsg → List OwnMsg
  | [] => [x]
  | y :: ys => if x.serial ≤ y.serial then x :: y :: ys else y :: OwnMsg.insert x ys

/-- A thread's messages and deliveries not performed yet, in program order; a SEND that waits for its status is none. -/
def State.ownItems (s : State) (g : Nat) : List OwnMsg :=
  let ws := (s.wires.filter fun p => p.2.sender == some g && !p.2.waits).map fun p =>
    ({ serial := p.1, cls := p.2.cls } : OwnMsg)
  let ps := (s.puts.filter fun p => p.2.sender == g).map fun p =>
    ({ serial := p.1, cls := p.2.cls, job := some p.2 } : OwnMsg)
  (ws ++ ps).foldr OwnMsg.insert []

/-- Which items must be performed so that those of the classes with the property are: they, and what precedes them. -/
def neededMsgs (q : Nat → Bool) : List OwnMsg → List (OwnMsg × Bool)
  | [] => []
  | p :: rest =>
    let r := neededMsgs q rest
    (p, q p.cls || r.any fun x => x.2 && p.precedes x.1) :: r

/-- The serial numbers of the messages and deliveries of a thread that must be performed so that those of the classes with
the property are, in order. -/
def State.ownMsgs (s : State) (g : Nat) (q : Nat → Bool) : List Nat :=
  ((neededMsgs q (s.ownItems g)).filter (·.2)).map (·.1.serial)

/-- A remote message waits while some link of the set retrains and none is up (R366). -/
def State.linkWaits (s : State) (w : Wire) : Bool :=
  match s.target w.fn w.dest with
  | .remote dev => !((s.peerLinks dev).any (· == .up)) && (s.peerLinks dev).any (· == .retrain)
  | _ => false

/-- A message is held on its way by an island that is being reset (R361). -/
def State.wireHeld (s : State) (w : Wire) : Bool :=
  match s.target w.fn w.dest with
  | .core c _ => s.routeHeld (s.wireDie w) (c / 256)
  | .engine d _ => s.routeHeld (s.wireDie w) d
  | _ => false

/-- One message or delivery is performed, and its bounce, if it is refused; one whose way is held keeps the step waiting
(R361, R366). -/
def State.performMsg (s : State) (k : Nat) : State :=
  match s.putAt k with
  | some j => (s.block (s.routeHeld (dieOf j.sender) (j.core / 256))).completePut k j
  | none =>
    match s.wireAt k with
    | none => s
    | some w =>
      let s := if w.refused.isSome || w.retry then s
        else (s.block (s.linkWaits w || s.wireHeld w)).arriveWire k w
      match s.wireAt k with
      | none => s
      | some w => match w.refused with
        | some st => s.bounceWire k w st
        | none => s

/-- A thread's messages and deliveries of some classes are performed in order. -/
def State.flushOnce (s : State) (g : Nat) (q : Nat → Bool) : State :=
  (s.ownMsgs g q).foldl (fun s k => s.performMsg k) s

/-- Then the completion messages of those deliveries too. -/
def State.flushMsg (s : State) (g : Nat) (q : Nat → Bool) : State := (s.flushOnce g q).flushOnce g q

/-- Every delivery into a crew's regions is performed. -/
def State.flushInto (s : State) (crew : Nat) : State :=
  (s.puts.filter fun p => p.2.crew == crew).foldl (fun s p => s.completePut p.1 p.2) s

/-! ### The events -/

/-- An older message or delivery of the same thread must be performed first (R219 to R221, R255). -/
def State.olderMsg (s : State) (g : Nat) (m : OwnMsg) : Bool :=
  (s.ownItems g).any fun x => decide (x.serial < m.serial) && x.precedes m &&
    (s.wireAt x.serial).elim true fun w => w.refused.isNone

/-- A message waits for an older one of its thread. -/
def State.messageWaits (s : State) (k : Nat) (w : Wire) : Bool :=
  match w.sender with
  | none => false
  | some g => s.olderMsg g { serial := k, cls := w.cls }

/-- A delivery waits for an older one, or a message, of its thread. -/
def State.deliveryWaits (s : State) (k : Nat) (j : PutJob) : Bool :=
  s.olderMsg j.sender { serial := k, cls := j.cls, job := some j }

/-- The message goes to a host interrupt endpoint whose link is up. -/
def State.toHost (s : State) (w : Wire) : Bool :=
  match s.target w.fn w.dest with
  | .host _ => s.hostUp w.fn
  | _ => false

/-- The message can be offered now. -/
def State.canArrive (s : State) (k : Nat) (w : Wire) : Bool :=
  !w.refused.isSome && !w.retry && !(s.messageWaits k w) && !(s.linkWaits w) && !(s.wireHeld w)

/-- MESSAGE_ARRIVAL (R248, R255): a message on its way reaches its destination. -/
def execMessageArrival (k : Nat) (s : State) : Out :=
  match s.wireAt k with
  | none => .refused (.notEnabled "MESSAGE_ARRIVAL")
  | some w => whenEnabled "MESSAGE_ARRIVAL" (s.canArrive k w && !(s.toHost w)) (s.arriveWire k w)

/-- HOST_INTERRUPT_MESSAGE (R369): a message to a host interrupt endpoint whose link is up. -/
def execHostInterruptMessage (k : Nat) (s : State) : Out :=
  match s.wireAt k with
  | none => .refused (.notEnabled "HOST_INTERRUPT_MESSAGE")
  | some w => whenEnabled "HOST_INTERRUPT_MESSAGE" (s.canArrive k w && s.toHost w) (s.arriveWire k w)

/-- BOUNCE (R248). -/
def execBounce (k : Nat) (s : State) : Out :=
  match s.wireAt k with
  | none => .refused (.notEnabled "BOUNCE")
  | some w =>
    match w.refused with
    | none => .refused (.notEnabled "BOUNCE")
    | some st => .next (s.bounceWire k w st)

/-- DEVICE_MESSAGE_RETRY (R249): a message refused as FULL is offered again. -/
def execDeviceMessageRetry (k : Nat) (s : State) : Out :=
  match s.wireAt k with
  | none => .refused (.notEnabled "DEVICE_MESSAGE_RETRY")
  | some w => whenEnabled "DEVICE_MESSAGE_RETRY" (w.device && w.retry && !(s.wireHeld w)) (s.arriveWire k { w with retry := false })

/-- DEVICE_MESSAGE_DROP (R249): a message refused as FULL for 65,536 cycles is dropped. -/
def execDeviceMessageDrop (k : Nat) (s : State) : Out :=
  match s.wireAt k with
  | none => .refused (.notEnabled "DEVICE_MESSAGE_DROP")
  | some w => whenEnabled "DEVICE_MESSAGE_DROP" (w.device && w.retry) (s.dropWire k w)

/-- REMOTE_STATUS_TIMEOUT (R365): no status came from the peer, and SEND writes ABSENT, a refusal that is counted (R242). -/
def execRemoteStatusTimeout (g : Nat) (s : State) : Out :=
  let c := s.ctx g
  whenEnabled "REMOTE_STATUS_TIMEOUT" (c.live && c.wait == some .remoteStatus)
    { (s.setCtx g { c with wait := some (.answered 2) }).count c.fn fun u => { u with refused := u.refused + 1 } with
      wires := s.wires.filter fun p => !(p.2.waits && p.2.sender == some g) }

/-- PUT_DELIVERY_COMPLETE (R257): every piece of a delivery is performed. -/
def execPutDeliveryComplete (k : Nat) (s : State) : Out :=
  match s.putAt k with
  | none => .refused (.notEnabled "PUT_DELIVERY_COMPLETE")
  | some j => whenEnabled "PUT_DELIVERY_COMPLETE"
    (!(s.deliveryWaits k j) && !(s.routeHeld (dieOf j.sender) (j.core / 256))) (s.completePut k j)

end Sys2Proof.Machine
end

