-- ==== Sys2Proof/Machine/Approx.lean ====
section
/-! DEFINITION. The results that R143 fixes only within a bound: the exact values to 192 fraction bits, and the choice of
an encoding within the bound (R31, R143; log 13). -/

namespace Sys2Proof.Machine

/-- Fraction bits of the fixed-point numbers of this file. -/
def fixBits : Nat := 192

/-- π to 256 fraction bits. -/
def piFix : Int := 0x3243f6a8885a308d313198a2e03707344a4093822299f31d0082efa98ec4e6c89

/-- The natural logarithm of 2 to 256 fraction bits. -/
def ln2Fix : Int := 0xb17217f7d1cf79abc9e3b39803f2f6af40f343267298b62d8a0d175b8baafa2b

/-- The product of two fixed-point numbers. -/
def mulFix (a b : Int) : Int := a * b / (2 ^ fixBits : Nat)

/-- m · 2^e as a fixed-point number. -/
def toFix (m : Int) (e : Int) : Int :=
  if 0 ≤ e + fixBits then m * (2 ^ (e + fixBits).toNat : Nat) else m / (2 ^ (-(e + fixBits)).toNat : Nat)

/-- The series of terms `t`, `t·r/(k·(k + step − 1)…)`: each next term is the last times `r` over the next `step`
numbers. -/
def series (r : Int) (step : Nat) : Nat → Nat → Int → Int
  | 0, _, _ => 0
  | n + 1, k, t =>
    let d : Int := if step = 1 then (k : Int) else (k : Int) * (k + 1 : Nat)
    t + series r step n (k + step) (mulFix t r / d)

/-- One as a fixed-point number. -/
def oneFix : Int := (2 ^ fixBits : Nat)

/-- e^r of a fixed-point number from 0 to 1. -/
def expFix (r : Int) : Int := series r 1 56 1 oneFix

/-- sin r of a fixed-point number of magnitude at most 1. -/
def sinFix (r : Int) : Int := series (-(mulFix r r)) 2 30 2 r

/-- cos r of a fixed-point number of magnitude at most 1. -/
def cosFix (r : Int) : Int := series (-(mulFix r r)) 2 30 1 oneFix

/-- The sum of z^(2k+1)/(2k+1), from a power of z on. -/
def atanhSum (z2 : Int) : Nat → Nat → Int → Int
  | 0, _, _ => 0
  | n + 1, k, t => t / (k : Int) + atanhSum z2 n (k + 2) (mulFix t z2)

/-- The logarithm to base 2 of m · 2^e, m nonzero. -/
def log2Fix (m : Nat) (e : Int) : Int :=
  let k := m.log2
  let x := toFix m (-(k : Int))
  let z := (x - oneFix) * oneFix / (x + oneFix)
  let ln := 2 * atanhSum (mulFix z z) 70 1 z
  ((k : Int) + e) * oneFix + ln * (2 ^ 256 : Nat) / ln2Fix

/-- The sine or cosine of a value of magnitude at most 2^20: reduced by the nearest multiple of π/2. -/
def trigFix (neg : Bool) (m : Nat) (e : Int) (cosine : Bool) : Int :=
  let x := toFix (signedOf neg m) e
  let half := piFix / (2 ^ 65 : Nat)
  let k := (2 * x + half) / (2 * half)
  let r := (toFix (signedOf neg (m * 2 ^ 64)) e - k * (piFix / 2)) / (2 ^ 64 : Nat)
  let q := ((if cosine then k + 1 else k) % 4).toNat
  match q with
  | 0 => sinFix r
  | 1 => cosFix r
  | 2 => -(sinFix r)
  | _ => -(cosFix r)

/-- x · 2^e is at most y · 2^f. -/
def dyLe (x e y f : Int) : Bool :=
  let g := min e f
  decide (x * (2 ^ (e - g).toNat : Nat) ≤ y * (2 ^ (f - g).toNat : Nat))

/-- The value of a magnitude of a type, with the one after the largest finite magnitude as the next power of two. -/
def magValue (t c : Nat) : Nat × Int :=
  let f := formatOf t
  if f.maxFin < c then (1, f.bias + 1)
  else
    match decodeFloat t c with
    | .fin _ m e => (m, e)
    | _ => (0, 0)

/-- A magnitude lies within a number of ulps of every number from m − lo to m + hi last bits at 2^e, among which the exact
magnitude is. -/
def withinUlps (t ulps : Nat) (m : Nat) (e : Int) (err : Nat × Nat) (c : Nat) : Bool :=
  let f := formatOf t
  let q := max ((m.log2 : Int) + e - f.mbits) f.qmin
  let v := magValue t c
  let g := min (min v.2 e) q
  let bound : Int := (ulps * 2 ^ (q - g).toNat : Nat)
  let diff : Int := ((v.1 * 2 ^ (v.2 - g).toNat : Nat) : Int) - (m * 2 ^ (e - g).toNat : Nat)
  decide (diff + (err.1 * 2 ^ (e - g).toNat : Nat) ≤ bound) && decide ((err.2 * 2 ^ (e - g).toNat : Nat) - diff ≤ bound)

/-- The exact value is the number itself. -/
def noError : Nat × Nat := (0, 0)

/-- The exact value lies between the number and the next last bit. -/
def floorError : Nat × Nat := (0, 1)

/-- What the series of this file leave uncertain, in last bits. -/
def seriesError : Nat × Nat := (2 ^ 16, 2 ^ 16)

/-- A result that R143 fixes within a number of ulps: a free encoding within the bound, with the flags that the returned
encoding has. `m · 2^e` is the exact magnitude as known, to within `err`. -/
def approxResult (op t rm x ulps : Nat) (neg : Bool) (m : Nat) (e : Int) (err : Nat × Nat) : Nat × Flags :=
  let f := formatOf t
  let exact := err == noError
  let cand := Config.approx op t rm x % f.signBit
  let near := (roundTo t 0 false false m e (!exact)).1
  let c := if decide (cand ≤ f.maxFin + 1) && withinUlps t ulps m e err cand then cand else near
  if f.maxFin < c then (f.signed neg (if overflowsToInf rm neg then f.maxFin + 1 else f.maxFin), flagOFNX)
  else
    let v := magValue t c
    let same := exact && dyLe v.1 v.2 m e && dyLe m e v.1 v.2
    (f.signed neg c, if same then noFlags else if c < 2 ^ f.mbits then flagUF ||| flagNX else flagNX)

/-- VFREC: 1/x (R143). -/
def vfRec (t rm x : Nat) : Nat × Flags :=
  match decodeFloat t x with
  | .nan g => nanResult t g
  | .inf n => ((formatOf t).signed n 0, noFlags)
  | .fin n m e =>
    if m = 0 then ((formatOf t).inf n, flagDZ)
    else approxResult 0 t rm x 1 n (2 ^ 256 / m) (-e - 256) (if 2 ^ 256 % m = 0 then noError else floorError)

/-- VFRSQ: 1/√x (R143). -/
def vfRsq (t rm x : Nat) : Nat × Flags :=
  match decodeFloat t x with
  | .nan g => nanResult t g
  | .inf n => if n then invalid t else ((formatOf t).signed false 0, noFlags)
  | .fin n m e =>
    if m = 0 then ((formatOf t).inf n, flagDZ)
    else if n then invalid t
    else
      let k : Nat := if e % 2 = 0 then 512 else 513
      let num := 2 ^ k / m
      let r := isqrt num
      approxResult 1 t rm x 1 false r ((-e - k) / 2)
        (if r * r = num ∧ 2 ^ k % m = 0 then noError else floorError)

/-- A magnitude as a power of two, if it is one. -/
def powerOfTwo (m : Nat) (e : Int) : Option Int := if m = 2 ^ m.log2 then some (m.log2 + e) else none

/-- The smallest exponent of a normal number of a type. -/
def minNormal (t : Nat) : Int := 1 - (formatOf t).bias

/-- VFEXP2: 2^x (R143): exact for an integer x whose result is a normal number. -/
def vfExp2 (t rm x : Nat) : Nat × Flags :=
  match decodeFloat t x with
  | .nan g => nanResult t g
  | .inf n => if n then ((formatOf t).signed false 0, noFlags) else ((formatOf t).inf false, noFlags)
  | .fin n m e =>
    let low := roundAt 2 n m e false 0
    let k := max (-4096) (min 4096 (signedOf n low.1))
    if (formatOf t).bias < k then roundTo t rm false false 1 ((formatOf t).bias + 1) false
    else if !low.2 then
      if minNormal t ≤ k then roundTo t rm false false 1 k false
      else approxResult 2 t rm x 2 false (2 ^ fixBits) (k - fixBits) noError
    else
      let frac := toFix (signedOf n m) e - signedOf n low.1 * oneFix
      let y := expFix (frac * ln2Fix / (2 ^ 256 : Nat))
      approxResult 2 t rm x 2 false y.toNat (k - fixBits) seriesError

/-- VFLOG2: log2 x (R143): exact for a power of two. -/
def vfLog2 (t rm x : Nat) : Nat × Flags :=
  match decodeFloat t x with
  | .nan g => nanResult t g
  | .inf n => if n then invalid t else ((formatOf t).inf false, noFlags)
  | .fin n m e =>
    if m = 0 then ((formatOf t).inf true, flagDZ)
    else if n then invalid t
    else
      match powerOfTwo m e with
      | some y => roundExact t rm (decide (y < 0)) y.natAbs 0
      | none =>
        let y := log2Fix m e
        approxResult 3 t rm x 2 (decide (y < 0)) y.natAbs (-(fixBits : Int)) seriesError

/-- A magnitude is above 2^20. -/
def beyondRange (m : Nat) (e : Int) : Bool := !(dyLe m e 1048576 0)

/-- A magnitude is below 2^-50: there sine and cosine differ from x and 1 by less than 64 further bits show. -/
def tinyArgument (m : Nat) (e : Int) : Bool := !(dyLe 1 (-50) m e)

/-- VFSIN (R31, R143): |sin x| is below |x| and below 1, which decides the ulp of the exact result. -/
def vfSin (t rm x : Nat) : Nat × Flags :=
  match decodeFloat t x with
  | .nan g => nanResult t g
  | .inf _ => invalid t
  | .fin n m e =>
    if m = 0 then ((formatOf t).signed n 0, noFlags)
    else if beyondRange m e then invalid t
    else if tinyArgument m e then approxResult 4 t rm x 2 n (m * 2 ^ 64 - 1) (e - 64) floorError
    else
      let y := trigFix n m e false
      let mag := min y.natAbs (min (toFix m e) oneFix - 1).toNat
      approxResult 4 t rm x 2 (decide (y < 0)) mag (-(fixBits : Int)) seriesError

/-- VFCOS (R31, R143): |cos x| is below 1 for x other than 0. -/
def vfCos (t rm x : Nat) : Nat × Flags :=
  match decodeFloat t x with
  | .nan g => nanResult t g
  | .inf _ => invalid t
  | .fin n m e =>
    if m = 0 then roundTo t rm false false 1 0 false
    else if beyondRange m e then invalid t
    else if tinyArgument m e then approxResult 5 t rm x 2 false (2 ^ 64 - 1) (-64) floorError
    else
      let y := trigFix n m e true
      approxResult 5 t rm x 2 (decide (y < 0)) (min y.natAbs (oneFix - 1).toNat) (-(fixBits : Int)) seriesError

end Sys2Proof.Machine
end

