-- ==== Sys2Proof/Machine/FloatScalar.lean ====
section
/-! DEFINITION. Scalar floating point, majors 0x08 to 0x0A (R63 to R65). -/

namespace Sys2Proof.Machine

/-- The low EW bits of a register as an encoding of a type. -/
def State.enc (s : State) (r : BitVec 5) (t : Nat) : Nat := (s.rv r).toNat % 2 ^ typeWidth t

/-- A scalar operand as a value of a float type. -/
def State.fval (s : State) (r : BitVec 5) (t : Nat) : Value := decodeFloat t (s.enc r t)

/-- A rounded operation of two operands (R63). -/
def State.fop2 (s : State) (d a b : BitVec 5) (r : BitVec 3) (t : BitVec 2)
    (f : Nat → Nat → Value → Value → Nat × Flags) : State :=
  let ty := floatCode t.toNat
  s.retireF d (f ty (s.me.scalarRm r) (s.fval a ty) (s.fval b ty)) (s.rp a || s.rp b)

/-- A minimum or maximum (R11, R63). -/
def State.fminmax (s : State) (d a b : BitVec 5) (t : BitVec 2) (isMax : Bool) : State :=
  let ty := floatCode t.toNat
  s.retireF d (minMaxFloat ty isMax (s.enc a ty) (s.enc b ty)) (s.rp a || s.rp b)

/-- A comparison (R12, R63): the result is a 64-bit integer. -/
def State.fcompare (s : State) (d a b : BitVec 5) (t : BitVec 2) (k : FCmp) : State :=
  let ty := floatCode t.toNat
  let r := compareFloat ty k (s.enc a ty) (s.enc b ty)
  s.retireF d (ofBool r.1, r.2) (s.rp a || s.rp b)

/-- FADD (R63). -/
def execFadd (d a b : BitVec 5) (r : BitVec 3) (t : BitVec 2) (s : State) : Out := .next (s.fop2 d a b r t addValues)
/-- FSUB (R63). -/
def execFsub (d a b : BitVec 5) (r : BitVec 3) (t : BitVec 2) (s : State) : Out :=
  .next (s.fop2 d a b r t fun ty rm x y => addValues ty rm x y.negate)
/-- FMUL (R63). -/
def execFmul (d a b : BitVec 5) (r : BitVec 3) (t : BitVec 2) (s : State) : Out := .next (s.fop2 d a b r t mulValues)
/-- FDIV (R63). -/
def execFdiv (d a b : BitVec 5) (r : BitVec 3) (t : BitVec 2) (s : State) : Out := .next (s.fop2 d a b r t divValues)
/-- FSQRT (R63). -/
def execFsqrt (d a : BitVec 5) (r : BitVec 3) (t : BitVec 2) (s : State) : Out :=
  let ty := floatCode t.toNat
  .next (s.retireF d (sqrtValue ty (s.me.scalarRm r) (s.fval a ty)) (s.rp a))
/-- FMIN (R11, R63). -/
def execFmin (d a b : BitVec 5) (t : BitVec 2) (s : State) : Out := .next (s.fminmax d a b t false)
/-- FMAX (R11, R63). -/
def execFmax (d a b : BitVec 5) (t : BitVec 2) (s : State) : Out := .next (s.fminmax d a b t true)
/-- FEQ (R12, R63). -/
def execFeq (d a b : BitVec 5) (t : BitVec 2) (s : State) : Out := .next (s.fcompare d a b t .eq)
/-- FLT (R12, R63). -/
def execFlt (d a b : BitVec 5) (t : BitVec 2) (s : State) : Out := .next (s.fcompare d a b t .lt)
/-- FLE (R12, R63). -/
def execFle (d a b : BitVec 5) (t : BitVec 2) (s : State) : Out := .next (s.fcompare d a b t .le)

/-- FMA (R64): x · y + c rounded once. -/
def execFma (d a b e : BitVec 5) (r : BitVec 3) (t : BitVec 2) (s : State) : Out :=
  let ty := floatCode t.toNat
  .next (s.retireF d (fmaValues ty (s.me.scalarRm r) (s.fval a ty) (s.fval b ty) (s.fval e ty))
    (s.rp a || s.rp b || s.rp e))

/-- An integer result in a register: sign-extended for a signed type, zero-extended for an unsigned one (R65). -/
def extendInt (t x : Nat) : Nat := encodeInt 64 (intOf t x)

/-- FCVT (R65): `sx` is the source type and `t` the target type; the saturate bit is 0. -/
def execFcvt (d a : BitVec 5) (r : BitVec 3) (sx t : BitVec 4) (s : State) : Out :=
  let q := convert (s.enc a sx.toNat) sx.toNat t.toNat (s.me.scalarRm r) false
  .next (s.retireF d (if typeFloat t.toNat then q.1 else extendInt t.toNat q.1, q.2) (s.rp a))

end Sys2Proof.Machine
end

