-- ==== Sys2Proof/Machine/Vector.lean ====
section
/-! DEFINITION. How a vector instruction runs (R131 to R139): elements and masks, the checks of scalar decode, the vector
queue, element groups, commitment and retirement. -/

namespace Sys2Proof.Machine

/-! ### Elements (R103, R131) -/

/-- The logical lane of element `e` at width `w`. -/
def Geo.laneOf (x : Geo) (w e : Nat) : Nat := e / (512 / w) % x.g

/-- The row of element `e` at width `w` within its register or group. -/
def Geo.rowIn (x : Geo) (w e : Nat) : Nat := e / (512 / w * x.g)

/-- Element `e` at width `w` of the register or group that starts at register `k`, with the poison of its row. -/
def VecState.elem (v : VecState) (x : Geo) (w k e : Nat) : Nat × Bool :=
  let r := v.row (x.laneOf w e) (k * x.rpr + x.rowIn w e)
  (bitsOf r.1.toNat (w * (e % (512 / w))) w, r.2)

/-- A value to be written at bit `lo` of a row, `width` bits wide. -/
structure Put where
  lane   : Nat
  row    : Nat
  lo     : Nat
  width  : Nat
  val    : Nat
  poison : Bool
  deriving DecidableEq, Repr

/-- The write of element `e` at width `w` of the register or group that starts at register `k`. -/
def Geo.put (x : Geo) (w k e val : Nat) (poison : Bool) : Put :=
  { lane := x.laneOf w e, row := k * x.rpr + x.rowIn w e, lo := w * (e % (512 / w)), width := w, val := val,
    poison := poison }

/-- A row with `w` bits from bit `lo` on replaced. -/
def setBits (r : Row) (lo w val : Nat) : Row :=
  BitVec.ofNat 512 (r.toNat - bitsOf r.toNat lo w * 2 ^ lo + val % 2 ^ w * 2 ^ lo)

/-- What writes come to in each row they touch: the bits written and whether one of them is poisoned. -/
def tally (ps : List Put) : Assoc (Nat × Bool) :=
  ps.foldl (fun m p =>
    let t := aget (0, false) m (64 * p.lane + p.row)
    aset m (64 * p.lane + p.row) (t.1 + p.width, t.2 || p.poison)) []

/-- Writes to distinct places are made (R132): a row keeps its old poison unless all of it is written. -/
def VecState.putAll (v : VecState) (ps : List Put) : VecState :=
  { v with
    rows := ps.foldl (fun m p =>
      aput 0 m (64 * p.lane + p.row) (setBits (aget 0 m (64 * p.lane + p.row)) p.lo p.width p.val)) v.rows
    rowPoison := (tally ps).foldl (fun m t =>
      aput false m t.1 (t.2.2 || (decide (t.2.1 < 512) && aget false m t.1))) v.rowPoison }

/-- The running vector instruction writes rows (R351): 64·lane + row each. -/
def Ctx.noteRows (c : Ctx) (rows : List Nat) : Ctx :=
  { c with reissue := c.reissue.map fun e => { e with wrote := e.wrote ++ rows.filter fun k => !(e.wrote.contains k) } }

/-- The running vector instruction writes elements of its registers (R132). -/
def Ctx.putRows (c : Ctx) (ps : List Put) : Ctx :=
  { c with vec := c.vec.putAll ps }.noteRows ((tally ps).map fun (t : Nat × Nat × Bool) => t.1)

/-! ### Masks (R5, R150, R151) -/

/-- Bit `e` of mask `m` as stored, and the poison of its segment. -/
def VecState.maskBit (v : VecState) (m e : Nat) : Bool × Bool :=
  let g := v.segment m (e / 512)
  (g.1.getLsbD (e % 512), g.2)

/-- MaskBit (R5, R151): 1 without a mask and in a poisoned segment; with the poison of the segment. -/
def VecState.selects (v : VecState) (mk : BitVec 4) (e : Nat) : Bool × Bool :=
  if mk = 0 then (true, false)
  else
    let b := v.maskBit mk.toNat e
    (b.1 || b.2, b.2)

/-- A bit to be written in a mask, with its poison. -/
structure MaskPut where
  e      : Nat
  val    : Bool
  poison : Bool
  deriving DecidableEq, Repr

/-- The bits of segment `i` that can belong to an element of the geometry at some width (log 29). -/
def Geo.segmentBits (x : Geo) (i : Nat) : Nat := min 512 (64 * x.g * x.rpr - 512 * i)

/-- How many bits of each segment are written, and whether one is poisoned; `first` is what the same instruction wrote of
segment `seg`, at its boundary, before it was cut. -/
def segmentCounts (ps : List MaskPut) (seg : Nat) (first : Nat × Bool) : Assoc (Nat × Bool) :=
  let t0 : Assoc (Nat × Bool) := if first.1 = 0 then [] else [(seg, first)]
  ps.foldl (fun t p =>
    let c := aget (0, false) t (p.e / 512)
    aset t (p.e / 512) (c.1 + 1, c.2 || p.poison)) t0

/-- Bits of mask `m` are written (R151): a segment keeps its old poison unless all its bits are written. -/
def VecState.putMask (v : VecState) (x : Geo) (m : Nat) (ps : List MaskPut) (seg : Nat := 0)
    (first : Nat × Bool := (0, false)) : VecState :=
  let counts := segmentCounts ps seg first
  { v with
    masks := ps.foldl (fun t p =>
      let k := 256 * m + p.e / 512
      aput 0 t k (setBits (aget 0 t k) (p.e % 512) 1 (ofBool p.val))) v.masks
    maskPoison := counts.foldl (fun t c =>
      let k := 256 * m + c.1
      aput false t k (c.2.2 || (decide (c.2.1 < x.segmentBits c.1) && aget false t k))) v.maskPoison }

/-! ### What an instruction needs at decode (R135, R154, R175, R206) -/

/-- The checks of an instruction at scalar decode under a decode type: whether it takes the type, the register groups it
names by first register and size, the pairs that may not share a register, the scalar operands captured as control uses
and as data, and whether a revocation may cut it (R120). -/
structure VecSpec where
  types     : Bool := true
  regs      : List (Nat × Nat) := []
  apart     : List ((Nat × Nat) × (Nat × Nat)) := []
  control   : List (BitVec 5) := []
  data      : List (BitVec 5) := []
  divisible : Bool := true
  deriving DecidableEq, Repr

/-- The integer types of R6. -/
def intType (t : Nat) : Bool := decide (t < 8)

/-- The integer types that have a type of twice their width. -/
def narrowInt (t : Nat) : Bool := decide (t < 8) && t % 4 != 3

/-- FP16, FP32, FP64 and BF16. -/
def arithFloat (t : Nat) : Bool := t == 9 || t == 10 || t == 11 || t == 13

/-- FP16, FP32 and BF16. -/
def shortFloat (t : Nat) : Bool := t == 9 || t == 10 || t == 13

/-- The reserved pairs of R6. -/
def reservedType (t : Nat) : Bool := t == 14 || t == 15

/-- Registers `k` to `k + r − 1`. -/
def group (k : BitVec 6) (r : Nat) : Nat × Nat := (k.toNat, r)

/-- Two groups share a register. -/
def sharesRegister (x y : Nat × Nat) : Bool := decide (x.1 < y.1 + y.2) && decide (y.1 < x.1 + x.2)

/-- Three single registers under a type rule. -/
def spec3 (ok : Bool) (d a b : BitVec 6) : VecSpec := { types := ok, regs := [group d 1, group a 1, group b 1] }

/-- Two single registers and a captured scalar under a type rule. -/
def specS (ok : Bool) (d a : BitVec 6) (b : BitVec 5) : VecSpec :=
  { types := ok, regs := [group d 1, group a 1], data := [b] }

/-- Two single registers under a type rule. -/
def spec2 (ok : Bool) (d a : BitVec 6) : VecSpec := { types := ok, regs := [group d 1, group a 1] }

/-- A widening instruction (R141). -/
def specWiden (t : Nat) (d a b : BitVec 6) : VecSpec :=
  { types := narrowInt t, regs := [group d 2, group a 1, group b 1],
    apart := [(group d 2, group a 1), (group d 2, group b 1)] }

/-- VCVT of a source type (R144). -/
def specCvt (src t : Nat) (d a : BitVec 6) : VecSpec :=
  let r := if typeWidth t < typeWidth src then typeWidth src / typeWidth t else 1
  { types := !(reservedType src) && !(reservedType t) && src != t, regs := [group d 1, group a r],
    apart := if typeWidth src = typeWidth t then [] else [(group d 1, group a r)] }

/-- A reduction (R147). -/
def specReduce (ok : Bool) (a : BitVec 6) (b : BitVec 5) : VecSpec :=
  { types := ok, regs := [group a 1], data := [b], divisible := false }

/-- A whole instruction of R154 over registers. -/
def specWhole (ok : Bool) (regs : List (BitVec 6)) (data : List (BitVec 5)) : VecSpec :=
  { types := ok, regs := regs.map fun k => group k 1, data := data, divisible := false }

/-- A vector load or store (R206). -/
def specMem (ok : Bool) (regs : List (BitVec 6)) (control : List (BitVec 5)) : VecSpec :=
  { types := ok, regs := regs.map fun k => group k 1, control := control }

/-- A tile operation (R175). -/
def specTile (regs : List (BitVec 6)) : VecSpec := specWhole true regs []

/-- What an instruction of the vector queue needs at decode under a decode type; none for any other instruction. SETVL
and SETVLI are checked apart. -/
def vecSpec (i : Instr) (t : Nat) : Option VecSpec :=
  match i with
  | .vaddVV d a b _ | .vsubVV d a b _ | .vmulVV d a b _ | .vmulhVV d a b _ | .vminVV d a b _ | .vmaxVV d a b _
  | .vandVV d a b _ | .vorVV d a b _ | .vxorVV d a b _ | .vsllVV d a b _ | .vsrlVV d a b _ | .vsraVV d a b _
  | .vaddsVV d a b _ | .vsubsVV d a b _ => some (spec3 (intType t) d a b)
  | .vaddVS d a b _ | .vsubVS d a b _ | .vmulVS d a b _ | .vmulhVS d a b _ | .vminVS d a b _ | .vmaxVS d a b _
  | .vandVS d a b _ | .vorVS d a b _ | .vxorVS d a b _ | .vsllVS d a b _ | .vsrlVS d a b _ | .vsraVS d a b _
  | .vaddsVS d a b _ | .vsubsVS d a b _ => some (specS (intType t) d a b)
  | .vwadd d a b _ | .vwmacc d a b _ | .vwmaccu d a b _ => some (specWiden t d a b)
  | .vnclip d a b _ =>
    some { types := narrowInt t, regs := [group d 1, group a 2, group b 1],
           apart := [(group d 1, group a 2), (group b 1, group a 2)] }
  | .vfaddVV d a b _ | .vfsubVV d a b _ | .vfmulVV d a b _ | .vfmaVV d a b _ | .vfmsVV d a b _ | .vfnmaVV d a b _
  | .vfdivVV d a b _ | .vfminVV d a b _ | .vfmaxVV d a b _ => some (spec3 (arithFloat t) d a b)
  | .vfaddVS d a b _ | .vfsubVS d a b _ | .vfmulVS d a b _ | .vfmaVS d a b _ | .vfmsVS d a b _ | .vfnmaVS d a b _
  | .vfdivVS d a b _ | .vfminVS d a b _ | .vfmaxVS d a b _ => some (specS (arithFloat t) d a b)
  | .vfsqrt d a _ => some (spec2 (arithFloat t) d a)
  | .vfrsq d a _ | .vfrec d a _ | .vfexp2 d a _ | .vflog2 d a _ | .vfsin d a _ | .vfcos d a _ =>
    some (spec2 (shortFloat t) d a)
  | .vcvt d a _ f => some (specCvt f.toNat t d a)
  | .vmv d a _ => some (spec2 (!(reservedType t)) d a)
  | .vbcast d b _ => some { types := !(reservedType t), regs := [group d 1], data := [b] }
  | .vidx d _ => some { types := intType t, regs := [group d 1] }
  | .vcmpEqVV _ a b _ | .vcmpNeVV _ a b _ | .vcmpLtVV _ a b _ | .vcmpLeVV _ a b _ | .vcmpGtVV _ a b _
  | .vcmpGeVV _ a b _ => some (spec2 (intType t) a b)
  | .vcmpEqVS _ a b _ | .vcmpNeVS _ a b _ | .vcmpLtVS _ a b _ | .vcmpLeVS _ a b _ | .vcmpGtVS _ a b _
  | .vcmpGeVS _ a b _ => some { types := intType t, regs := [group a 1], data := [b] }
  | .vfcmpEq _ a b _ | .vfcmpNe _ a b _ | .vfcmpLt _ a b _ | .vfcmpLe _ a b _ => some (spec2 (arithFloat t) a b)
  | .vrsum _ a b _ | .vrmax _ a b _ | .vrmin _ a b _ => some (specReduce (intType t) a b)
  | .vfrsum _ a b _ | .vfrmax _ a b _ => some (specReduce (arithFloat t) a b)
  | .mand _ _ _ | .mor _ _ _ | .mxor _ _ _ | .mnot _ _ | .mset _ | .mclr _ => some {}
  | .mcnt _ _ | .many _ _ | .mfirst _ _ => some { divisible := false }
  | .vmaxix _ a _ _ => some (specWhole (intType t || arithFloat t) [a] [])
  | .vcprs d a _ _ => some (specWhole (!(reservedType t)) [d, a] [])
  | .vexpd d a _ => some (specWhole (!(reservedType t)) [d, a] [])
  | .vperm d a b _ | .vpush d a b _ => some (specWhole (!(reservedType t)) [d, a, b] [])
  | .vslup d a b _ | .vsldn d a b _ | .vrot d a b _ => some (specWhole (!(reservedType t)) [d, a] [b])
  | .vgrpt2 d a b _ => some (specWhole (intType t || arithFloat t) [d, a] [b])
  | .vgrpmsk _ _ b _ => some { data := [b] }
  | .vnofm d a b _ => some (specWhole (!(reservedType t)) [d, a] [b])
  | .vld d a _ _ | .vldff d a _ _ | .vst d a _ _ => some (specMem true [d] [a])
  | .vldp d a _ _ _ => some (specMem (intType t) [d] [a])
  | .vlds d a _ _ k | .vsts d a _ _ k => some (specMem true [d] [a, k])
  | .vldx d a _ _ x | .vstx d a _ _ x => some (specMem true [d, x] [a])
  | .vstxadd d a _ _ x => some { specMem (t != 8 && t != 12) [d, x] [a] with divisible := false }
  | .wform _ | .wsplit | .wzero _ => some { divisible := false }
  | .wdrain _ d k => some { types := if k = 1 then t == 10 else t % 4 == 2, regs := [group d 1] }
  | .wfmt a b => some { control := [a, b], divisible := false }
  | .wgath a b _ => some { types := intType t, regs := [group a 1], control := [b] }
  | .wldb a b => some { control := [a, b] }
  | .wop _ _ _ | .wops _ _ _ | .wbp _ _ _ => some (specTile [])
  | .wopv _ a b _ _ => some (specTile [a, b])
  | .vgive | .vsave | .vrefill _ => some { divisible := false }
  | _ => none

/-! ### Scalar decode (R43, R124, R135, R136) -/

/-- What scalar decode makes of an instruction for the vector queue: a trap taken, or an entry. -/
inductive Decoded where
  | trapped (s : State)
  | queued (s : State) (e : VqEntry)

/-- The word of an instruction, for TVAL. -/
def wordOf (i : Instr) : Word := ((encode i).getD 0).zeroExtend 64

/-- The decode type as a type code. -/
def Ctx.dcodeType (c : Ctx) : Nat := bitsOf c.dtype.toNat 0 4

/-- The first check of R135 that an instruction fails, as its cause; 0 for none. -/
def VecSpec.cause (x : VecSpec) (n : Nat) : Nat :=
  if !x.types then 0x004
  else if x.regs.any fun r => decide (n < r.1 + r.2) then 0x00A
  else if x.regs.any fun r => r.1 % r.2 != 0 then 0x102
  else if x.apart.any fun p => sharesRegister p.1 p.2 then 0x103
  else 0

/-- The operands captured at decode (R136). -/
def Ctx.captures (c : Ctx) (rs : List (BitVec 5)) : List Capture :=
  rs.map fun r => { reg := r, value := (c.raw r).1, poison := (c.raw r).2 }

/-- An instruction of majors 0x18 to 0x30 reaches decode: a pending revocation is taken first, before any effect (R124). -/
def State.decodePoint (s : State) (k : State → Decoded) : Decoded :=
  match s.me.revoke with
  | some p => .trapped (s.takeRevoke p)
  | none => k s

/-- The kinds of FENCE.SV that hold the accesses of a vector instruction (R231): 0 a load, 1 and 2 a store. -/
def awaits (i : Instr) : BitVec 3 :=
  match i with
  | .vld _ _ _ _ | .vldff _ _ _ _ | .vldp _ _ _ _ _ | .vlds _ _ _ _ _ | .vldx _ _ _ _ _ | .vrefill _ => 1
  | .vst _ _ _ _ | .vsts _ _ _ _ _ | .vstx _ _ _ _ _ | .vsave => 6
  | .vstxadd _ _ _ _ _ => 7
  | _ => 0

/-- The scalar accesses that a FENCE.SV puts before those of the running vector instruction are performed (R231). -/
def State.awaitScalar (s : State) : State :=
  let held := (s.me.reissue.map (·.after)).getD 0
  if held = 0 then s
  else s.drain s.cur fun p => p.path == .scalar && (if p.load.isSome then held.getLsbD 2 else held &&& 3 != 0)

/-- The end of decode: a poisoned control operand traps, or the entry leaves scalar decode and the scalar stream goes on. -/
def State.admitVec (s : State) (control : List (BitVec 5)) (e : VqEntry) (upd : Ctx → Ctx) : Decoded :=
  match control.find? fun r => (s.me.raw r).2 with
  | some r => .trapped (s.poisonTrap r)
  | none =>
    let held := s.me.svHold &&& awaits e.instr
    .queued (s.setMe { upd s.me with pc := s.me.pc + 4, svHold := s.me.svHold ^^^ held })
      { e with level := s.me.level, after := held }

/-- Scalar decode of a vector instruction. -/
def State.decodeVector (s : State) (i : Instr) : Decoded :=
  s.decodePoint fun s =>
    match vecSpec i s.me.dcodeType with
    | none => .trapped s
    | some x =>
      let cause := x.cause (regCount s.me.dcode.toNat)
      if cause ≠ 0 then .trapped (s.trapHere cause (wordOf i))
      else s.admitVec x.control { addr := s.me.pc, instr := i, caps := s.me.captures (x.control ++ x.data) } id

/-- A vector instruction runs: out of the queue at once where it runs again, else decoded first. -/
def State.vector (s : State) (i : Instr) (body : State → State) : State :=
  if s.me.reissue.isSome then body s.awaitScalar
  else
    match s.decodeVector i with
    | .trapped t => t
    | .queued t e => body (t.setMe { t.me with reissue := some e }).awaitScalar

/-! ### Groups, commitment, retirement (R104, R116, R120, R136) -/

/-- The element group of element `e` (R104). -/
def Geo.groupOf (x : Geo) (e : Nat) : Nat :=
  x.rowIn x.ew e * ((x.g + 15) / 16) + x.laneOf x.ew e / 16

/-- The first element of the element group of element `e`. -/
def Geo.groupStart (x : Geo) (e : Nat) : Nat :=
  (x.rowIn x.ew e * x.g + x.laneOf x.ew e / 16 * 16) * x.epr

/-- The type code in force. -/
def Ctx.vt (c : Ctx) : Nat := bitsOf c.vtype.toNat 0 4

/-- VL as a number. -/
def Ctx.len (c : Ctx) : Nat := c.vl.toNat

/-- VSTART as a number. -/
def Ctx.start (c : Ctx) : Nat := c.vstart.toNat

/-- Where a group-divisible instruction ends for now: at VL, or at the group it is cut before. -/
def Ctx.stop (c : Ctx) : Nat :=
  match c.cut with
  | none => c.len
  | some e => min c.len (c.geo.groupStart e)

/-- The active elements below a bound, ascending, each with whether its selection is poisoned. -/
def Ctx.activeBelow (c : Ctx) (mk : BitVec 4) (bound : Nat) : List (Nat × Bool) :=
  (List.range (min bound c.len - c.start)).filterMap fun i =>
    let b := c.vec.selects mk (c.start + i)
    if b.1 then some (c.start + i, b.2) else none

/-- The elements of the groups below the boundary, active or not. -/
def Ctx.span (c : Ctx) : List Nat := (List.range (c.stop - c.start)).map (c.start + ·)

/-- Every active element. -/
def Ctx.active (c : Ctx) (mk : BitVec 4) : List (Nat × Bool) := c.activeBelow mk c.len

/-- The number of distinct groups among elements in ascending order. -/
def Geo.groupsOf (x : Geo) (es : List Nat) : Nat :=
  (es.foldl (fun (acc : Nat × Option Nat) e =>
    if acc.2 = some (x.groupOf e) then acc else (acc.1 + 1, some (x.groupOf e))) (0, none)).1

/-- Poison was consumed a number of times (R339). -/
def Ctx.consumeTimes (c : Ctx) : Nat → Ctx
  | 0 => c
  | n + 1 => (c.consume true).consumeTimes n

/-- The instruction computes in no lane: it moves, grants or formats vector state. -/
def computesNothing (i : Instr) : Bool :=
  match i with
  | .vgive | .vsave | .vrefill _ | .wfmt _ _ | .setvl _ _ _ | .setvli _ _ _ => true
  | _ => false

/-- A tile operation (R183). -/
def tileOperation (i : Instr) : Bool :=
  match i with
  | .wop _ _ _ | .wops _ _ _ | .wbp _ _ _ | .wopv _ _ _ _ _ => true
  | _ => false

/-- The logical lanes whose element groups an instruction computes (R104, R347): those of its elements, of a tile operation
those of the weave (R183), and of another operation over tiles or latches every lane. -/
def Ctx.lanesUsed (c : Ctx) (i : Instr) (start : Nat) : List Nat :=
  let x := c.geo
  let all := List.range c.lanes
  if computesNothing i then []
  else if tileOperation i then List.range (min c.lanes (c.vec.side * c.vec.side))
  else match vecSpec i c.vt with
    | some { divisible := false, regs := [], .. } => all
    | _ =>
      if x.g * x.epr ≤ c.len - start then all
      else all.filter fun l => (List.range (c.len - start)).any fun k => x.laneOf x.ew (start + k) == l

/-- The lane-sets whose lanes the running instruction uses. -/
def Ctx.laneSets (c : Ctx) : List Nat :=
  match c.reissue with
  | none => []
  | some e =>
    let used := c.lanesUsed e.instr (e.begun.getD c.start)
    (List.range 16).filter fun j => used.any fun l => (c.vec.lanes[l]?).any fun p => p / 16 == j

/-- An instruction retired in the lane-sets of a context (R347, R350): the pointers advance, and the windows count. -/
def State.checked (s : State) (g : Nat) : State :=
  let c := s.ctx g
  let sets := c.laneSets
  let cl := s.cluster (clusterOf g)
  let pointers := sets.foldl (fun m j => aset m j (aget 0 m j + 1)) c.pointers
  let mismatches := (cl.mismatches.map fun m =>
    if sets.contains (m.1 / 16) then (m.1, m.2 + 1) else m).filter fun m => decide (m.2 < 4096)
  if sets.isEmpty then s
  else (s.setCtx g { c with pointers := pointers }).setCluster (clusterOf g) { cl with mismatches := mismatches }

/-- The running instruction joins the 32 most recent of the thread (R351). -/
def Ctx.archive (c : Ctx) : Ctx :=
  let now : List Past := c.reissue.toList.map fun e =>
    { entry := e, start := e.begun.getD c.start, len := c.len, vtype := c.vtype, lanes := c.lanes, ncode := c.ncode
      tl := c.tl, side := c.vec.side }
  { c with history := (now ++ c.history).take 32, mismatch := 0 }

/-- An instruction of the vector queue ends; nothing but the queue changes. -/
def State.leaveQueue (s : State) : State := (s.setMe s.me.archive).advance

/-- A vector instruction retires (R136): its flags merge and VSTART is 0. -/
def State.retireVec (s : State) (fl : Flags) : State :=
  let s := s.checked s.cur
  let s := (s.setMe (s.me.raise fl).archive)
  (s.setMe { s.me with vstart := 0 }).advance

/-- A group-divisible instruction stands at the head of the vector queue with VSTART at its boundary. -/
def State.pauseAt (s : State) (fl : Flags) (e : Nat) : State :=
  let c := s.me.raise fl
  let again := c.reissue.toList.map fun x => { x with begun := some (x.begun.getD c.start) }
  s.setMe { c with vq := again ++ c.vq, reissue := none, cut := none, vstart := BitVec.ofNat 64 (max c.start e) }

/-- Element `e` faults (R208): VSTART names it, and the trap is taken; where its access is held, the instruction stands there
instead. The flags of the elements below it merge. -/
def State.faultAt (s : State) (fl : Flags) (k : AccKind) (e : Nat) (x : AccFault) : State :=
  if x.fault.cause = heldCause then s.pauseAt fl e
  else (s.setMe { s.me.raise fl with vstart := BitVec.ofNat 64 e }).vsideFault k (some e) x

/-- The groups below `stop` have committed: the instruction retires, or stands where it is cut. -/
def State.commitTo (s : State) (stop : Nat) (fl : Flags) : State :=
  if s.me.len ≤ stop then s.retireVec fl else s.pauseAt fl stop

/-! ### Element-wise instructions (R139) -/

/-- A source of an element-wise instruction: a register or group read at a width, or the captured scalar. -/
inductive VSrc where
  | reg (k : BitVec 6) (w : Nat)
  | sca (r : BitVec 5) (w : Nat)
  deriving DecidableEq, Repr

/-- A source's value for element `e`, with its poison. -/
def Ctx.source (c : Ctx) (e : Nat) : VSrc → Nat × Bool
  | .reg k w => c.vec.elem c.geo w k.toNat e
  | .sca r w => ((c.operand r).1.toNat % 2 ^ w, (c.operand r).2)

/-- One active element done: its result and whether that is poisoned, by a source or by its selection, its flags, and
whether a source was poisoned. -/
structure Done where
  e      : Nat
  val    : Nat
  poison : Bool
  flags  : Flags
  source : Bool := false
  deriving DecidableEq, Repr

/-- The active elements below the boundary, each computed from its sources. -/
def Ctx.compute (c : Ctx) (mk : BitVec 4) (srcs : List VSrc) (f : Nat → List Nat → Nat × Flags) : List Done :=
  (c.activeBelow mk c.stop).map fun a =>
    let xs := srcs.map (c.source a.1)
    let r := f a.1 (xs.map (·.1))
    { e := a.1, val := r.1, poison := a.2 || xs.any (·.2), flags := r.2, source := xs.any (·.2) }

/-- The flags of all of them. -/
def flagsOf (ds : List Done) : Flags := ds.foldl (fun fl d => fl ||| d.flags) noFlags

/-- The groups that read poison. -/
def Ctx.poisonedGroups (c : Ctx) (ds : List Done) : Nat := c.geo.groupsOf ((ds.filter (·.poison)).map (·.e))

/-- An element-wise instruction (R139): the result of each active element goes to element `e` of the register or group
at `d`, read at width `w`; `clean`: no result is ever poisoned. -/
def State.elementwise (s : State) (d : BitVec 6) (w : Nat) (mk : BitVec 4) (srcs : List VSrc)
    (f : Nat → List Nat → Nat × Flags) (clean : Bool := false) : State :=
  let c := s.me
  let ds := c.compute mk srcs f
  let c' := c.putRows (ds.map fun x => c.geo.put w d.toNat x.e x.val (x.poison && !clean))
  (s.setMe (c'.consumeTimes (c.poisonedGroups ds))).commitTo c.stop (flagsOf ds)

/-- Mask bits of a group-divisible instruction written, up to its boundary (R151): what it wrote of the segment there is
kept with it. -/
def Ctx.writeMask (c : Ctx) (m : Nat) (ps : List MaskPut) : Ctx :=
  let first := (c.reissue.map (·.part)).getD (0, false)
  let seg := c.start / 512
  let stop := max c.start c.stop
  let part := aget (0, false) (segmentCounts ps seg first) (stop / 512)
  { c with
    vec := c.vec.putMask c.geo m ps seg first
    reissue := c.reissue.map fun e => { e with part := if stop % 512 = 0 then (0, false) else part } }

/-- A compare (R146): the result bits go to mask `d`; the bit of an element with a poisoned source is 0, and poison, also
of its selection, poisons the segment. -/
def State.comparewise (s : State) (d mk : BitVec 4) (srcs : List VSrc)
    (f : Nat → List Nat → Bool × Flags) : State :=
  let c := s.me
  let ds := c.compute mk srcs fun e xs => let r := f e xs; (ofBool r.1, r.2)
  let c' := c.writeMask d.toNat (ds.map fun x => { e := x.e, val := x.val = 1 && !x.source, poison := x.poison })
  (s.setMe (c'.consumeTimes (c.poisonedGroups ds))).commitTo c.stop (flagsOf ds)

/-- The element width in force. -/
def Ctx.vw (c : Ctx) : Nat := typeEw c.vtype

/-- VTYPE.RM. -/
def Ctx.vrm (c : Ctx) : Nat := bitsOf c.vtype.toNat 4 3

/-- VTYPE.SAT. -/
def Ctx.vsat (c : Ctx) : Bool := bit c.vtype 7

/-- VTYPE.RPRO. -/
def Ctx.vrpro (c : Ctx) : Bool := bit c.vtype 8

end Sys2Proof.Machine
end

