-- ==== Sys2Proof/Machine/VecInt.lean ====
section
/-! DEFINITION. Integer element operations, widening and narrowing, moves and integer compares: majors 0x1A to 0x1C and
0x21 to 0x23 (R140, R141, R145, R146). -/

namespace Sys2Proof.Machine

/-! ### The functions F (R140) -/

/-- A function of two elements of a type code. -/
abbrev IntOp := Nat → Nat → Nat → Nat × Flags

/-- A result modulo 2^EW without flags. -/
def wrapTo (t : Nat) (y : Int) : Nat × Flags := (encodeInt (typeWidth t) y, noFlags)

/-- VADD. -/
def vAdd : IntOp := fun t a b => wrapTo t (intOf t a + intOf t b)
/-- VSUB. -/
def vSub : IntOp := fun t a b => wrapTo t (intOf t a - intOf t b)
/-- VMUL. -/
def vMul : IntOp := fun t a b => wrapTo t (intOf t a * intOf t b)
/-- VMULH: the upper half of the exact product. -/
def vMulh : IntOp := fun t a b => wrapTo t (intOf t a * intOf t b / (2 ^ typeWidth t : Nat))
/-- VMIN. -/
def vMin : IntOp := fun t a b => (if intOf t b < intOf t a then b else a, noFlags)
/-- VMAX. -/
def vMax : IntOp := fun t a b => (if intOf t a < intOf t b then b else a, noFlags)
/-- VAND. -/
def vAnd : IntOp := fun _ a b => (a &&& b, noFlags)
/-- VOR. -/
def vOr : IntOp := fun _ a b => (a ||| b, noFlags)
/-- VXOR. -/
def vXor : IntOp := fun _ a b => (a ^^^ b, noFlags)
/-- VSLL: the shift amount is b modulo EW. -/
def vSll : IntOp := fun t a b => (a * 2 ^ (b % typeWidth t) % 2 ^ typeWidth t, noFlags)
/-- VSRL. -/
def vSrl : IntOp := fun t a b => (a / 2 ^ (b % typeWidth t), noFlags)
/-- VSRA: a is read signed whatever the kind. -/
def vSra : IntOp := fun t a b => wrapTo t (intOf (t % 4) a / (2 ^ (b % typeWidth t) : Nat))
/-- VADDS. -/
def vAdds : IntOp := fun t a b => satInt t (intOf t a + intOf t b)
/-- VSUBS. -/
def vSubs : IntOp := fun t a b => satInt t (intOf t a - intOf t b)

/-- A function of two sources as one of a list of them. -/
def two (f : Nat → Nat → Nat × Flags) (_ : Nat) : List Nat → Nat × Flags
  | a :: b :: _ => f a b
  | _ => (0, noFlags)

/-- A function of one source as one of a list of them. -/
def one (f : Nat → Nat × Flags) (_ : Nat) : List Nat → Nat × Flags
  | a :: _ => f a
  | _ => (0, noFlags)

/-- An operation over two vector registers under the type in force. -/
def State.opVV (s : State) (d a b : BitVec 6) (m : BitVec 4) (f : IntOp) : State :=
  let w := s.me.vw
  s.elementwise d w m [.reg a w, .reg b w] (two (f s.me.vt))

/-- An operation over a vector register and the captured scalar under the type in force. -/
def State.opVS (s : State) (d a : BitVec 6) (b : BitVec 5) (m : BitVec 4) (f : IntOp) : State :=
  let w := s.me.vw
  s.elementwise d w m [.reg a w, .sca b w] (two (f s.me.vt))

/-- VADD, vector–vector (R140). -/
def execVaddVV (d a b : BitVec 6) (m : BitVec 4) (s : State) : Out :=
  .next (s.vector (.vaddVV d a b m) fun s => s.opVV d a b m vAdd)
/-- VSUB, vector–vector (R140). -/
def execVsubVV (d a b : BitVec 6) (m : BitVec 4) (s : State) : Out :=
  .next (s.vector (.vsubVV d a b m) fun s => s.opVV d a b m vSub)
/-- VMUL, vector–vector (R140). -/
def execVmulVV (d a b : BitVec 6) (m : BitVec 4) (s : State) : Out :=
  .next (s.vector (.vmulVV d a b m) fun s => s.opVV d a b m vMul)
/-- VMULH, vector–vector (R140). -/
def execVmulhVV (d a b : BitVec 6) (m : BitVec 4) (s : State) : Out :=
  .next (s.vector (.vmulhVV d a b m) fun s => s.opVV d a b m vMulh)
/-- VMIN, vector–vector (R140). -/
def execVminVV (d a b : BitVec 6) (m : BitVec 4) (s : State) : Out :=
  .next (s.vector (.vminVV d a b m) fun s => s.opVV d a b m vMin)
/-- VMAX, vector–vector (R140). -/
def execVmaxVV (d a b : BitVec 6) (m : BitVec 4) (s : State) : Out :=
  .next (s.vector (.vmaxVV d a b m) fun s => s.opVV d a b m vMax)
/-- VAND, vector–vector (R140). -/
def execVandVV (d a b : BitVec 6) (m : BitVec 4) (s : State) : Out :=
  .next (s.vector (.vandVV d a b m) fun s => s.opVV d a b m vAnd)
/-- VOR, vector–vector (R140). -/
def execVorVV (d a b : BitVec 6) (m : BitVec 4) (s : State) : Out :=
  .next (s.vector (.vorVV d a b m) fun s => s.opVV d a b m vOr)
/-- VXOR, vector–vector (R140). -/
def execVxorVV (d a b : BitVec 6) (m : BitVec 4) (s : State) : Out :=
  .next (s.vector (.vxorVV d a b m) fun s => s.opVV d a b m vXor)
/-- VSLL, vector–vector (R140). -/
def execVsllVV (d a b : BitVec 6) (m : BitVec 4) (s : State) : Out :=
  .next (s.vector (.vsllVV d a b m) fun s => s.opVV d a b m vSll)
/-- VSRL, vector–vector (R140). -/
def execVsrlVV (d a b : BitVec 6) (m : BitVec 4) (s : State) : Out :=
  .next (s.vector (.vsrlVV d a b m) fun s => s.opVV d a b m vSrl)
/-- VSRA, vector–vector (R140). -/
def execVsraVV (d a b : BitVec 6) (m : BitVec 4) (s : State) : Out :=
  .next (s.vector (.vsraVV d a b m) fun s => s.opVV d a b m vSra)
/-- VADDS, vector–vector (R140). -/
def execVaddsVV (d a b : BitVec 6) (m : BitVec 4) (s : State) : Out :=
  .next (s.vector (.vaddsVV d a b m) fun s => s.opVV d a b m vAdds)
/-- VSUBS, vector–vector (R140). -/
def execVsubsVV (d a b : BitVec 6) (m : BitVec 4) (s : State) : Out :=
  .next (s.vector (.vsubsVV d a b m) fun s => s.opVV d a b m vSubs)
/-- VADD, vector–scalar (R140). -/
def execVaddVS (d a : BitVec 6) (b : BitVec 5) (m : BitVec 4) (s : State) : Out :=
  .next (s.vector (.vaddVS d a b m) fun s => s.opVS d a b m vAdd)
/-- VSUB, vector–scalar (R140). -/
def execVsubVS (d a : BitVec 6) (b : BitVec 5) (m : BitVec 4) (s : State) : Out :=
  .next (s.vector (.vsubVS d a b m) fun s => s.opVS d a b m vSub)
/-- VMUL, vector–scalar (R140). -/
def execVmulVS (d a : BitVec 6) (b : BitVec 5) (m : BitVec 4) (s : State) : Out :=
  .next (s.vector (.vmulVS d a b m) fun s => s.opVS d a b m vMul)
/-- VMULH, vector–scalar (R140). -/
def execVmulhVS (d a : BitVec 6) (b : BitVec 5) (m : BitVec 4) (s : State) : Out :=
  .next (s.vector (.vmulhVS d a b m) fun s => s.opVS d a b m vMulh)
/-- VMIN, vector–scalar (R140). -/
def execVminVS (d a : BitVec 6) (b : BitVec 5) (m : BitVec 4) (s : State) : Out :=
  .next (s.vector (.vminVS d a b m) fun s => s.opVS d a b m vMin)
/-- VMAX, vector–scalar (R140). -/
def execVmaxVS (d a : BitVec 6) (b : BitVec 5) (m : BitVec 4) (s : State) : Out :=
  .next (s.vector (.vmaxVS d a b m) fun s => s.opVS d a b m vMax)
/-- VAND, vector–scalar (R140). -/
def execVandVS (d a : BitVec 6) (b : BitVec 5) (m : BitVec 4) (s : State) : Out :=
  .next (s.vector (.vandVS d a b m) fun s => s.opVS d a b m vAnd)
/-- VOR, vector–scalar (R140). -/
def execVorVS (d a : BitVec 6) (b : BitVec 5) (m : BitVec 4) (s : State) : Out :=
  .next (s.vector (.vorVS d a b m) fun s => s.opVS d a b m vOr)
/-- VXOR, vector–scalar (R140). -/
def execVxorVS (d a : BitVec 6) (b : BitVec 5) (m : BitVec 4) (s : State) : Out :=
  .next (s.vector (.vxorVS d a b m) fun s => s.opVS d a b m vXor)
/-- VSLL, vector–scalar (R140). -/
def execVsllVS (d a : BitVec 6) (b : BitVec 5) (m : BitVec 4) (s : State) : Out :=
  .next (s.vector (.vsllVS d a b m) fun s => s.opVS d a b m vSll)
/-- VSRL, vector–scalar (R140). -/
def execVsrlVS (d a : BitVec 6) (b : BitVec 5) (m : BitVec 4) (s : State) : Out :=
  .next (s.vector (.vsrlVS d a b m) fun s => s.opVS d a b m vSrl)
/-- VSRA, vector–scalar (R140). -/
def execVsraVS (d a : BitVec 6) (b : BitVec 5) (m : BitVec 4) (s : State) : Out :=
  .next (s.vector (.vsraVS d a b m) fun s => s.opVS d a b m vSra)
/-- VADDS, vector–scalar (R140). -/
def execVaddsVS (d a : BitVec 6) (b : BitVec 5) (m : BitVec 4) (s : State) : Out :=
  .next (s.vector (.vaddsVS d a b m) fun s => s.opVS d a b m vAdds)
/-- VSUBS, vector–scalar (R140). -/
def execVsubsVS (d a : BitVec 6) (b : BitVec 5) (m : BitVec 4) (s : State) : Out :=
  .next (s.vector (.vsubsVS d a b m) fun s => s.opVS d a b m vSubs)

/-! ### Widening and narrowing (R141) -/

/-- VWADD (R141): exact at twice the width. -/
def execVwadd (d a b : BitVec 6) (m : BitVec 4) (s : State) : Out :=
  .next (s.vector (.vwadd d a b m) fun s =>
    let w := s.me.vw
    let t := s.me.vt
    s.elementwise d (2 * w) m [.reg a w, .reg b w]
      (two fun x y => (encodeInt (2 * w) (intOf t x + intOf t y), noFlags)))

/-- VWMACC and VWMACCU (R141): `base` is INT8 or UINT8, whose kind the mnemonic names. -/
def State.wideMacc (s : State) (d a b : BitVec 6) (m : BitVec 4) (base : Nat) : State :=
  let c := s.me
  let t := base + c.vt % 4
  s.elementwise d (2 * c.vw) m [.reg a c.vw, .reg b c.vw, .reg d (2 * c.vw)] fun _ xs =>
    match xs with
    | x :: y :: acc :: _ =>
      let z := intOf (t + 1) acc + intOf t x * intOf t y
      if c.vsat then satInt (t + 1) z else wrapTo (t + 1) z
    | _ => (0, noFlags)

/-- VWMACC (R141): signed. -/
def execVwmacc (d a b : BitVec 6) (m : BitVec 4) (s : State) : Out :=
  .next (s.vector (.vwmacc d a b m) fun s => s.wideMacc d a b m 0)

/-- VWMACCU (R141): unsigned. -/
def execVwmaccu (d a b : BitVec 6) (m : BitVec 4) (s : State) : Out :=
  .next (s.vector (.vwmaccu d a b m) fun s => s.wideMacc d a b m 4)

/-- An integer divided by a power of two and rounded to an integer (R141). -/
def roundShift (rm : Nat) (y : Int) (k : Nat) : Int :=
  let neg := decide (y < 0)
  signedOf neg (roundAt rm neg y.natAbs (-(k : Int)) false 0).1

/-- VNCLIP (R141): always saturates. -/
def execVnclip (d a b : BitVec 6) (m : BitVec 4) (s : State) : Out :=
  .next (s.vector (.vnclip d a b m) fun s =>
    let c := s.me
    s.elementwise d c.vw m [.reg a (2 * c.vw), .reg b c.vw]
      (two fun x y => satInt c.vt (roundShift c.vrm (intOf (c.vt + 1) x) (y % (2 * c.vw)))))

/-! ### Moves (R145) -/

/-- VMV (R145). -/
def execVmv (d a : BitVec 6) (m : BitVec 4) (s : State) : Out :=
  .next (s.vector (.vmv d a m) fun s =>
    s.elementwise d s.me.vw m [.reg a s.me.vw] (one fun x => (x, noFlags)))

/-- VBCAST (R145). -/
def execVbcast (d : BitVec 6) (b : BitVec 5) (m : BitVec 4) (s : State) : Out :=
  .next (s.vector (.vbcast d b m) fun s =>
    s.elementwise d s.me.vw m [.sca b s.me.vw] (one fun x => (x, noFlags)))

/-- VIDX (R145): never poisoned, also under a poisoned mask. -/
def execVidx (d : BitVec 6) (m : BitVec 4) (s : State) : Out :=
  .next (s.vector (.vidx d m) fun s => s.elementwise d s.me.vw m [] (fun e _ => (e, noFlags)) true)

/-! ### Integer compares (R146) -/

/-- A condition on two elements of a type code. -/
abbrev IntCond := Nat → Nat → Nat → Bool

/-- A condition of two sources as one of a list of them. -/
def cond2 (f : Nat → Nat → Bool × Flags) (_ : Nat) : List Nat → Bool × Flags
  | a :: b :: _ => f a b
  | _ => (false, noFlags)

/-- VCMP, vector–vector (R146). -/
def State.cmpVV (s : State) (d : BitVec 4) (a b : BitVec 6) (m : BitVec 4) (f : Int → Int → Bool) : State :=
  let c := s.me
  s.comparewise d m [.reg a c.vw, .reg b c.vw] (cond2 fun x y => (f (intOf c.vt x) (intOf c.vt y), noFlags))

/-- VCMP, vector–scalar (R146). -/
def State.cmpVS (s : State) (d : BitVec 4) (a : BitVec 6) (b : BitVec 5) (m : BitVec 4) (f : Int → Int → Bool) :
    State :=
  let c := s.me
  s.comparewise d m [.reg a c.vw, .sca b c.vw] (cond2 fun x y => (f (intOf c.vt x) (intOf c.vt y), noFlags))

/-- VCMP.EQ, vector–vector (R146). -/
def execVcmpEqVV (d : BitVec 4) (a b : BitVec 6) (m : BitVec 4) (s : State) : Out :=
  .next (s.vector (.vcmpEqVV d a b m) fun s => s.cmpVV d a b m fun x y => x == y)
/-- VCMP.NE, vector–vector (R146). -/
def execVcmpNeVV (d : BitVec 4) (a b : BitVec 6) (m : BitVec 4) (s : State) : Out :=
  .next (s.vector (.vcmpNeVV d a b m) fun s => s.cmpVV d a b m fun x y => x != y)
/-- VCMP.LT, vector–vector (R146). -/
def execVcmpLtVV (d : BitVec 4) (a b : BitVec 6) (m : BitVec 4) (s : State) : Out :=
  .next (s.vector (.vcmpLtVV d a b m) fun s => s.cmpVV d a b m fun x y => decide (x < y))
/-- VCMP.LE, vector–vector (R146). -/
def execVcmpLeVV (d : BitVec 4) (a b : BitVec 6) (m : BitVec 4) (s : State) : Out :=
  .next (s.vector (.vcmpLeVV d a b m) fun s => s.cmpVV d a b m fun x y => decide (x ≤ y))
/-- VCMP.GT, vector–vector (R146). -/
def execVcmpGtVV (d : BitVec 4) (a b : BitVec 6) (m : BitVec 4) (s : State) : Out :=
  .next (s.vector (.vcmpGtVV d a b m) fun s => s.cmpVV d a b m fun x y => decide (y < x))
/-- VCMP.GE, vector–vector (R146). -/
def execVcmpGeVV (d : BitVec 4) (a b : BitVec 6) (m : BitVec 4) (s : State) : Out :=
  .next (s.vector (.vcmpGeVV d a b m) fun s => s.cmpVV d a b m fun x y => decide (y ≤ x))
/-- VCMP.EQ, vector–scalar (R146). -/
def execVcmpEqVS (d : BitVec 4) (a : BitVec 6) (b : BitVec 5) (m : BitVec 4) (s : State) : Out :=
  .next (s.vector (.vcmpEqVS d a b m) fun s => s.cmpVS d a b m fun x y => x == y)
/-- VCMP.NE, vector–scalar (R146). -/
def execVcmpNeVS (d : BitVec 4) (a : BitVec 6) (b : BitVec 5) (m : BitVec 4) (s : State) : Out :=
  .next (s.vector (.vcmpNeVS d a b m) fun s => s.cmpVS d a b m fun x y => x != y)
/-- VCMP.LT, vector–scalar (R146). -/
def execVcmpLtVS (d : BitVec 4) (a : BitVec 6) (b : BitVec 5) (m : BitVec 4) (s : State) : Out :=
  .next (s.vector (.vcmpLtVS d a b m) fun s => s.cmpVS d a b m fun x y => decide (x < y))
/-- VCMP.LE, vector–scalar (R146). -/
def execVcmpLeVS (d : BitVec 4) (a : BitVec 6) (b : BitVec 5) (m : BitVec 4) (s : State) : Out :=
  .next (s.vector (.vcmpLeVS d a b m) fun s => s.cmpVS d a b m fun x y => decide (x ≤ y))
/-- VCMP.GT, vector–scalar (R146). -/
def execVcmpGtVS (d : BitVec 4) (a : BitVec 6) (b : BitVec 5) (m : BitVec 4) (s : State) : Out :=
  .next (s.vector (.vcmpGtVS d a b m) fun s => s.cmpVS d a b m fun x y => decide (y < x))
/-- VCMP.GE, vector–scalar (R146). -/
def execVcmpGeVS (d : BitVec 4) (a : BitVec 6) (b : BitVec 5) (m : BitVec 4) (s : State) : Out :=
  .next (s.vector (.vcmpGeVS d a b m) fun s => s.cmpVS d a b m fun x y => decide (y ≤ x))

end Sys2Proof.Machine
end

