-- ==== Sys2Proof/Machine/VecFloat.lean ====
section
/-! DEFINITION. Floating-point element operations, the approximated functions, VCVT, floating compares and reductions:
majors 0x1D to 0x20, 0x24 and 0x25 (R27 to R31, R142 to R144, R146, R147). -/

namespace Sys2Proof.Machine

/-! ### Arithmetic (R142) -/

/-- A function of two elements and the old destination: type, rounding mode, a, b, c. -/
abbrev FloatOp := Nat → Nat → Nat → Nat → Nat → Nat × Flags

/-- VFADD. -/
def vfAdd : FloatOp := fun t rm a b _ => addValues t rm (decodeFloat t a) (decodeFloat t b)
/-- VFSUB. -/
def vfSub : FloatOp := fun t rm a b _ => addValues t rm (decodeFloat t a) (decodeFloat t b).negate
/-- VFMUL. -/
def vfMul : FloatOp := fun t rm a b _ => mulValues t rm (decodeFloat t a) (decodeFloat t b)
/-- VFMA. -/
def vfFma : FloatOp := fun t rm a b c => fmaValues t rm (decodeFloat t a) (decodeFloat t b) (decodeFloat t c)
/-- VFMS. -/
def vfFms : FloatOp := fun t rm a b c => fmaValues t rm (decodeFloat t a) (decodeFloat t b) (decodeFloat t c).negate
/-- VFNMA. -/
def vfFnma : FloatOp := fun t rm a b c => fmaValues t rm (decodeFloat t a).negate (decodeFloat t b) (decodeFloat t c)
/-- VFDIV. -/
def vfDiv : FloatOp := fun t rm a b _ => divValues t rm (decodeFloat t a) (decodeFloat t b)
/-- VFMIN. -/
def vfMin : FloatOp := fun t _ a b _ => minMaxFloat t false a b
/-- VFMAX. -/
def vfMax : FloatOp := fun t _ a b _ => minMaxFloat t true a b

/-- A function of three sources as one of a list of them. -/
def three (f : Nat → Nat → Nat → Nat × Flags) (_ : Nat) : List Nat → Nat × Flags
  | a :: b :: c :: _ => f a b c
  | _ => (0, noFlags)

/-- An operation over two vector registers under the type in force; one that reads the old destination has it as a third
source. -/
def State.fopVV (s : State) (d a b : BitVec 6) (m : BitVec 4) (reads : Bool) (f : FloatOp) : State :=
  let c := s.me
  if reads then s.elementwise d c.vw m [.reg a c.vw, .reg b c.vw, .reg d c.vw] (three (f c.vt c.vrm))
  else s.elementwise d c.vw m [.reg a c.vw, .reg b c.vw] (two fun x y => f c.vt c.vrm x y 0)

/-- An operation over a vector register and the captured scalar. -/
def State.fopVS (s : State) (d a : BitVec 6) (b : BitVec 5) (m : BitVec 4) (reads : Bool) (f : FloatOp) : State :=
  let c := s.me
  if reads then s.elementwise d c.vw m [.reg a c.vw, .sca b c.vw, .reg d c.vw] (three (f c.vt c.vrm))
  else s.elementwise d c.vw m [.reg a c.vw, .sca b c.vw] (two fun x y => f c.vt c.vrm x y 0)

/-- VFADD, vector–vector (R142). -/
def execVfaddVV (d a b : BitVec 6) (m : BitVec 4) (s : State) : Out :=
  .next (s.vector (.vfaddVV d a b m) fun s => s.fopVV d a b m false vfAdd)
/-- VFSUB, vector–vector (R142). -/
def execVfsubVV (d a b : BitVec 6) (m : BitVec 4) (s : State) : Out :=
  .next (s.vector (.vfsubVV d a b m) fun s => s.fopVV d a b m false vfSub)
/-- VFMUL, vector–vector (R142). -/
def execVfmulVV (d a b : BitVec 6) (m : BitVec 4) (s : State) : Out :=
  .next (s.vector (.vfmulVV d a b m) fun s => s.fopVV d a b m false vfMul)
/-- VFMA, vector–vector (R142). -/
def execVfmaVV (d a b : BitVec 6) (m : BitVec 4) (s : State) : Out :=
  .next (s.vector (.vfmaVV d a b m) fun s => s.fopVV d a b m true vfFma)
/-- VFMS, vector–vector (R142). -/
def execVfmsVV (d a b : BitVec 6) (m : BitVec 4) (s : State) : Out :=
  .next (s.vector (.vfmsVV d a b m) fun s => s.fopVV d a b m true vfFms)
/-- VFNMA, vector–vector (R142). -/
def execVfnmaVV (d a b : BitVec 6) (m : BitVec 4) (s : State) : Out :=
  .next (s.vector (.vfnmaVV d a b m) fun s => s.fopVV d a b m true vfFnma)
/-- VFDIV, vector–vector (R142). -/
def execVfdivVV (d a b : BitVec 6) (m : BitVec 4) (s : State) : Out :=
  .next (s.vector (.vfdivVV d a b m) fun s => s.fopVV d a b m false vfDiv)
/-- VFMIN, vector–vector (R142). -/
def execVfminVV (d a b : BitVec 6) (m : BitVec 4) (s : State) : Out :=
  .next (s.vector (.vfminVV d a b m) fun s => s.fopVV d a b m false vfMin)
/-- VFMAX, vector–vector (R142). -/
def execVfmaxVV (d a b : BitVec 6) (m : BitVec 4) (s : State) : Out :=
  .next (s.vector (.vfmaxVV d a b m) fun s => s.fopVV d a b m false vfMax)
/-- VFADD, vector–scalar (R142). -/
def execVfaddVS (d a : BitVec 6) (b : BitVec 5) (m : BitVec 4) (s : State) : Out :=
  .next (s.vector (.vfaddVS d a b m) fun s => s.fopVS d a b m false vfAdd)
/-- VFSUB, vector–scalar (R142). -/
def execVfsubVS (d a : BitVec 6) (b : BitVec 5) (m : BitVec 4) (s : State) : Out :=
  .next (s.vector (.vfsubVS d a b m) fun s => s.fopVS d a b m false vfSub)
/-- VFMUL, vector–scalar (R142). -/
def execVfmulVS (d a : BitVec 6) (b : BitVec 5) (m : BitVec 4) (s : State) : Out :=
  .next (s.vector (.vfmulVS d a b m) fun s => s.fopVS d a b m false vfMul)
/-- VFMA, vector–scalar (R142). -/
def execVfmaVS (d a : BitVec 6) (b : BitVec 5) (m : BitVec 4) (s : State) : Out :=
  .next (s.vector (.vfmaVS d a b m) fun s => s.fopVS d a b m true vfFma)
/-- VFMS, vector–scalar (R142). -/
def execVfmsVS (d a : BitVec 6) (b : BitVec 5) (m : BitVec 4) (s : State) : Out :=
  .next (s.vector (.vfmsVS d a b m) fun s => s.fopVS d a b m true vfFms)
/-- VFNMA, vector–scalar (R142). -/
def execVfnmaVS (d a : BitVec 6) (b : BitVec 5) (m : BitVec 4) (s : State) : Out :=
  .next (s.vector (.vfnmaVS d a b m) fun s => s.fopVS d a b m true vfFnma)
/-- VFDIV, vector–scalar (R142). -/
def execVfdivVS (d a : BitVec 6) (b : BitVec 5) (m : BitVec 4) (s : State) : Out :=
  .next (s.vector (.vfdivVS d a b m) fun s => s.fopVS d a b m false vfDiv)
/-- VFMIN, vector–scalar (R142). -/
def execVfminVS (d a : BitVec 6) (b : BitVec 5) (m : BitVec 4) (s : State) : Out :=
  .next (s.vector (.vfminVS d a b m) fun s => s.fopVS d a b m false vfMin)
/-- VFMAX, vector–scalar (R142). -/
def execVfmaxVS (d a : BitVec 6) (b : BitVec 5) (m : BitVec 4) (s : State) : Out :=
  .next (s.vector (.vfmaxVS d a b m) fun s => s.fopVS d a b m false vfMax)

/-! ### Unary functions (R143) -/

/-- A unary function under the type in force. -/
def State.fop1 (s : State) (d a : BitVec 6) (m : BitVec 4) (f : Nat → Nat → Nat → Nat × Flags) : State :=
  let c := s.me
  s.elementwise d c.vw m [.reg a c.vw] (one (f c.vt c.vrm))

/-- VFSQRT (R143). -/
def execVfsqrt (d a : BitVec 6) (m : BitVec 4) (s : State) : Out :=
  .next (s.vector (.vfsqrt d a m) fun s => s.fop1 d a m (fun t rm x => sqrtValue t rm (decodeFloat t x)))
/-- VFRSQ (R143). -/
def execVfrsq (d a : BitVec 6) (m : BitVec 4) (s : State) : Out :=
  .next (s.vector (.vfrsq d a m) fun s => s.fop1 d a m vfRsq)
/-- VFREC (R143). -/
def execVfrec (d a : BitVec 6) (m : BitVec 4) (s : State) : Out :=
  .next (s.vector (.vfrec d a m) fun s => s.fop1 d a m vfRec)
/-- VFEXP2 (R143). -/
def execVfexp2 (d a : BitVec 6) (m : BitVec 4) (s : State) : Out :=
  .next (s.vector (.vfexp2 d a m) fun s => s.fop1 d a m vfExp2)
/-- VFLOG2 (R143). -/
def execVflog2 (d a : BitVec 6) (m : BitVec 4) (s : State) : Out :=
  .next (s.vector (.vflog2 d a m) fun s => s.fop1 d a m vfLog2)
/-- VFSIN (R143). -/
def execVfsin (d a : BitVec 6) (m : BitVec 4) (s : State) : Out :=
  .next (s.vector (.vfsin d a m) fun s => s.fop1 d a m vfSin)
/-- VFCOS (R143). -/
def execVfcos (d a : BitVec 6) (m : BitVec 4) (s : State) : Out :=
  .next (s.vector (.vfcos d a m) fun s => s.fop1 d a m vfCos)

/-! ### Conversion (R144) -/

/-- VCVT (R144): `sx` is the source type. -/
def execVcvt (d a : BitVec 6) (m : BitVec 4) (sx : BitVec 4) (s : State) : Out :=
  .next (s.vector (.vcvt d a m sx) fun s =>
    let c := s.me
    s.elementwise d c.vw m [.reg a (typeWidth sx.toNat)] (one fun x => convert x sx.toNat c.vt c.vrm c.vsat))

/-! ### Compares (R146) -/

/-- VFCMP (R12, R146). -/
def State.fcmpVV (s : State) (d : BitVec 4) (a b : BitVec 6) (m : BitVec 4) (k : FCmp) : State :=
  let c := s.me
  s.comparewise d m [.reg a c.vw, .reg b c.vw] (cond2 fun x y => compareFloat c.vt k x y)

/-- VFCMP.EQ (R146). -/
def execVfcmpEq (d : BitVec 4) (a b : BitVec 6) (m : BitVec 4) (s : State) : Out :=
  .next (s.vector (.vfcmpEq d a b m) fun s => s.fcmpVV d a b m .eq)
/-- VFCMP.NE (R146). -/
def execVfcmpNe (d : BitVec 4) (a b : BitVec 6) (m : BitVec 4) (s : State) : Out :=
  .next (s.vector (.vfcmpNe d a b m) fun s => s.fcmpVV d a b m .ne)
/-- VFCMP.LT (R146). -/
def execVfcmpLt (d : BitVec 4) (a b : BitVec 6) (m : BitVec 4) (s : State) : Out :=
  .next (s.vector (.vfcmpLt d a b m) fun s => s.fcmpVV d a b m .lt)
/-- VFCMP.LE (R146). -/
def execVfcmpLe (d : BitVec 4) (a b : BitVec 6) (m : BitVec 4) (s : State) : Out :=
  .next (s.vector (.vfcmpLe d a b m) fun s => s.fcmpVV d a b m .le)

/-! ### Reductions (R27 to R29, R147) -/

/-- An operation of a reduction, with its flags. -/
abbrev RedOp := Nat → Nat → Nat × Flags

/-- One level of Tree (R27). -/
def treeLevel (op : RedOp) : List (Option Nat) → List (Option Nat) × Flags
  | [] => ([], noFlags)
  | [x] => ([x], noFlags)
  | a :: b :: rest =>
    let r := treeLevel op rest
    match a, b with
    | none, y => (y :: r.1, r.2)
    | x, none => (x :: r.1, r.2)
    | some x, some y => (some (op x y).1 :: r.1, (op x y).2 ||| r.2)

/-- Tree (R27); `fuel` bounds the levels. -/
def tree (op : RedOp) : Nat → List (Option Nat) → Option Nat × Flags
  | 0, xs => (xs.head?.join, noFlags)
  | fuel + 1, xs =>
    if xs.length ≤ 1 then (xs.head?.join, noFlags)
    else
      let l := treeLevel op xs
      let r := tree op fuel l.1
      (r.1, l.2 ||| r.2)

/-- Terms in ascending order, each with the place it belongs to, folded into one partial per place. -/
def partials (op : RedOp) (ts : List (Nat × Nat)) : Assoc Nat × Flags :=
  ts.foldl (fun acc t =>
    match acc.1.find? (fun p => p.1 == t.1) with
    | none => (aset acc.1 t.1 t.2, acc.2)
    | some p => (aset acc.1 t.1 (op p.2 t.2).1, acc.2 ||| (op p.2 t.2).2)) ([], noFlags)

/-- The values of a table at the places below `n`. -/
def listing (m : Assoc Nat) (n : Nat) : List (Option Nat) :=
  (List.range n).map fun i => (m.find? fun p => p.1 == i).map (·.2)

/-- ReduceNormal (R28) of terms given by element, in ascending order. -/
def reduceNormal (op : RedOp) (x : Geo) (init : Nat) (ts : List (Nat × Nat)) : Nat × Flags :=
  let p := partials op (ts.map fun t => (x.laneOf x.ew t.1, t.2))
  let r := tree op (x.g + 1) (listing p.1 x.g)
  match r.1 with
  | none => (init, noFlags)
  | some z => ((op init z).1, p.2 ||| r.2 ||| (op init z).2)

/-- ReduceRepro (R29) over blocks of 32 from block `b` on. -/
def reduceRepro (op : RedOp) (ts : List (Nat × Nat)) : Nat → Nat → Nat × Flags → Nat × Flags
  | 0, _, acc => acc
  | n + 1, b, acc =>
    let xs := (List.range 32).map fun i => (ts.find? fun t => t.1 == 32 * b + i).map (·.2)
    let r := tree op 6 xs
    reduceRepro op ts n (b + 1) (match r.1 with
      | none => acc
      | some z => ((op acc.1 z).1, acc.2 ||| r.2 ||| (op acc.1 z).2))

/-- A result of EW bits as a register's value: sign-extended for INT, else zero-extended (R147, R162). -/
def extendFor (t x : Nat) : Word := BitVec.ofNat 64 (if typeSigned t then extendInt t x else x)

/-- A reduction (R147). -/
def State.reduce (s : State) (d : BitVec 5) (a : BitVec 6) (b : BitVec 5) (m : BitVec 4) (op : Nat → Nat → RedOp) :
    State :=
  let c := s.me
  let es := c.active m
  let xs := es.map fun e => (e, c.vec.elem c.geo c.vw a.toNat e.1)
  let ts := xs.map fun x => (x.1.1, x.2.1)
  let init := (c.operand b).1.toNat % 2 ^ c.vw
  let p := (c.operand b).2 || xs.any fun x => x.1.2 || x.2.2
  let f := op c.vt c.vrm
  let r := if c.vrpro then reduceRepro f ts ((c.len + 31) / 32) 0 (init, noFlags)
    else reduceNormal f c.geo init ts
  (s.setMe ((c.setReg d (extendFor c.vt r.1) p).consume p)).retireVec r.2

/-- VRSUM (R147). -/
def execVrsum (d : BitVec 5) (a : BitVec 6) (b : BitVec 5) (m : BitVec 4) (s : State) : Out :=
  .next (s.vector (.vrsum d a b m) fun s => s.reduce d a b m fun t _ x y => vAdd t x y)
/-- VRMAX (R147). -/
def execVrmax (d : BitVec 5) (a : BitVec 6) (b : BitVec 5) (m : BitVec 4) (s : State) : Out :=
  .next (s.vector (.vrmax d a b m) fun s => s.reduce d a b m fun t _ x y => vMax t x y)
/-- VRMIN (R147). -/
def execVrmin (d : BitVec 5) (a : BitVec 6) (b : BitVec 5) (m : BitVec 4) (s : State) : Out :=
  .next (s.vector (.vrmin d a b m) fun s => s.reduce d a b m fun t _ x y => vMin t x y)
/-- VFRSUM (R147). -/
def execVfrsum (d : BitVec 5) (a : BitVec 6) (b : BitVec 5) (m : BitVec 4) (s : State) : Out :=
  .next (s.vector (.vfrsum d a b m) fun s => s.reduce d a b m fun t rm x y => vfAdd t rm x y 0)
/-- VFRMAX (R147). -/
def execVfrmax (d : BitVec 5) (a : BitVec 6) (b : BitVec 5) (m : BitVec 4) (s : State) : Out :=
  .next (s.vector (.vfrmax d a b m) fun s => s.reduce d a b m fun t _ x y => minMaxFloat t true x y)

end Sys2Proof.Machine
end

