-- ==== Sys2Proof/Machine/Directory.lean ====
section
/-! DEFINITION. Tile directories and censuses as the units see them (R289, R290, R295 to R304): slots, moves, visits,
counting, forwards, results, and how a census ends. A slot of the package is named by 64·core + slot, a census by
256·die + id. -/

namespace Sys2Proof.Machine

/-! ### Slots (R289, R290) -/

/-- A slot of the package. -/
def State.slotAt (s : State) (k : Nat) : DirSlot := s.slot (k / 64) (k % 64)

/-- The state with a slot replaced. -/
def State.setSlotAt (s : State) (k : Nat) (x : DirSlot) : State := s.setSlot (k / 64) (k % 64) x

/-- The lowest free slot of a core. -/
def State.freeSlot (s : State) (core : Nat) : Option Nat := findBelow 64 fun i => (s.slot core i).state == .free

/-- ROFF, RLEN and CHAN of word 2 of an entry. -/
def tileOff (w : Word) : Nat := bitsOf w.toNat 0 20
/-- RLEN. -/
def tileLen (w : Word) : Nat := bitsOf w.toNat 20 20
/-- CHAN. -/
def tileChan (w : Word) : Nat := bitsOf w.toNat 40 6

/-- Word 2 of an entry with these fields. -/
def tileWord (off len ch : Nat) : Word := BitVec.ofNat 64 (off + len * 2 ^ 20 + ch * 2 ^ 40)

/-- The size of a crew's region on a core. -/
def State.regionBytes (s : State) (core crew : Nat) : Nat :=
  if (s.core core).hasRegion crew then 16384 * (((s.crewOf crew).map (·.granules)).getD 0) else 0

/-! ### Moves (R294, R303) -/

/-- Where a byte of a crew's region on a core lies. -/
def State.regionLoc (s : State) (core crew off : Nat) : Option Nat :=
  ((s.core core).granuleFor crew (off / 16384)).map fun g => scratchLoc core g (off % 16384)

/-- One granule of a tile copied between regions, with its poison; nothing where one of them is gone. -/
def State.copyTileGranule (s : State) (src dst : Option Nat) : State :=
  match src, dst with
  | some a, some b => let r := s.readLoc a 64 noKey
    s.storeLoc b r.1 r.2 noKey
  | _, _ => s

/-- A tile copied from one region to another. -/
def State.copyTile (s : State) (score screw soff dcore dcrew doff n : Nat) : State :=
  (List.range (n / 64)).foldl (fun s i =>
    s.copyTileGranule (s.regionLoc score screw (soff + 64 * i)) (s.regionLoc dcore dcrew (doff + 64 * i))) s

/-- Install (R303): the destination slot becomes valid with the source's MSET, the source a stub. An entry whose new
owner has ended is freed at once (R290). -/
def State.install (s : State) (m : Move) : State :=
  let e := s.slotAt m.source
  let d := s.slotAt m.dest
  let awaited := (s.core (m.dest / 64)).seen
  let new : DirSlot := { d with
    state := .valid, key := e.key, kmask := e.kmask, word2 := m.word2, fn := m.fn, crew := m.crew, mset := e.mset }
  let s := s.setSlotAt m.dest (if (s.crewOf m.crew).isSome then new else d.freed)
  s.setSlotAt m.source { e with state := .stub m.dest d.gen awaited, mset := [] }

/-- The valid entries of a crew on one core, each with the core it is to move to. -/
def State.entriesOf (s : State) (crew old new : Nat) : List (Nat × Nat) :=
  (List.range 64).filterMap fun i =>
    let e := s.slot old i
    if e.state = .valid ∧ e.crew = crew then some (64 * old + i, new) else none

/-- Entries of a crew that moved go with their tiles to the cores where its regions now are, each once, by the steps of
DMOVE (R306). Where the directory there is full an entry is freed. -/
def State.moveEntries (s : State) (crew : Nat) (entries : List (Nat × Nat)) : State :=
  entries.foldl (fun s p =>
    let e := s.slotAt p.1
    match s.freeSlot p.2 with
    | none => (s.setSlotAt p.1 e.freed).count e.fn fun u => { u with dirRefusals := u.dirRefusals + 1 }
    | some j =>
      (s.install { thread := noCtx, source := p.1, dest := 64 * p.2 + j, word2 := e.word2, fn := e.fn,
                   crew := crew }).count e.fn fun u => { u with moves := u.moves + 1 }) s

/-! ### Visits, counts and forwards (R296, R298, R303) -/

/-- The handle of a census (R295). -/
def State.censusHandle (s : State) (k f : Nat) : Word :=
  BitVec.ofNat 64 (2 ^ 32 + aget 0 (s.die (k / 256)).generations (k % 256) * 2 ^ 20 + s.idOfDie f (k / 256) * 2 ^ 16 +
    k % 256)

/-- A census matches an entry (R296). -/
def Census.hits (c : Census) (e : DirSlot) : Bool := e.fn == c.fn && ((c.key ^^^ e.key) &&& c.mask &&& e.kmask) == 0

/-- The token of a counted entry (R298). -/
def State.token (s : State) (k f slot : Nat) : Nat :=
  s.idOfCore f (slot / 64) * 2 ^ 38 + slot % 64 * 2 ^ 32 + (s.censusHandle k f).toNat % 2 ^ 32

/-- The responder request of a counted entry (R298). -/
def State.request (s : State) (k : Nat) (c : Census) (slot : Nat) (e : DirSlot) : Wire :=
  { src := s.unitEndpoint c.fn (slot / 64 / 256) 8, fn := c.fn,
    dest := 64 * s.idOfCore c.fn (slot / 64) + tileChan e.word2, cls := 15, kind := 6, device := true,
    census := some (k, slot), payload := e.word2 ++ BitVec.ofNat 64 (s.token k c.fn slot) ++ c.arg ++ e.key }

/-- Count (R303): the entry is counted once, and its responder is asked. -/
def State.countEntry (s : State) (k slot : Nat) : State :=
  match s.census k with
  | none => s
  | some c =>
    let e := s.slotAt slot
    if e.mset.contains k then s
    else
      let s := s.setSlotAt slot { e with mset := k :: e.mset }
      let s := s.setCensus k { c with counted := c.counted ++ [{ core := slot / 64, slot := slot % 64 }] }
      s.post (s.request k c slot e)

/-- A forward is sent for a census (R303). -/
def State.sendForward (s : State) (k dest gen : Nat) : State :=
  match s.census k with
  | none => s
  | some c =>
    { s.setCensus k { c with forwards := c.forwards + 1 } with
      forwards := aset s.forwards s.serial { census := k, dest := dest, gen := gen }, serial := s.serial + 1 }

/-- A forward is resolved. -/
def State.resolveForward (s : State) (i k : Nat) : State :=
  let s := { s with forwards := aerase s.forwards i }
  match s.census k with
  | none => s
  | some c => s.setCensus k { c with forwards := c.forwards - 1 }

/-- What a visit does at one slot (R303). -/
def State.visitSlot (s : State) (k slot : Nat) (c : Census) : State :=
  let e := s.slotAt slot
  if !(c.hits e) then s
  else
    match e.state with
    | .valid => s.countEntry k slot
    | .source d g => s.sendForward k d g
    | .stub d g _ => s.sendForward k d g
    | _ => s

/-- Visit (R303): every slot in ascending order, then the core is among those visited. -/
def State.visitCore (s : State) (k core : Nat) (c : Census) : State :=
  let s := (List.range 64).foldl (fun s i => s.visitSlot k (64 * core + i) c) s
  let x := s.core core
  s.setCore core { x with seen := k :: x.seen }

/-- A forward acts at its destination, where that is no reserved slot any more (R303): moved on, counted, or nothing. -/
def State.arriveForward (s : State) (i : Nat) (f : Forwarded) : State :=
  let d := s.slotAt f.dest
  if (s.die (f.dest / 64 / 256)).state ≠ .present ∨ d.gen ≠ f.gen then s.resolveForward i f.census
  else
    match d.state with
    | .source e g => { s with forwards := aset s.forwards i { f with dest := e, gen := g } }
    | .stub e g _ => { s with forwards := aset s.forwards i { f with dest := e, gen := g } }
    | .valid => (s.countEntry f.census f.dest).resolveForward i f.census
    | _ => s.resolveForward i f.census

/-! ### Results (R300, R301) -/

/-- One combine operation (R300). -/
def censusOp (op : Nat) : RedOp := fun p q =>
  match op with
  | 0 => ((p + q) % 2 ^ 64, noFlags)
  | 1 => (if (BitVec.ofNat 64 q).slt (BitVec.ofNat 64 p) then q else p, noFlags)
  | 2 => (if (BitVec.ofNat 64 p).slt (BitVec.ofNat 64 q) then q else p, noFlags)
  | 3 => (p &&& q, noFlags)
  | 4 => (p ||| q, noFlags)
  | 5 => addValues 10 0 (decodeFloat 10 p) (decodeFloat 10 q)
  | 6 => minMaxFloat 10 true p q
  | _ => ((p + q) % 2 ^ 64, noFlags)

/-- The identity of an operation. -/
def censusIdentity (op : Nat) : Nat :=
  match op with
  | 1 => 0x7FFFFFFFFFFFFFFF
  | 2 => 0x8000000000000000
  | 3 => 0xFFFFFFFFFFFFFFFF
  | 6 => 0xFF800000
  | _ => 0

/-- The value an operation reads from a reply. -/
def censusValue (op : Nat) (v : Word) : Nat :=
  if op = 7 then 1 else if op = 5 ∨ op = 6 then v.toNat % 2 ^ 32 else v.toNat

/-- The entries counted and the replies counted for other slots. -/
def Census.replies (c : Census) : List Counted := c.early ++ c.counted

/-- A reply was counted for a slot before any entry of it (R299). -/
def Census.hasEarly (c : Census) (core slot : Nat) : Bool := c.early.any fun e => e.core == core && e.slot == slot

/-- The values replied for one slot, combined in the order they were counted, where a slot was counted again for a
later entry. -/
def Census.slotValue (c : Census) (core slot : Nat) : Option Nat × Flags :=
  let op := c.op.toNat
  (c.replies.filter fun e => e.core == core && e.slot == slot).filterMap (·.answer) |>.foldl
    (fun acc a => match acc.1 with
      | none => (some (censusValue op a.1), acc.2)
      | some p => (some (censusOp op p (censusValue op a.1)).1, acc.2 ||| (censusOp op p (censusValue op a.1)).2))
    (none, noFlags)

/-- The value of one core. -/
def Census.coreValue (c : Census) (core : Nat) : Option Nat × Flags :=
  if c.replies.any fun e => e.core == core then
    let ys := (List.range 64).map (c.slotValue core)
    let r := tree (censusOp c.op.toNat) 7 (ys.map (·.1))
    (r.1, ys.foldl (fun f y => f ||| y.2) r.2)
  else (none, noFlags)

/-- The result and its flags (R300). -/
def Census.result (c : Census) : Nat × Flags :=
  let xs := c.scope.map c.coreValue
  let r := tree (censusOp c.op.toNat) 12 (xs.map (·.1))
  (r.1.getD (censusIdentity c.op.toNat), xs.foldl (fun f x => f ||| x.2) r.2)

/-- The result is poisoned. -/
def Census.poisoned (c : Census) : Bool :=
  c.op != 7 && c.replies.any fun e => (e.answer.map (·.2)).getD false

/-- The status word (R301). -/
def Census.status (c : Census) : Word :=
  let noresp := c.counted.any (·.null)
  BitVec.ofNat 64 (c.counted.length + (c.replies.filter fun e => e.answer.isSome).length * 2 ^ 18 + c.op.toNat * 2 ^ 36 +
    ofBool (c.absentDie || noresp) * 2 ^ 39 + ofBool noresp * 2 ^ 40 + ofBool c.absentDie * 2 ^ 41 +
    (if c.done then ofBool c.poisoned * 2 ^ 42 + 2 ^ 43 + ofBool c.abandoned * 2 ^ 44 +
      (c.result.2.toNat % 32) * 2 ^ 45 else 0))

/-- Everything of the census has been answered (R301). -/
def Census.ripe (c : Census) : Bool :=
  !c.done && c.toVisit.isEmpty && c.forwards == 0 && c.counted.all fun e => e.answer.isSome || e.null || c.hasEarly e.core e.slot

end Sys2Proof.Machine
end

