-- ==== Sys2Proof/Machine/Status.lean ====
section
/-! DEFINITION. The words of the registers that report state (R45): VGRANT, VDECL, THREAD, CREW, TSTAT, TENANT, READYA
and READYB. -/

namespace Sys2Proof.Machine

/-- A trap vector as it is stored (R311): bits 7 to 1 read zero. -/
def vecWrite (v : Word) : Word := v &&& 0xFFFFFFFFFFFFFF01#64

/-- VGRANT (R114). -/
def Ctx.vgrant (c : Ctx) : Word :=
  BitVec.ofNat 64 (c.lanes + c.gres * 2 ^ 9 + c.laneMax * 2 ^ 18 + c.vec.side * 2 ^ 27 + c.short * 2 ^ 32)

/-- VDECL (R115). -/
def Ctx.vdecl (c : Ctx) : Word :=
  BitVec.ofNat 64 (c.ncode.toNat + c.pncode.toNat * 4 + c.tl.toNat * 16 + c.ptl.toNat * 128 +
    rowsPerReg (regCount c.ncode.toNat) c.tl.toNat * 1024)

/-- The word of VGEOM (R107). -/
def Ctx.geom (c : Ctx) : Word :=
  BitVec.ofNat 64 (c.lanes + c.vec.side * 2 ^ 9 + c.geo.rpr * 2 ^ 14 + c.ncode.toNat * 2 ^ 18 + c.tl.toNat * 2 ^ 20 +
    c.geo.vlmax * 2 ^ 23)

/-- A pre-emption request is being deferred (R97, R313). -/
def Ctx.pdef (c : Ctx) : Bool := c.preempt == .asked && c.inTrap

/-- TSTAT of the supervisor, FTSTAT of the firmware (R313). -/
def Ctx.tstat (c : Ctx) (l : Level) (r : TrapRegs) : Word :=
  BitVec.ofNat 64 (r.ppl.toNat + ofBool c.pdef * 8 + (if l = .firmware then 0 else ofBool c.uip * 16) +
    r.depth.toNat * 32 + ofBool r.vside * 128)

/-- THREAD (R88). -/
def State.threadWord (s : State) (g : Nat) : Word :=
  let c := s.ctx g
  BitVec.ofNat 64 (g % 4 + s.idOfCore c.fn (coreOf g) * 4 + c.tidx * 2 ^ 13 + c.prio.toNat * 2 ^ 19 +
    s.idOfDie c.fn (dieOf g) * 2 ^ 21)

/-- CREW (R89). -/
def State.crewWord (s : State) (g : Nat) : Word :=
  match (s.ctx g).crew.bind s.crewOf with
  | none => 0
  | some k => BitVec.ofNat 64 (k.cidx + k.threads.length * 2 ^ 20 + k.lid * 2 ^ 32)

/-- TENANT of a function (R371). -/
def State.tenantWord (s : State) (f : Nat) : Word :=
  match (s.fnOf f).part with
  | none => BitVec.ofNat 64 f
  | some r => BitVec.ofNat 64 (f + r.x0 * 2 ^ 8 + r.y0 * 2 ^ 12 + (r.w - 1) * 2 ^ 16 + (r.h - 1) * 2 ^ 20 + r.w * r.h * 2 ^ 24)

/-- The bits of a list of flags, the first lowest. -/
def flagBits (n : Nat) (p : Nat → Bool) : Nat := (List.range n).foldl (fun m i => m + ofBool (p i) * 2 ^ i) 0

/-- READYA (R379). -/
def State.readyA (s : State) : Word :=
  BitVec.ofNat 64 (flagBits 8 (fun d => (s.die d).stile && !(s.die d).stileFailed && !(s.die d).islandBusy) +
    flagBits 8 (fun d => (s.die d).state == .present) * 2 ^ 8 +
    flagBits 16 (fun k => aget false s.hbmStacks k) * 2 ^ 16 +
    flagBits 16 (fun l => (aget {} s.links l).state == .up) * 2 ^ 32 +
    flagBits 2 (fun x => aget false s.hostLinks x) * 2 ^ 48)

/-- READYB (R379). -/
def State.readyB (s : State) : Word :=
  BitVec.ofNat 64 (flagBits 32 fun i => (aget {} (s.die (i / 4)).engines (i % 4)).ready)

/-- PRQ as it reads (R331): GO while a request is in progress. -/
def Die.prqWord (d : Die) : Word := d.prq ||| BitVec.ofNat 64 (ofBool d.prqWork.isSome * 2 ^ 63)

/-- PRQSTAT as a context reads it (R331): RESULT 4 where its last write met a request in progress. -/
def Die.prqstatFor (d : Die) (g : Nat) : Word :=
  if d.prqBusy.contains g then (d.prqstat &&& ~~~(0x7000000000000000#64)) ||| 0x4000000000000000#64 else d.prqstat

end Sys2Proof.Machine
end

