-- ==== Sys2Proof/Machine/Preempt.lean ====
section
/-! DEFINITION. Pre-emption, saving and resumption (R97 to R99, R331 to R336): the request port, the save area, the
events that carry a request out, and placement, which a resumption precedes. -/

namespace Sys2Proof.Machine

/-! ### The save area (R333, R334) -/

/-- Where the scratch images begin. -/
def scratchImageAt (t nc : Nat) : Nat := (256 + 2048 * t + 32768 * nc + 4095) / 4096 * 4096

/-- The size of a save area. -/
def areaSize (t nc ng : Nat) : Nat := scratchImageAt t nc + 16384 * ng * nc

/-- Bytes padded with zeros to a length. -/
def padTo (n : Nat) (bytes : List Byte) : List Byte := bytes ++ List.replicate (n - bytes.length) 0

/-- The wait of a thread's own stream, handler runs or not. -/
def Ctx.ownWait (c : Ctx) : Option Wait :=
  match c.handlers.getLast? with
  | some h => h.wait
  | none => c.wait

/-- The context with the wait of its own stream replaced. -/
def Ctx.setOwnWait (c : Ctx) (w : Option Wait) : Ctx :=
  match c.handlers.reverse with
  | [] => { c with wait := w }
  | h :: rest => { c with handlers := (({ h with wait := w }) :: rest).reverse }

/-- The header (R333). -/
def State.saveHeader (s : State) (k : Crew) (state : Nat) : List Byte :=
  padTo 64 (leBytes 4 k.lid ++ leBytes 4 k.cidx ++ leBytes 2 k.fn ++ leBytes 1 k.threads.length ++
    leBytes 1 k.cores.length ++ leBytes 1 k.granules ++ leBytes 1 k.cluster ++ leBytes 1 state ++
    leBytes 1 0 ++ (List.range 4).map (fun b => BitVec.ofNat 8 ((k.arrivals[b]?).getD []).length) ++
    leBytes 4 k.parity.toNat ++ leBytes 8 (s.cycle (k.cluster / 16)).toNat)

/-- The core table (R333). -/
def State.coreTable (s : State) (k : Crew) : List Byte :=
  padTo 128 (k.cores.flatMap fun core =>
    leBytes 8 (s.idOfCore k.fn core + flagBits 4 (fun i => k.threads.contains (4 * core + i)) * 2 ^ 16))

/-- TVEC to TELEM of a level, and its shadow set from TCAUSE on (R334). -/
def Ctx.trapWords (c : Ctx) (l : Level) (r : TrapRegs) : List Word :=
  [r.cause.zeroExtend 64, r.val, r.epc, c.tstat l r, r.telem]

/-- A replay entry in 32 bytes: address, word, flags, captured operands (R334; log 24). -/
def VqEntry.image (e : VqEntry) : List Byte :=
  let cap (i : Nat) : Word := ((e.caps[i]?).map (·.value)).getD 0
  let capFlag (i : Nat) : Nat :=
    ((e.caps[i]?).map fun k => 64 + ofBool k.poison * 32 + k.reg.toNat).getD 0
  leBytes 8 e.addr.toNat ++ leBytes 4 ((encode e.instr).getD 0).toNat ++
  leBytes 1 (128 + e.ncode.toNat + 4 * e.tiles.toNat + 32 * ofBool e.resume) ++ leBytes 1 (e.depth + 16 * e.level.code) ++
  leBytes 1 (capFlag 0) ++
  leBytes 1 (capFlag 1) ++ leBytes 8 (cap 0).toNat ++ leBytes 8 (cap 1).toNat

/-- A thread record (R334). A handler stack entry holds what the start of the run pushed: PC, run level (255 for none),
privilege. -/
def State.threadRecord (s : State) (c : Ctx) (exited : Bool) : List Byte :=
  let own := c.ownWait
  let flags := flagBits 6 fun i => match i with
    | 0 => c.wake
    | 1 => c.uip
    | 2 => match own with | some (.tsleep _) => true | _ => false
    | 3 => c.task.isSome
    | 4 => match c.revoke with | some (.revoke _) => true | _ => false
    | _ => exited
  let cbar := match own with | some (.cbar b _) => b + 1 | _ => 0
  let cause := match c.revoke with | some (.revoke n) => n | _ => 0
  let task : List Word := match c.task with
    | some t => [s.queueHandle t.queue, t.header]
    | none => [0, 0]
  let body := leBytes 8 c.pc.toNat ++
    (List.range 31).flatMap (fun i => leBytes 8 (aget 0 c.regs (i + 1)).toNat) ++
    leBytes 4 c.poison.toNat ++ leBytes 1 c.level.code ++ leBytes 1 flags ++
    leBytes 1 (c.prio.toNat + 4 * c.iprio.toNat) ++ leBytes 1 cbar ++
    bytesOf [c.uepc, c.resume] ++
    bytesOf (c.sup.vec :: c.trapWords .supervisor c.sup.regs) ++ bytesOf (c.trapWords .supervisor c.sup.shadow) ++
    bytesOf (c.firm.vec :: c.trapWords .firmware c.firm.regs ++ [c.firm.regs.gpa.zeroExtend 64]) ++
    bytesOf (c.trapWords .firmware c.firm.shadow ++ [c.firm.shadow.gpa.zeroExtend 64]) ++
    bytesOf [c.fstat, c.vstat, c.vspill, c.fmta, c.fmtb, c.scla, c.sclb, c.lanecyc, c.vdecl] ++
    padTo 64 (((c.handlers.reverse.zip (255 :: c.handlers.reverse.map (·.prio.toNat))).take 4).flatMap fun h =>
      leBytes 8 h.1.pc.toNat ++ leBytes 1 h.2 ++ leBytes 1 h.1.level.code ++ leBytes 6 0) ++
    bytesOf task ++ leBytes 8 c.cir.toNat ++ leBytes 1 cause
  padTo 1024 body ++ padTo 1024 ((c.replay.take 32).flatMap VqEntry.image)

/-- The state word of a channel (R244). -/
def Channel.stateWord (x : Channel) : Word :=
  BitVec.ofNat 64 (x.fifo.length + ofBool x.pend * 16 + ofBool (bit x.binding 61) * 32 +
    ofBool (bit x.binding 62) * 64 + bitsOf x.binding.toNat 57 2 * 128 + bitsOf x.binding.toNat 59 2 * 512 +
    ofBool x.run * 2048 + ofBool x.lost * 4096)

/-- An entry of a channel image (R333). -/
def Channel.image (x : Channel) : List Byte :=
  padTo 512 (bytesOf [x.binding, x.stateWord] ++
    x.fifo.flatMap fun m => leBytes 32 m.payload.toNat ++ leBytes 8 m.tag.toNat ++ leBytes 8 0)

/-- The contexts that the threads of a crew occupy: those of the threads that have not exited (R77, R332). -/
def Crew.held (k : Crew) : List Nat := k.live.filterMap fun i => k.threads[i]?

/-- The channel is bound to one of the contexts. -/
def Channel.boundTo (x : Channel) (core : Nat) (gs : List Nat) : Bool :=
  bit x.binding 62 && gs.contains (4 * core + bitsOf x.binding.toNat 57 2)

/-- The channel image of a core (R333): channels not bound to a context of the crew are zero. -/
def State.channelImage (s : State) (core : Nat) (gs : List Nat) : List Byte :=
  (List.range 64).flatMap fun ch =>
    let x := s.chan core ch
    if x.boundTo core gs then x.image else List.replicate 512 0

/-! ### The port (R331) -/

/-- The agent of a save or a resumption (R332). -/
def saveAgent (f : Nat) : Agent := unitAgent f .supervisor

/-- A context that waits on the request at a die's port for its firmware service has its RESULT (R330). -/
def Ctx.served (c : Ctx) (d result : Nat) : Ctx :=
  if c.wait = some (.service d) then { c with wait := some (.answered (BitVec.ofNat 64 result)) } else c

/-- A request ends at a die's port (R331): a firmware service that waits on it, also in a saved thread, has its RESULT. -/
def State.endRequest (s : State) (d result start : Nat) : State :=
  { s.setDie d { s.die d with
      prqWork := none
      prqstat := BitVec.ofNat 64 (2 ^ 63 + result * 2 ^ 60 + (s.clock - start) % 2 ^ 32) } with
    ctxs := s.ctxs.map fun p => (p.1, p.2.served d result)
    crews := s.crews.map fun p => (p.1, { p.2 with kept := p.2.kept.map fun c => c.served d result }) }

/-- The crew a context names: of its thread, or of the thread that exited there while others live (R336). -/
def State.crewAt (s : State) (g : Nat) : Option Nat :=
  if (s.ctx g).live then (s.ctx g).crew
  else (s.crews.find? fun p => !p.2.saved && !p.2.live.isEmpty &&
    (List.range p.2.threads.length).any fun i => p.2.threads[i]? == some g && p.2.exited.contains i).map (·.1)

/-- A PREEMPT request at a die's port (R332, step 1): it ends at once, or every thread is asked to stop. -/
def State.submitPreempt (s : State) (d g : Nat) (area : Nat) (only : Option Nat) : State :=
  match s.crewAt g with
  | none => s.endRequest d 1 s.clock
  | some k =>
    match s.crewOf k with
    | none => s.endRequest d 1 s.clock
    | some c =>
      if only.isSome ∧ only ≠ some c.fn then s.endRequest d 1 s.clock
      else
        match s.resolve (saveAgent c.fn) .spill area (areaSize c.threads.length c.cores.length c.granules) with
        | (_, .error x) => (s.unitFault x).endRequest d 2 s.clock
        | (s, .ok _) =>
          let s := c.live.foldl (fun s i =>
            match c.threads[i]? with
            | none => s
            | some h => s.setCtx h { s.ctx h with preempt := .asked }) s
          s.setDie d { s.die d with
            prqstat := 0, prqWork := some { resume := false, crew := k, area := BitVec.ofNat 64 area, start := s.clock } }

/-! ### Saving (R332) -/

/-- The pieces of a save, one after the other until one write faults, and whether all were written. -/
def State.savePieces (s : State) (ag : Agent) : List (Nat × List Byte × Bool) → State × Bool
  | [] => (s, true)
  | (a, bytes, poison) :: rest =>
    match s.devWrite ag .spill a bytes poison with
    | (s, .ok ()) => s.savePieces ag rest
    | (s, .error _) => (s, false)

/-- The pieces of a crew's save area from its base on (R333): header, record, core table, threads, channels, then the
poison of their messages, and the scratch regions line by line. -/
def State.areaPieces (s : State) (k : Crew) (key a : Nat) : List (Nat × List Byte × Bool) :=
  let t := k.threads.length
  let nc := k.cores.length
  let rec_ := ((s.launches.find? fun p => p.1 == launchKey k.fn k.lid).map (·.2.record)).getD 0
  let threads := (List.range t).map fun i =>
    let gone := k.exited.contains i
    (a + 256 + 2048 * i, s.threadRecord (if gone then {} else s.ctx ((k.threads[i]?).getD 0)) gone, false)
  let chans := (List.range nc).flatMap fun j =>
    let core := (k.cores[j]?).getD 0
    let base := a + 256 + 2048 * t + 32768 * j
    (base, s.channelImage core k.held, false) ::
      (List.range 64).flatMap fun ch =>
        let x := s.chan core ch
        if x.boundTo core k.held then
          (List.range x.fifo.length).filterMap fun i =>
            match x.fifo[i]? with
            | some m =>
              if m.poison then some (base + 512 * ch + 16 + 48 * i, leBytes 32 m.payload.toNat, true) else none
            | none => none
        else []
  let scratch := (List.range nc).flatMap fun j =>
    let core := (k.cores[j]?).getD 0
    (List.range (k.granules * 256)).filterMap fun i =>
      match (s.core core).granuleFor key (i / 256) with
      | none => none
      | some g =>
        let r := s.readLoc (scratchLoc core g (i % 256 * 64)) 64 noKey
        some (a + scratchImageAt t nc + 16384 * k.granules * j + 64 * i, r.1, r.2)
  (a, s.saveHeader k 1, false) :: (a + 64, leBytes 64 rec_.toNat, false) :: (a + 128, s.coreTable k, false) ::
    threads ++ chans ++ scratch

/-- The granules of a crew on a core leave the scratch role; directory entries stay (R332, R290). -/
def State.releaseGranules (s : State) (crew core : Nat) : State :=
  let x := s.core core
  s.setCore core
    { x with roles := x.roles.filter fun p => match p.2 with | .scratch c _ => c != crew | .l1 => true }

/-- The channels of a core bound to a crew's contexts are held for it (R242). -/
def State.holdChannels (s : State) (gs : List Nat) (crew core : Nat) : State :=
  let x := s.core core
  s.setCore core
    { x with chans := x.chans.map fun p =>
        if p.2.boundTo core gs then (p.1, { p.2 with held := true, heldFor := crew }) else p }

/-- Censuses owned under one name pass to another (R295, R335). -/
def State.renameOwner (s : State) (old new : Nat) : State :=
  { s with
    dies := s.dies.map fun p =>
      (p.1, { p.2 with censuses := p.2.censuses.map fun c =>
        if c.2.owner = old then (c.1, { c.2 with owner := new }) else c })
    moves := s.moves.map fun m => if m.2.thread = old then (m.1, { m.2 with thread := new }) else m }

/-- A crew whose image stands in its save area is released (R332, step 6); lanes that come free meet an open reservation
first (R119). -/
def State.releaseCrew (s : State) (key a : Nat) (k : Crew) : State :=
  let kept := k.threads.map fun g => if (s.ctx g).crew = some key then s.ctx g else {}
  let s := k.cores.foldl (fun s n => (s.releaseGranules key n).holdChannels k.held key n) s
  let s := (k.threads.zip (List.range k.threads.length)).foldl (fun s p =>
    if (s.ctx p.1).crew = some key then
      ((s.leaveQueues p.1).renameOwner p.1 (savedOwner key p.2)).freeCtx p.1
    else s) s
  let s := s.honour k.cluster
  { s with crews := aset s.crews key { k with saved := true, area := a, kept := kept } }

/-- Steps 3 to 7 of R332. -/
def State.saveCrew (s : State) (d : Nat) (w : PrqWork) (k : Crew) : State :=
  let live := k.live.filterMap fun i => k.threads[i]?
  let s := live.foldl (fun s g => s.forceRevoke g 0 none) s
  let s := (live.foldl (fun s g => (s.drainAll g).flushMsg g fun _ => true) s).flushInto w.crew
  match s.seenFrom (k.cluster / 16) fun s => s.savePieces (saveAgent k.fn) (s.areaPieces k w.crew w.area.toNat) with
  | (t, false) =>
    (live.foldl (fun s g => s.setCtx g { s.ctx g with preempt := .none }) (s.block t.blocked)).endRequest d 2 w.start
  | (s, true) => (s.releaseCrew w.crew w.area.toNat k).endRequest d 0 w.start

/-! ### Resuming (R335, R99) -/

/-- A little-endian number in an image. -/
def numAt (bytes : List Byte) (off n : Nat) : Nat := leNat ((bytes.drop off).take n)

/-- A word in an image. -/
def wordAt (bytes : List Byte) (off : Nat) : Word := BitVec.ofNat 64 (numAt bytes off 8)

/-- TCAUSE to TELEM of an image (R334). -/
def trapRegsAt (bytes : List Byte) (off : Nat) (gpa : Nat) : TrapRegs :=
  let stat := numAt bytes (off + 24) 8
  { cause := BitVec.ofNat 10 (numAt bytes off 8), val := wordAt bytes (off + 8),
    epc := (wordAt bytes (off + 16) >>> 2) <<< 2, ppl := BitVec.ofNat 2 (bitsOf stat 0 2),
    vside := bitsOf stat 7 1 = 1, depth := BitVec.ofNat 2 (bitsOf stat 5 2), telem := wordAt bytes (off + 32),
    gpa := BitVec.ofNat 52 gpa }

/-- A replay entry of an image, if it holds one, over what the device kept of it. -/
def entryAtImage (kept : VqEntry) (b : List Byte) : Option VqEntry :=
  let cap (flag off : Nat) : List Capture :=
    if bitsOf flag 6 1 = 1 then
      [{ reg := BitVec.ofNat 5 (bitsOf flag 0 5), value := wordAt b off, poison := bitsOf flag 5 1 = 1 }]
    else []
  if bitsOf (numAt b 12 1) 7 1 = 0 then none
  else
    match decodeLow (BitVec.ofNat 32 (numAt b 8 4)) with
    | .error _ => none
    | .ok i =>
      some { kept with
             addr := wordAt b 0, instr := i, ncode := BitVec.ofNat 2 (numAt b 12 1),
             tiles := BitVec.ofNat 3 (bitsOf (numAt b 12 1) 2 3), resume := bitsOf (numAt b 12 1) 5 1 = 1,
             depth := bitsOf (numAt b 13 1) 0 4, level := Level.ofCode (bitsOf (numAt b 13 1) 4 2),
             caps := cap (numAt b 14 1) 16 ++ cap (numAt b 15 1) 24 }

/-- A wait as a resumed thread takes it up again: a TGET has taken nothing and starts over (R277). -/
def resumedWait (w : Option Wait) : Option Wait :=
  match w with
  | some (.tget _ _) => none
  | w => w

/-- The wait of a resumed thread's own stream, from its record (R334): TSLEEP returns 2 (R94), a wait in CBAR goes on with
the rank the device kept, and any other goes on as it was kept. -/
def recordWait (kept : Option Wait) (flags cbar : Nat) : Option Wait :=
  if bitsOf flags 2 1 = 1 then some (.answered 2)
  else
    match cbar, kept with
    | 0, some (.cbar _ _) => none
    | 0, w => resumedWait w
    | b + 1, some (.cbar _ r) => some (.cbar b r)
    | b + 1, _ => some (.cbar b 0)

/-- The queue that a task queue handle of a function names (R271). -/
def State.queueOfHandle (s : State) (f : Nat) (w : Word) : Nat :=
  256 * (s.dieById f (bitsOf w.toNat 8 3)).getD 0 + bitsOf w.toNat 0 8

/-- The current task of a record (R334); the serial number of a tile's record is what the device kept. -/
def State.recordTask (s : State) (kept : Ctx) (b : List Byte) : Option TaskHold :=
  if bitsOf (numAt b 261 1) 3 1 = 1 then
    some { queue := s.queueOfHandle kept.fn (wordAt b 608), header := wordAt b 616, tile := kept.task.bind (·.tile) }
  else none

/-- The poison bits of a record's registers, and those whose granule of the record reads poisoned (R334, R337). -/
def recordPoison (b : List Byte) (bad : List Bool) : BitVec 32 :=
  (BitVec.ofNat 32 (numAt b 256 4) ||| BitVec.ofNat 32 (flagBits 32 fun r => (bad[r / 8]?).getD false)) &&& 0xFFFFFFFE#32

/-- A poisoned granule of a record that holds more than scalar registers: an uncorrectable error in the thread's PC, trap or
queue state (R352; log 84). -/
def recordLost (bad : List Bool) : Bool :=
  (List.range 32).any fun i => (i == 0 || decide (4 ≤ i)) && (bad[i]?).getD false

/-- A thread restored from its record over what the device kept of it (R335): every field as a write of its register leaves
it, `bad` the granules of the record that read poisoned. -/
def State.restoreThread (s : State) (kept : Ctx) (b : List Byte) (bad : List Bool) : Ctx :=
  let flags := numAt b 261 1
  let decl := numAt b 536 8
  let regs := (List.range 31).foldl (fun m i => aput 0 m (i + 1) (wordAt b (8 + 8 * i))) []
  let handlers := ((kept.handlers.map fun h => { h with wait := resumedWait h.wait }).reverse.zip
      (List.range kept.handlers.length)).map fun p =>
    let h := if p.2 + 1 < min 4 kept.handlers.length then
        { p.1 with prio := BitVec.ofNat 2 (numAt b (544 + 16 * (p.2 + 1) + 8) 1) }
      else p.1
    if p.2 < 4 then { h with pc := wordAt b (544 + 16 * p.2), level := Level.ofCode (numAt b (544 + 16 * p.2 + 9) 1) }
    else h
  let c : Ctx := { kept with
    live := true, wait := resumedWait kept.wait, preempt := .none, reissue := none, vq := [], handlers := handlers.reverse,
    pc := wordAt b 0, regs := regs, poison := recordPoison b bad,
    level := Level.ofCode (numAt b 260 1), wake := bitsOf flags 0 1 = 1, uip := bitsOf flags 1 1 = 1,
    prio := BitVec.ofNat 2 (numAt b 262 1), iprio := BitVec.ofNat 2 (bitsOf (numAt b 262 1) 2 2),
    uepc := (wordAt b 264 >>> 2) <<< 2, resume := (wordAt b 272 >>> 2) <<< 2,
    sup := { vec := vecWrite (wordAt b 280), regs := trapRegsAt b 288 0, shadow := trapRegsAt b 328 0 },
    firm := { vec := vecWrite (wordAt b 368), regs := trapRegsAt b 376 (numAt b 416 8),
              shadow := trapRegsAt b 424 (numAt b 464 8) },
    fstat := fstatWrite 0 (wordAt b 472), vstat := wordAt b 480 &&& 1#64, vspill := (wordAt b 488 >>> 6) <<< 6,
    fmta := wordAt b 496, fmtb := wordAt b 504, scla := (wordAt b 512 >>> 1) <<< 1, sclb := (wordAt b 520 >>> 1) <<< 1,
    lanecyc := wordAt b 528, task := s.recordTask kept b,
    ncode := BitVec.ofNat 2 decl, pncode := BitVec.ofNat 2 (bitsOf decl 2 2), tl := BitVec.ofNat 3 (bitsOf decl 4 3),
    ptl := BitVec.ofNat 3 (bitsOf decl 7 3), dcode := kept.dcode, cir := wordAt b 624 &&& 0x0000FFFFFFFF001F#64,
    revoke := if bitsOf flags 4 1 = 1 then some (.revoke (numAt b 632 1))
      else match kept.revoke with | some (.spill a telem) => some (.spill a telem) | _ => none,
    replay := (List.range 32).filterMap fun i =>
      entryAtImage ((kept.replay[i]?).getD { addr := 0, instr := .mret }) ((b.drop (1024 + 32 * i)).take 32) }
  c.setOwnWait (recordWait kept.ownWait flags (numAt b 263 1))

/-- A channel restored from its entry of the image (R333, R335). -/
def channelAt (b : List Byte) (poison : Nat → Bool) : Channel :=
  let st := wordAt b 8
  { binding := wordAt b 0, pend := bit st 4, run := bit st 11, lost := bit st 12, held := false,
    fifo := (List.range (min 8 (bitsOf st.toNat 0 4))).map fun i =>
      { payload := BitVec.ofNat 256 (numAt b (16 + 48 * i) 32), tag := wordAt b (16 + 48 * i + 32),
        poison := poison (16 + 48 * i) } }

/-- The contexts of a crew with those of its live threads replaced, in thread order; a thread that exited keeps its old
number. -/
def Crew.spread (k : Crew) (gs : List Nat) : List Nat :=
  (List.range k.threads.length).map fun i =>
    match k.live.findIdx? (· == i) with
    | some j => (gs[j]?).getD 0
    | none => (k.threads[i]?).getD 0

/-- The cores that hold a live thread of a crew: those that get its region back (R196). -/
def Crew.liveCores (k : Crew) : List Nat := k.cores.filter fun n => k.held.any fun g => coreOf g == n

/-- The live threads of a crew by the core that held them, in the order of its cores. -/
def Crew.groups (k : Crew) : List (List Nat) := k.liveCores.map fun n => k.held.filter fun g => coreOf g == n

/-- The free contexts of a core. -/
def State.freeOn (s : State) (core : Nat) : List Nat := ((List.range 4).map (4 * core + ·)).filter fun g => !(s.ctx g).live

/-- Each group of threads gets a core of its own in a cluster, the lowest that has contexts and granules for it: which new
context stands for each old one (R86, R99; log 103). -/
def State.assignGroups (s : State) (cl ng : Nat) : List (List Nat) → List Nat → Option (List (Nat × Nat))
  | [], _ => some []
  | g :: rest, used =>
    let ok (core : Nat) : Bool := !used.contains core && decide (g.length ≤ (s.freeOn core).length) &&
      decide (ng + 2 ≤ (s.core core).ways.length)
    match ((List.range 16).map (16 * cl + ·)).find? ok with
    | none => none
    | some core => (s.assignGroups cl ng rest (core :: used)).map fun m => g.zip (s.freeOn core) ++ m

/-- The contexts of a cluster for the live threads of a crew that moves, in their order: threads that share a region share
it again (R99, R196). -/
def State.regroup (s : State) (k : Crew) (cl : Nat) : Option (List Nat) :=
  (s.assignGroups cl k.granules k.groups []).map fun m => k.held.map fun g => aget 0 m g

/-- The new contexts of a resumed crew's live threads: its own where it may not move, else an assignment that groups its
threads on cores as the image does (R99). -/
def State.resumePlace (s : State) (k : Crew) (r : BitVec 512) (target : Option Nat) (d : Nat) :
    Option (Nat × List Nat) :=
  let need := k.held.length * recLaneMin r
  if field r 189 1 = 0 then
    let room := k.held.all (fun g => !(s.ctx g).live) &&
      k.liveCores.all fun n => decide (k.granules + 2 ≤ (s.core n).ways.length)
    (s.fitsBy k.fn k.cluster need (if room then some k.held else none)).map fun gs => (k.cluster, gs)
  else
    let fit (cl : Nat) : Option (List Nat) := s.fitsBy k.fn cl need (s.regroup k cl)
    match target with
    | some cl => (fit cl).map fun gs => (cl, gs)
    | none => s.bestCluster k.fn d fit

/-- A context is about to be given to a thread of a resumed crew (R242): the channels bound to it or held for it are
reclaimed, but for those held for the crew itself, which its own image restores. -/
def State.readyContext (s : State) (key : Nat) (k : Crew) (g : Nat) : State :=
  let own (c : Channel) : Bool := c.held && c.heldFor == key
  let x := s.core (coreOf g)
  let mine (c : Channel) : Bool := c.boundTo (coreOf g) [g]
  let lost := x.chans.foldl (fun n p => if mine p.2 && !(own p.2) then n + p.2.fifo.length else n) 0
  (s.setCore (coreOf g) { x with chans := x.chans.filter fun p => !(mine p.2) }).count k.fn
    fun u => { u with drops := u.drops + lost }

/-- A channel of a crew that moved away (R99, R248): it stays held for it, so that its endpoint is absent, and its messages
went with the crew. -/
def Channel.left (x : Channel) (key : Nat) : Channel :=
  if x.held && x.heldFor == key then { x with fifo := [], pend := false, lost := false, run := false } else x

/-- One core of a resumed crew: its region and its channels (R335, R242). Where a channel's number is taken by then by another
binding or by messages, the restored one stands in its place, which is the model's choice (log 85). -/
def State.restoreCore (s : State) (ag : Agent) (key : Nat) (k : Crew) (gs : List Nat) (j core base scratch : Nat) :
    State :=
  let s := if k.granules = 0 then s else s.setAside key k.granules core
  let s := (List.range (k.granules * 256)).foldl (fun s i =>
    match (s.core core).granuleFor key (i / 256), (s.devRead ag .load (scratch + 64 * i) 64).2 with
    | some g, .ok r => s.storeLoc (scratchLoc core g (i % 256 * 64)) r.1 r.2 noKey
    | _, _ => s) s
  let old := (k.cores[j]?).getD 0
  let s := if old = core then s
    else s.setCore old { s.core old with chans := (s.core old).chans.map fun p => (p.1, p.2.left key) }
  (List.range 64).foldl (fun s ch =>
    match (s.devRead ag .load (base + 512 * ch) 512).2 with
    | .error _ => s
    | .ok r =>
      let b := r.1
      if !(bit (wordAt b 0) 62) then s
      else
        let bad (off : Nat) : Bool :=
          match (s.devRead ag .load (base + 512 * ch + off) 40).2 with
          | .ok q => q.2
          | .error _ => false
        let x := channelAt b bad
        let was := 4 * old + bitsOf x.binding.toNat 57 2
        let now := (((k.held.zip gs).find? fun p => p.1 == was).map (·.2 % 4)).getD (was % 4)
        s.setChan core ch { x with binding :=
          (x.binding &&& ~~~(0x0600000000000000#64)) ||| BitVec.ofNat 64 (now * 2 ^ 57) }) s

/-- A granule with the binding and state words of a channel reads poisoned in the image of one of these cores: the crew's
queue state is lost (R352; log 84). -/
def State.channelsLost (s : State) (ag : Agent) (k : Crew) : Bool :=
  (List.range k.cores.length).any fun j => k.liveCores.contains ((k.cores[j]?).getD 0) &&
    (List.range 64).any fun ch =>
      match (s.devRead ag .load (k.area + 256 + 2048 * k.threads.length + 32768 * j + 512 * ch) 16).2 with
      | .ok r => r.2
      | .error _ => false

/-- A thread record as it reads: its bytes, and which of its granules are poisoned. -/
def State.readRecord (s : State) (ag : Agent) (a : Nat) : List Byte × List Bool :=
  let rs := (List.range 32).map fun i =>
    match (s.devRead ag .load (a + 64 * i) 64).2 with
    | .ok r => r
    | .error _ => (List.replicate 64 (0 : Byte), true)
  (rs.flatMap (·.1), rs.map (·.2))

/-- A thread of a resumed crew starts on a context (R335): the state, and whether its record was lost to poison. -/
def State.resumeThread (s : State) (ag : Agent) (key : Nat) (k : Crew) (i g : Nat) : State × Bool :=
  let r := s.readRecord ag (k.area + 256 + 2048 * i)
  ((s.setCtx g (s.restoreThread ((k.kept[i]?).getD {}) r.1 r.2)).renameOwner (savedOwner key i) g, recordLost r.2)

/-- The cores of a resumed crew: where the live threads of each go, its own where none lives. -/
def Crew.newCores (k : Crew) (gs : List Nat) : List Nat :=
  k.cores.map fun old => ((k.held.zip gs).find? fun p => coreOf p.1 == old).elim old fun p => coreOf p.2

/-- The regions, channels and directory entries of a crew that starts again (R335, R242, R306). -/
def State.resumeRegions (s : State) (key : Nat) (k : Crew) (gs : List Nat) : State :=
  let ag := saveAgent k.fn
  let a := k.area
  let t := k.threads.length
  let nc := k.cores.length
  let cores := k.newCores gs
  let s := gs.foldl (fun s g => s.readyContext key k g) s
  let entries := (k.cores.zip cores).flatMap fun p => if p.1 = p.2 then [] else s.entriesOf key p.1 p.2
  let s := (List.range nc).foldl (fun s j =>
    if k.liveCores.contains ((k.cores[j]?).getD 0) then
      s.restoreCore ag key k gs j ((cores[j]?).getD 0) (a + 256 + 2048 * t + 32768 * j)
        (a + scratchImageAt t nc + 16384 * k.granules * j)
    else s) s
  s.moveEntries key entries

/-- A saved crew starts again, its live threads on contexts of a cluster (R335). A thread whose record is poisoned beyond its
scalar registers, or a channel whose words are, ends the crew (R352; log 84). -/
def State.resumeOn (s : State) (key : Nat) (k : Crew) (cl : Nat) (gs : List Nat) : State :=
  let ag := saveAgent k.fn
  let now := k.spread gs
  let lost := s.channelsLost ag k
  let s := s.resumeRegions key k gs
  let r := k.live.foldl (fun r i =>
    let u := r.1.resumeThread ag key k i ((now[i]?).getD 0)
    (u.1, r.2 || u.2)) (s, lost)
  let s := (r.1.devWrite ag .store (k.area + 14) [2] false).1
  let k' : Crew := { k with saved := false, kept := [], cluster := cl, threads := now, cores := k.newCores gs, area := 0 }
  let s := { s with crews := aset s.crews key k' }
  if r.2 then (s.record (cl / 16) { cause := 0x383, bound := 4, action := 6, vf := k.fn }).loseCrew key 0x383 else s

/-- The save area of a crew translates for a resumption: it is read, and its STATE is written. -/
def State.areaServes (s : State) (k : Crew) (area : Nat) : Bool :=
  let n := areaSize k.threads.length k.cores.length k.granules
  match (s.resolve (saveAgent k.fn) .load area n).2, (s.resolve (saveAgent k.fn) .store (area + 14) 1).2 with
  | .ok _, .ok _ => true
  | _, _ => false

/-- The translation of a save area waits for a way that is held (R361). -/
def State.areaHeld (s : State) (k : Crew) (area : Nat) : Bool :=
  match (s.resolve (saveAgent k.fn) .load area (areaSize k.threads.length k.cores.length k.granules)).2 with
  | .error x => x.fault.cause == heldCause
  | .ok ps => ps.any fun p => s.heldAt p.place.loc

/-- The saved crew that a save area's header names, for a function (R333, R335): a RESULT, or the crew. A header that reads
poisoned shows no STATE of 1 (log 84). -/
def State.savedAt (s : State) (f area : Nat) : State × Except Nat (Nat × Crew) :=
  match s.devRead (saveAgent f) .load area 64 with
  | (s, .error _) => (s, .error 2)
  | (s, .ok r) =>
    let b := r.1
    if r.2 || numAt b 14 1 ≠ 1 then (s, .error 3)
    else if numAt b 8 2 ≠ f then (s, .error 1)
    else
      match s.crews.find? fun p => p.2.saved && decide (p.2.fn = f) && decide (p.2.lid = numAt b 0 4) &&
          decide (p.2.cidx = numAt b 4 4) with
      | none => (s, .error 1)
      | some p =>
        let s := s.block (s.areaHeld p.2 area)
        if s.areaServes p.2 area then (s, .ok (p.1, { p.2 with area := area })) else (s, .error 2)

/-- The record of a crew's launch. -/
def State.recordOf (s : State) (k : Crew) : BitVec 512 :=
  ((s.launches.find? fun p => p.1 == launchKey k.fn k.lid).map (·.2.record)).getD 0

/-- A resumption in progress at a die's port is tried on a C-die: the state once the crew runs or cannot any more, none where
it does not fit yet. -/
def State.tryResume (s : State) (d : Nat) (w : PrqWork) (target : Option Nat) (on : Nat) : Option State :=
  match s.crewOf w.crew with
  | none => some (s.endRequest d 1 w.start)
  | some k =>
    if s.areaHeld k w.area.toNat then none
    else if !(s.areaServes k w.area.toNat) then some (s.endRequest d 2 w.start)
    else
      match s.resumePlace k (s.recordOf k) target on with
      | none => none
      | some (cl, gs) => some ((s.resumeOn w.crew { k with area := w.area.toNat } cl gs).endRequest d 0 w.start)

/-- The C-die on which a resumption submitted at a die's port is tried first: the crew's own where it may not move. -/
def State.resumeDie (s : State) (d : Nat) (k : Crew) : Nat := if field (s.recordOf k) 189 1 = 0 then k.cluster / 16 else d

/-- A RESUME request at a die's port (R335) for a function. -/
def State.submitResume (s : State) (d f area : Nat) : State :=
  match s.savedAt f area with
  | (s, .error n) => s.endRequest d n s.clock
  | (s, .ok (key, k)) =>
    let w : PrqWork := { resume := true, crew := key, area := BitVec.ofNat 64 area, start := s.clock }
    match s.tryResume d w none (s.resumeDie d k) with
    | some t => t
    | none => s.setDie d { s.die d with prqstat := 0, prqWork := some w }

/-- The function a save area belongs to, for a request of the firmware, which names none: that of the crew saved there, else
the first in whose address space a header with its own number stands at the address. -/
def State.fnOfArea (s : State) (area : Nat) : Option Nat :=
  match s.crews.find? fun p => p.2.saved && p.2.area == area with
  | some p => some p.2.fn
  | none => (List.range 65).find? fun f => (s.fnOf f).part.isSome &&
      match (s.devRead (saveAgent f) .load area 64).2 with
      | .ok r => numAt r.1 8 2 == f
      | .error _ => false

/-- Some function's address space holds a readable header at the address. -/
def State.areaReads (s : State) (area : Nat) : Bool :=
  (List.range 65).any fun f => (s.fnOf f).part.isSome &&
    match (s.devRead (saveAgent f) .load area 64).2 with
    | .ok _ => true
    | .error _ => false

/-- The management controller as the writer of a port. -/
def mgmtWriter : Nat := noCtx

/-- A write of PRQ (R331) by a context, or by management. -/
def State.prqWrite (s : State) (d : Nat) (v : Word) (g : Nat) : State :=
  let x := s.die d
  if bit v 63 && x.prqWork.isSome then
    s.setDie d { x with prqBusy := if x.prqBusy.contains g then x.prqBusy else g :: x.prqBusy }
  else
    let s := s.setDie d { x with prq := v &&& 0x6000000000001FFF#64 }
    let area := x.prqaddr.toNat
    if !(bit v 63) then s
    else
      match bitsOf v.toNat 61 2 with
      | 0 =>
        if bitsOf v.toNat 8 3 ≠ d then s.endRequest d 1 s.clock
        else s.submitPreempt d (4 * bitsOf v.toNat 0 11 + bitsOf v.toNat 11 2) area none
      | 1 =>
        match s.fnOfArea area with
        | none => s.endRequest d (if s.areaReads area then 3 else 2) s.clock
        | some f => s.submitResume d f area
      | _ => s.endRequest d 3 s.clock

/-- A write of PRQ by management, answered busy while it serves another request (R331, R381). -/
def State.mgmtPrq (s : State) (d : Nat) (v : Word) : State :=
  if s.mgmtBusy then { s with answer := 2 } else { s.prqWrite d v mgmtWriter with answer := 0 }

/-! ### The events -/

/-- A thread stops: a push that waits on a stopped queue is abandoned (R274), and a TGET has taken nothing (R277). -/
def State.stopThread (s : State) (g : Nat) : State :=
  let c := s.ctx g
  let w := match c.wait with | some (.stopped _ _) => none | w => w
  (s.setCtx g { c with preempt := .stopped, wait := w, yielded := false }).handBack g

/-- THREAD_PREEMPTION_STOP (R97, R98): a thread that was asked stops at a boundary outside any trap handler. -/
def execThreadPreemptionStop (g : Nat) (s : State) : Out :=
  whenEnabled "THREAD_PREEMPTION_STOP" ((s.ctx g).live && (s.ctx g).stopsHere) (s.stopThread g)

/-- PREEMPT_DEFER_TIMEOUT (R97): 4,096 cycles after the request the thread stops inside its trap handler. -/
def execPreemptDeferTimeout (g : Nat) (s : State) : Out :=
  let c := s.ctx g
  whenEnabled "PREEMPT_DEFER_TIMEOUT" (c.live && c.inTrap && c.mayStop) (s.stopThread g)

/-- CREW_SAVE (R332, R336): every live thread of the crew has stopped; RESULT 1 where the crew has
ended, also for a resumption that waits. -/
def execCrewSave (die : Nat) (s : State) : Out :=
  match (s.die die).prqWork with
  | none => .refused (.notEnabled "CREW_SAVE")
  | some w =>
    match s.crewOf w.crew with
    | none => .next (s.endRequest die 1 w.start)
    | some k =>
      if w.resume then .refused (.notEnabled "CREW_SAVE")
      else
        whenEnabled "CREW_SAVE"
          (k.live.all fun i => match k.threads[i]? with
            | some g => (s.ctx g).preempt == .stopped
            | none => true) (s.saveCrew die w k)

/-- PRQ_PREEMPT (R331, R332): a write of PRQ with GO and KIND 0 from management. -/
def execPrqPreempt (die : Nat) (v : Word) (s : State) : Out :=
  whenEnabled "PRQ_PREEMPT" (bit v 63 && decide (bitsOf v.toNat 61 2 = 0) && decide (die < 8) &&
    s.mgmt && (s.die die).state == .present) (s.mgmtPrq die v)

/-- PRQ_RESUME (R331, R335): a write of PRQ with GO and KIND 1 from management. -/
def execPrqResume (die : Nat) (v : Word) (s : State) : Out :=
  whenEnabled "PRQ_RESUME" (bit v 63 && decide (bitsOf v.toNat 61 2 = 1) && decide (die < 8) &&
    s.mgmt && (s.die die).state == .present) (s.mgmtPrq die v)

/-- CREW_MOVE (R99, R331): the package scheduler resumes a saved crew whose launch may move on another cluster of its
partition, through the port of the cluster's C-die. -/
def execCrewMove (c cl : Nat) (s : State) : Out :=
  match s.crewOf c with
  | none => .refused (.notEnabled "CREW_MOVE")
  | some k =>
    let d := cl / 16
    let inside := match (s.fnOf k.fn).part with | some p => p.holds cl | none => false
    if !(k.saved && decide (field (s.recordOf k) 189 1 = 1) && inside && s.mgmt && (s.die d).prqWork.isNone) then
      .refused (.notEnabled "CREW_MOVE")
    else
      let s := s.setDie d { s.die d with prqaddr := BitVec.ofNat 64 k.area, prq := 0x2000000000000000#64 }
      match s.savedAt k.fn k.area with
      | (_, .error _) => .refused (.notEnabled "CREW_MOVE")
      | (s, .ok (key, k)) =>
        match s.resumePlace k (s.recordOf k) (some cl) d with
        | some (cl, gs) =>
          if key = c then .next ((s.resumeOn c k cl gs).endRequest d 0 s.clock) else .refused (.notEnabled "CREW_MOVE")
        | none => .refused (.notEnabled "CREW_MOVE")

/-- The resumptions of a function's crews that wait at the ports, by die. -/
def State.resumptions (s : State) (f : Nat) : List (Nat × PrqWork) :=
  (List.range 8).filterMap fun d =>
    ((s.die d).prqWork.filter fun w => w.resume && ((s.crewOf w.crew).map (·.fn)) == some f).map fun w => (d, w)

/-- A resumption of the function waits whose launch is of the level: new records of the level come after it (R99, R335). -/
def State.resumeFirst (s : State) (f lvl : Nat) : Bool :=
  (s.resumptions f).any fun p => (s.crewOf p.2.crew).any fun k => recLevel (s.recordOf k) == lvl

/-- A resumption that waits at a port is placed on the die, where it fits and may go there (R99). -/
def State.resumeHere (s : State) (die f : Nat) : Option State :=
  (s.resumptions f).findSome? fun p =>
    if (s.crewOf p.2.crew).any fun k => s.resumeDie die k == die then s.tryResume p.1 p.2 none die else none

/-- CREW_PLACEMENT (R85, R86, R99, R335): a resumption that waits goes first, also one of a lower level, which is the model's
choice (log 103); else the placer takes the next crew of the function, unless a resumption of its level waits. -/
def execCrewPlacement (die f : Nat) (s : State) : Out :=
  match s.resumeHere die f with
  | some t => .next t
  | none =>
    match s.placeNext die f (s.resumeFirst f) with
    | some t => .next t
    | none => .refused (.notEnabled "CREW_PLACEMENT")

end Sys2Proof.Machine
end

