-- ==== Sys2Proof/Machine/Crew.lean ====
section
/-! DEFINITION. Major 0x16: LAUNCH, CBAR, PRIO, TSLEEP and TWAKE (R83, R92 to R95), and the end of a sleep's bound. -/

namespace Sys2Proof.Machine

/-- A handler run is in progress in the running context. -/
def State.inHandler (s : State) : Bool := !s.me.handlers.isEmpty

/-- The running context waits: its instruction stands at the PC and runs again once the wait is over. -/
def State.waitOn (s : State) (w : Wait) : State := s.setMe { s.me with wait := some w }

/-- The older SCALAR and LANE stores of the running context are performed: a release within the package (R228). -/
def State.crewRelease (s : State) : State := s.drain s.cur fun p => p.path == .scalar || p.path == .lane

/-- A result that no source poisons. -/
def State.answerWith (s : State) (d : BitVec 5) (v : Nat) : State := s.retire d (BitVec.ofNat 64 v) false false

/-! ### LAUNCH (R83) -/

/-- A record that reached its queue is submitted, or waits with it where the queue is stopped (R83). On an absent die a
launch queue answers as a closed queue does (R359; log 45); on a way that is held the instruction waits (R361). -/
def State.launchRecord (s : State) (d : BitVec 5) (r : BitVec 512) : State :=
  let f := s.me.fn
  if (s.dieById f 0).any s.wayHeld then s.stall
  else if s.launchCheck f r = 0 ∧ !(s.reaches f (dieOf s.cur) ((s.dieById f 0).getD 0)) then s.answerWith d 4
  else if s.submitWaits f r then s.waitOn (.stopped (launchQueue f (recLevel r)) (recWords r))
  else
    match s.submit f s.me.level r with
    | (s, st) => s.answerWith d st

/-- LAUNCH from its start: a point of R124 since it waits for every older access, alignment, the release, the read. -/
def State.launchFrom (s : State) (d a : BitVec 5) : State :=
  s.atPoint fun s =>
    if s.rp a then s.poisonTrap a
    else if (s.rv a).toNat % 64 ≠ 0 then s.trapHere 0x2C6 (s.rv a)
    else
    match ((s.drainAll s.cur).flushMsg s.cur fun _ => true).load s.cur s.agent .load .scalar 15 (s.rv a).toNat 64 with
    | (s, .error x) => s.trapFault .load x
    | (s, .ok (bytes, poison)) =>
      if poison then s.poisonTrapAt (s.rv a) else s.launchRecord d (BitVec.ofNat 512 (leNat bytes))

/-- LAUNCH (R83). -/
def execLaunch (d a : BitVec 5) (s : State) : Out :=
  .next (match s.me.wait with
    | some (.answered v) => s.retire d v false false
    | some (.stopped _ ws) => s.launchRecord d (recOf ws)
    | _ => s.launchFrom d a)

/-! ### CBAR (R93) -/

/-- An arrival of the running thread at barrier `b` of crew `k`: it passes, or waits for the others. -/
def State.arrive (s : State) (d : BitVec 5) (k b : Nat) (c : Crew) : State :=
  let arrived := (c.arrivals[b]?).getD []
  let c' := { c with arrivals := c.arrivals.set b (s.me.tidx :: arrived) }.settle
  let s := { s with crews := aset s.crews k c' }
  if ((c'.arrivals[b]?).getD []).isEmpty then s.answerWith d arrived.length
  else s.waitOn (.cbar b arrived.length)

/-- CBAR from its start: a point of R124, range and handler checks, every older access performed. -/
def State.cbarFrom (s : State) (d a : BitVec 5) : State :=
  s.atPoint fun s =>
    if s.rp a then s.poisonTrap a
    else if 3 < (s.rv a).toNat then s.trapHere 0x2C4 (s.rv a)
    else if s.inHandler then s.trapHere 0x2C5 (s.rv a)
    else
    let t := s.drainAll s.cur
    match t.me.crew.bind fun k => (t.crewOf k).map fun c => (k, c) with
    | none => t.answerWith d 0
    | some (k, c) => t.arrive d k (s.rv a).toNat c

/-- CBAR (R93). -/
def execCbar (d a : BitVec 5) (s : State) : Out :=
  .next (match s.me.wait with
    | some (.cbar b rank) => if s.waitOver s.cur (.cbar b rank) then s.answerWith d rank else s
    | _ => s.cbarFrom d a)

/-! ### PRIO (R92) -/

/-- PRIO (R92): the new level is limited by IPRIO at user level, by 3 above it. -/
def execPrio (d a : BitVec 5) (s : State) : Out :=
  .next (if s.rp a then s.poisonTrap a
    else
      let c := s.me
      let top := if c.level = .user then c.iprio.toNat else 3
      (s.setMe { c with prio := BitVec.ofNat 2 (min (s.rv a).toNat top) }).answerWith d c.prio.toNat)

/-! ### TSLEEP and TWAKE (R94, R95) -/

/-- The wake bit is consumed, or the thread sleeps. -/
def State.sleep (s : State) (d : BitVec 5) (bound : Nat) : State :=
  if s.me.wake then (s.setMe { s.me with wake := false }).answerWith d 0 else s.waitOn (.tsleep bound)

/-- TSLEEP (R94): a point of R124, since it waits for every older instruction; TVAL of its trap is a, as CBAR's is
(log 27). -/
def execTsleep (d a : BitVec 5) (s : State) : Out :=
  .next (match s.me.wait with
    | some (.answered v) => s.retire d v false false
    | some (.tsleep bound) => s.sleep d bound
    | _ => s.atPoint fun s =>
      if s.rp a then s.poisonTrap a
      else if s.inHandler then s.trapHere 0x2C5 (s.rv a)
      else s.sleep d (s.rv a).toNat)

/-- The context of the thread with an index in the running thread's crew, while it lives. -/
def State.crewThread (s : State) (i : Nat) : Option Nat :=
  (s.me.crew.bind s.crewOf).bind fun c => if c.exited.contains i then none else c.threads[i]?

/-- TWAKE (R95): a release at crew scope, so a point of R124. -/
def execTwake (d a : BitVec 5) (s : State) : Out :=
  .next (s.atPoint fun s =>
    if s.rp a then s.poisonTrap a
    else
      let t := s.crewRelease
      match t.crewThread (s.rv a).toNat with
      | none => t.answerWith d 2
      | some g =>
        (t.setCtx g { t.ctx g with wake := true }).answerWith d (if (t.ctx g).wake then 1 else 0))

/-- The handler frames with the wait of the innermost one that has the property answered. -/
def answerFrames (mine : Wait → Bool) (v : Word) : List HandlerFrame → Option (List HandlerFrame)
  | [] => none
  | h :: rest =>
    match h.wait with
    | some w =>
      if mine w then some ({ h with wait := some (.answered v) } :: rest)
      else (answerFrames mine v rest).map (h :: ·)
    | none => (answerFrames mine v rest).map (h :: ·)

/-- The context's innermost wait with the property, its own or one that a handler run interrupted, is answered. -/
def Ctx.answerWait (c : Ctx) (mine : Wait → Bool) (v : Word) : Option Ctx :=
  if (c.wait.map mine).getD false then some { c with wait := some (.answered v) }
  else (answerFrames mine v c.handlers).map fun hs => { c with handlers := hs }

/-- A bound of a wait passed: the wait ends with an answer. -/
def State.endWait (s : State) (g : Nat) (mine : Wait → Bool) (v : Word) (name : String) : Out :=
  match (s.ctx g).answerWait mine v with
  | some c => whenEnabled name (s.ctx g).live (s.setCtx g c)
  | none => .refused (.notEnabled name)

/-- TSLEEP_TIMEOUT (R94): the bound of a sleep passed. -/
def execTsleepTimeout (g : Nat) (s : State) : Out :=
  s.endWait g (fun w => match w with | .tsleep b => b != 0 | _ => false) 1 "TSLEEP_TIMEOUT"

end Sys2Proof.Machine
end

