-- ==== Sys2Proof/Machine/Mailbox.lean ====
section
/-! DEFINITION. Majors 0x32 and 0x34: messages, channels and handler runs (R243 to R254), engine commands (R258), and
the events of waits and handler runs. -/

namespace Sys2Proof.Machine

/-! ### SEND, SEND.P and ENG (R248, R258) -/

/-- The four consecutive registers from one on. -/
def fourFrom (k : BitVec 5) : List (BitVec 5) := [k, k + 1, k + 2, k + 3]

/-- The registers a payload is read from: four, or none where the field is 0 (R247). -/
def payloadRegs (k : BitVec 5) : List (BitVec 5) := if k = 0 then [] else fourFrom k

/-- The four registers as a payload; 32 zero bytes where the field is 0 (R247). -/
def State.payload (s : State) (k : BitVec 5) : BitVec 256 :=
  if k = 0 then 0 else s.rv (k + 3) ++ s.rv (k + 2) ++ s.rv (k + 1) ++ s.rv k

/-- One of the payload's registers is poisoned. -/
def State.payloadPoison (s : State) (k : BitVec 5) : Bool := (payloadRegs k).any fun r => s.rp r

/-- A message of the running thread, of the given kind and payload. -/
def State.ownWire (s : State) (dest cls kind : Nat) (payload : BitVec 256) (poison : Bool) : Wire :=
  { src := s.senderEndpoint s.cur, sender := some s.cur, level := s.me.level, crew := s.me.crew, fn := s.me.fn,
    dest := dest, cls := cls, kind := kind, payload := payload, poison := poison }

/-- The destination is an engine, for which the payload is a command. -/
def Target.isEngine : Target → Bool
  | .engine _ _ => true
  | _ => false

/-- What the sending instructions check: the endpoint register, then its layout, then a poisoned command register. -/
def State.sendChecks (s : State) (a b : BitVec 5) (k : State → State) : State :=
  if s.rp b then s.poisonTrap b
  else if !(wellFormedEndpoint (s.rv b).toNat) then s.trapOpen 0x200
  else if (s.target s.me.fn (s.rv b).toNat).isEngine then
    match (payloadRegs a).find? fun r => s.rp r with
    | some r => s.poisonTrap r
    | none => k s
  else k s

/-- The message goes out and the thread waits for its status; an island that is being reset holds it (R361). -/
def State.sendAndWait (s : State) (d : BitVec 5) (w : Wire) : State :=
  match s.target w.fn w.dest with
  | .remote _ => (s.post { w with waits := true }).waitOn .remoteStatus
  | _ =>
    if s.wireHeld w then s.stall else
    match s.offerAny w with
    | (s, st) => s.retire d (BitVec.ofNat 64 st) false w.poison

/-- SEND (R248). -/
def execSend (d a b : BitVec 5) (c : BitVec 4) (s : State) : Out :=
  .next (match s.me.wait with
    | some (.answered v) => s.retire d v false (s.payloadPoison a)
    | some .remoteStatus => s
    | _ => s.sendChecks a b fun s =>
      (s.flushMsg s.cur (ordered c.toNat)).sendAndWait d
        (s.ownWire (s.rv b).toNat c.toNat 0 (s.payload a) (s.payloadPoison a)))

/-- SEND.P (R248). -/
def execSendP (a b : BitVec 5) (c : BitVec 4) (s : State) : Out :=
  .next (s.sendChecks a b fun s =>
    let w := s.ownWire (s.rv b).toNat c.toNat 0 (s.payload a) (s.payloadPoison a)
    let s := s.post w
    (s.setMe (s.me.consume w.poison)).advance)

/-- ENG (R258): an endpoint that is no engine of this device is absent, and so is an engine of another device (log 36); the
COPY path orders it by nothing older that is still pending. -/
def execEng (d a b : BitVec 5) (c : BitVec 4) (s : State) : Out :=
  .next (if s.rp b then s.poisonTrap b
    else if !(wellFormedEndpoint (s.rv b).toNat) then s.trapOpen 0x200
    else
      match (payloadRegs a).find? fun r => s.rp r with
      | some r => s.poisonTrap r
      | none =>
        let w := s.ownWire (s.rv b).toNat c.toNat 0 (s.payload a) false
        if (s.target w.fn w.dest).isEngine then
          if s.wireHeld w then s.stall else
          match s.offerAny w with
          | (s, st) => s.retire d (BitVec.ofNat 64 st) false false
        else (s.count w.fn fun u => { u with refused := u.refused + 1 }).retire d 2 false false)

/-! ### Channels (R242 to R244, R250 to R254) -/

/-- The thread may name the channel at its level (R242). -/
def State.ownsChannel (s : State) (ch : Nat) : Bool :=
  let w := (s.chan (coreOf s.cur) ch).binding
  s.me.level != .user || !(bindBound w) || bindCtx w = s.cur % 4

/-- What the channel instructions check: poisoned operands, the channel's range, its owner. -/
def State.chanChecks (s : State) (a : BitVec 5) (others : List (BitVec 5)) (k : Nat → State → State) : State :=
  match (a :: others).find? fun r => s.rp r with
  | some r => s.poisonTrap r
  | none =>
    if 63 < (s.rv a).toNat then s.trapOpen 0x202
    else if !(s.ownsChannel (s.rv a).toNat) then s.trapOpen 0x201
    else k (s.rv a).toNat s

/-- Channel `ch` of the running core changed, unless it is held (R242). -/
def State.updChan (s : State) (ch : Nat) (upd : Channel → Channel) : State :=
  let x := s.chan (coreOf s.cur) ch
  if x.held then s else s.setChan (coreOf s.cur) ch (upd x)

/-- The four data registers written with a payload. -/
def Ctx.setFour (c : Ctx) (k : BitVec 5) (m : BitVec 256) (p : Bool) : Ctx :=
  (((c.setReg k (m.extractLsb' 0 64) p).setReg (k + 1) (m.extractLsb' 64 64) p).setReg (k + 2)
    (m.extractLsb' 128 64) p).setReg (k + 3) (m.extractLsb' 192 64) p

/-- The head message of a channel, if it can be taken. -/
def Channel.head (x : Channel) : Option Msg := if x.held then none else x.fifo.head?

/-- MPOP (R250). -/
def execMpop (d a b : BitVec 5) (c : BitVec 4) (s : State) : Out :=
  .next (s.chanChecks a [] fun ch s =>
    let s := s.flushMsg s.cur (ordered c.toNat)
    match (s.chan (coreOf s.cur) ch).head with
    | none => s.retire d 0 false false
    | some m =>
      let lost := ch == 63 && (s.chan (coreOf s.cur) ch).lost
      let s := s.updChan ch fun x => { x with fifo := x.fifo.drop 1, lost := false }
      let s := s.setMe (s.me.setFour b m.payload m.poison)
      s.retire d (m.tag ||| BitVec.ofNat 64 (ofBool lost * 2 ^ 38)) false m.poison)

/-- MRET (R251): RUN ends unless an outer run of the same channel is still in progress. -/
def execMret (s : State) : Out :=
  .next (match s.me.handlers with
    | [] => s.trapOpen 0x203
    | h :: rest =>
      let core := coreOf s.cur
      let x := s.chan core h.chan
      let s := s.setChan core h.chan
        { x with run := rest.any (fun r => r.chan == h.chan), pend := x.pend || !x.fifo.isEmpty }
      let c := s.me
      s.setMe { c with handlers := rest, pc := h.pc, level := h.level, wait := h.wait, handed := h.handed, reissue := none, cut := none })

/-- WAITM (R252). -/
def execWaitm (d a b : BitVec 5) (s : State) : Out :=
  .next (match s.me.wait with
    | some (.answered v) => s.retire d v false false
    | some (.waitm ch _) =>
      if (s.chan (coreOf s.cur) ch).fifo.isEmpty then s else s.retire d 0 false false
    | _ => s.chanChecks a [b] fun ch s =>
      if (s.chan (coreOf s.cur) ch).fifo.isEmpty then s.waitOn (.waitm ch (s.rv b).toNat)
      else s.retire d 0 false false)

/-- A binding word keeps to R243 at a level. -/
def goodBinding (w : Word) (l : Level) : Bool :=
  bitsOf w.toNat 63 1 = 0 && bitsOf w.toNat 0 2 = 0 && (bindBound w || w == 0) && !(l == .user && bindSup w)

/-- CHBIND (R253). -/
def execChbind (d a b : BitVec 5) (s : State) : Out :=
  .next (s.chanChecks a [b] fun ch s =>
    let w := s.rv b
    if !(goodBinding w s.me.level) then s.trapOpen 0x202
    else if s.me.level = .user ∧ bindBound w ∧ bindCtx w ≠ s.cur % 4 then s.trapOpen 0x201
    else
      let old := (s.chan (coreOf s.cur) ch).binding
      (s.updChan ch fun x => { x with binding := w }).retire d old false false)

/-- CHEN and CHDIS (R254): the old EN is written; on an unbound channel nothing changes. -/
def State.setEnable (s : State) (d a : BitVec 5) (en : Bool) : State :=
  s.chanChecks a [] fun ch s =>
    let old := (s.chan (coreOf s.cur) ch).binding
    let s := s.updChan ch fun x =>
      if bindBound x.binding then
        { x with binding := if en then x.binding ||| BitVec.twoPow 64 61 else x.binding &&& ~~~(BitVec.twoPow 64 61) }
      else x
    s.retire d (BitVec.ofNat 64 (ofBool (bindBound old && bindEn old))) false false

/-- CHEN (R254). -/
def execChen (d a : BitVec 5) (s : State) : Out := .next (s.setEnable d a true)

/-- CHDIS (R254). -/
def execChdis (d a : BitVec 5) (s : State) : Out := .next (s.setEnable d a false)

/-- CHPEND (R254): the state word before the action that sb selects. -/
def State.chpend (s : State) (d a b : BitVec 5) : State :=
  s.chanChecks a [b] fun ch s =>
    if 2 < (s.rv b).toNat then s.trapOpen 0x202
    else
      let old := (s.chan (coreOf s.cur) ch).stateWord
      let act := (s.rv b).toNat
      (s.updChan ch fun x => if act = 1 then { x with pend := true } else if act = 2 then { x with pend := false } else x)
        |>.retire d old false false

/-- CHPEND_READ (R254). -/
def execChpendRead (d a b : BitVec 5) (s : State) : Out := .next (s.chpend d a b)

/-- CHPEND_SET (R254). -/
def execChpendSet (d a b : BitVec 5) (s : State) : Out := .next (s.chpend d a b)

/-- CHPEND_CLEAR (R254). -/
def execChpendClear (d a b : BitVec 5) (s : State) : Out := .next (s.chpend d a b)

/-! ### Events -/

/-- A handler run starts (R246). -/
def State.startHandler (s : State) (g ch : Nat) : State :=
  let x := s.chan (coreOf g) ch
  let c := s.ctx g
  let h : HandlerFrame := { pc := c.pc, level := c.level, prio := bindPrio x.binding, chan := ch, wait := c.wait, handed := c.handed }
  let s := s.setChan (coreOf g) ch { x with pend := false, run := true }
  s.setCtx g { c with
    handlers := h :: c.handlers, wait := none, handed := none, pc := bindPc x.binding,
    level := if bindSup x.binding then .supervisor else .user }

/-- HANDLER_RUN (R246): the eligible channel of highest priority starts its run. -/
def execHandlerRun (g : Nat) (s : State) : Out :=
  match s.eligibleChan g with
  | none => .refused (.notEnabled "HANDLER_RUN")
  | some ch => .next (s.startHandler g ch)

/-- WAITM_TIMEOUT (R252). -/
def execWaitmTimeout (g : Nat) (s : State) : Out :=
  s.endWait g (fun w => match w with | .waitm _ b => b != 0 | _ => false) 1 "WAITM_TIMEOUT"

/-- BWAIT_TIMEOUT (R266). -/
def execBwaitTimeout (g : Nat) (s : State) : Out :=
  s.endWait g (fun w => match w with | .bwait _ _ _ b => b != 0 | _ => false) 1 "BWAIT_TIMEOUT"

end Sys2Proof.Machine
end

