-- ==== Sys2Proof/Machine/Tasks.lean ====
section
/-! DEFINITION. Task queues, tile queues and dependence counters: major 0x36 (R271 to R281, R286), and the scheduler's
dispatch. -/

namespace Sys2Proof.Machine

/-! ### Handles and assignments (R271, R280, R374) -/

/-- A function's queues and counters on a die. -/
def Fn.range (x : Fn) (d : Nat) : QRange := aget { q0 := 0, qn := 0, c0 := 0, cn := 0 } x.assigned d

/-- The queue is assigned to the function, and has gone to no other since (R374). -/
def State.ownsQueue (s : State) (f d q : Nat) : Bool :=
  let r := (s.fnOf f).range d
  decide (r.q0 ≤ q) && decide (q < r.q0 + r.qn) &&
    !((aget [] (s.fnOf f).reassigned d).any fun r => decide (r.q0 ≤ q) && decide (q < r.q0 + r.qn))

/-- The counter is assigned to the function, and has gone to no other since (R374). -/
def State.ownsCounter (s : State) (f d c : Nat) : Bool :=
  let r := (s.fnOf f).range d
  decide (r.c0 ≤ c) && decide (c < r.c0 + r.cn) &&
    !((aget [] (s.fnOf f).reassigned d).any fun r => decide (r.c0 ≤ c) && decide (c < r.c0 + r.cn))

/-- The queue a handle without CTL names; none where it raises TASK_QUEUE. -/
def State.queueOf (s : State) (f : Nat) (h : Word) (bound : Bool) : Option Nat :=
  if bitsOf h.toNat 48 16 ≠ 0 ∨ bitsOf h.toNat 11 5 ≠ 0 ∨ (!bound ∧ bitsOf h.toNat 16 32 ≠ 0) then none
  else
    match s.dieById f (bitsOf h.toNat 8 3) with
    | none => none
    | some d => if s.ownsQueue f d (bitsOf h.toNat 0 8) then some (256 * d + bitsOf h.toNat 0 8) else none

/-- The counter that a die number and a counter number name, at 4096·die + number; none where it is not the function's. -/
def State.counterOf (s : State) (f v : Nat) : Option Nat :=
  match s.dieById f (bitsOf v 12 3) with
  | none => none
  | some d => if s.ownsCounter f d (bitsOf v 0 12) then some (4096 * d + bitsOf v 0 12) else none

/-- The queue answers on this die: the die is present and reached, and the queue is open (R276, R359). -/
def State.queueAnswers (s : State) (q : Nat) : Bool :=
  s.reaches s.me.fn (dieOf s.cur) (s.queueDie q) && (isLaunchQueue q || (s.queueAt q).isOpen)

/-! ### Counters (R280) -/

/-- A counter's value. -/
def State.counter (s : State) (k : Nat) : BitVec 32 := aget 0 (s.die (k / 4096)).counters (k % 4096)

/-- A task parked on the counter becomes dispatchable. -/
def Parked.wake (p : Parked) (c : Nat) : Parked :=
  if bitsOf p.header.1.toNat 17 12 = c then { p with ready := true } else p

/-- A counter set; at zero the tasks parked on it become dispatchable. -/
def State.setCounter (s : State) (k : Nat) (v : BitVec 32) : State :=
  let d := s.die (k / 4096)
  s.setDie (k / 4096) { d with
    counters := aput 0 d.counters (k % 4096) v
    queues := if v = 0 then d.queues.map fun q => (q.1, { q.2 with parked := q.2.parked.map fun p => p.wake (k % 4096) })
      else d.queues }

/-- A signal to an absent die is lost and recorded (R359; the cause is a free value, log 46). -/
def State.lostSignal (s : State) (d f : Nat) : State :=
  (s.record d { cause := s.freeCause d, vf := f, unit := 7 }).tick

/-- −1 is added to the counter that SIGC names (R279, R286): the new value, or none where the signal is lost. -/
def State.signal (s : State) (f sigc from_ : Nat) : State × Option (BitVec 32) :=
  match s.dieById f (bitsOf sigc 12 3) with
  | none => (s, none)
  | some d =>
    if s.reaches f from_ d then
      let k := 4096 * d + bitsOf sigc 0 12
      let v := s.counter k - 1
      (s.setCounter k v, some v)
    else (s.lostSignal d f, none)

/-! ### Releases (R278) -/

/-- The older SCALAR and LANE stores are performed, and the older messages of the class, since task updates travel on
the MSG path (R226). -/
def State.taskRelease (s : State) (cls : Nat) : State :=
  s.barrierRelease.flushMsg s.cur (ordered cls)

/-! ### Control actions (R271, R272) -/

/-- A reserved bit of a control handle is set (R271). -/
def badControl (h : Word) : Bool :=
  bit h 62 || bitsOf h.toNat 16 43 != 0 || bitsOf h.toNat 11 5 != 0 || (bit h 59 && bitsOf h.toNat 2 9 != 0)

/-- The queue a control handle names: none where it raises TASK_QUEUE. -/
def State.controlQueue (s : State) (f : Nat) (h : Word) : Option Nat :=
  if badControl h then none
  else if bit h 59 then some (launchQueue f (bitsOf h.toNat 0 2))
  else
    match s.dieById f (bitsOf h.toNat 8 3) with
    | none => none
    | some d => if s.ownsQueue f d (bitsOf h.toNat 0 8) then some (256 * d + bitsOf h.toNat 0 8) else none

/-- A queue descriptor keeps to R272. -/
def goodDescriptor (lq : Bool) (ws : List Word) : Bool :=
  let w (i : Nat) : Nat := ((ws[i]?).getD 0).toNat
  let tile := bitsOf (w 1) 28 1 = 1
  let trowb := bitsOf (w 2) 0 32
  bitsOf (w 0) 0 12 = 0 && decide (12 ≤ bitsOf (w 1) 0 6) && decide (bitsOf (w 1) 0 6 ≤ 30) && bitsOf (w 1) 29 35 = 0 &&
  !(lq && decide tile) && bitsOf (w 2) 32 32 = 0 &&
  (if tile then trowb % 64 = 0 && decide (64 ≤ trowb) && decide (trowb ≤ 16384) else trowb = 0) &&
  (bitsOf (w 1) 23 1 = 0 || bitsOf (w 1) 6 6 = 0) &&
  w 3 = 0 && w 4 = 0 && w 5 = 0 && w 6 = 0 && w 7 = 0

/-- What OPEN sets from a descriptor, over what the queue holds. -/
def Queue.openWith (x : Queue) (ws : List Word) (level : Level) (f : Nat) : Queue :=
  let w (i : Nat) : Nat := ((ws[i]?).getD 0).toNat
  { x with
    isOpen := true, ring := true, rbase := (ws[0]?).getD 0, rlog2 := bitsOf (w 1) 0 6, supep := bitsOf (w 1) 6 18,
    oc := bitsOf (w 1) 24 4, tile := bitsOf (w 1) 28 1 = 1, trowb := bitsOf (w 2) 0 32, level := level, fn := f,
    head := 0, used := 0, ringed := 0 }

/-- OPEN of a queue with a good descriptor: the status. A launch queue whose old ring still holds records is busy
(log 47). -/
def State.openQueue (s : State) (q : Nat) (ws : List Word) : State × Nat :=
  let x := s.queueAt q
  if isLaunchQueue q then
    if x.used = 0 then (s.setQueueAt q (x.openWith ws s.me.level s.me.fn), 0) else (s, 5)
  else if x.isOpen then (s, 5)
  else (s.setQueueAt q (({} : Queue).openWith ws s.me.level s.me.fn), 0)

/-- Every wait of the context with the property, its own and those that handler runs interrupted, is answered; a TGET that
was handed an item is not (R277). -/
def Ctx.answerAll (c : Ctx) (mine : Wait → Bool) (v : Word) : Ctx :=
  let ended (w : Option Wait) (handed : Bool) : Option Wait :=
    match w with
    | some (.tget q n) => if mine (.tget q n) && !handed then some (.answered v) else w
    | some x => if mine x then some (.answered v) else w
    | none => none
  { c with
    wait := ended c.wait c.handed.isSome
    handlers := c.handlers.map fun h => { h with wait := ended h.wait h.handed.isSome } }

/-- The threads that wait on a queue, with the given kind of wait, are answered. -/
def State.answerAll (s : State) (mine : Wait → Bool) (v : Word) : State :=
  { s with ctxs := s.ctxs.map fun p => (p.1, p.2.answerAll mine v) }

/-- A wait of TGET on a queue. -/
def Wait.isTget (q : Nat) : Wait → Bool
  | .tget p _ => p == q
  | _ => false

/-- A wait of a push on a stopped queue. -/
def Wait.isStopped (q : Nat) : Wait → Bool
  | .stopped p _ => p == q
  | _ => false

/-- A thread's TGET was handed an item of the queue that it has not taken yet (log 105). -/
def State.inHand (s : State) (q : Nat) : Bool :=
  s.ctxs.any fun p => (p.2.handed.toList ++ p.2.handlers.filterMap (·.handed)).any fun i => i.1.queue == q

/-- CLOSE: the status. -/
def State.closeQueue (s : State) (q : Nat) : State × Nat :=
  let x := s.queueAt q
  if !x.isOpen then (s, 4)
  else if !x.chip.isEmpty || x.used != 0 || !x.parked.isEmpty || !x.tiles.isEmpty || s.inHand q then (s, 5)
  else ((s.setQueueAt q {}).answerAll (Wait.isTget q) 4, 0)

/-- RESUME: the status. -/
def State.resumeQueue (s : State) (q : Nat) : State × Nat :=
  let x := s.queueAt q
  if !isLaunchQueue q && !x.isOpen then (s, 4)
  else if !x.stopped then (s, 5)
  else (s.setQueueAt q { x with stopped := false }, 0)

/-- The fields of an entry over those of the entry before it (R273). -/
def expandFields : Nat → Nat → List (Word × Bool) → List (Word × Bool) → List (Word × Bool)
  | 0, _, _, _ => []
  | n + 1, mask, prev, ws =>
    if mask % 2 = 1 then
      ws.headD (0, false) :: expandFields n (mask / 2) (prev.drop 1) (ws.drop 1)
    else prev.headD (0, false) :: expandFields n (mask / 2) (prev.drop 1) ws

/-- The 16 fields an entry expands to. -/
def expandEntry (prev : List (Word × Bool)) (ws : List (Word × Bool)) : List (Word × Bool) :=
  expandFields 16 (bitsOf (ws.headD (0, false)).1.toNat 0 16) prev (ws.drop 1)

/-- The entries of a ring as far as they can be read, for the fields that discarded entries leave (log 48). -/
def State.ringAll (s : State) (q : Nat) : Nat → Nat → Nat → List (List (Word × Bool))
  | 0, _, _ => []
  | fuel + 1, off, left =>
    if left = 0 then []
    else
      match (s.ringRead q off 1).2 with
      | .error _ => []
      | .ok hs =>
        let n := entryWords q (s.queueAt q).tile ((hs.head?.map (·.1)).getD 0)
        match (s.ringRead q off n).2 with
        | .error _ => []
        | .ok ws => ws :: s.ringAll q fuel (off + 8 * n) (left - 8 * n)

/-- A purged launch queue's records: those that placed no crew are discarded with their launches (log 49), and the age of a
head that goes with them (R85). -/
def State.purgeLaunches (s : State) (q : Nat) : State :=
  let x := s.queueAt q
  let f := (q - 65536) / 4
  let kept := x.chip.filter fun e =>
    ((s.launches.find? fun p => p.1 == launchKey f e.lid).map fun p => decide (0 < p.2.placed)).getD false
  let gone := (x.chip.filter fun e => !kept.contains e).map (·.lid) ++ x.beside.map (·.2)
  let s := s.setQueueAt q { x with chip := kept, head := 0, used := 0, ringed := 0, beside := [], stopped := false }
  let lvl := (q - 65536) % 4
  let aged := aget false (s.fnOf f).headAge lvl && kept.head? == x.chip.head?
  { s.setFn f { s.fnOf f with headAge := aput false (s.fnOf f).headAge lvl aged } with
    launches := s.launches.filter fun p => !(gone.any fun l => p.1 == launchKey f l) }

/-- The tiles of a record. -/
def tileCount (ws : List (Word × Bool)) : Nat := (bitsOf (ws.headD (0, false)).1.toNat 16 24 + 31) / 32

/-- PURGE: the status. What threads have taken is not touched: of a tile record begun the tiles not handed out go, and a
record all of whose tiles were handed out stays whole (R272, R286). -/
def State.purgeQueue (s : State) (q : Nat) : State × Nat :=
  let x := s.queueAt q
  if isLaunchQueue q then ((s.purgeLaunches q).answerAll (Wait.isStopped q) 0x2C3, 0)
  else if !x.isOpen then (s, 4)
  else
    let all := x.chip.map (·.words) ++ s.ringAll q (x.used / 8) x.head x.used
    let prev := if x.tile then x.prev else all.foldl expandEntry x.prev
    let tiles := (x.tiles.map fun t => { t with
        purged := t.purged || decide (t.next < tileCount t.words) || !t.back.isEmpty
        next := t.next - t.back.length, back := [] }).filter fun t => decide (t.done < t.next)
    let x' := { x with chip := [], head := 0, used := 0, ringed := 0, prev := prev, parked := [], tiles := tiles, stopped := false }
    ((s.setQueueAt q x').answerAll (Wait.isStopped q) 3, 0)

/-- A descriptor that OPEN reads: the words, or the state that trapped. -/
def State.readDescriptor (s : State) (a : Word) (cls n : Nat) : State × Except State (List (Word × Bool)) :=
  match s.load s.cur s.agent .load .scalar cls a.toNat (8 * n) with
  | (s, .error x) => (s, .error (s.trapFault .load x))
  | (s, .ok (bytes, poison)) =>
    if poison then (s, .error (s.poisonTrapAt a)) else (s, .ok ((wordsOf bytes n).map fun w => (w, false)))

/-- A control action (R271, R272): the reserved bits, the level, the assignment, then the action of the code; that order is
the model's reading (log 22). -/
def State.control (s : State) (d a b : BitVec 5) (cls : Nat) : State :=
  let h := s.rv b
  let act := bitsOf h.toNat 60 2
  if badControl h then s.trapOpen 0x280
  else if s.me.level = .user then s.trapOpen 0x281
  else
    match s.controlQueue s.me.fn h with
    | none => s.trapOpen 0x280
    | some q =>
      if s.wayHeld (s.queueDie q) then s.stall else
      let there := s.reaches s.me.fn (dieOf s.cur) (s.queueDie q)
      let answer (r : State × Nat) : State := r.1.answerWith d r.2
      if act = 0 then
        match s.readDescriptor (s.rv a) cls 8 with
        | (_, .error t) => t
        | (s, .ok ws) =>
          if !(goodDescriptor (isLaunchQueue q) (ws.map (·.1))) then s.trapOpen 0x280
          else if !there then s.answerWith d 4
          else answer (s.openQueue q (ws.map (·.1)))
      else if act = 1 ∧ isLaunchQueue q then s.trapOpen 0x280
      else if !there then s.answerWith d 4
      else if act = 1 then answer (s.closeQueue q)
      else if act = 2 then answer (s.resumeQueue q)
      else answer (s.purgeQueue q)

/-! ### TQPUSH and TILEQ (R276, R286) -/

/-- A tile record with no rows is accepted with its signal, and dispatches nothing (R286). -/
def State.acceptEmpty (s : State) (q : Nat) (ws : List (Word × Bool)) : State :=
  let f := s.queueFn q
  let w3 := ((ws[3]?).getD (0, false)).1.toNat
  let s := s.count f fun u => { u with pushes := u.pushes + 1 }
  if bitsOf w3 15 1 = 1 then (s.signal f (bitsOf w3 0 15) (s.queueDie q)).1 else s

/-- An entry that reached its queue: held on its way, closed, waiting on a stopped queue, or appended. -/
def State.pushEntry (s : State) (d : BitVec 5) (q : Nat) (ws : List (Word × Bool)) (p : Bool) : State :=
  if s.wayHeld (s.queueDie q) then s.stall
  else if !(s.queueAnswers q) then s.retire d 4 false p
  else if (s.queueAt q).stopped then s.waitOn (.stopped q ws)
  else if (s.queueAt q).tile ∧ tileCount ws = 0 then (s.acceptEmpty q ws).retire d 0 false p
  else
    match s.appendEntry q ws s.me.level 0 with
    | (s, st) => s.retire d (BitVec.ofNat 64 st) false p

/-- The words of an entry after its header, each with its poison. -/
def State.readFields (s : State) (cls : Nat) : Nat → Nat → State × Except AccFault (List (Word × Bool))
  | _, 0 => (s, .ok [])
  | a, n + 1 =>
    match s.load s.cur s.agent .load .scalar cls a 8 with
    | (s, .error x) => (s, .error x)
    | (s, .ok (bytes, p)) =>
      match s.readFields cls ((a + 8) % 2 ^ 64) n with
      | (s, .error x) => (s, .error x)
      | (s, .ok ws) => (s, .ok ((BitVec.ofNat 64 (leNat bytes), p) :: ws))

/-- The counters a header names are the function's: else the TVAL of TASK_CNT (R276). -/
def State.badCounter (s : State) (f q : Nat) (h : Word) : Option Nat :=
  if bit h 16 ∧ !(s.ownsCounter f (q / 256) (bitsOf h.toNat 17 12)) then some (bitsOf h.toNat 17 12)
  else if bit h 29 ∧ (s.counterOf f (bitsOf h.toNat 30 15)).isNone then some (bitsOf h.toNat 30 15)
  else none

/-- TQPUSH of a task entry. -/
def State.pushTask (s : State) (d a : BitVec 5) (h : Word) (cls : Nat) : State :=
  match s.queueOf s.me.fn h false with
  | none => s.trapOpen 0x280
  | some q =>
    if (s.queueAt q).isOpen ∧ (s.queueAt q).tile then s.trapHere 0x286 h
    else
      match s.readDescriptor (s.rv a) cls 1 with
      | (_, .error t) => t
      | (s, .ok hs) =>
        let hdr := (hs.headD (0, false)).1
        if !(goodHeader hdr) || (s.rv a).toNat % 8 ≠ 0 then s.trapHere 0x283 (s.rv a)
        else
          match s.badCounter s.me.fn q hdr with
          | some v => s.trapHere 0x282 (BitVec.ofNat 64 v)
          | none =>
            match s.readFields cls ((s.rv a).toNat + 8) (entryWords q false hdr - 1) with
            | (s, .error x) => s.trapFault .load x
            | (s, .ok fs) => (s.taskRelease cls).pushEntry d q (hs ++ fs) (fs.any (·.2))

/-- TILEQ of a tile record. -/
def State.pushTile (s : State) (d a : BitVec 5) (h : Word) (cls : Nat) : State :=
  match s.queueOf s.me.fn h false with
  | none => s.trapOpen 0x280
  | some q =>
    if (s.queueAt q).isOpen ∧ !(s.queueAt q).tile then s.trapHere 0x286 h
    else
      match s.readDescriptor (s.rv a) cls 4 with
      | (_, .error t) => t
      | (s, .ok ws) =>
        let w3 := ((ws[3]?).getD (0, false)).1.toNat
        if !(goodTile (ws.map (·.1))) || (s.rv a).toNat % 32 ≠ 0 then s.trapHere 0x283 (s.rv a)
        else if bitsOf w3 15 1 = 1 ∧ (s.counterOf s.me.fn (bitsOf w3 0 15)).isNone then
          s.trapHere 0x282 (BitVec.ofNat 64 (bitsOf w3 0 15))
        else (s.taskRelease cls).pushEntry d q ws false

/-- The start of TQPUSH and of TILEQ, releases and so points of R124, and the going on after a wait. -/
def State.pushInsn (s : State) (d a b : BitVec 5) (k : State → State) : State :=
  match s.me.wait with
  | some (.answered v) => s.retire d v false false
  | some (.stopped q ws) => s.pushEntry d q ws (ws.any (·.2))
  | _ => s.atPoint fun s => if s.rp a then s.poisonTrap a else if s.rp b then s.poisonTrap b else k s

/-- TQPUSH: a control action or a push (R271, R276). -/
def State.tqpush (s : State) (d a b : BitVec 5) (cls : Nat) : State :=
  s.pushInsn d a b fun s => if bit (s.rv b) 63 then s.control d a b cls else s.pushTask d a (s.rv b) cls

/-- TQPUSH (R276). -/
def execTqpush (d a b : BitVec 5) (c : BitVec 4) (s : State) : Out := .next (s.tqpush d a b c.toNat)

/-- OPEN (R272). -/
def execQueueOpen (d a b : BitVec 5) (c : BitVec 4) (s : State) : Out := .next (s.tqpush d a b c.toNat)

/-- CLOSE (R272). -/
def execQueueClose (d a b : BitVec 5) (c : BitVec 4) (s : State) : Out := .next (s.tqpush d a b c.toNat)

/-- RESUME (R272). -/
def execQueueResume (d a b : BitVec 5) (c : BitVec 4) (s : State) : Out := .next (s.tqpush d a b c.toNat)

/-- PURGE (R272). -/
def execQueuePurge (d a b : BitVec 5) (c : BitVec 4) (s : State) : Out := .next (s.tqpush d a b c.toNat)

/-- TILEQ (R286): a control handle raises TASK_QUEUE. -/
def execTileq (d a b : BitVec 5) (c : BitVec 4) (s : State) : Out :=
  .next (s.pushInsn d a b fun s => s.pushTile d a (s.rv b) c.toNat)

/-! ### TGET (R277) -/

/-- Words stored one after the other on the SCALAR path, each with its own poison. -/
def State.storeWords (s : State) (cls : Nat) : Nat → List (Word × Bool) → State × Except AccFault Unit
  | _, [] => (s, .ok ())
  | a, (w, p) :: rest =>
    match s.store s.cur s.agent .store .scalar cls a (leBytes 8 w.toNat) p with
    | (s, .error x) => (s, .error x)
    | (s, .ok ()) => s.storeWords cls ((a + 8) % 2 ^ 64) rest

/-- The item that was handed over is written to the buffer and becomes the current task; where a write faults nothing was
taken. -/
def State.takeItem (s : State) (d b : BitVec 5) (cls : Nat) (t : TaskHold) (ws : List (Word × Bool)) : State :=
  match s.resolve s.agent .store (s.rv b).toNat (8 * ws.length) with
  | (_, .error x) => s.dropItem.trapFault .store x
  | (s, .ok _) =>
    match s.storeWords cls (s.rv b).toNat ws with
    | (s, .error x) => s.dropItem.trapFault .store x
    | (s, .ok ()) =>
      (s.setMe { s.me with task := some t, handed := none }).retire d 0 false (ws.any (·.2))

/-- The place of the running thread's TGET among the waiters of a queue: each of several TGETs, in the thread's own stream
and in handler runs, has its own. -/
def State.myPlace (s : State) : Nat × Nat := (s.cur, s.me.handlers.length)

/-- The thread joins a queue's waiters and serves the queue. -/
def State.joinWaiters (s : State) (q : Nat) : State :=
  let c := s.me
  let x := s.queueAt q
  (s.setMe { c with serves := if c.serves.contains q then c.serves else q :: c.serves }).setQueueAt q
    { x with waiters := if x.waiters.contains s.myPlace then x.waiters else x.waiters ++ [s.myPlace] }

/-- The thread's TGET leaves a queue's waiters. -/
def State.leaveWaiters (s : State) (q : Nat) : State :=
  let x := s.queueAt q
  s.setQueueAt q { x with waiters := x.waiters.filter fun p => p != s.myPlace }

/-- TGET from its start: the handle, the task held, the buffer, the queue. -/
def State.tgetFrom (s : State) (d a b : BitVec 5) (cls : Nat) : State :=
  if s.rp a then s.poisonTrap a
  else if s.rp b then s.poisonTrap b
  else
    let h := s.rv a
    match if bit h 63 then none else s.queueOf s.me.fn h true with
    | none => s.trapOpen 0x280
    | some q =>
      if s.me.task.isSome then s.trapHere 0x284 h
      else
        let n := if (s.queueAt q).tile then 32 else 136
        if s.wayHeld (s.queueDie q) then s.stall else
        match (s.beforeWalk s.cur s.agent .store (s.rv b).toNat n).resolve s.agent .store (s.rv b).toNat n with
        | (_, .error x) => s.trapFault .store x
        | (s, .ok _) =>
          let s := if s.me.handed.any fun i => i.1.queue != q then s.dropItem else s
          match s.me.handed with
          | some (t, ws) => s.takeItem d b cls t ws
          | none =>
            if !(s.queueAnswers q) then s.answerWith d 4
            else (s.joinWaiters q).waitOn (.tget q (bitsOf h.toNat 16 32))

/-- TGET (R277): a wait whose bound passed or whose queue closed takes nothing. -/
def execTget (d a b : BitVec 5) (c : BitVec 4) (s : State) : Out :=
  .next (match s.me.wait with
    | some (.answered v) => s.retire d v false false
    | some (.tget q _) =>
      match s.me.handed with
      | some (t, ws) => s.takeItem d b c.toNat t ws
      | none => if s.queueAnswers q then s else (s.leaveWaiters q).answerWith d 4
    | _ => s.tgetFrom d a b c.toNat)

/-- The TGET of a context that waits with a bound and has been handed nothing, the innermost first: how many handler runs
stand below it, and its queue. -/
def Ctx.boundedTget (c : Ctx) : Option (Nat × Nat) :=
  let at_ (w : Option Wait) (h : Bool) (n : Nat) : Option (Nat × Nat) :=
    match w with
    | some (.tget q b) => if b ≠ 0 ∧ h = false then some (n, q) else none
    | _ => none
  match at_ c.wait c.handed.isSome c.handlers.length with
  | some r => some r
  | none => (c.handlers.zip (List.range c.handlers.length)).findSome? fun p =>
      at_ p.1.wait p.1.handed.isSome (c.handlers.length - 1 - p.2)

/-- TGET_TIMEOUT (R277): the bound passed before an item was handed over. -/
def execTgetTimeout (g : Nat) (s : State) : Out :=
  let c := s.ctx g
  match if c.live then c.boundedTget else none with
  | none => .refused (.notEnabled "TGET_TIMEOUT")
  | some (n, q) =>
    let x := s.queueAt q
    let ended : Option Wait := some (.answered 1)
    let c' := if n = c.handlers.length then { c with wait := ended }
      else { c with handlers := c.handlers.modify (c.handlers.length - 1 - n) fun h => { h with wait := ended } }
    .next ((s.setCtx g c').setQueueAt q { x with waiters := x.waiters.filter fun p => p != (g, n) })

/-! ### TDONE and TDEP (R279, R280) -/

/-- A tile is counted done for its record; the last one signals (R286). -/
def State.tileDone (s : State) (t : TaskHold) (serial : Nat) : State :=
  let x := s.queueAt t.queue
  let f := s.queueFn t.queue
  if !(s.reaches f (dieOf s.cur) (s.queueDie t.queue)) then s.lostSignal (s.queueDie t.queue) f
  else
    match x.tiles.find? fun r => r.serial == serial with
    | none => s
    | some r =>
      let r' := { r with done := r.done + 1 }
      let rest := x.tiles.filter fun y => y.serial != serial
      let w3 := ((r.words[3]?).getD (0, false)).1.toNat
      if r'.purged && decide (r'.done = r'.next) then s.setQueueAt t.queue { x with tiles := rest }
      else if !r'.purged && decide (r'.done = tileCount r.words) then
        let s := s.setQueueAt t.queue { x with tiles := rest }
        if bitsOf w3 15 1 = 1 then (s.signal f (bitsOf w3 0 15) (s.queueDie t.queue)).1 else s
      else s.setQueueAt t.queue { x with tiles := x.tiles.map fun y => if y.serial = serial then r' else y }

/-- The current task of the running thread ends (R279): the value for sd. -/
def State.finishTask (s : State) (t : TaskHold) : State × Word :=
  let s := s.setMe { s.me with task := none }
  match t.tile with
  | some serial => (s.tileDone t serial, 0)
  | none =>
    if bit t.header 29 then
      match s.signal s.me.fn (bitsOf t.header.toNat 30 15) (dieOf s.cur) with
      | (s, some v) => (s, v.signExtend 64)
      | (s, none) => (s.tick, Config.freeWord s.freeCount)
    else (s, 0)

/-- The C-die that the end of a task signals: the tile queue's, or that of the task's counter. -/
def State.taskDie (s : State) (t : TaskHold) : Option Nat :=
  match t.tile with
  | some _ => some (s.queueDie t.queue)
  | none => if bit t.header 29 then s.dieById s.me.fn (bitsOf t.header.toNat 42 3) else none

/-- TDONE (R279). -/
def execTdone (d : BitVec 5) (c : BitVec 4) (s : State) : Out :=
  .next (s.atPoint fun s => match s.me.task with
    | none => s.trapOpen 0x285
    | some t =>
      if (s.taskDie t).any s.wayHeld then s.stall else
      match (s.taskRelease c.toNat).finishTask t with
      | (s, v) => s.retire d v false false)

/-- TDEP (R280, R359): the counter's old value, and the action that sb selects. -/
def State.tdep (s : State) (d a b : BitVec 5) (cls : Nat) : State :=
  (if bitsOf (s.rv b).toNat 16 2 = 0 then fun k => k s else s.atPoint) fun s =>
  if s.rp a then s.poisonTrap a
  else if s.rp b then s.poisonTrap b
  else
    let h := (s.rv b).toNat
    let act := bitsOf h 16 2
    match if bitsOf h 18 46 = 0 ∧ bitsOf h 15 1 = 0 ∧ act ≠ 3 then s.counterOf s.me.fn (bitsOf h 0 15) else none with
    | none => s.trapOpen 0x282
    | some k =>
      let body (s : State) : State :=
        if s.wayHeld (k / 4096) then s.stall
        else if !(s.reaches s.me.fn (dieOf s.cur) (k / 4096)) then s.retire d 0 true true
        else
          let old := s.counter k
          let s := if act = 1 then s.setCounter k (old + (s.rv a).truncate 32)
            else if act = 2 then s.setCounter k ((s.rv a).truncate 32) else s
          s.retire d (old.signExtend 64) false false
      if act = 0 then body (s.flushMsg s.cur (ordered cls)) else body (s.taskRelease cls)

/-- TDEP READ (R280). -/
def execTdepRead (d a b : BitVec 5) (c : BitVec 4) (s : State) : Out := .next (s.tdep d a b c.toNat)

/-- TDEP ADD (R280). -/
def execTdepAdd (d a b : BitVec 5) (c : BitVec 4) (s : State) : Out := .next (s.tdep d a b c.toNat)

/-- TDEP SET (R280). -/
def execTdepSet (d a b : BitVec 5) (c : BitVec 4) (s : State) : Out := .next (s.tdep d a b c.toNat)

/-! ### The scheduler (R277) -/

/-- The oldest waiter that can be handed an item: not stopped for a pre-emption. -/
def State.waiterOf (s : State) (x : Queue) : Option (Nat × Nat) :=
  x.waiters.find? fun p => (s.ctx p.1).live && (s.ctx p.1).preempt != .stopped

/-- An item is handed to the TGET with `n` handler runs below it. -/
def Ctx.takes (c : Ctx) (n : Nat) (item : TaskHold × List (Word × Bool)) : Ctx :=
  if n = c.handlers.length then { c with handed := some item }
  else { c with handlers := c.handlers.modify (c.handlers.length - 1 - n) fun h => { h with handed := some item } }

/-- An item goes to a waiter; where the way there is held the step waits (R361). -/
def State.handTo (s : State) (q : Nat) (w : Nat × Nat) (t : TaskHold) (ws : List (Word × Bool)) : State :=
  let x := s.queueAt q
  let s := s.setQueueAt q { x with waiters := x.waiters.filter fun p => p != w }
  ((s.block (s.routeHeld (s.queueDie q) (dieOf w.1))).setCtx w.1 ((s.ctx w.1).takes w.2 (t, ws))).count x.fn fun u => { u with dispatches := u.dispatches + 1 }

/-- The tile task of tile `i` of a record (R286). -/
def tileTask (x : Queue) (ws : List (Word × Bool)) (i : Nat) : List (Word × Bool) :=
  let w (k : Nat) : Word × Bool := (ws[k]?).getD (0, false)
  let w0 := (w 0).1.toNat
  let t := tileCount ws
  let last := decide (i + 1 = t)
  let valid := if last then bitsOf w0 16 24 - 32 * (t - 1) else 32
  [(BitVec.ofNat 64 (bitsOf w0 0 16 + i * 2 ^ 16 + valid * 2 ^ 48 + ofBool last * 2 ^ 54), (w 0).2),
   ((w 1).1 + BitVec.ofNat 64 (32 * i * x.trowb), (w 1).2), w 2, w 3]

/-- The record whose tiles are being handed out, the head of the queue: begun already, or begun now. It stands on chip
until its last tile is handed out. -/
def State.headTiles (s : State) (q : Nat) : Option (State × TileRec) :=
  let x := s.queueAt q
  match x.tiles.find? fun r => !r.purged && (decide (r.next < tileCount r.words) || !r.back.isEmpty) with
  | some r => some (s, r)
  | none =>
    match x.chip with
    | [] => none
    | e :: _ =>
      let r : TileRec := { serial := s.serial, words := e.words }
      some ({ s.setQueueAt q { x with tiles := x.tiles ++ [r] } with serial := s.serial + 1 }, r)

/-- A tile goes to the oldest waiter. -/
def State.dispatchTile (s : State) (q : Nat) : Option State :=
  match s.waiterOf (s.queueAt q) with
  | none => none
  | some g =>
    match s.headTiles q with
    | none => none
    | some (s, r) =>
      let x := s.queueAt q
      let i := r.back.min?.getD r.next
      let fresh := r.back.isEmpty
      let given (y : TileRec) : TileRec := if fresh then { y with next := y.next + 1 } else { y with back := y.back.erase i }
      let s := s.setQueueAt q { x with
        chip := if fresh && decide (r.next + 1 = tileCount r.words) then x.chip.drop 1 else x.chip
        tiles := x.tiles.map fun y => if y.serial = r.serial then given y else y }
      some (s.handTo q g { queue := q, header := ((r.words[3]?).getD (0, false)).1, tile := some r.serial }
        (tileTask x r.words i))

/-- A task held back by its counter: WAITEN with a counter that is not zero. -/
def State.isHeld (s : State) (q : Nat) (h : Word) : Bool :=
  bit h 16 && s.counter (4096 * (q / 256) + bitsOf h.toNat 17 12) != 0

/-- The scheduler's next action on a task queue: a dispatchable parked task, else the head, goes to the oldest waiter;
a held head is parked. -/
def State.dispatchTask (s : State) (q : Nat) : Option State :=
  let x := s.queueAt q
  match s.waiterOf x, x.parked.find? fun p => p.ready with
  | some g, some p =>
    let s := s.setQueueAt q { x with parked := x.parked.erase p }
    some (s.handTo q g { queue := q, header := p.header.1 } (p.header :: p.fields))
  | w, _ =>
    match x.chip with
    | [] => none
    | e :: rest =>
      let h := e.words.headD (0, false)
      let fields := expandEntry x.prev e.words
      if s.isHeld q h.1 then
        if x.parked.length < 16 then
          some (s.setQueueAt q { x with chip := rest, prev := fields, parked := x.parked ++ [{ header := h, fields := fields }] })
        else none
      else
        match w with
        | none => none
        | some g =>
          let s := s.setQueueAt q { x with chip := rest, prev := fields }
          some (s.handTo q g { queue := q, header := h.1 } (h :: fields))

/-- TASK_DISPATCH (R277): one action of a die's scheduler on a queue. -/
def execTaskDispatch (die q : Nat) (s : State) : Out :=
  let k := 256 * die + q
  let x := s.queueAt k
  if !(x.isOpen && !x.stopped && (s.die die).state == .present && decide (q < 256)) then
    .refused (.notEnabled "TASK_DISPATCH")
  else
    match if x.tile then s.dispatchTile k else s.dispatchTask k with
    | some t => .next t
    | none => .refused (.notEnabled "TASK_DISPATCH")

end Sys2Proof.Machine
end

