-- ==== Sys2Proof/Machine/Census.lean ====
section
/-! DEFINITION. Majors 0x38 and 0x39: directories and censuses (R291 to R303), and the events of Rollcall. -/

namespace Sys2Proof.Machine

/-! ### DREG and DDEL (R292, R293) -/

/-- The running thread releases at package scope; the messages of class 15 before it are performed. -/
def State.dirRelease (s : State) : State := s.barrierRelease.flushMsg s.cur fun _ => true

/-- CHAN is bound to a context of the running core that a thread of the caller's crew occupies (R292). -/
def State.ownChannelCrew (s : State) (ch : Nat) : Option Nat :=
  let x := s.chan (coreOf s.cur) ch
  let c := s.ctx (4 * coreOf s.cur + bindCtx x.binding)
  if bindBound x.binding && !x.held && c.live && c.crew == s.me.crew then s.me.crew else none

/-- An entry descriptor keeps to R289. -/
def goodEntryDesc (ws : List Word) : Bool :=
  let w2 := (ws[2]?).getD 0
  bitsOf w2.toNat 46 18 = 0 && (ws[3]?).getD 0 == 0 && tileOff w2 % 64 = 0 && tileLen w2 % 64 = 0 && tileLen w2 != 0 &&
  tileChan w2 != 63

/-- An entry is registered in the lowest free slot, or the directory is full (R292). -/
def State.register (s : State) (d : BitVec 5) (crew : Nat) (ws : List Word) : State :=
  let f := s.me.fn
  match s.freeSlot (coreOf s.cur) with
  | none => (s.count f fun u => { u with dirRefusals := u.dirRefusals + 1 }).answerWith d 64
  | some i =>
    let e := s.slot (coreOf s.cur) i
    let new : DirSlot :=
      { state := .valid, key := (ws[0]?).getD 0, kmask := (ws[1]?).getD 0, word2 := (ws[2]?).getD 0, fn := f,
        crew := crew, gen := e.gen }
    ((s.setSlot (coreOf s.cur) i new).count f fun u => { u with registrations := u.registrations + 1 }).answerWith d i

/-- DREG (R292). -/
def execDreg (d a : BitVec 5) (s : State) : Out :=
  .next (s.atPoint fun s =>
    if s.rp a then s.poisonTrap a
    else if (s.rv a).toNat % 32 ≠ 0 then s.trapHere 0x300 (s.rv a)
    else
      match s.readDescriptor (s.rv a) 15 4 with
      | (_, .error t) => t
      | (s, .ok ws) =>
        let ws := ws.map (·.1)
        let w2 := (ws[2]?).getD 0
        if !(goodEntryDesc ws) then s.trapHere 0x300 (s.rv a)
        else
          match s.ownChannelCrew (tileChan w2) with
          | none => s.trapHere 0x302 (BitVec.ofNat 64 (tileChan w2))
          | some crew =>
            if s.regionBytes (coreOf s.cur) crew < tileOff w2 + tileLen w2 then s.trapHere 0x301 (s.rv a)
            else s.dirRelease.register d crew ws)

/-- The caller may not delete or move a valid entry (R290, R293, R294). -/
def State.foreign (s : State) (e : DirSlot) : Bool :=
  match s.me.level with
  | .user => s.me.crew != some e.crew
  | .supervisor => s.me.fn != e.fn
  | .firmware => false

/-- DDEL (R293). -/
def execDdel (d a : BitVec 5) (s : State) : Out :=
  .next (if s.rp a then s.poisonTrap a
    else if 63 < (s.rv a).toNat then s.trapOpen 0x301
    else
      let k := 64 * coreOf s.cur + (s.rv a).toNat
      let e := s.slotAt k
      match e.state with
      | .free => s.answerWith d 1
      | .valid => if s.foreign e then s.trapOpen 0x303 else (s.setSlotAt k e.freed).answerWith d 0
      | _ => s.answerWith d 2)

/-! ### DMOVE (R294) -/

/-- A move word keeps to R294. -/
def goodMove (w : Word) : Bool :=
  bitsOf w.toNat 44 20 = 0 && bitsOf w.toNat 18 6 = 0 && bitsOf w.toNat 24 20 % 64 = 0 && bitsOf w.toNat 17 1 = 0 &&
  bitsOf w.toNat 0 6 != 63

/-- A move is started: the source in transit, the destination reserved for an entry of the destination's crew and its
function (R294); the thread waits. -/
def State.startMove (s : State) (src dcore crew : Nat) (w : Word) (i : Nat) : State :=
  let e := s.slotAt src
  let dst := 64 * dcore + i
  let d := s.slotAt dst
  let f := ((s.crewOf crew).map (·.fn)).getD e.fn
  let m : Move :=
    { thread := s.cur, source := src, dest := dst, fn := f, crew := crew,
      word2 := tileWord (bitsOf w.toNat 24 20) (tileLen e.word2) (bitsOf w.toNat 0 6) }
  let s := s.setSlotAt src { e with state := .source dst d.gen }
  let s := s.setSlotAt dst { state := .destination, fn := f, crew := crew, gen := d.gen }
  ({ s with moves := aset s.moves s.serial m, serial := s.serial + 1 }).waitOn .dmove

/-- The destination of a move: the status where there is none, else the core and the crew. -/
def State.moveDest (s : State) (w : Word) (len : Nat) : Except Nat (Nat × Nat) :=
  match s.coreById s.me.fn (bitsOf w.toNat 6 11) with
  | none => .error 4
  | some core =>
    if !(s.reaches s.me.fn (dieOf s.cur) (core / 256)) then .error 4
    else
      match s.regionOfChan core (bitsOf w.toNat 0 6) with
      | none => .error 4
      | some (k, _) => if s.regionBytes core k < bitsOf w.toNat 24 20 + len then .error 5 else .ok (core, k)

/-- DMOVE of a valid entry. -/
def State.moveEntry (s : State) (d : BitVec 5) (src : Nat) (w : Word) : State :=
  if (s.coreById s.me.fn (bitsOf w.toNat 6 11)).any fun n => s.wayHeld (n / 256) then s.stall else
  match s.moveDest w (tileLen (s.slotAt src).word2) with
  | .error st => s.answerWith d st
  | .ok (core, crew) =>
    match s.freeSlot core with
    | none => (s.count s.me.fn fun u => { u with dirRefusals := u.dirRefusals + 1 }).answerWith d 3
    | some i => s.startMove src core crew w i

/-- DMOVE (R294). -/
def execDmove (d a b : BitVec 5) (s : State) : Out :=
  .next (match s.me.wait with
    | some (.answered v) => s.retire d v false false
    | some .dmove => s
    | _ => s.atPoint fun s =>
      if s.rp a then s.poisonTrap a
      else if s.rp b then s.poisonTrap b
      else if !(goodMove (s.rv b)) then s.trapOpen 0x300
      else if 63 < (s.rv a).toNat then s.trapOpen 0x301
      else
        let k := 64 * coreOf s.cur + (s.rv a).toNat
        let e := s.slotAt k
        match e.state with
        | .free => s.answerWith d 1
        | .valid =>
          if s.foreign e then s.trapOpen 0x303
          else s.dirRelease.moveEntry d k (s.rv b)
        | _ => s.answerWith d 2)

/-- The thread of a move gets its status, if it still waits. -/
def State.answerMove (s : State) (m : Move) (v : Nat) : State :=
  let c := s.ctx m.thread
  if c.live && c.wait == some .dmove then
    s.setCtx m.thread { c with wait := some (.answered (BitVec.ofNat 64 v)) }
  else s

/-- DMOVE_INSTALL (R303): the copy is performed, and the entry is installed. -/
def execDmoveInstall (k : Nat) (s : State) : Out :=
  match (s.moves.find? fun p => p.1 == k).map (·.2) with
  | none => .refused (.notEnabled "DMOVE_INSTALL")
  | some m =>
    let e := s.slotAt m.source
    let s := { s with moves := aerase s.moves k }
    let s := s.copyTile (m.source / 64) e.crew (tileOff e.word2) (m.dest / 64) m.crew (tileOff m.word2) (tileLen m.word2)
    whenEnabled "DMOVE_INSTALL" (!(s.routeHeld (m.source / 64 / 256) (m.dest / 64 / 256)))
      (((s.install m).count m.fn fun u => { u with moves := u.moves + 1 }).answerMove m (256 * (m.dest % 64)))

/-- STUB_FREE (R303): every census the stub waits for has visited its core or ended. -/
def execStubFree (core slot : Nat) (s : State) : Out :=
  let e := s.slot core slot
  match e.state with
  | .stub _ _ awaited =>
    whenEnabled "STUB_FREE" (awaited.all fun k => (s.core core).seen.contains k) (s.setSlot core slot e.freed)
  | _ => .refused (.notEnabled "STUB_FREE")

/-! ### SOLICIT (R297) -/

/-- A solicit descriptor keeps to R297. -/
def State.goodSolicit (s : State) (ws : List Word) : Bool :=
  let w2 := ((ws[2]?).getD 0).toNat
  bitsOf w2 28 36 = 0 && (ws[3]?).getD 0 == 0 &&
  (if bitsOf w2 0 2 = 3 then (s.coreById s.me.fn (16 * bitsOf w2 2 7)).isSome else bitsOf w2 2 7 = 0)

/-- The cores of a scope, in ascending core id of the partition. -/
def State.scopeCores (s : State) (w2 : Nat) : List Nat :=
  let f := s.me.fn
  let clusters := match (s.fnOf f).part with
    | none => []
    | some r => r.clusters
  let mine := match bitsOf w2 0 2 with
    | 0 => clusters.filter (· == clusterOf s.cur)
    | 1 => clusters.filter fun cl => cl / 16 == dieOf s.cur
    | 2 => clusters
    | _ => ((s.coreById f (16 * bitsOf w2 2 7)).map (· / 16)).toList
  mine.flatMap fun cl => (List.range 16).map (16 * cl + ·)

/-- A census is started in the lowest free id of the asker's die, or every id is in use. -/
def State.startCensus (s : State) (d b : BitVec 5) (op : BitVec 3) (ws : List Word) : State :=
  let die := dieOf s.cur
  match findBelow 256 fun i => !(ahas (s.die die).censuses i) with
  | none => s.answerWith d 1
  | some i =>
    let s := s.dirRelease
    let w2 := ((ws[2]?).getD 0).toNat
    let scope := s.scopeCores w2
    let c : Census :=
      { owner := s.cur, fn := s.me.fn, key := (ws[0]?).getD 0, mask := (ws[1]?).getD 0, arg := s.rv b,
        nep := bitsOf w2 10 18, notify := bitsOf w2 9 1 = 1, op := op, scope := scope, toVisit := scope }
    let s := s.setCensus (256 * die + i) c
    s.retire d (s.censusHandle (256 * die + i) s.me.fn) false false

/-- SOLICIT (R297). -/
def execSolicit (d a b : BitVec 5) (o : BitVec 3) (s : State) : Out :=
  .next (s.atPoint fun s =>
    if s.rp a then s.poisonTrap a
    else if s.rp b then s.poisonTrap b
    else if (s.rv a).toNat % 32 ≠ 0 then s.trapOpen 0x304
    else
      match s.readDescriptor (s.rv a) 15 4 with
      | (_, .error t) => t
      | (s, .ok ws) =>
        let ws := ws.map (·.1)
        if !(s.goodSolicit ws) then s.trapOpen 0x304
        else s.startCensus d b o ws)

/-! ### REPLY (R299) -/

/-- The census that the low half of a handle names for a function's die numbers, with its generation good. -/
def State.censusByLow (s : State) (f low : Nat) : Option (Nat × Census) :=
  match s.dieById f (bitsOf low 16 3) with
  | none => none
  | some d =>
    if aget 0 (s.die d).generations (bitsOf low 0 8) = bitsOf low 20 12 then
      (s.census (256 * d + bitsOf low 0 8)).map fun c => (256 * d + bitsOf low 0 8, c)
    else none

/-- The first entry of a list that waits for an answer, answered. -/
def answerFirst (core slot : Nat) (a : Word × Bool) : List Counted → Option (List Counted)
  | [] => none
  | e :: rest =>
    if e.core = core ∧ e.slot = slot ∧ e.answer.isNone ∧ !e.null then some ({ e with answer := some a } :: rest)
    else (answerFirst core slot a rest).map (e :: ·)

/-- A reply reaches its census (R299): too late where the census has ended or the slot was answered, else counted, also
where no entry of the slot has been counted. -/
def State.replyTo (s : State) (d : BitVec 5) (core slot : Nat) (a : Word × Bool) : Option (Nat × Census) → State
  | none => s.retire d 1 false a.2
  | some (k, c) =>
    if c.done then s.retire d 1 false a.2
    else
      if c.hasEarly core slot then s.retire d 1 false a.2
      else
      match answerFirst core slot a c.counted with
      | none =>
        if c.counted.any fun e => e.core == core && e.slot == slot then s.retire d 1 false a.2
        else
          (s.setCensus k { c with early := c.early ++ [{ core := core, slot := slot, answer := some a }] }).retire d 0
            false a.2
      | some l => (s.setCensus k { c with counted := l }).retire d 0 false a.2

/-- REPLY (R299): a release at package scope. -/
def execReply (d a b : BitVec 5) (s : State) : Out :=
  .next (s.atPoint fun s =>
    if s.rp b then s.poisonTrap b
    else
      let t := (s.rv b).toNat
      let f := s.me.fn
      let c := s.censusByLow f (bitsOf t 0 32)
      if s.coreById f (bitsOf t 38 11) ≠ some (coreOf s.cur) ∨ (s.dieById f (bitsOf t 16 3)).isNone ∨
          (c.map fun x => x.2.fn != f).getD false then s.trapOpen 0x308
      else
        let s := s.dirRelease
        if ((s.dieById f (bitsOf t 16 3)).any s.wayHeld) then s.stall else
        s.replyTo d (coreOf s.cur) (bitsOf t 32 6) (s.rv a, s.rp a) c)

/-! ### CWAIT and CRES (R302) -/

/-- The census a handle names for the running thread; none for a bad, stale or foreign handle. -/
def State.ownCensus (s : State) (h : Word) : Option (Nat × Census) :=
  if bitsOf h.toNat 33 31 ≠ 0 ∨ !(bit h 32) ∨ bit h 19 ∨ bitsOf h.toNat 8 8 ≠ 0 then none
  else (s.censusByLow s.me.fn (bitsOf h.toNat 0 32)).filter fun x => x.2.owner == s.cur

/-- CWAIT (R302): it waits while its census is in progress. -/
def execCwait (d a b : BitVec 5) (s : State) : Out :=
  .next (match s.me.wait with
    | some (.answered v) => s.retire d v false false
    | _ =>
      if s.rp a then s.poisonTrap a
      else if s.rp b then s.poisonTrap b
      else
        match s.ownCensus (s.rv a) with
        | none => s.answerWith d 2
        | some (k, c) => if c.done then s.answerWith d 0 else s.waitOn (.cwait k (s.rv b).toNat))

/-- CWAIT_TIMEOUT (R302). -/
def execCwaitTimeout (g : Nat) (s : State) : Out :=
  s.endWait g (fun w => match w with | .cwait _ b => b != 0 | _ => false) 1 "CWAIT_TIMEOUT"

/-- An id is freed by CRES; what sd then holds the spec does not state, so it is a free value (log 50). -/
def State.cresFreed (s : State) (d : BitVec 5) (k : Nat) : State :=
  ((s.freeCensus k).retire d (Config.freeWord s.freeCount) false false).tick

/-- CRES (R302): the selector in sb acts on the census. -/
def State.cres (s : State) (d a b : BitVec 5) : State :=
  if s.rp a then s.poisonTrap a
  else if s.rp b then s.poisonTrap b
  else
    match s.ownCensus (s.rv a) with
    | none => s.trapOpen 0x305
    | some (k, c) =>
      let sel := (s.rv b).toNat
      if 3 < sel then s.trapOpen 0x307
      else if (sel = 0 ∨ sel = 2) ∧ !c.done then s.trapOpen 0x306
      else if sel = 0 then
        (s.setMe (s.me.raise (c.result.2 &&& 31))).retire d (BitVec.ofNat 64 c.result.1) c.poisoned c.poisoned
      else if sel = 1 then s.retire d c.status false false
      else s.cresFreed d k

/-- CRES, selector 0 (R302). -/
def execCresResult (d a b : BitVec 5) (s : State) : Out := .next (s.cres d a b)

/-- CRES, selector 1 (R302). -/
def execCresStatus (d a b : BitVec 5) (s : State) : Out := .next (s.cres d a b)

/-- CRES, selector 2 (R302). -/
def execCresFree (d a b : BitVec 5) (s : State) : Out := .next (s.cres d a b)

/-- CRES, selector 3 (R302). -/
def execCresAbandon (d a b : BitVec 5) (s : State) : Out := .next (s.cres d a b)

/-! ### Rollcall's events -/

/-- A visit reaches a core, or the Stile answers for its die (R296, R303, R304). -/
def State.visit (s : State) (k core : Nat) (c : Census) : State :=
  let s := s.setCensus k { c with toVisit := c.toVisit.erase core }
  if (s.die (core / 256)).state = .present ∧ s.routeOpen (k / 256) (core / 256) then
    match s.census k with
    | some c => s.visitCore k core c
    | none => s
  else
    match s.census k with
    | some c => s.setCensus k { c with absentDie := true }
    | none => s

/-- CENSUS_VISIT (R296). -/
def execCensusVisit (die cid core : Nat) (s : State) : Out :=
  let k := 256 * die + cid
  match s.census k with
  | none => .refused (.notEnabled "CENSUS_VISIT")
  | some c =>
    whenEnabled "CENSUS_VISIT" (decide (cid < 256) && !c.done && c.toVisit.contains core &&
      (s.die die).state == .present && !(s.routeHeld die (core / 256))) (s.visit k core c)

/-- CENSUS_FORWARD (R303): a forward reaches its slot; it waits while that is a reserved destination. -/
def execCensusForward (k : Nat) (s : State) : Out :=
  match (s.forwards.find? fun p => p.1 == k).map (·.2) with
  | none => .refused (.notEnabled "CENSUS_FORWARD")
  | some f =>
    let d := s.slotAt f.dest
    whenEnabled "CENSUS_FORWARD" (!(d.state == .destination && d.gen == f.gen) &&
      !(s.routeHeld (f.census / 256) (f.dest / 64 / 256))) (s.arriveForward k f)

/-- CENSUS_COMPLETE (R301): the notice is sent. -/
def execCensusComplete (die cid : Nat) (s : State) : Out :=
  let k := 256 * die + cid
  match s.census k with
  | none => .refused (.notEnabled "CENSUS_COMPLETE")
  | some c =>
    let c' := { c with done := true }
    let t := (s.setCensus k c').forgetCensus k
    let t := if !c.notify then t
      else t.post
        { src := s.unitEndpoint c.fn die 8, fn := c.fn, dest := c.nep, cls := 15, kind := 7, device := true,
          payload := (0 : BitVec 64) ++ BitVec.ofNat 64 c'.result.1 ++ c'.status ++ s.censusHandle k c.fn,
          poison := c'.poisoned }
    whenEnabled "CENSUS_COMPLETE" (decide (cid < 256) && c.ripe && (s.die die).state == .present) t

end Sys2Proof.Machine
end

