-- ==== Sys2Proof/Machine/Maintenance.lean ====
section
/-! DEFINITION. Major 0x3A: TLBINV (R326 to R328), CHKERR, ERRQ and POISON (R342 to R345); and the walk of a page table
on its own (R324). -/

namespace Sys2Proof.Machine

/-- A word of major 0x3A (R326, R342), for TVAL. -/
def srWord (code d a b : BitVec 5) : Word := (code ++ 0#6 ++ b ++ a ++ d ++ 0x3A#6).zeroExtend 64

/-! ### Removing translations (R327, R328) -/

/-- A location lies in the page of one of the translations. -/
def touchesAny (gone : List TlbEntry) (loc : Nat) : Bool :=
  gone.any fun e => decide (e.pa ≤ loc) && decide (loc < e.pa + 2 ^ e.bits)

/-- The accesses that used removed translations are performed: every context's pending stores to those pages, and the
deliveries whose barrier lies there (R328, step 4). -/
def State.performThrough (s : State) (gone : List TlbEntry) : State :=
  let s := s.ctxs.foldl (fun s p => s.drain p.1 fun e => touchesAny gone e.loc) s
  (s.puts.filter fun p => match p.2.barrier with | .at loc _ => touchesAny gone loc | _ => false).foldl
    (fun s p => s.completePut p.1 p.2) s

/-- Cached translations and cached non-leaf entries with the properties are removed from every cache. -/
def State.dropCached (s : State) (which : TlbEntry → Bool) (tables : WalkEntry → Bool) : State :=
  { s with tlb := s.tlb.filter fun e => !(which e), walks := s.walks.filter fun e => !(tables e) }

/-- Cached translations with the property, and cached non-leaf entries, are removed package-wide, once the accesses that
used the translations are performed. -/
def State.removeTranslations (s : State) (which : TlbEntry → Bool) (tables : WalkEntry → Bool) : State :=
  (s.performThrough (s.tlb.filter which)).dropCached which tables

/-- A cached translation of a function's virtual page meets `2^bits` bytes from an address on. -/
def TlbEntry.meets (e : TlbEntry) (f va bits : Nat) : Bool :=
  e.fn == f && decide (e.va < va + 2 ^ bits) && decide (va < e.va + 2 ^ e.bits)

/-- A cached non-leaf entry of a stage of a function's walks meets `2^bits` bytes from an address on. -/
def WalkEntry.meets (e : WalkEntry) (f stage va bits : Nat) : Bool :=
  let size := 2 ^ (39 - 9 * e.level)
  e.fn == f && e.stage == stage && decide (e.tag * size < va + 2 ^ bits) && decide (va < e.tag * size + size)

/-- One of the stage-2 pages covers a guest physical address. -/
def viaCovers (via : List (Nat × Nat)) (gpa : Nat) : Bool := via.any fun p => p.1 == gpa / 2 ^ p.2

/-- The action of TLBINV (R327): a translation uses a stage-2 address where its page has it, or one of its table reads. -/
def State.tlbAction (s : State) (act vf : Nat) (a : Nat) : State :=
  let f := s.me.fn
  match act with
  | 0 => s.removeTranslations (fun e => e.covers f a) fun e => e.meets f 0 a 0
  | 1 => s.removeTranslations (fun e => e.fn == f) fun e => e.fn == f && e.stage == 0
  | 2 => ({ s with fns := aset s.fns f { s.fnOf f with s1root := some a } }).removeTranslations (fun e => e.fn == f)
      fun e => e.fn == f && e.stage == 0
  | 3 => s.removeTranslations
      (fun e => e.fn == vf && (e.gpa / 2 ^ e.bits == a / 2 ^ e.bits || viaCovers e.via a))
      fun e => e.meets vf 1 a 0 || (e.fn == vf && viaCovers e.via a)
  | _ => s.removeTranslations (fun e => e.fn == vf) fun e => e.fn == vf

/-- The action word and address of TLBINV raise TLB_ARG (R326). -/
def badTlbArg (l : Level) (a b : Nat) : Bool :=
  let act := bitsOf b 0 3
  bitsOf b 15 49 != 0 || bitsOf b 3 5 != 0 || decide (4 < act) ||
  (l != .firmware && (decide (3 ≤ act) || bitsOf b 8 7 != 0)) ||
  (act == 2 && (decide (a % 2 ^ 20 ≠ 0) || decide (2 ^ 52 ≤ a)))

/-- TLBINV (R326 to R328). -/
def State.tlbinv (s : State) (d a b : BitVec 5) : State :=
  s.atPoint fun s =>
  if s.me.level = .user then s.trapHere 0x007 (srWord 0 d a b)
  else if s.rp a then s.poisonTrap a
  else if s.rp b then s.poisonTrap b
  else if badTlbArg s.me.level (s.rv a).toNat (s.rv b).toNat then s.trapOpen 0x08B
  else
    let w := (s.rv b).toNat
    ((s.drain s.cur fun p => p.path == .scalar || p.path == .lane).tlbAction (bitsOf w 0 3) (bitsOf w 8 7)
      (s.rv a).toNat).retire d 0 false false

/-- TLBINV with action 0 or an action above 4 (R326, R327). -/
def execTlbinvVa (d a b : BitVec 5) (s : State) : Out := .next (s.tlbinv d a b)

/-- TLBINV with action 1 (R327). -/
def execTlbinvAll (d a b : BitVec 5) (s : State) : Out := .next (s.tlbinv d a b)

/-- TLBINV with action 2 (R327). -/
def execTlbinvRoot (d a b : BitVec 5) (s : State) : Out := .next (s.tlbinv d a b)

/-- TLBINV with action 3 (R327). -/
def execTlbinvGpa (d a b : BitVec 5) (s : State) : Out := .next (s.tlbinv d a b)

/-- TLBINV with action 4 (R327). -/
def execTlbinvVfall (d a b : BitVec 5) (s : State) : Out := .next (s.tlbinv d a b)

/-- PAGE_WALK (R324, R325): a walker translates an address for a thread on its own. A walk that faults changes
nothing. -/
def execPageWalk (g : Nat) (va : Word) (acc : AccKind) (s : State) : Out :=
  let c := s.ctx g
  whenEnabled "PAGE_WALK" (c.live && c.level != .firmware && canonical va.toNat && !(inWindow va.toNat))
    (s.viewing (dieOf g) fun s => ((s.beforeWalk g (s.agentOf g) acc va.toNat 1).translate c.fn c.level acc va.toNat).1)

/-! ### CHKERR (R343) -/

/-- CHKERR (R343). -/
def execChkerr (d a : BitVec 5) (s : State) : Out :=
  .next (s.atPoint fun s =>
    if s.rp a then s.poisonTrap a
    else if s.rv a >>> 1 ≠ 0 then s.trapOpen 0x385
    else
      let old := s.me.cir
      (if bit (s.rv a) 0 then s.setMe { s.me with cir := 0 } else s).retire d old false false)

/-! ### ERRQ (R345) -/

/-- The queue that the running thread's ERRQ reads. -/
def State.myErrors (s : State) : Nat := if s.me.level = .firmware then firmQueue else s.me.fn

/-- The state with an error queue of the running thread's die replaced. -/
def State.setErrors (s : State) (key : Nat) (q : ErrQueue) : State :=
  let d := s.die (dieOf s.cur)
  s.setDie (dieOf s.cur) { d with errors := aset d.errors key q }

/-- The field of records lost: a free value where the count does not fit. -/
def State.lostField (s : State) (n : Nat) : Nat :=
  if n < 65536 then n else bitsOf (Config.freeWord s.freeCount).toNat 0 16

/-- ERRQ with action 0: the oldest record is stored and leaves the queue. -/
def State.popRecord (s : State) (d a : BitVec 5) : State :=
  let key := s.myErrors
  let q := aget {} (s.die (dieOf s.cur)).errors key
  let lost := s.lostField q.lost * 2 ^ 32
  match q.records with
  | [] => ((s.setErrors key { q with lost := 0 }).tick).retire d (BitVec.ofNat 64 (1 + lost)) false false
  | r :: _ =>
    match s.store s.cur s.agent .store .scalar 15 (s.rv a).toNat (leBytes 64 r.toNat) false with
    | (s, .error x) => s.trapFault .store x
    | (s, .ok ()) =>
      let q' := aget {} (s.die (dieOf s.cur)).errors key
      ((s.setErrors key { q' with records := q'.records.drop 1, lost := 0 }).tick).retire d (BitVec.ofNat 64 lost) false false

/-- ERRQ with action 1: the notice endpoint is set. -/
def State.setNotice (s : State) (d a : BitVec 5) : State :=
  let key := s.myErrors
  let q := aget {} (s.die (dieOf s.cur)).errors key
  let v := (s.rv a).toNat
  (s.setErrors key { q with notice := if bitsOf v 18 1 = 1 then some (bitsOf v 0 18) else none }).retire d 0 false false

/-- ERRQ (R342, R345). -/
def State.errq (s : State) (d a b : BitVec 5) : State :=
  if s.me.level = .user then s.trapHere 0x007 (srWord 2 d a b)
  else if s.rp a then s.poisonTrap a
  else if s.rp b then s.poisonTrap b
  else if 1 < (s.rv b).toNat then s.trapOpen 0x385
  else if s.rv b = 0 then
    if (s.rv a).toNat % 64 ≠ 0 then s.trapOpen 0x385 else s.popRecord d a
  else if s.rv a >>> 19 ≠ 0 then s.trapOpen 0x385
  else s.setNotice d a

/-- ERRQ with action 0, or one above 1 (R345). -/
def execErrqPop (d a b : BitVec 5) (s : State) : Out := .next (s.errq d a b)

/-- ERRQ with action 1 (R345). -/
def execErrqNotice (d a b : BitVec 5) (s : State) : Out := .next (s.errq d a b)

/-! ### POISON (R344) -/

/-- A granule is poisoned with its bytes kept, or is written with zeros and clean, at its home (R344). -/
def State.poisonGranule (s : State) (loc : Nat) (key : Key) (clear : Bool) : State :=
  if clear || s.locAbsent loc then s.writeHome loc (leBytes 64 0) (!clear) key
  else (s.dropCopies loc none).setPoison loc true

/-- POISON (R342, R344): a store of class 15, so after every older access of the path it takes. -/
def State.poisonInsn (s : State) (a b : BitVec 5) : State :=
  if s.me.level = .user then s.trapHere 0x007 (srWord 3 0 a b)
  else if s.rp a then s.poisonTrap a
  else if s.rp b then s.poisonTrap b
  else if 1 < (s.rv b).toNat then s.trapOpen 0x385
  else
    match (s.beforeWalk s.cur s.agent .store (s.rv a).toNat 8).resolve s.agent .store (s.rv a).toNat 8 with
    | (_, .error x) => s.trapFault .store x
    | (t, .ok parts) =>
      match parts.head? with
      | none => t.advance
      | some p =>
        let loc := p.place.loc / 64 * 64
        let t := t.drain t.cur fun e => e.path == pathFor .scalar loc
        let t := if p.place.dead || inPeer loc then t.noteStore p.place else t.poisonGranule loc p.place.key (s.rv b == 1)
        (t.recordCtx t.cur { cause := 0x39C, bound := 1, action := 1, addr := if loc < scratchBase then loc else 0 }).advance

/-- POISON with action 0, or one above 1 (R344). -/
def execPoisonMark (a b : BitVec 5) (s : State) : Out := .next (s.poisonInsn a b)

/-- POISON with action 1 (R344). -/
def execPoisonClear (a b : BitVec 5) (s : State) : Out := .next (s.poisonInsn a b)

end Sys2Proof.Machine
end

