-- ==== Sys2Proof/Machine/Engines.lean ====
section
/-! DEFINITION. Copy engines: which command runs next (R258), the commands (R259, R260, R330), replies and resets (R261,
R262). A command takes effect in one step, whole, or as far as it had come when a reset discarded it. -/

namespace Sys2Proof.Machine

/-! ### Fields of a command (R259) -/

/-- LEN. -/
def Command.len (c : Command) : Nat := bitsOf c.word0.toNat 28 36
/-- OPC. -/
def Command.opc (c : Command) : Nat := bitsOf c.word0.toNat 0 4
/-- RPEN. -/
def Command.rpen (c : Command) : Bool := bit c.word0 26
/-- SRC. -/
def Command.src (c : Command) : Nat := c.word1.toNat
/-- DST. -/
def Command.dst (c : Command) : Nat := c.word2.toNat
/-- AUX. -/
def Command.aux (c : Command) : Nat := c.word3.toNat

/-- The agent of an engine's accesses: the sender's translation and level, its crew's regions (R258, R260). -/
def Command.agent (c : Command) : Agent :=
  { fn := c.fn, level := c.level, crew := c.crew, cluster := clusterOf c.sender, core := coreOf c.sender }

/-- How a command ended: status, clamps, bytes written, faulting address. -/
structure Outcome where
  status : Nat := 0
  clamps : Nat := 0
  bytes  : Nat := 0
  addr   : Nat := 0
  deriving DecidableEq, Repr

/-- The outcome of a fault after some bytes were written (R262). -/
def AccFault.outcome (x : AccFault) (bytes : Nat) : Outcome := { status := x.fault.cause, bytes := bytes, addr := x.addr }

/-! ### Reads and writes (R262, R338) -/

/-- Where an engine stands: its die and unit. -/
structure Seat where
  die  : Nat
  unit : Nat
  deriving DecidableEq, Repr

/-- Each poisoned granule an engine reads is recorded (R338; log 39). -/
def State.noteEnginePoison (s : State) (e : Seat) (f : Nat) (ps : List Part) : State :=
  (ps.flatMap fun p => granulesOf p.place.loc p.len).foldl (fun s g =>
    if ps.any (fun p => p.place.dead) || s.granulePoison g then
      s.record e.die { cause := 0x391, bound := 1, action := 1, vf := f, core := 256 * s.idOfDie f e.die + e.unit,
                       unit := 5, addr := if g < scratchBase then g else 0 }
    else s) s

/-- An engine's read: the bytes and their poison. -/
def State.engineRead (s : State) (e : Seat) (ag : Agent) (a n : Nat) :
    State × Except AccFault (List Byte × Bool) :=
  match s.resolve ag .load a n with
  | (s, .error x) => (s.unitFault x, .error x)
  | (s, .ok ps) =>
    let s := ps.foldl (fun s p => s.noteRead p.place) (s.blockParts ps)
    (s.noteEnginePoison e ag.fn ps, .ok (s.readParts ps))

/-- Bytes of an access before the end of the page its first byte lies in. -/
def inPage (a n : Nat) : Nat := min n (4096 - a % 4096)

/-- One piece of a copy, within one granule of the destination: the bytes moved, and the fault that stops it. -/
def State.copyPiece (s : State) (e : Seat) (ag : Agent) (a b n : Nat) : State × Nat × Option AccFault :=
  match s.engineRead e ag a n with
  | (s, .ok r) =>
    match s.devWrite ag .store b r.1 r.2 with
    | (s, .error x) => (s, 0, some x)
    | (s, .ok ()) => (s, n, none)
  | (s, .error x) =>
    if inPage a n = n then (s, 0, some x)
    else
      match s.engineRead e ag a (inPage a n) with
      | (s, .error y) => (s, 0, some y)
      | (s, .ok r) =>
        match s.devWrite ag .store b r.1 r.2 with
        | (s, .error y) => (s, 0, some y)
        | (s, .ok ()) => (s, inPage a n, some x)

/-- A row copied in ascending order, granule by granule: the bytes moved, and the fault that stopped it. -/
def State.copyRow (s : State) (e : Seat) (ag : Agent) : Nat → Nat → Nat → Nat → State × Nat × Option AccFault
  | 0, _, _, _ => (s, 0, none)
  | fuel + 1, a, b, n =>
    if n = 0 then (s, 0, none)
    else
      let k := min n (64 - b % 64)
      match s.copyPiece e ag a b k with
      | (s, m, some x) => (s, m, some x)
      | (s, m, none) =>
        match s.copyRow e ag fuel ((a + k) % 2 ^ 64) ((b + k) % 2 ^ 64) (n - k) with
        | (s, m', x) => (s, m + m', x)

/-- Bytes written in ascending order, granule by granule, each with its poison: the bytes written and the fault. -/
def State.writeRow (s : State) (ag : Agent) : Nat → Nat → List Byte → (Nat → Bool) → State × Nat × Option AccFault
  | 0, _, _, _ => (s, 0, none)
  | fuel + 1, b, bytes, poison =>
    if bytes.isEmpty then (s, 0, none)
    else
      let k := min bytes.length (64 - b % 64)
      match s.devWrite ag .store b (bytes.take k) (poison b) with
      | (s, .error x) => (s, 0, some x)
      | (s, .ok ()) =>
        match s.writeRow ag fuel ((b + k) % 2 ^ 64) (bytes.drop k) poison with
        | (s, m, x) => (s, k + m, x)

/-- How a run of bytes ended. -/
def endOf (m : Nat) : Option AccFault → Outcome
  | none => { bytes := m }
  | some x => x.outcome m

/-! ### The commands (R260) -/

/-- A command that breaks its row. -/
def argError : Outcome := { status := 0x212 }

/-- The reserved bit of word 0 is zero. -/
def Command.plain (c : Command) : Bool := !(bit c.word0 27)

/-- How many pieces a run of `n` bytes has at most, of those that a command may still make (R262). -/
def piecesLeft (n : Nat) : Option Nat → Nat
  | none => n
  | some k => min k n

/-- COPY; `most` is the most pieces it makes, for a command that a reset cuts. -/
def State.engineCopy (s : State) (e : Seat) (c : Command) (most : Option Nat) : State × Outcome :=
  if !c.plain || c.aux != 0 || overlaps c.src c.len c.dst c.len then (s, argError)
  else
    match s.copyRow e c.agent (piecesLeft c.len most) c.src c.dst c.len with
    | (s, m, x) => (s, endOf m x)

/-- A signed 24-bit pitch. -/
def pitch (v : Nat) : Word := (BitVec.ofNat 24 v).signExtend 64

/-- The rows of a COPY2D, each up to the pieces that are left. -/
def State.copyRows (s : State) (e : Seat) (ag : Agent) (len : Nat) (sp dp : Word) : Nat → Word → Word → Option Nat →
    State × Nat × Option AccFault
  | 0, _, _, _ => (s, 0, none)
  | r + 1, a, b, most =>
    match s.copyRow e ag (piecesLeft len most) a.toNat b.toNat len with
    | (s, m, some x) => (s, m, some x)
    | (s, m, none) =>
      match s.copyRows e ag len sp dp r (a + sp) (b + dp) (most.map (· - (granulesOf b.toNat len).length)) with
      | (s, m', x) => (s, m + m', x)

/-- COPY2D. -/
def State.engineCopy2d (s : State) (e : Seat) (c : Command) (most : Option Nat) : State × Outcome :=
  if !c.plain then (s, argError)
  else
    match s.copyRows e c.agent c.len (pitch (bitsOf c.aux 24 24)) (pitch (bitsOf c.aux 0 24)) (bitsOf c.aux 48 16 + 1)
        c.word1 c.word2 most with
    | (s, m, x) => (s, endOf m x)

/-- FILL, granule by granule. -/
def State.fillRow (s : State) (ag : Agent) (pat : Word) : Nat → Nat → Nat → State × Nat × Option AccFault
  | 0, _, _ => (s, 0, none)
  | fuel + 1, b, n =>
    if n = 0 then (s, 0, none)
    else
      let k := min n (64 - b % 64)
      let bytes := (List.range k).map fun i => pat.extractLsb' (8 * ((b + i) % 8)) 8
      match s.devWrite ag .store b bytes false with
      | (s, .error x) => (s, 0, some x)
      | (s, .ok ()) =>
        match s.fillRow ag pat fuel ((b + k) % 2 ^ 64) (n - k) with
        | (s, m, x) => (s, k + m, x)

/-- FILL. -/
def State.engineFill (s : State) (c : Command) (most : Option Nat) : State × Outcome :=
  if !c.plain || c.aux != 0 then (s, argError)
  else
    match s.fillRow c.agent c.word1 (piecesLeft c.len most) c.dst c.len with
    | (s, m, x) => (s, endOf m x)

/-- The plane stride of `n` elements (R23). -/
def planeStride (n : Nat) : Nat := ((n + 7) / 8 + 63) / 64 * 64

/-- An INT8 value clamped to `p` bits, as `p` bits, and whether that changed it. -/
def clampTo (p : Nat) (b : Byte) : Nat × Bool :=
  let v := b.toInt
  let lo : Int := -(2 ^ (p - 1) : Nat)
  let hi : Int := (2 ^ (p - 1) : Nat) - 1
  let w := if v < lo then lo else if hi < v then hi else v
  ((w % (2 ^ p : Nat)).toNat, w != v)

/-- The bytes of a plane of clamped elements: bit `j` of each, padded with zeros to the stride. -/
def planeBytes (els : List Nat) (j : Nat) : Nat → List Byte
  | 0 => []
  | n + 1 =>
    BitVec.ofNat 8 ((els.take 8).zip (List.range 8) |>.foldl (fun m p => m + bitsOf p.1 j 1 * 2 ^ p.2) 0) ::
      planeBytes (els.drop 8) j n

/-- The source of a PLANEPACK, read in pieces of at most 64 bytes with the poison of each, until one faults. -/
def State.readRow (s : State) (e : Seat) (ag : Agent) : Nat → Nat → Nat →
    State × List Byte × List Bool × Option AccFault
  | 0, _, _ => (s, [], [], none)
  | fuel + 1, a, n =>
    if n = 0 then (s, [], [], none)
    else
      let k := min n (64 - a % 64)
      match s.engineRead e ag a k with
      | (s, .error x) => (s, [], [], some x)
      | (s, .ok r) =>
        match s.readRow e ag fuel ((a + k) % 2 ^ 64) (n - k) with
        | (s, bs, ps, x) => (s, r.1 ++ bs, List.replicate k r.2 ++ ps, x)

/-- PLANEPACK (log 41): the whole source is read first, then the planes are written in ascending order. -/
def State.enginePack (s : State) (e : Seat) (c : Command) (most : Option Nat) : State × Outcome :=
  let p := bitsOf c.aux 0 3 + 1
  if !c.plain || p < 2 || bitsOf c.aux 3 61 != 0 || c.dst % 64 != 0 then (s, argError)
  else
    match s.readRow e c.agent c.len c.src c.len with
    | (s, bytes, poison, x) =>
      let els := bytes.map (clampTo p)
      let clamps := (els.filter (·.2)).length
      match x with
      | some x => (s, { x.outcome 0 with clamps := clamps })
      | none =>
        let ps := planeStride c.len
        let image := (List.range p).flatMap fun k => planeBytes (els.map (·.1)) (p - 1 - k) ps
        let bad (b : Nat) : Bool :=
          ((poison.drop ((b + 2 ^ 64 - c.dst) % 2 ^ 64 % ps * 8)).take 512).any id
        match s.writeRow c.agent (piecesLeft image.length most) c.dst image bad with
        | (s, m, x) => (s, { endOf m x with clamps := clamps })

/-! ### MIGRATE (R239, R330) -/

/-- The page size in bits of a size code. -/
def sizeOfCode (n : Nat) : Nat := if n = 0 then 12 else if n = 1 then 16 else if n = 2 then 21 else 30

/-- The page size in bits of a stage-1 leaf. -/
def Leaf.size (l : Leaf) : Nat := if l.g64 then 16 else l.bits

/-- A guest physical address translated for MIGRATE through stage 2 with the need given. -/
def State.frameAt (s : State) (f gpa : Nat) (k : AccKind) : Except AccFault Place :=
  match s.stage2 f gpa with
  | .error x => .error { fault := x, addr := gpa }
  | .ok l =>
    if !((needOf k).met l.r l.w l.x) then .error { fault := { rank := 5, cause := 0x086, stg := 1, gpa := gpa }, addr := gpa }
    else if s.unmapped f (l.at gpa) then .error { fault := { rank := 6, cause := 0x088 }, addr := gpa }
    else if s.keyMissing l gpa then
      .error { fault := { rank := 7, cause := 0x08A, stg := 1, gpa := gpa }, addr := gpa }
    else .ok (s.placeAt f (l.at gpa) (s.slotKey l.key))

/-- A line is copied, once the accesses to it that are not performed yet are performed on the old frame (R239). -/
def State.moveLine (s : State) (p q : Place) : State :=
  let s := s.ctxs.foldl (fun s c => s.drain c.1 fun e => overlaps e.loc e.size p.loc 64) s
  let r := s.readPlace p 64
  let s := (s.block (s.heldAt p.loc || s.heldAt q.loc)).noteStore q
  if q.dead then s else s.writeHome q.loc r.1 r.2 q.key

/-- What was to be found at a place of the old frame is found on the new one: the barrier that a delivery decrements, or
that a thread waits at (R239). -/
def Wait.follow (p q : Place) : Wait → Wait
  | .bwait loc key ph b => if loc / 64 = p.loc / 64 ∧ loc < deviceEnd then .bwait (q.loc + loc % 64) q.key ph b
      else .bwait loc key ph b
  | w => w

/-- The barrier of a delivery after its line moved. -/
def PutBarrier.follow (p q : Place) : PutBarrier → PutBarrier
  | .at loc key => if loc / 64 = p.loc / 64 ∧ loc < deviceEnd then .at (q.loc + loc % 64) q.key else .at loc key
  | b => b

/-- The waits of a context, its own and those that handler runs interrupted, follow a line that moved. -/
def Ctx.follow (c : Ctx) (p q : Place) : Ctx :=
  { c with
    wait := c.wait.map (·.follow p q)
    handlers := c.handlers.map fun h => { h with wait := h.wait.map (·.follow p q) } }

/-- Deliveries and waits follow a line that moved, also the waits of saved threads (R239). -/
def State.followLine (s : State) (p q : Place) : State :=
  if deviceEnd ≤ p.loc then s else
  { s with
    puts := s.puts.map fun j => (j.1, { j.2 with barrier := j.2.barrier.follow p q })
    ctxs := s.ctxs.map fun c => (c.1, c.2.follow p q)
    crews := s.crews.map fun k => (k.1, { k.2 with kept := k.2.kept.map (·.follow p q) }) }

/-- Deliveries and waits follow the lines of a page, once it has moved whole. -/
def State.followLines (s : State) (f old new : Nat) : Nat → State
  | 0 => s
  | n + 1 =>
    match s.frameAt f old .load, s.frameAt f new .store with
    | .ok p, .ok q => (s.followLine p q).followLines f (old + 64) (new + 64) n
    | _, _ => s

/-- The lines of a page moved one by one, until a frame faults. -/
def State.moveLines (s : State) (e : Seat) (f old new : Nat) : Nat → State × Nat × Option AccFault
  | 0 => (s, 0, none)
  | n + 1 =>
    match s.frameAt f old .load, s.frameAt f new .store with
    | .error x, _ => (s.unitFault x, 0, some x)
    | _, .error x => (s.unitFault x, 0, some x)
    | .ok p, .ok q =>
      let s := ((s.markFrame f old false).markFrame f new true).noteEnginePoison e f [{ va := 0, len := 64, place := p }]
      match (s.moveLine p q).moveLines e f (old + 64) (new + 64) n with
      | (s, m, x) => (s, m + 64, x)

/-- The frame number of an entry rewritten, every other field kept. -/
def State.setFrame (s : State) (entry : Nat) (key : Key) (frame : Nat) : State :=
  let old := s.entryAt entry key
  s.writeHome entry (leBytes 8 (old.1 - bitsOf old.1 12 40 * 4096 + frame / 4096 % 2 ^ 40 * 4096)) old.2 key

/-- The leaf of a page rewritten; for a 64 KiB run, its 16 entries. -/
def State.setLeaf (s : State) (l : Leaf) (frame : Nat) : State :=
  if l.g64 then
    (List.range 16).foldl (fun s i => s.setFrame (l.entry / 128 * 128 + 8 * i) l.ekey (frame + 4096 * i)) s
  else s.setFrame l.entry l.ekey frame

/-- The translations of a page are removed as TLBINV action VA removes them (R327, R330). -/
def State.dropPage (s : State) (f va bits : Nat) : State :=
  s.dropCached (fun e => e.meets f va bits) fun e => e.meets f 0 va bits

/-- The stage-2 page of the table that holds a leaf does not let the engine write (R262, R323). -/
def Leaf.sealed (l : Leaf) (table : Option Leaf) : Option AccFault :=
  if (table.map (·.w)).getD true then none
  else some { fault := { rank := 4, cause := 0x086, stg := 1, gpa := l.egpa }, addr := l.egpa }

/-- MIGRATE (R239, R330): a walk that finds no leaf of the size is answered with ENG_ARG. The walk marks what it used, and
the leaf's page is written, where stage 2 lets the engine write it. -/
def State.engineMigrate (s : State) (e : Seat) (c : Command) (most : Option Nat) : State × Outcome :=
  let bits := sizeOfCode (bitsOf c.aux 0 2)
  if c.level = .user then (s, { status := 0x211 })
  else if !c.plain || c.len != 0 || bitsOf c.aux 2 62 != 0 || c.dst % 2 ^ bits != 0 then (s, argError)
  else if !(canonical c.src) then (s, argError)
  else
    match (s.fnOf c.fn).s1root with
    | none => (s, argError)
    | some root =>
      match s.walk1 c.fn c.src 4 root {} with
      | .error x => (s.unitFault { fault := x, addr := c.src }, argError)
      | .ok (l, trail) =>
        if l.size ≠ bits then (s, argError)
        else
          match s.frameAt c.fn c.dst .store with
          | .error x => (s.unitFault x, x.outcome 0)
          | .ok _ =>
            let va := c.src / 2 ^ bits * 2 ^ bits
            let old := l.at c.src / 2 ^ bits * 2 ^ bits
            let n := 2 ^ bits / 64
            match s.moveLines e c.fn old c.dst (piecesLeft n most) with
            | (s, m, some x) => (s, x.outcome m)
            | (s, m, none) =>
              let s := trail.leaves.foldl (fun s l => s.orEntry l 0x40) s
              if most.isSome then (s, { bytes := m })
              else
                match l.sealed trail.leaves.head? with
                | some x => (s, x.outcome m)
                | none =>
                  let s := trail.leaves.head?.elim s fun l => s.orEntry l 0xC0
                  ((((s.followLines c.fn old c.dst n).setLeaf l c.dst).dropPage c.fn va bits), { bytes := m })

/-! ### Running a command (R258, R261) -/

/-- The engine of a seat. -/
def State.engine (s : State) (e : Seat) : Engine := aget {} (s.die e.die).engines e.unit

/-- The state with the engine of a seat replaced. -/
def State.setEngine (s : State) (e : Seat) (x : Engine) : State :=
  s.setDie e.die { s.die e.die with engines := aset (s.die e.die).engines e.unit x }

/-- The command that runs next: the oldest of the next function in turn. -/
def Engine.next (x : Engine) : Option Command :=
  match (List.range 65).find? fun i => x.inbox.any fun c => c.fn == (x.lastFn + 1 + i) % 65 with
  | none => none
  | some i => x.inbox.find? fun c => c.fn == (x.lastFn + 1 + i) % 65

/-- The replies of an engine that are not delivered. -/
def State.heldReplies (s : State) (e : Seat) : Nat :=
  (s.engine e).replies.length + (s.wires.filter fun w => w.2.engine == some (4 * e.die + e.unit)).length

/-- The engine can start a command with the property (R261). -/
def State.nextCommand (s : State) (e : Seat) (opc : Nat → Bool) : Option Command :=
  let x := s.engine e
  if (s.die e.die).state == .present && x.ready && decide (s.heldReplies e < 16) then
    x.next.filter fun c => opc c.opc
  else none

/-- The reply to a command (R261); that to a poisoned command is poisoned (log 86). -/
def Command.reply (c : Command) (o : Outcome) : Reply :=
  { payload := c.word0 ++ BitVec.ofNat 64 o.addr ++ BitVec.ofNat 64 o.bytes ++
      (BitVec.ofNat 32 o.clamps ++ BitVec.ofNat 32 o.status),
    poison := c.poison, cls := bitsOf c.word0.toNat 4 4, dest := bitsOf c.word0.toNat 8 18, fn := c.fn }

/-- A command runs, and its reply is held; a command that came poisoned from a peer makes no access (log 86). -/
def State.runCommand (s : State) (e : Seat) (c : Command) (act : State → State × Outcome) : State :=
  let x := s.engine e
  let s := s.setEngine e { x with inbox := x.inbox.erase c, lastFn := c.fn }
  let r := if c.poison then (s, argError) else act { s with viewer := some e.die }
  let s := { r.1 with viewer := none }
  if c.rpen then s.setEngine e { s.engine e with replies := (s.engine e).replies ++ [c.reply r.2] } else s

/-- An engine runs its next command, where that has the opcode. -/
def State.engineEvent (s : State) (e : Seat) (name : String) (opc : Nat → Bool)
    (act : State → Command → State × Outcome) : Out :=
  match s.nextCommand e opc with
  | none => .refused (.notEnabled name)
  | some c => .next (s.runCommand e c fun s => act s c)

/-- ENG_COPY (R260). -/
def execEngCopy (die u : Nat) (s : State) : Out :=
  s.engineEvent ⟨die, u⟩ "ENG_COPY" (· == 0) fun s c => s.engineCopy ⟨die, u⟩ c none

/-- ENG_COPY2D (R260). -/
def execEngCopy2d (die u : Nat) (s : State) : Out :=
  s.engineEvent ⟨die, u⟩ "ENG_COPY2D" (· == 1) fun s c => s.engineCopy2d ⟨die, u⟩ c none

/-- ENG_FILL (R260). -/
def execEngFill (die u : Nat) (s : State) : Out :=
  s.engineEvent ⟨die, u⟩ "ENG_FILL" (· == 2) fun s c => s.engineFill c none

/-- ENG_PLANEPACK (R260). -/
def execEngPlanepack (die u : Nat) (s : State) : Out :=
  s.engineEvent ⟨die, u⟩ "ENG_PLANEPACK" (· == 3) fun s c => s.enginePack ⟨die, u⟩ c none

/-- ENG_MIGRATE (R330). -/
def execEngMigrate (die u : Nat) (s : State) : Out :=
  s.engineEvent ⟨die, u⟩ "ENG_MIGRATE" (· == 4) fun s c => s.engineMigrate ⟨die, u⟩ c none

/-- ENG_UNASSIGNED_OPCODE (R260). -/
def execEngUnassignedOpcode (die u : Nat) (s : State) : Out :=
  s.engineEvent ⟨die, u⟩ "ENG_UNASSIGNED_OPCODE" (fun n => decide (5 ≤ n)) fun s _ => (s, { status := 0x210 })

/-- ENGINE_REPLY (R261): the oldest reply goes out as a device message. -/
def execEngineReply (die u : Nat) (s : State) : Out :=
  let e : Seat := ⟨die, u⟩
  let x := s.engine e
  match x.replies with
  | [] => .refused (.notEnabled "ENGINE_REPLY")
  | r :: rest =>
    whenEnabled "ENGINE_REPLY" ((s.die die).state == .present)
      ((s.setEngine e { x with replies := rest }).post
        { src := s.unitEndpoint r.fn die u, fn := r.fn, dest := r.dest, cls := r.cls, kind := 1, payload := r.payload, poison := r.poison,
          device := true, engine := some (4 * die + u) })

/-- The command in progress when an engine is reset, with the pieces of its writes that were performed: by a free choice
the one that would run next, or none (R262; log 40). -/
def State.inProgress (s : State) (e : Seat) : Option (Command × Nat) :=
  if Config.freeBool (s.freeCount + e.unit) then
    (s.nextCommand e fun _ => true).map fun c => (c, (Config.freeWord (s.freeCount + e.unit)).toNat)
  else none

/-- The part of a command that was performed when a reset cut it. -/
def State.cutCommand (s : State) (e : Seat) (c : Command) (k : Nat) : State :=
  let s := { s with viewer := some e.die }
  let t := if c.poison then s
    else if c.opc = 0 then (s.engineCopy e c (some k)).1
    else if c.opc = 1 then (s.engineCopy2d e c (some k)).1
    else if c.opc = 2 then (s.engineFill c (some k)).1
    else if c.opc = 3 then (s.enginePack e c (some k)).1
    else if c.opc = 4 then (s.engineMigrate e c (some k)).1
    else s
  { t with viewer := none }

/-- An engine reset (R262): its commands are discarded, the one in progress as far as it had come, to be answered once it
is ready again; its predictive-failed arrays are retired (R355). -/
def State.resetEngine (s : State) (e : Seat) : State :=
  let s := match s.inProgress e with
    | some p => s.cutCommand e p.1 p.2
    | none => s
  let x := s.engine e
  let s := s.setEngine e { x with ready := false, inbox := [], discarded := x.discarded ++ x.inbox }
  let s := s.setDie e.die ((s.die e.die).retire fun a => a % 16 == 5 && a / 16 % 4 == e.unit)
  s.record e.die
    { cause := 0x395, bound := 6, action := 7, core := 256 * e.die + e.unit, unit := 5 }

/-- ENGINE_RESET (R262, R353): by firmware, or on an internal error of the engine. -/
def execEngineReset (die u : Nat) (s : State) : Out :=
  whenEnabled "ENGINE_RESET" ((s.die die).state == .present && decide (u < 4)) (s.resetEngine ⟨die, u⟩)

/-- The commands an engine reset discarded are answered (R262). -/
def State.answerDiscarded (s : State) (e : Seat) : State :=
  let x := s.engine e
  s.setEngine e { x with
    discarded := [], replies := x.replies ++ (x.discarded.filter (·.rpen)).map fun c => c.reply { status := 0x213 } }

end Sys2Proof.Machine
end

