-- ==== Sys2Proof/Machine/Checks.lean ====
section
/-! DEFINITION. Checking and repair (R337, R347 to R352, R354, R355): mismatches, quarantine, parity errors, uncorrectable
and corrected errors, and crews lost to context errors. -/

namespace Sys2Proof.Machine

/-! ### Quarantine (R119, R350) -/

/-- The thread that holds a lane. -/
def State.laneHolder (s : State) (cl lane : Nat) : Option Nat :=
  match aget LaneState.free (s.cluster cl).lanes lane with
  | .granted g => some g
  | _ => none

/-- The thread that holds a lane, or whose revocation drains it. -/
def State.laneOwner (s : State) (cl lane : Nat) : Option Nat :=
  match aget LaneState.free (s.cluster cl).lanes lane with
  | .granted g | .draining g _ => some g
  | _ => none

/-- Where a quarantine left fewer lanes than the cluster's reservations need, the reservation of the revoked thread is
lowered by one (R119); of a lane that nobody held, the first that stands open (log 89). -/
def State.lowerReservation (s : State) (cl : Nat) (owner : Option Nat) : State :=
  if s.reservedIn cl ≤ s.unlisted cl then s
  else
    match owner.or ((clusterCtxs cl).find? fun g => decide (0 < s.reservedOf g)) with
    | none => s
    | some g => s.setCtx g { s.ctx g with gres := (s.ctx g).gres - 1 }

/-- A lane is withdrawn from the pool; its holder is revoked with cause 1 (R119, R350). -/
def State.withdrawLane (s : State) (cl lane : Nat) : State :=
  if aget LaneState.free (s.cluster cl).lanes lane = .quarantined then s
  else
    let owner := s.laneOwner cl lane
    let s := match s.laneHolder cl lane with
      | none => s
      | some g =>
        let s := s.forceRevoke g 1 none
        s.setCtx g { s.ctx g with cir := (s.ctx g).cir ||| 16#64 }
    let x := s.cluster cl
    (s.setCluster cl { x with lanes := aset x.lanes lane .quarantined }).lowerReservation cl owner

/-- A lane is quarantined, with its record (R350, R352). -/
def State.quarantineLane (s : State) (cl lane : Nat) : State :=
  let r : Record := { cause := 0x393, bound := 9, action := 5, lane := lane, unit := 1 }
  let t := s.withdrawLane cl lane
  match s.laneHolder cl lane with
  | some g => t.recordCtx g r
  | none => t.record (cl / 16) r

/-- A check lane failed: its whole lane-set is quarantined (R350). -/
def State.quarantineSet (s : State) (cl j : Nat) : State :=
  let s := (List.range 16).foldl (fun s i => s.withdrawLane cl (16 * j + i)) s
  let s := s.record (cl / 16) { cause := 0x39B, bound := 9, action := 5, unit := 2 }
  s.record (cl / 16) { cause := 0x393, bound := 9, action := 5, unit := 2 }

/-! ### Mismatches (R347, R349) -/

/-- The logical lane that the check lane of set `j` checks for a thread (R347): the one at the pointer, modulo their number,
among the thread's lanes in the set. -/
def State.checkedLane (s : State) (g j : Nat) : Option Nat :=
  let c := s.ctx g
  let mine := (List.range c.lanes).filter fun l => (c.vec.lanes[l]?).any fun p => p / 16 == j
  mine[aget 0 c.pointers j % mine.length]?

/-- The head of a thread's vector queue computes element groups on a physical lane, from its boundary on, while the check
lane of the lane's set checks it (R347). -/
def State.comparesOn (s : State) (g lane : Nat) : Bool :=
  let c := s.ctx g
  match c.vq, s.checkedLane g (lane / 16) with
  | e :: _, some l => (c.lanesUsed e.instr c.start).contains l && c.vec.lanes[l]? == some lane
  | _, _ => false

/-- CHECK_FAIL (R349): the oldest instruction and the younger ones stand in the replay queue behind a vector-side trap.
Its TVAL is a free value. -/
def State.checkFail (s : State) (g : Nat) : State :=
  let t := ({ s with cur := g }).recordTrapped 0x382
  let c := t.me
  let t := t.setMe { c with reissue := c.vq.head?, vq := c.vq.drop 1, mismatch := 0 }
  { (t.vsideTrap 0x382 (Config.freeWord s.freeCount).toNat 0 0).tick with cur := s.cur }

/-- A mismatch of a thread's oldest instruction against a lane (R347, R349, R350). -/
def State.mismatched (s : State) (g lane : Nat) : State :=
  let cl := clusterOf g
  let j := lane / 16
  let c := s.ctx g
  let s := s.setCtx g { c with
    cir := bumpCount c.cir 16 ||| 4#64, mismatch := c.mismatch + 1, pointers := aset c.pointers j (aget 0 c.pointers j + 1) }
  let s := s.recordCtx g { cause := 0x392, bound := 2, action := 2, lane := lane, unit := 1 }
  let x := s.cluster cl
  let others := x.mismatches.filter fun m => m.1 != lane
  let again := x.mismatches.any fun m => m.1 == lane
  let three := decide (2 ≤ (others.filter fun m => m.1 / 16 == j).length)
  let s := s.setCluster cl { x with mismatches := (lane, 0) :: others }
  let s := if 8 ≤ (s.ctx g).mismatch then s.checkFail g else s
  if three then s.quarantineSet cl j else if again then s.quarantineLane cl lane else s

/-- CHECK_MISMATCH (R349): the check lane of a set finds a mismatch of the lane it checks, in a group of the thread's
oldest queued instruction; that instruction stands settled at its boundary and runs again. -/
def execCheckMismatch (g lane : Nat) (s : State) : Out :=
  whenEnabled "CHECK_MISMATCH"
    ((s.ctx g).live && (s.ctx g).preempt != .stopped && (s.die (dieOf g)).state == .present && s.comparesOn g lane)
    (s.mismatched g lane)

/-! ### Parity errors (R351) -/

/-- The vector registers an instruction writes, and those it reads, under a decode type. -/
def registersOf (i : Instr) (t : Nat) : List (Nat × Nat) × List (Nat × Nat) :=
  let regs := ((vecSpec i t).map (·.regs)).getD []
  let d := regs.take 1
  match i with
  | .vst _ _ _ _ | .vsts _ _ _ _ _ | .vstx _ _ _ _ _ | .vstxadd _ _ _ _ _ => ([], regs)
  | .vcmpEqVV _ _ _ _ | .vcmpNeVV _ _ _ _ | .vcmpLtVV _ _ _ _ | .vcmpLeVV _ _ _ _ | .vcmpGtVV _ _ _ _
  | .vcmpGeVV _ _ _ _ | .vcmpEqVS _ _ _ _ | .vcmpNeVS _ _ _ _ | .vcmpLtVS _ _ _ _ | .vcmpLeVS _ _ _ _
  | .vcmpGtVS _ _ _ _ | .vcmpGeVS _ _ _ _ | .vfcmpEq _ _ _ _ | .vfcmpNe _ _ _ _ | .vfcmpLt _ _ _ _
  | .vfcmpLe _ _ _ _ => ([], regs)
  | .vrsum _ _ _ _ | .vrmax _ _ _ _ | .vrmin _ _ _ _ | .vfrsum _ _ _ _ | .vfrmax _ _ _ _ | .vmaxix _ _ _ _ => ([], regs)
  | .wgath _ _ _ | .wopv _ _ _ _ _ => ([], regs)
  | .vwmacc _ _ _ _ | .vwmaccu _ _ _ _ | .vfmaVV _ _ _ _ | .vfmsVV _ _ _ _ | .vfnmaVV _ _ _ _ | .vfmaVS _ _ _ _
  | .vfmsVS _ _ _ _ | .vfnmaVS _ _ _ _ => (d, regs)
  | _ => (d, regs.drop 1)

/-- A register is among groups. -/
def inGroups (gs : List (Nat × Nat)) (k : Nat) : Bool := gs.any fun r => decide (r.1 ≤ k) && decide (k < r.1 + r.2)

/-- The tile whose rows an instruction reads, if any (R183, R188): a tile operation reads the tile it adds to. -/
def tileRead (i : Instr) : Option (BitVec 2) :=
  match i with
  | .wop w _ _ | .wops w _ _ | .wbp w _ _ | .wopv w _ _ _ _ | .wdrain w _ _ => some w
  | _ => none

/-- An instruction of the thread reads row `row` of logical lane `lane`: of its registers, of a tile on a weave lane, and VSAVE
every row of both (R127, R351). -/
def Ctx.readsRow (c : Ctx) (i : Instr) (lane row : Nat) : Bool :=
  let x := c.geo
  let inRegs := decide (row < x.rpr * x.n)
  let inTile (t : Nat) : Bool :=
    decide (lane < c.vec.side * c.vec.side) && (List.range 16).any fun k => tileRow t k == row
  match i with
  | .vsave => inRegs || (List.range x.tl).any inTile
  | i => (inRegs && inGroups (registersOf i c.vt).2 (row / x.rpr)) || (tileRead i).any fun w => inTile w.toNat


/-- A producer whose row is not repaired: a load, VREFILL, a reduction, VCPRS or VLDFF (R351). -/
def unrepairable (i : Instr) : Bool :=
  match i with
  | .vld _ _ _ _ | .vldff _ _ _ _ | .vldp _ _ _ _ _ | .vlds _ _ _ _ _ | .vldx _ _ _ _ _ | .vrefill _
  | .vrsum _ _ _ _ | .vrmax _ _ _ _ | .vrmin _ _ _ _ | .vfrsum _ _ _ _ | .vfrmax _ _ _ _ | .vcprs _ _ _ _ => true
  | _ => false

/-- The width at which an instruction reads a source group of `r` registers: that of VCVT's source type, else `r` times the
element width. -/
def sourceWidth (i : Instr) (ew r : Nat) : Nat :=
  match i with
  | .vcvt _ _ _ f => typeWidth f.toNat
  | _ => ew * r

/-- The register rows a past instruction read (R351), as 64·lane + row: of a group-divisible one those of its elements, of a
whole one all rows of its sources, and those of the tile it read. -/
def Past.sourceRows (p : Past) : List Nat :=
  let x : Geo := { n := regCount p.ncode.toNat, tl := p.tl.toNat, g := p.lanes, ew := typeEw p.vtype }
  let t := bitsOf p.vtype.toNat 0 4
  let divisible := (vecSpec p.entry.instr t).any (·.divisible)
  let tile := match tileRead p.entry.instr with
    | none => []
    | some w => (List.range (p.side * p.side)).flatMap fun l => (List.range 16).map fun i => 64 * l + tileRow w.toNat i
  tile ++ (registersOf p.entry.instr t).2.flatMap fun r =>
    if divisible then
      let w := sourceWidth p.entry.instr x.ew r.2
      (List.range (p.len - p.start)).map fun i =>
        64 * x.laneOf w (p.start + i) + r.1 * x.rpr + x.rowIn w (p.start + i)
    else
      (List.range x.g).flatMap fun l => (List.range (r.2 * x.rpr)).map fun i => 64 * l + r.1 * x.rpr + i

/-- A row with a parity error is repaired (R351): the past instruction that wrote it last can run again, and none since has
written a row it read. The list is youngest first; `since` are the rows written after it. -/
def repairs (row : Nat) (since : List Nat) : List Past → Bool
  | [] => false
  | p :: rest =>
    if p.entry.wrote.contains row then
      !(unrepairable p.entry.instr) && !(p.sourceRows.any fun k => since.contains k)
    else repairs row (p.entry.wrote ++ since) rest

/-- PARITY_REPAIR (R351): the thread's oldest queued instruction reads a register row with a parity error: the row's
producer runs again, or the row is poisoned. -/
def execParityRepair (g lane row : Nat) (s : State) : Out :=
  let c := s.ctx g
  let reads := c.vq.head?.any fun e => c.readsRow e.instr lane row
  let phys := (c.vec.lanes[lane]?).getD 0
  let fate := repairs (64 * lane + row) [] (c.history.take (32 - c.vq.length))
  let repaired := (s.setCtx g { c with cir := c.cir ||| 8#64 }).recordCtx g
    { cause := 0x394, bound := 2, action := 3, lane := phys, unit := 1 }
  let vec := c.vec.setRow lane row (c.vec.row lane row).1 true
  let poisoned := (s.setCtx g { c with vec := vec }).recordCtx g
    { cause := 0x391, bound := 1, action := 1, lane := phys, unit := 1 }
  whenEnabled "PARITY_REPAIR"
    (c.live && c.preempt != .stopped && (s.die (dieOf g)).state == .present && decide (lane < c.lanes) && reads) (if fate then repaired else poisoned)

/-! ### Uncorrectable errors (R337, R352) -/

/-- The item at a place of a list changed. -/
def changeAt {α : Type} (xs : List α) (i : Nat) (f : α → α) : List α :=
  (xs.zip (List.range xs.length)).map fun p => if p.2 = i then f p.1 else p.1

/-- The message of a channel at a place in its FIFO poisoned. -/
def Channel.poisonAt (x : Channel) (i : Nat) : Channel :=
  { x with fifo := changeAt x.fifo i fun m => { m with poison := true } }

/-- The words of a ring entry in the granule of one of them are poisoned (R337). -/
def poisonWords (ws : List (Word × Bool)) (word : Nat) : List (Word × Bool) :=
  (ws.zip (List.range ws.length)).map fun p => if p.2 / 8 = word / 8 then (p.1.1, true) else p.1

/-- A parked task's entry, its words poisoned in the granule of one of them. -/
def Parked.poisonAt (k : Parked) (word : Nat) : Parked :=
  match poisonWords (k.header :: k.fields) word with
  | h :: fs => { k with header := h, fields := fs }
  | [] => k

/-- An entry that a queue holds on chip, the tile record it hands out, or a parked entry is poisoned in one granule (R337):
counted in this order. -/
def Queue.poisonAt (x : Queue) (idx word : Nat) : Queue :=
  { x with
    chip := changeAt x.chip idx fun e => { e with words := poisonWords e.words word }
    tiles := if idx < x.chip.length then x.tiles
      else changeAt x.tiles (idx - x.chip.length) fun r => { r with words := poisonWords r.words word }
    parked := if idx < x.chip.length + x.tiles.length then x.parked
      else changeAt x.parked (idx - x.chip.length - x.tiles.length) fun k => k.poisonAt word }

/-- The words of one of them. -/
def Queue.wordsAt (x : Queue) (idx : Nat) : List (Word × Bool) :=
  ((x.chip.map (·.words) ++ x.tiles.map (·.words) ++ x.parked.map fun k => k.header :: k.fields)[idx]?).getD []

/-- The bytes of a delivery in the granule of one of them are poisoned (R337). -/
def PutJob.poisonAt (j : PutJob) (i : Nat) : PutJob :=
  { j with poison := (j.poison.zip (List.range j.poison.length)).map fun p => p.1 || p.2 / 64 == i / 64 }

/-- UNCORRECTABLE_ERROR (R337): the granule is poisoned, and a record written. A message or delivery in flight lies in the
fabric of its sender's die (log 88). -/
def execUncorrectableError (h : ErrHolder) (s : State) : Out :=
  let r : Record := { cause := 0x391, bound := 1, action := 1 }
  let mine (g : Nat) (c : Ctx) (r : Record) : State := (s.setCtx g c).recordCtx g r
  let held (g : Nat) : Bool := (s.ctx g).live && (s.die (dieOf g)).state == .present
  match h with
  | .memGranule pa =>
    whenEnabled "UNCORRECTABLE_ERROR" (decide (pa < deviceEnd) && !(s.homeAbsent pa))
      ((s.setPoison pa true).record (homeDie pa) { r with unit := 4, addr := pa / 64 * 64 })
  | .scratchGranule core off =>
    whenEnabled "UNCORRECTABLE_ERROR" (decide (core < 2048) && decide (off < arrayBytes) &&
        (s.die (core / 256)).state == .present)
      ((s.setPoison (scratchBase + core * arrayBytes + off) true).record (core / 256) { r with core := core })
  | .scalarReg g n =>
    let c := s.ctx g
    let n5 : BitVec 5 := BitVec.ofNat 5 n
    whenEnabled "UNCORRECTABLE_ERROR" (held g && decide (0 < n) && decide (n < 32))
      (mine g (c.setReg n5 (c.raw n5).1 true) r)
  | .vecRow g lane row =>
    let c := s.ctx g
    whenEnabled "UNCORRECTABLE_ERROR" (held g && decide (lane < c.lanes) && decide (row < 64))
      (mine g { c with vec := c.vec.setRow lane row (c.vec.row lane row).1 true }
        { r with lane := (c.vec.lanes[lane]?).getD 0, unit := 1 })
  | .maskSeg g m seg =>
    let c := s.ctx g
    whenEnabled "UNCORRECTABLE_ERROR" (held g && decide (m < 16) && decide (0 < c.geo.segmentBits seg))
      (mine g { c with vec := c.vec.setSegment m seg (c.vec.segment m seg).1 true } { r with unit := 1 })
  | .latchRow g buf row =>
    let c := s.ctx g
    whenEnabled "UNCORRECTABLE_ERROR" (held g && decide (buf < 4) && decide (row < 64) && c.vec.side != 0)
      (mine g { c with vec := { c.vec with latchPoison := aput false c.vec.latchPoison (64 * buf + row) true } }
        { r with unit := 1 })
  | .channelMsg core chan idx =>
    let x := s.chan core chan
    whenEnabled "UNCORRECTABLE_ERROR" (decide (core < 2048) && decide (idx < x.fifo.length) &&
        (s.die (core / 256)).state == .present)
      ((s.setChan core chan (x.poisonAt idx)).record (core / 256) { r with core := core })
  | .l2Line die pa =>
    whenEnabled "UNCORRECTABLE_ERROR" ((s.die die).state == .present && decide (pa < deviceEnd) && s.l2Holds die pa)
      ((s.setPoison pa true).record die { r with unit := 3, addr := pa / 64 * 64 })
  | .l1Line core pa =>
    whenEnabled "UNCORRECTABLE_ERROR" (decide (core < 2048) && decide (pa < deviceEnd) &&
        (s.die (core / 256)).state == .present && (s.core core).l1.any fun l => l.line == pa / 64)
      ((s.setPoison pa true).record (core / 256) { r with core := core, addr := pa / 64 * 64 })
  | .creelLine cl lane idx =>
    let x := s.cluster cl
    let lines := aget [] x.creels lane
    match lines[idx]? with
    | none => .refused (.notEnabled "UNCORRECTABLE_ERROR")
    | some l =>
      let t := s.setCluster cl { x with
        creels := aset x.creels lane (changeAt lines idx fun l => { l with poison := true }) }
      let a := if l.loc < scratchBase then l.loc / 64 * 64 else 0
      whenEnabled "UNCORRECTABLE_ERROR" ((s.die (cl / 16)).state == .present)
        ((t.setPoison l.loc true).record (cl / 16) { r with lane := lane, unit := 9, addr := a })
  | .ringEntry q idx word =>
    let x := s.queueAt q
    let die := s.queueDie q
    whenEnabled "UNCORRECTABLE_ERROR" ((s.die die).state == .present && decide (word < (x.wordsAt idx).length))
      ((s.setQueueAt q (x.poisonAt idx word)).record die { r with vf := s.queueFn q, unit := 8 })
  | .engineCommand die u idx =>
    let x := s.engine ⟨die, u⟩
    whenEnabled "UNCORRECTABLE_ERROR" ((s.die die).state == .present && decide (idx < x.inbox.length))
      ((s.setEngine ⟨die, u⟩ { x with inbox := changeAt x.inbox idx fun k => { k with poison := true } }).record die
        { r with core := 256 * die + u, unit := 5 })
  | .engineReply die u idx =>
    let x := s.engine ⟨die, u⟩
    whenEnabled "UNCORRECTABLE_ERROR" ((s.die die).state == .present && decide (idx < x.replies.length))
      ((s.setEngine ⟨die, u⟩ { x with replies := changeAt x.replies idx fun k => { k with poison := true } }).record die
        { r with core := 256 * die + u, unit := 5 })
  | .messageInFlight k =>
    match s.wires.find? fun w => w.1 == k with
    | none => .refused (.notEnabled "UNCORRECTABLE_ERROR")
    | some w => .next ({ s with wires := aset s.wires k { w.2 with poison := true } }.record
        ((w.2.sender.map dieOf).getD 0) { r with vf := w.2.fn, unit := 8 })
  | .putInFlight k idx =>
    match s.puts.find? fun j => j.1 == k with
    | none => .refused (.notEnabled "UNCORRECTABLE_ERROR")
    | some j =>
      whenEnabled "UNCORRECTABLE_ERROR" (decide (idx < j.2.bytes.length))
        ({ s with puts := aset s.puts k (j.2.poisonAt idx) }.record (dieOf j.2.sender) { r with vf := j.2.fn, unit := 8 })

/-- CTX_LOST (R352): an uncorrectable error in a context's state ends its crew. -/
def execCtxLost (g : Nat) (s : State) : Out :=
  let t := s.recordCtx g { cause := 0x383, bound := 4, action := 6 }
  whenEnabled "CTX_LOST" ((s.ctx g).live && (s.die (dieOf g)).state == .present)
    (match (s.ctx g).crew with
     | some k => t.loseCrew k 0x383
     | none => t.freeCtx g)

/-! ### Corrected errors (R354, R355) -/

/-- The unit of an array, as R346 codes it; arrays are named by unit + 16·index, the index being 256·cluster + lane for
a lane of the die and 16·cluster + lane-set for a check lane. -/
def arrayUnit (arr : Nat) : Nat := arr % 16

/-- What a predictive failure does to the array's unit at once (R355): any other array keeps working until the next reset of
its boundary retires it. -/
def State.retireArray (s : State) (die arr : Nat) : State :=
  let i := arr / 16
  if arrayUnit arr = 1 then s.quarantineLane (16 * die + i / 256 % 16) (i % 256)
  else if arrayUnit arr = 2 then s.quarantineSet (16 * die + i / 16 % 16) (i % 16)
  else s

/-- The lane a record of an array names. -/
def arrayLane (arr : Nat) : Nat := if arrayUnit arr = 1 then arr / 16 % 256 else 0xFF

/-- The monitor of an array acts once its count reaches the threshold (R355). -/
def State.monitor (s : State) (die arr dom : Nat) : State :=
  let d := s.die die
  let x := aget {} d.arrays arr
  let thresh := bitsOf d.errthr.toNat 0 16
  if x.count < thresh ∨ x.failed then s
  else if aget 0 d.undervolt dom ≠ 0 then
    let s := s.setDie die { d with
      undervolt := aput 0 d.undervolt dom 0, arrays := aset d.arrays arr { x with count := 0 } }
    s.record die { cause := 0x399, action := 8, unit := arrayUnit arr, lane := arrayLane arr }
  else
    let s := s.setDie die { d with arrays := aset d.arrays arr { x with failed := true } }
    let s := s.record die { cause := 0x39A, action := 9, unit := arrayUnit arr, lane := arrayLane arr }
    s.retireArray die arr

/-- CORRECTED_ERROR (R352, R355): an array that is in use corrects an error; `dom` is the array's voltage domain. -/
def execCorrectedError (die arr dom : Nat) (s : State) : Out :=
  let d := s.die die
  let x := aget {} d.arrays arr
  let s' := s.setDie die { d with arrays := aset d.arrays arr { x with count := x.count + 1 } }
  let s' := s'.record die { cause := 0x390, unit := arrayUnit arr, lane := arrayLane arr, count := x.count + 1 }
  whenEnabled "CORRECTED_ERROR" (decide (die < 8) && d.state == .present && !(d.retired.contains arr)) (s'.monitor die arr dom)

/-- ERRTHR_WINDOW_END (R354): the array's count starts again. -/
def execErrthrWindowEnd (die arr : Nat) (s : State) : Out :=
  let d := s.die die
  let x := aget {} d.arrays arr
  whenEnabled "ERRTHR_WINDOW_END" (decide (die < 8) && d.state == .present)
    (s.setDie die { d with arrays := aset d.arrays arr { x with count := 0 } })

/-- UNDERVOLT_OFFSET_RESTORE (R355): firmware restores a domain's offset. -/
def execUndervoltOffsetRestore (die dom off : Nat) (s : State) : Out :=
  let d := s.die die
  whenEnabled "UNDERVOLT_OFFSET_RESTORE" (decide (die < 8) && d.state == .present)
    (s.setDie die { d with undervolt := aput 0 d.undervolt dom off })

end Sys2Proof.Machine
end

