-- ==== Sys2Proof/Machine/Control.lean ====
section
/-! DEFINITION. Control transfer, majors 0x0C to 0x0F (R66 to R69). -/

namespace Sys2Proof.Machine

/-- The running context's PC is set. -/
def State.jump (s : State) (pc : Word) : State := s.setMe { s.me with pc := pc, reissue := none, wait := none, cut := none }

/-- A conditional branch (R66, R67): a poisoned operand takes the poisoned-control trap, the sa operand first. -/
def State.branch (s : State) (a b : BitVec 5) (o : BitVec 13) (taken : Word → Word → Bool) : State :=
  if s.rp a then s.poisonTrap a
  else if s.rp b then s.poisonTrap b
  else if taken (s.rv a) (s.rv b) then s.jump (Sys2Proof.Machine.target s.me.pc o)
  else s.advance

/-- BEQ (R67). -/
def execBeq (a b : BitVec 5) (o : BitVec 13) (s : State) : Out := .next (s.branch a b o fun x y => x == y)
/-- BNE (R67). -/
def execBne (a b : BitVec 5) (o : BitVec 13) (s : State) : Out := .next (s.branch a b o fun x y => x != y)
/-- BLT (R67). -/
def execBlt (a b : BitVec 5) (o : BitVec 13) (s : State) : Out := .next (s.branch a b o fun x y => x.slt y)
/-- BGE (R67). -/
def execBge (a b : BitVec 5) (o : BitVec 13) (s : State) : Out := .next (s.branch a b o fun x y => !x.slt y)
/-- BLTU (R67). -/
def execBltu (a b : BitVec 5) (o : BitVec 13) (s : State) : Out := .next (s.branch a b o fun x y => x.ult y)
/-- BGEU (R67). -/
def execBgeu (a b : BitVec 5) (o : BitVec 13) (s : State) : Out := .next (s.branch a b o fun x y => !x.ult y)

/-- The link is written and the PC set (R68, R69). -/
def State.link (s : State) (d : BitVec 5) (v pc : Word) : State := (s.setMe (s.me.setReg d v false)).jump pc

/-- JAL (R68). -/
def execJal (d : BitVec 5) (o : BitVec 21) (s : State) : Out :=
  .next (s.link d (s.me.pc + 4) (target s.me.pc o))

/-- JALR (R66, R68): the target is computed from the old sa. -/
def execJalr (d a : BitVec 5) (imm : BitVec 16) (s : State) : Out :=
  if s.rp a then .next (s.poisonTrap a)
  else .next (s.link d (s.me.pc + 4) (s.rv a + simm imm))

/-- JTAB (R66, R69): an index below n reads its entry with a load of class 15 on the SCALAR path. -/
def execJtab (d a : BitVec 5) (n : BitVec 16) (s : State) : Out :=
  let base := s.me.pc + 4
  let next := base + 4 * BitVec.ofNat 64 n.toNat
  if s.rp a then .next (s.poisonTrap a)
  else if n.toNat ≤ (s.rv a).toNat then .next (s.link d next next)
  else
    let at_ := base + 4 * s.rv a
    match s.load s.cur s.agent .load .scalar 15 at_.toNat 4 with
    | (s, .error x) => .next (s.trapFault .load x)
    | (s, .ok (bytes, poison)) =>
      if poison then .next (s.poisonTrapAt at_)
      else .next (s.link d next (base + (BitVec.ofNat 32 (leNat bytes)).signExtend 64))

end Sys2Proof.Machine
end

