-- ==== Sys2Proof/Machine/CtrlRegs.lean ====
section
/-! DEFINITION. The control registers (R45, R71, R72): what each reads as, what a write stores, the checks of an access,
and the four instructions of major 0x14. -/

namespace Sys2Proof.Machine

/-- An implemented control register as the running thread reads it (R45). -/
def State.crRead (s : State) (n : Nat) : Option Word :=
  let c := s.me
  let d := s.die (dieOf s.cur)
  match n with
  | 0x000 => some c.fstat
  | 0x001 => some c.vstart
  | 0x002 => some c.vstat
  | 0x003 => some c.vspill
  | 0x004 => some c.fmta
  | 0x005 => some c.fmtb
  | 0x006 => some c.scla
  | 0x007 => some c.sclb
  | 0x100 => some c.vl
  | 0x101 => some c.vtype
  | 0x102 => some c.vdecl
  | 0x103 => some c.vgrant
  | 0x104 => some c.cir
  | 0x105 => some (s.cycle (dieOf s.cur))
  | 0x106 => some (s.threadWord s.cur)
  | 0x107 => some (s.crewWord s.cur)
  | 0x108 => some 0x082040#64
  | 0x109 => some c.lanecyc
  | 0x400 => some c.sup.vec
  | 0x401 => some (c.sup.regs.cause.zeroExtend 64)
  | 0x402 => some c.sup.regs.val
  | 0x403 => some c.sup.regs.epc
  | 0x404 => some (c.tstat .supervisor c.sup.regs)
  | 0x405 => some c.sup.regs.telem
  | 0x500 => some (s.tenantWord c.fn)
  | 0x800 => some c.firm.vec
  | 0x801 => some (c.firm.regs.cause.zeroExtend 64)
  | 0x802 => some c.firm.regs.val
  | 0x803 => some c.firm.regs.epc
  | 0x804 => some (c.tstat .firmware c.firm.regs)
  | 0x805 => some c.firm.regs.telem
  | 0x806 => some (c.firm.regs.gpa.zeroExtend 64)
  | 0x810 => some d.prqaddr
  | 0x811 => some d.prqWord
  | 0x912 => some (d.prqstatFor s.cur)
  | 0x814 => some d.vfsel
  | 0x815 => some (if d.vfsel.toNat ≤ 64 then aget 0 d.vftvec d.vfsel.toNat else 0)
  | 0x820 => some d.errthr
  | 0x930 => some s.readyA
  | 0x931 => some s.readyB
  | _ => none

/-- What a read changes: RESULT 4 of PRQSTAT stands for the writer's next read only (R331). -/
def State.afterRead (s : State) (n : Nat) : State :=
  if n = 0x912 then
    let d := s.die (dieOf s.cur)
    s.setDie (dieOf s.cur) { d with prqBusy := d.prqBusy.filter fun g => g != s.cur }
  else s

/-- PPL of a TSTAT write at a level: a value above the level leaves the field (R313). -/
def pplWrite (old : BitVec 2) (v : Word) (l : Level) : BitVec 2 :=
  if l.code < bitsOf v.toNat 0 2 then old else v.extractLsb' 0 2

/-- A write of the trap registers of a level, by the register's place in the set (R311 to R314). -/
def TrapSet.write (t : TrapSet) (l : Level) (i : Nat) (v : Word) : TrapSet :=
  match i with
  | 0 => { t with vec := vecWrite v }
  | 1 => { t with regs := { t.regs with cause := v.extractLsb' 0 10 } }
  | 2 => { t with regs := { t.regs with val := v } }
  | 3 => { t with regs := { t.regs with epc := (v >>> 2) <<< 2 } }
  | 4 => { t with regs := { t.regs with ppl := pplWrite t.regs.ppl v l } }
  | 5 => { t with regs := { t.regs with telem := v &&& 0xFE03FFFF#64 } }
  | 6 => { t with regs := { t.regs with gpa := v.extractLsb' 0 52 } }
  | _ => t

/-- VFTVEC's write (R318): the default of the function VFSEL names, above 64 of none. -/
def State.vftvecWrite (s : State) (d : Nat) (v : Word) : State :=
  let x := s.die d
  if x.vfsel.toNat ≤ 64 then s.setDie d { x with vftvec := aset x.vftvec x.vfsel.toNat (vecWrite v) } else s

/-- A write of a control register of context `g` that has no behaviour of its own: its fields are stored (R71). -/
def State.crStore (s : State) (g n : Nat) (v : Word) : State :=
  let c := s.ctx g
  let d := s.die (dieOf g)
  match n with
  | 0x000 => s.setCtx g { c with fstat := fstatWrite c.fstat v }
  | 0x001 => s.setCtx g { c with vstart := v &&& 0x3FFFF#64 }
  | 0x002 => s.setCtx g { c with vstat := v &&& 1#64 }
  | 0x003 => s.setCtx g { c with vspill := (v >>> 6) <<< 6 }
  | 0x004 => s.setCtx g { c with fmta := v }
  | 0x005 => s.setCtx g { c with fmtb := v }
  | 0x006 => s.setCtx g { c with scla := (v >>> 1) <<< 1 }
  | 0x007 => s.setCtx g { c with sclb := (v >>> 1) <<< 1 }
  | 0x400 => s.setCtx g { c with sup := c.sup.write .supervisor 0 v }
  | 0x401 => s.setCtx g { c with sup := c.sup.write .supervisor 1 v }
  | 0x402 => s.setCtx g { c with sup := c.sup.write .supervisor 2 v }
  | 0x403 => s.setCtx g { c with sup := c.sup.write .supervisor 3 v }
  | 0x404 => s.setCtx g { c with sup := c.sup.write .supervisor 4 v }
  | 0x405 => s.setCtx g { c with sup := c.sup.write .supervisor 5 v }
  | 0x800 => s.setCtx g { c with firm := c.firm.write .firmware 0 v }
  | 0x801 => s.setCtx g { c with firm := c.firm.write .firmware 1 v }
  | 0x802 => s.setCtx g { c with firm := c.firm.write .firmware 2 v }
  | 0x803 => s.setCtx g { c with firm := c.firm.write .firmware 3 v }
  | 0x804 => s.setCtx g { c with firm := c.firm.write .firmware 4 v }
  | 0x805 => s.setCtx g { c with firm := c.firm.write .firmware 5 v }
  | 0x806 => s.setCtx g { c with firm := c.firm.write .firmware 6 v }
  | 0x810 => s.setDie (dieOf g) { d with prqaddr := (v >>> 12) <<< 12 }
  | 0x814 => s.setDie (dieOf g) { d with vfsel := v &&& 0x7F#64 }
  | 0x820 => s.setDie (dieOf g) { d with errthr := v &&& 0xFFFFFFFF0000FFFF#64 }
  | _ => s

/-- A write of a control register of the running thread. -/
def State.crWrite (s : State) (n : Nat) (v : Word) : State :=
  if n = 0x811 then s.prqWrite (dieOf s.cur) v s.cur
  else if n = 0x815 then s.vftvecWrite (dieOf s.cur) v
  else s.crStore s.cur n v

/-- VSAVE and VREFILL read VSPILL (R127, R128). -/
def spillUser (i : Instr) : Bool :=
  match i with
  | .vsave | .vrefill _ => true
  | _ => false

/-- The registers of which an access waits for older vector-queue instructions (R72, R113 to R118, R124); CIR among them,
since they consume poison (R339). -/
def Ctx.waitsForVector (c : Ctx) (n : Nat) : Bool :=
  n = 0x001 || n = 0x100 || n = 0x103 ||
  ((decide (n ≤ 0x007) && n != 0x003 || n = 0x101 || n = 0x102 || n = 0x104) && c.replay.any fun e => e.depth == 0) ||
  (n = 0x003 && c.replay.any fun e => e.depth == 0 && spillUser e.instr)

/-- The checks of an access (R43, R45, R71, R72, R124): a pending LANE_REVOKE where the access waits for the vector queue,
privilege, existence, read-only, a poisoned sa; then the access with the old value. -/
def State.crAccess (s : State) (word : BitVec 32) (r : BitVec 12) (write : Bool) (src : Option (BitVec 5))
    (k : State → Word → State) : State :=
  let lvl := bitsOf r.toNat 10 2
  let w := word.zeroExtend 64
  (if s.me.waitsForVector r.toNat then s.atPoint else fun k => k s) fun s =>
  if lvl ≠ 3 ∧ s.me.level.code < lvl then s.trapHere 0x007 w
  else
    match s.crRead r.toNat with
    | none => s.trapHere 0x008 w
    | some old =>
      if write ∧ bitsOf r.toNat 8 1 = 1 then s.trapHere 0x009 w
      else
        match src.filter fun a => s.rp a with
        | some a => s.poisonTrap a
        | none => k s old

/-- CRR (R71). -/
def execCrr (d : BitVec 5) (r : BitVec 12) (s : State) : Out :=
  .next (s.crAccess ((encode (.crr d r)).getD 0) r false none fun s old =>
    (s.afterRead r.toNat).retire d old false false)

/-- CRW (R71). -/
def execCrw (a : BitVec 5) (r : BitVec 12) (s : State) : Out :=
  .next (s.crAccess ((encode (.crw a r)).getD 0) r true (some a) fun s _ => (s.crWrite r.toNat (s.rv a)).advance)

/-- CRS (R71): the sa operand is read before sd is written. -/
def execCrs (d a : BitVec 5) (r : BitVec 12) (s : State) : Out :=
  .next (s.crAccess ((encode (.crs d a r)).getD 0) r true (some a) fun s old =>
    (s.crWrite r.toNat (old ||| s.rv a)).retire d old false false)

/-- CRC (R71). -/
def execCrc (d a : BitVec 5) (r : BitVec 12) (s : State) : Out :=
  .next (s.crAccess ((encode (.crc d a r)).getD 0) r true (some a) fun s old =>
    (s.crWrite r.toNat (old &&& ~~~(s.rv a))).retire d old false false)

/-- VFTVEC_WRITE (R318): from management, on a die that is present. -/
def execVftvecWrite (die : Nat) (v : Word) (s : State) : Out :=
  whenEnabled "VFTVEC_WRITE" (decide (die < 8) && (s.die die).state == .present) (s.vftvecWrite die v)

/-- The writable registers without behaviour of their own. -/
def plainRegister (n : Nat) : Bool :=
  decide (n ≤ 0x007) || (decide (0x400 ≤ n) && decide (n ≤ 0x405)) || (decide (0x800 ≤ n) && decide (n ≤ 0x806)) ||
  n = 0x810 || n = 0x814 || n = 0x820

/-- REGISTER_WRITE (R71): a register without behaviour of its own, of a live context, takes its fields. -/
def execRegisterWrite (g : Nat) (r : BitVec 12) (v : Word) (s : State) : Out :=
  whenEnabled "REGISTER_WRITE" ((s.ctx g).live && plainRegister r.toNat) (s.crStore g r.toNat v)

end Sys2Proof.Machine
end

