-- ==== Sys2Proof/Machine/Exit.lean ====
section
/-! DEFINITION. EXIT (R77): what ends with the thread, and with the last thread of a core and of a crew. -/

namespace Sys2Proof.Machine

/-- The current task, and every item that a wait which a handler run interrupted was handed, counts as done (R279). -/
def State.exitTask (s : State) : State :=
  let c := s.me
  (c.task.toList ++ (c.handed.toList ++ c.handlers.filterMap (·.handed)).map (·.1)).foldl
    (fun s t => (s.finishTask t).1) s

/-- The thread has exited from its crew (R77, R90, R93, R196): barriers it was awaited at complete, its core's region
is freed after the last thread there, and the crew completes after the last of all. -/
def State.leaveCrew (s : State) (k : Nat) (c : Crew) (i core : Nat) (poisoned : Bool) : State :=
  let c := { c with exited := i :: c.exited }.settle
  let s := s.updLaunch (launchKey c.fn c.lid) fun l => { l with poison := l.poison || poisoned }
  let here := c.live.any fun j => (c.threads[j]?).any fun g => coreOf g == core
  let s := if here then s else s.freeRegion k core
  if c.live.isEmpty then
    let s := (c.cores.foldl (fun s n => s.freeRegion k n) s).updLaunch (launchKey c.fn c.lid) fun l => { l with completed := l.completed + 1, lastDie := c.cluster / 16 }
    { s with crews := aerase s.crews k }
  else { s with crews := aset s.crews k c }

/-- EXIT's effect (R77, R124): older accesses are accepted, the task ends, what the thread held is given up, a pending
LANE_REVOKE goes with the replay queue. -/
def State.exitThread (s : State) : State :=
  let g := s.cur
  let s := (s.drainAll g).exitTask
  let c := s.me
  let s := ((s.settleThread g).dropEarmarks g).freeCtx g
  let s := s.honour (clusterOf g)
  match c.crew.bind fun k => (s.crewOf k).map fun x => (k, x) with
  | none => s
  | some (k, x) => s.leaveCrew k x c.tidx (coreOf g) (bit c.cir 0)

/-- EXIT (R77). -/
def execExit (s : State) : Out := .next s.exitThread

end Sys2Proof.Machine
end

