-- ==== Sys2Proof/Machine/Experts.lean ====
section
/-! DEFINITION. Expert dispatch, major 0x37: XDISP and XCOMB (R282 to R285). -/

namespace Sys2Proof.Machine

/-! ### Accesses that are performed before the instruction ends -/

/-- The running thread's agent once the instruction has begun to write: where its way is held the whole instruction waits
(R361; log 52). -/
def State.begunAgent (s : State) : Agent := { s.agent with stalls := false }

/-- Bytes stored at the home on the SCALAR path, after the older stores that precede them; or the fault with nothing
written. -/
def State.storeNow (s : State) (cls a : Nat) (bytes : List Byte) (poison : Bool) : State × Except AccFault Unit :=
  match (s.beforeWalk s.cur s.agent .store a bytes.length).resolve s.begunAgent .store a bytes.length with
  | (s, .error x) => (s.unitFault x, .error x)
  | (s, .ok parts) =>
    let s := (s.blockParts parts).drain s.cur fun e => orderedBefore .scalar cls e || orderedBefore .host cls e ||
      parts.any fun p => overlaps e.loc e.size p.place.loc p.len
    (s.writeParts parts bytes poison, .ok ())

/-- Pieces of 64 bytes stored one after the other, all checked before any is written. -/
def State.storePieces (s : State) (cls : Nat) : Nat → List (List Byte × Bool) → State
  | _, [] => s
  | a, (b, p) :: rest => (s.storeNow cls a b p).1.storePieces cls (a + 64) rest

/-- A row of 64-byte pieces is stored, or the fault with nothing written. -/
def State.storeRow (s : State) (cls a : Nat) (row : List (List Byte × Bool)) : State × Except AccFault Unit :=
  match (s.beforeWalk s.cur s.agent .store a (64 * row.length)).resolve s.begunAgent .store a (64 * row.length) with
  | (s, .error x) => (s.unitFault x, .error x)
  | (s, .ok _) => (s.storePieces cls a row, .ok ())

/-- A row of `n` pieces of 64 bytes, read with the poison of each. -/
def State.readPieces (s : State) (cls : Nat) : Nat → Nat → State × Except AccFault (List (List Byte × Bool))
  | _, 0 => (s, .ok [])
  | a, n + 1 =>
    match s.load s.cur s.agent .load .scalar cls a 64 with
    | (s, .error x) => (s, .error x)
    | (s, .ok r) =>
      match s.readPieces cls ((a + 64) % 2 ^ 64) n with
      | (s, .error x) => (s, .error x)
      | (s, .ok rs) => (s, .ok (r :: rs))

/-- Words of memory: read, or the state that trapped; poison is a control use (R340). -/
def State.readWords (s : State) (a cls n : Nat) : State × Except State (List Word) :=
  match s.readDescriptor (BitVec.ofNat 64 a) cls n with
  | (s, .error t) => (s, .error t)
  | (s, .ok ws) => (s, .ok (ws.map (·.1)))

/-! ### The tables (R282, R283) -/

/-- Word `i` of a list. -/
def wordOf8 (ws : List Word) (i : Nat) : Nat := ((ws[i]?).getD 0).toNat

/-- Byte `i` of a route record, and the fields of `n` bytes. -/
def routeField (ws : List Word) (i n : Nat) : Nat := numAt (bytesOf ws) i n

/-- NEXP. -/
def tableExperts (hd : List Word) : Nat := bitsOf (wordOf8 hd 0) 0 32
/-- ROWB. -/
def tableRow (hd : List Word) : Nat := bitsOf (wordOf8 hd 0) 32 32

/-- A header of a dispatch table keeps to R282. -/
def goodTable (hd : List Word) : Bool :=
  decide (1 ≤ tableExperts hd) && decide (tableExperts hd ≤ 65535) && tableRow hd % 64 = 0 &&
  decide (64 ≤ tableRow hd) && decide (tableRow hd ≤ 16384) && wordOf8 hd 1 % 16 = 0 &&
  (List.range 5).all fun i => wordOf8 hd (3 + i) == 0

/-- A route record keeps to R282. -/
def goodRoute (rt : List Word) : Bool :=
  decide (routeField rt 4 1 ≤ 7) && decide (routeField rt 5 1 ≤ 15) && routeField rt 6 2 = 0 && routeField rt 56 8 = 0

/-- The expert of choice `r`. -/
def routeExpert (rt : List Word) (r : Nat) : Nat := routeField rt (8 + 2 * r) 2

/-- An entry of a dispatch table keeps to R282. -/
def goodEntry (en : List Word) : Bool := wordOf8 en 0 % 64 = 0 && wordOf8 en 1 % 16 = 0 && wordOf8 en 3 = 0

/-- The address of an expert's entry. -/
def entryAddr (table : Word) (x : Nat) : Nat := (table.toNat + 64 + 32 * x) % 2 ^ 64

/-- A return tag (R283). -/
def tagBytes (token gate slot rank expert flags : Nat) : List Byte :=
  leBytes 4 token ++ leBytes 4 gate ++ leBytes 1 slot ++ leBytes 1 rank ++ leBytes 2 expert ++ leBytes 1 flags ++
    leBytes 3 0

/-! ### XDISP (R284) -/

/-- The entries of the choices, read and checked before any effect. -/
def State.readEntries (s : State) (table : Word) (cls : Nat) : List Nat → State × Except State (List (List Word))
  | [] => (s, .ok [])
  | x :: rest =>
    match s.readWords (entryAddr table x) cls 4 with
    | (s, .error t) => (s, .error t)
    | (s, .ok en) =>
      match s.atomicPlace s.cur s.agent ((entryAddr table x + 16) % 2 ^ 64) 8 with
      | (s, .error f) => (s, .error (s.trapFault .atomic f))
      | (s, .ok _) =>
        match s.readEntries table cls rest with
        | (s, .error t) => (s, .error t)
        | (s, .ok ens) => (s, .ok (en :: ens))

/-- A counter in the high half of a word is raised by one where it is below a bound: the old word; or the state that
trapped. -/
def State.takeSlot (s : State) (a cls : Nat) (below : Nat → Bool) : State × Except State Nat :=
  match s.atomicPlace s.cur s.agent a 8 with
  | (s, .error f) => (s, .error (s.trapFault .atomic f))
  | (s, .ok p) =>
    match s.atomicRead s.cur cls p 8 with
    | (s, bytes, poison) =>
      if poison then (s, .error (s.poisonTrapAt (BitVec.ofNat 64 a)))
      else
        let w := leNat bytes
        if below w then (s.writeHome p.loc (leBytes 8 ((w + 2 ^ 32) % 2 ^ 64)) false p.key, .ok w) else (s, .ok w)

/-- The result word of XDISP. -/
def dispResult (pos expert rank st : Nat) : Nat := pos * 2 ^ 32 + expert * 2 ^ 16 + rank * 2 ^ 8 + st

/-- A row and its tag are written where the slot was taken: whether a write faulted. -/
def State.placeRow (s : State) (cls row : Nat) (tag : Nat) (data : List (List Byte × Bool)) (mk : Nat → List Byte) :
    State × Bool :=
  match s.storeRow cls row data with
  | (s, .ok ()) =>
    match s.storeNow cls tag (mk 0) false with
    | (s, .ok ()) => (s, false)
    | (s, .error _) => (s, true)
  | (s, .error _) => ((s.storeNow cls tag (mk 4) false).1, true)

/-- The choices tried in ranked order, then the drop list. -/
def State.tryChoices (s : State) (d : BitVec 5) (table : Word) (rt hd : List Word) (cls : Nat)
    (data : List (List Byte × Bool)) : Nat → List (Nat × List Word) → State
  | r, (x, en) :: rest =>
    match s.takeSlot ((entryAddr table x + 16) % 2 ^ 64) cls fun w => decide (w / 2 ^ 32 < w % 2 ^ 32) with
    | (_, .error t) => t
    | (s, .ok w) =>
      let old := w / 2 ^ 32
      if old < w % 2 ^ 32 then
        let flag := if r = 0 then 0 else 2
        match s.placeRow cls ((wordOf8 en 0 + tableRow hd * old) % 2 ^ 64) ((wordOf8 en 1 + 16 * old) % 2 ^ 64) data
            fun fault => tagBytes (routeField rt 0 4) (routeField rt (24 + 4 * r) 4) (routeField rt 5 1) r x (flag + fault) with
        | (s, bad) =>
          s.retire d (BitVec.ofNat 64 (dispResult old x r (if bad then 4 else if r = 0 then 0 else 1))) false
            (data.any (·.2))
      else s.tryChoices d table rt hd cls data (r + 1) rest
  | r, [] =>
    match s.takeSlot ((table.toNat + 16) % 2 ^ 64) cls fun _ => true with
    | (_, .error t) => t
    | (s, .ok w) =>
      let old := w / 2 ^ 32
      let st := if old < w % 2 ^ 32 then
          s.storeNow cls ((wordOf8 hd 1 + 16 * old) % 2 ^ 64)
            (tagBytes (routeField rt 0 4) 0 (routeField rt 5 1) r 0xFFFF 1) false
        else (s, .ok ())
      let code := if old < w % 2 ^ 32 then (match st.2 with | .ok () => 2 | .error _ => 4) else 3
      st.1.retire d (BitVec.ofNat 64 (dispResult old 0xFFFF r code)) false (data.any (·.2))

/-- XDISP (R284). -/
def execXdisp (d a b e : BitVec 5) (c : BitVec 4) (s : State) : Out :=
  .next (match [a, b, e].find? fun r => s.rp r with
    | some r => s.poisonTrap r
    | none =>
      match s.readWords (s.rv e).toNat c.toNat 8 with
      | (_, .error t) => t
      | (s, .ok rt) =>
        match s.readWords (s.rv b).toNat c.toNat 8 with
        | (_, .error t) => t
        | (s, .ok hd) =>
          let xs := (List.range (routeField rt 4 1 + 1)).map (routeExpert rt)
          if (s.rv e).toNat % 64 ≠ 0 ∨ (s.rv b).toNat % 64 ≠ 0 ∨ !(goodRoute rt) ∨ !(goodTable hd) then
            s.trapHere 0x287 (s.rv e)
          else if xs.any fun x => decide (tableExperts hd ≤ x) then s.trapHere 0x287 (s.rv e)
          else
            match s.readPieces c.toNat (s.rv a).toNat (tableRow hd / 64) with
            | (s, .error x) => s.trapFault .load x
            | (s, .ok data) =>
              match s.readEntries (s.rv b) c.toNat xs with
              | (_, .error t) => t
              | (s, .ok ens) =>
                if ens.any fun en => !(goodEntry en) then s.trapHere 0x287 (s.rv e)
                else s.tryChoices d (s.rv b) rt hd c.toNat data 0 (xs.zip ens))

/-! ### XCOMB (R285) -/

/-- The elements of a 64-byte piece scaled by a gate: FP32 or BF16, each product rounded once (R285). -/
def scalePiece (bf16 : Bool) (gate : Nat) : Nat → List Byte → List Byte × Flags
  | 0, _ => ([], noFlags)
  | n + 1, bytes =>
    let t := if bf16 then 13 else 10
    let k := if bf16 then 2 else 4
    let r := mulValues t 0 (decodeFloat t (leNat (bytes.take k))) (decodeFloat 10 gate)
    let rest := scalePiece bf16 gate n (bytes.drop k)
    (leBytes k r.1 ++ rest.1, r.2 ||| rest.2)

/-- What XCOMB works on. -/
structure Combine where
  out   : Nat
  nslot : Nat
  bf16  : Bool
  rowb  : Nat
  rows  : Nat
  tags  : Nat
  drop  : Bool
  cls   : Nat
  deriving DecidableEq, Repr

/-- The output row of a tag and its flags: zeros for a drop or a fault, else the scaled row; or the fault of its
read. -/
def State.combineRow (s : State) (k : Combine) (i gate : Nat) (zero : Bool) :
    State × Except AccFault (List (List Byte × Bool) × Flags) :=
  if zero then (s, .ok ((List.range (k.rowb / 64)).map fun _ => (List.replicate 64 0, false), noFlags))
  else
    match s.readPieces k.cls ((k.rows + k.rowb * i) % 2 ^ 64) (k.rowb / 64) with
    | (s, .error x) => (s, .error x)
    | (s, .ok ps) =>
      let rs := ps.map fun p => (scalePiece k.bf16 gate (if k.bf16 then 32 else 16) p.1, p.2)
      (s, .ok (rs.map fun r => (r.1.1, r.2), rs.foldl (fun f r => f ||| r.1.2) noFlags))

/-- The tags from `i` on: rows written, tags skipped, flags, whether poison was read; or the state that trapped. -/
def State.combineTags (s : State) (k : Combine) (d : BitVec 5) : Nat → Nat → Nat → Nat → Flags → Bool → State
  | 0, _, w, skip, fl, p => (s.setMe (s.me.raise fl)).retire d (BitVec.ofNat 64 (skip * 2 ^ 32 + w)) false p
  | n + 1, i, w, skip, fl, p =>
    match s.readWords ((k.tags + 16 * i) % 2 ^ 64) k.cls 2 with
    | (_, .error t) => t
    | (s, .ok tag) =>
      let w0 := wordOf8 tag 0
      let w1 := wordOf8 tag 1
      if k.nslot ≤ bitsOf w1 0 8 then s.combineTags k d n (i + 1) w (skip + 1) fl p
      else
        let at_ := (k.out + (bitsOf w0 0 32 * k.nslot + bitsOf w1 0 8) * k.rowb) % 2 ^ 64
        match s.combineRow k i (bitsOf w0 32 32) (k.drop || bitsOf w1 32 1 = 1 || bitsOf w1 34 1 = 1) with
        | (s, .error x) => s.trapFault .load x
        | (s, .ok (row, f)) =>
          match s.storeRow k.cls at_ row with
          | (s, .error x) => s.trapFault .store x
          | (s, .ok ()) => s.combineTags k d n (i + 1) (w + 1) skip (fl ||| f) (p || row.any (·.2))

/-- A combine descriptor keeps to R285. -/
def goodCombine (ws : List Word) : Bool :=
  wordOf8 ws 0 % 64 = 0 && decide (1 ≤ bitsOf (wordOf8 ws 1) 0 5) && decide (bitsOf (wordOf8 ws 1) 0 5 ≤ 16) &&
  bitsOf (wordOf8 ws 1) 5 3 = 0 && bitsOf (wordOf8 ws 1) 9 55 = 0 && wordOf8 ws 2 = 0 && wordOf8 ws 3 = 0

/-- XCOMB (R285). -/
def execXcomb (d a b e : BitVec 5) (c : BitVec 4) (s : State) : Out :=
  .next (match [a, b, e].find? fun r => s.rp r with
    | some r => s.poisonTrap r
    | none =>
      match s.readWords (s.rv e).toNat c.toNat 4 with
      | (_, .error t) => t
      | (s, .ok ds) =>
        match s.readWords (s.rv b).toNat c.toNat 8 with
        | (_, .error t) => t
        | (s, .ok hd) =>
          let drop := s.rv a == 0xFFFFFFFF#64
          if !(goodCombine ds) || !(goodTable hd) || (!drop && decide (tableExperts hd ≤ (s.rv a).toNat)) then
            s.trapOpen 0x288
          else
            let k : Combine :=
              { out := wordOf8 ds 0, nslot := bitsOf (wordOf8 ds 1) 0 5, bf16 := bitsOf (wordOf8 ds 1) 8 1 = 1,
                rowb := tableRow hd, rows := 0, tags := wordOf8 hd 1, drop := drop, cls := c.toNat }
            if drop then
              s.combineTags k d (min (bitsOf (wordOf8 hd 2) 32 32) (bitsOf (wordOf8 hd 2) 0 32)) 0 0 0 noFlags false
            else
              match s.readWords (entryAddr (s.rv b) (s.rv a).toNat) c.toNat 4 with
              | (_, .error t) => t
              | (s, .ok en) =>
                s.combineTags { k with rows := wordOf8 en 0, tags := wordOf8 en 1 } d
                  (min (bitsOf (wordOf8 en 2) 32 32) (bitsOf (wordOf8 en 2) 0 32)) 0 0 0 noFlags false)

end Sys2Proof.Machine
end

