-- ==== Sys2Proof/Machine/IntArith.lean ====
section
/-! DEFINITION. Scalar integer instructions, majors 0x01 to 0x07 (R59 to R62). -/

namespace Sys2Proof.Machine

/-- Shift left by b[5:0] (R59). -/
def sllWord (a b : Word) : Word := a <<< (b.toNat % 64)

/-- Logical shift right by b[5:0] (R59). -/
def srlWord (a b : Word) : Word := a >>> (b.toNat % 64)

/-- Arithmetic shift right by b[5:0] (R59). -/
def sraWord (a b : Word) : Word := a.sshiftRight (b.toNat % 64)

/-- A truth value as a register result. -/
def truth (b : Bool) : Word := if b then 1 else 0

/-- Leading zero bits; 64 for zero (R59). -/
def clzWord (a : Word) : Word := if a = 0 then 64 else BitVec.ofNat 64 (63 - a.toNat.log2)

/-- Trailing zero bits; 64 for zero (R59). -/
def ctzWord (a : Word) : Word := BitVec.ofNat 64 ((findBelow 64 fun i => bit a i).getD 64)

/-- One bits (R59). -/
def popcWord (a : Word) : Word := BitVec.ofNat 64 (((List.range 64).filter fun i => bit a i).length)

/-- The high half of the signed product (R59). -/
def mulhWord (a b : Word) : Word := BitVec.ofInt 64 (a.toInt * b.toInt / 18446744073709551616)

/-- The high half of the unsigned product (R59). -/
def mulhuWord (a b : Word) : Word := BitVec.ofNat 64 (a.toNat * b.toNat / 18446744073709551616)

/-- Signed quotient toward zero; −1 for a zero divisor (R59). -/
def divWord (a b : Word) : Word := if b = 0 then BitVec.allOnes 64 else a.sdiv b

/-- Unsigned quotient; all ones for a zero divisor (R59). -/
def divuWord (a b : Word) : Word := if b = 0 then BitVec.allOnes 64 else a / b

/-- Signed remainder with the sign of a; a for a zero divisor (R59). -/
def remWord (a b : Word) : Word := if b = 0 then a else a.srem b

/-- Unsigned remainder; a for a zero divisor (R59). -/
def remuWord (a b : Word) : Word := if b = 0 then a else a % b

/-- Bits pos to pos + len − 1, zero-extended (R61). -/
def bfxWord (a : Word) (pos len : Nat) : Word := BitVec.ofNat 64 (bitsOf a.toNat pos len)

/-- The word with bits pos to pos + len − 1 replaced by the low bits of a (R61). -/
def bfiWord (old a : Word) (pos len : Nat) : Word :=
  let mask := BitVec.ofNat 64 ((2 ^ len - 1) * 2 ^ pos)
  (old &&& ~~~mask) ||| ((a <<< pos) &&& mask)

/-- ADD (R59). -/
def execAdd (d a b : BitVec 5) (s : State) : Out := .next (s.alu2 d a b (· + ·))
/-- SUB (R59). -/
def execSub (d a b : BitVec 5) (s : State) : Out := .next (s.alu2 d a b (· - ·))
/-- AND (R59). -/
def execAnd (d a b : BitVec 5) (s : State) : Out := .next (s.alu2 d a b (· &&& ·))
/-- OR (R59). -/
def execOr (d a b : BitVec 5) (s : State) : Out := .next (s.alu2 d a b (· ||| ·))
/-- XOR (R59). -/
def execXor (d a b : BitVec 5) (s : State) : Out := .next (s.alu2 d a b (· ^^^ ·))
/-- SLL (R59). -/
def execSll (d a b : BitVec 5) (s : State) : Out := .next (s.alu2 d a b sllWord)
/-- SRL (R59). -/
def execSrl (d a b : BitVec 5) (s : State) : Out := .next (s.alu2 d a b srlWord)
/-- SRA (R59). -/
def execSra (d a b : BitVec 5) (s : State) : Out := .next (s.alu2 d a b sraWord)
/-- SLT (R59). -/
def execSlt (d a b : BitVec 5) (s : State) : Out := .next (s.alu2 d a b fun x y => truth (x.slt y))
/-- SLTU (R59). -/
def execSltu (d a b : BitVec 5) (s : State) : Out := .next (s.alu2 d a b fun x y => truth (x.ult y))
/-- MIN (R59). -/
def execMin (d a b : BitVec 5) (s : State) : Out := .next (s.alu2 d a b fun x y => if x.slt y then x else y)
/-- MAX (R59). -/
def execMax (d a b : BitVec 5) (s : State) : Out := .next (s.alu2 d a b fun x y => if x.slt y then y else x)
/-- MINU (R59). -/
def execMinu (d a b : BitVec 5) (s : State) : Out := .next (s.alu2 d a b fun x y => if x.ult y then x else y)
/-- MAXU (R59). -/
def execMaxu (d a b : BitVec 5) (s : State) : Out := .next (s.alu2 d a b fun x y => if x.ult y then y else x)
/-- CLZ (R59). -/
def execClz (d a : BitVec 5) (s : State) : Out := .next (s.alu1 d a clzWord)
/-- CTZ (R59). -/
def execCtz (d a : BitVec 5) (s : State) : Out := .next (s.alu1 d a ctzWord)
/-- POPC (R59). -/
def execPopc (d a : BitVec 5) (s : State) : Out := .next (s.alu1 d a popcWord)
/-- MUL (R59). -/
def execMul (d a b : BitVec 5) (s : State) : Out := .next (s.alu2 d a b (· * ·))
/-- MULH (R59). -/
def execMulh (d a b : BitVec 5) (s : State) : Out := .next (s.alu2 d a b mulhWord)
/-- MULHU (R59). -/
def execMulhu (d a b : BitVec 5) (s : State) : Out := .next (s.alu2 d a b mulhuWord)
/-- DIV (R59). -/
def execDiv (d a b : BitVec 5) (s : State) : Out := .next (s.alu2 d a b divWord)
/-- DIVU (R59). -/
def execDivu (d a b : BitVec 5) (s : State) : Out := .next (s.alu2 d a b divuWord)
/-- REM (R59). -/
def execRem (d a b : BitVec 5) (s : State) : Out := .next (s.alu2 d a b remWord)
/-- REMU (R59). -/
def execRemu (d a b : BitVec 5) (s : State) : Out := .next (s.alu2 d a b remuWord)

/-- SEL (R60): sa where sc is not zero, else sb; poisoned with sc, else as the register selected. -/
def execSel (d a b e : BitVec 5) (s : State) : Out :=
  let r := if s.rv e ≠ 0 then a else b
  .next (s.retire d (s.rv r) (s.rp e || s.rp r) (s.rp e || s.rp r))

/-- ADDI (R61). -/
def execAddi (d a : BitVec 5) (imm : BitVec 16) (s : State) : Out := .next (s.alu1 d a (· + simm imm))
/-- ANDI (R61). -/
def execAndi (d a : BitVec 5) (imm : BitVec 14) (s : State) : Out := .next (s.alu1 d a (· &&& simm imm))
/-- ORI (R61). -/
def execOri (d a : BitVec 5) (imm : BitVec 14) (s : State) : Out := .next (s.alu1 d a (· ||| simm imm))
/-- XORI (R61). -/
def execXori (d a : BitVec 5) (imm : BitVec 14) (s : State) : Out := .next (s.alu1 d a (· ^^^ simm imm))
/-- SLTI (R61). -/
def execSlti (d a : BitVec 5) (imm : BitVec 14) (s : State) : Out :=
  .next (s.alu1 d a fun x => truth (x.slt (simm imm)))
/-- SLLI (R61). -/
def execSlli (d a : BitVec 5) (h : BitVec 6) (s : State) : Out := .next (s.alu1 d a (· <<< h.toNat))
/-- SRLI (R61). -/
def execSrli (d a : BitVec 5) (h : BitVec 6) (s : State) : Out := .next (s.alu1 d a (· >>> h.toNat))
/-- SRAI (R61). -/
def execSrai (d a : BitVec 5) (h : BitVec 6) (s : State) : Out := .next (s.alu1 d a fun x => x.sshiftRight h.toNat)
/-- BFX (R61): `l` holds the length less 1. -/
def execBfx (d a : BitVec 5) (p l : BitVec 6) (s : State) : Out :=
  .next (s.alu1 d a fun x => bfxWord x p.toNat (l.toNat + 1))
/-- BFI (R61): reads sd as well; `l` holds the length less 1. -/
def execBfi (d a : BitVec 5) (p l : BitVec 6) (s : State) : Out :=
  .next (s.retire d (bfiWord (s.rv d) (s.rv a) p.toNat (l.toNat + 1)) (s.rp a || s.rp d) (s.rp a || s.rp d))
/-- LIH (R62). -/
def execLih (d : BitVec 5) (imm : BitVec 21) (s : State) : Out :=
  .next (s.retire d (simm imm <<< (16 : Nat)) false false)
/-- ADDPC (R62). -/
def execAddpc (d : BitVec 5) (imm : BitVec 21) (s : State) : Out :=
  .next (s.retire d (s.me.here + simm imm <<< (16 : Nat)) false false)

end Sys2Proof.Machine
end

