-- ==== Sys2Proof/Machine/LanePool.lean ====
section
/-! DEFINITION. The lane-pool instructions, majors 0x18 and 0x19 (R105 to R112, R127, R128). -/

namespace Sys2Proof.Machine

/-! ### Allocate (R109) -/

/-- Lanes of the quota that the other threads of the function use in the cluster. -/
def State.othersUse (s : State) (g : Nat) : Nat :=
  (clusterCtxs (clusterOf g)).foldl (fun n h =>
    let c := s.ctx h
    if c.live && c.fn == (s.ctx g).fn && h != g then n + max c.lanes c.gres else n) 0

/-- The shortfalls of the other waiters of the cluster whose own level is at least the thread's; none where there is no
such waiter. -/
def State.waitersOver (s : State) (g : Nat) : Option Nat :=
  let ws := (clusterCtxs (clusterOf g)).filter fun h =>
    h != g && (s.ctx h).isWaiter && decide ((s.ctx g).prio.toNat ≤ (s.ctx h).prio.toNat)
  if ws.isEmpty then none else some (ws.foldl (fun n h => n + (s.ctx h).short) 0)

/-- Lanes earmarked for a context that have drained. -/
def Cluster.earmarkedFree (x : Cluster) (g : Nat) : Nat :=
  x.count fun l => match l with | .earmarked h _ => h == g | _ => false

/-- Allocate (R109): the new grant and the shortfall. -/
def State.allocate (s : State) (g need : Nat) : Nat × Nat :=
  let c := s.ctx g
  let cl := clusterOf g
  let want := min need c.laneMax
  let own := min want c.gres
  let held := c.lanes - c.gres
  let avail := held + s.freeIn cl + (s.cluster cl).earmarkedFree g
  let quota := s.quotaOf c.fn cl - s.othersUse g - c.gres
  let extra := min (want - own) (min avail quota)
  let extra := match s.waitersOver g with
    | none => extra
    | some short => min extra (held - short)
  (own + extra, want - (own + extra))

/-- The lanes still draining from a thread have drained (R122): its reservation is met from them (R102). -/
def State.finishDrains (s : State) (g : Nat) : State :=
  let mine (x : LaneState) : Bool := match x with | .draining h _ => h == g | _ => false
  let drained := ((s.cluster (clusterOf g)).lanes.filter fun p => mine p.2).map (·.1)
  if drained.isEmpty then s else
  let s := s.drain g fun p => p.path == .lane
  let x := s.cluster (clusterOf g)
  (s.setCluster (clusterOf g) { x with
    creels := x.creels.filter fun p => !(drained.contains p.1)
    lanes := x.lanes.filterMap fun p =>
      match p.2 with
      | .draining h d => if h = g then d.map fun w => (p.1, LaneState.earmarked w.1 w.2) else some p
      | _ => some p }).honour (clusterOf g)

/-- The lowest lanes of a cluster that are free or earmarked for a context. -/
def State.lowestFree (s : State) (g n : Nat) : List Nat :=
  let x := s.cluster (clusterOf g)
  ((List.range 256).filter fun l =>
    match x.lanes.find? fun p => p.1 == l with
    | none => true
    | some p => (match p.2 with | .earmarked h _ => h == g | _ => false)).take n

/-! ### The grant change (R101, R111) -/

/-- The rows kept: those of the first `g` logical lanes, but for tile rows from row `top` on. -/
def keepRows {α : Type} (m : Assoc α) (g top : Nat) : Assoc α :=
  m.filter fun p => decide (p.1 / 64 < g) && decide (p.1 % 64 < top)

/-- Vector state under a new grant and declaration (R111): `bits` mask bits are kept, `top` is the first row that is or was
a tile row. -/
def VecState.regrant (v : VecState) (lanes : List Nat) (bits top : Nat) : VecState :=
  { lanes := lanes
    rows := keepRows v.rows lanes.length top
    rowPoison := keepRows v.rowPoison lanes.length top
    masks := v.masks.filterMap fun p =>
      let kept := keepLow p.2 (bits - 512 * (p.1 % 256))
      if kept = 0 then none else some (p.1, kept)
    maskPoison := v.maskPoison.filter fun p => decide (512 * (p.1 % 256) < bits) }

/-- The starving waiters of a cluster whose own level is above a thread's: the highest level first, then the longest
waiting, then the lowest context (R110, R119; log 77). -/
def State.starvingOver (s : State) (g : Nat) : List Nat :=
  let ws := (clusterCtxs (clusterOf g)).filter fun w =>
    w != g && s.starving w && decide ((s.ctx g).prio.toNat < (s.ctx w).prio.toNat)
  ws.mergeSort fun a b =>
    decide ((s.ctx b).prio.toNat < (s.ctx a).prio.toNat) || ((s.ctx a).prio == (s.ctx b).prio &&
      (decide ((s.ctx b).waiting < (s.ctx a).waiting) || ((s.ctx a).waiting == (s.ctx b).waiting && decide (a ≤ b))))

/-- Lanes given up at a regrant point become free, and of those held beyond the reservation as many as starving waiters lack
are earmarked for them (R110); the reserved share goes back to Reserved (R102). Which of them the claims take is the model's
choice (log 107). -/
def State.giveLanes (s : State) (g : Nat) (given : List Nat) (beyond : Nat) (lanes : Assoc LaneState) : Assoc LaneState :=
  let x := s.cluster (clusterOf g)
  let claims := (s.starvingOver g).flatMap fun w =>
    List.replicate ((s.ctx w).short - x.earmarkedFor w) (LaneState.earmarked w s.clock)
  (given.zip (claims.take beyond ++ List.replicate given.length .free)).foldl
    (fun m p => aput LaneState.free m p.1 (x.released g p.1 p.2)) lanes

/-- The running thread's grant becomes `n` lanes (R101, R102): added lanes are the lowest free ones, released lanes the
highest logical ones. -/
def State.regrantLanes (s : State) (n : Nat) : State × List Nat :=
  let g := s.cur
  let have_ := s.me.vec.lanes
  let kept := have_.take n
  let added := s.lowestFree g (n - kept.length)
  let x := s.cluster (clusterOf g)
  let lanes := markLanes (s.giveLanes g (have_.drop n) (have_.length - max n s.me.gres) x.lanes) added (.granted g)
  (s.setCluster (clusterOf g) { x with lanes := lanes }, kept ++ added)

/-- The vtype that a SETVL commits: rounding mode 7 keeps the one in force (R39, R108). -/
def vtypeWith (old : Word) (v : BitVec 9) : Word :=
  let new := v.zeroExtend 64
  if v.extractLsb' 4 3 = 7 then (new &&& 0x18F#64) ||| (old &&& 0x70#64) else new

/-- VL for a request under VLMAX (R30, R108). -/
def vlFor (vtype : Word) (avl vlmax : Nat) : Nat :=
  let vl := min avl vlmax
  if bit vtype 8 ∧ vl < avl ∧ 32 ≤ vl then vl - vl % 32 else vl

/-- GiveBack (R112): every lane, the waiter's state and the earmarks end. -/
def State.giveUp (s : State) : State := ((s.dropEarmarks s.cur).giveBack s.cur).honour (clusterOf s.cur)

/-- SETVL in the vector queue (R108): the request `avl`, the declaration the entry holds. -/
def State.setLength (s : State) (d : BitVec 5) (v : BitVec 9) (avl : Nat) : State :=
  let e := s.me.reissue.getD { addr := 0, instr := .vgive }
  let vtype := vtypeWith s.me.vtype v
  if avl = 0 then
    let s := s.giveUp
    let c := { s.me with ncode := e.ncode, tl := e.tiles, vtype := vtype, vl := 0 }
    (s.setMe (c.setReg d 0 false)).leaveQueue
  else
    let old := s.me.geo
    let n := regCount e.ncode.toNat
    let rpr := rowsPerReg n e.tiles.toNat
    let need := min ((avl + 512 / typeEw vtype * rpr - 1) / (512 / typeEw vtype * rpr)) 256
    let s := s.finishDrains s.cur
    let r := s.allocate s.cur need
    let changes := r.1 != old.g || e.ncode != s.me.ncode || e.tiles != s.me.tl
    let new : Geo := { n := n, tl := e.tiles.toNat, g := r.1, ew := typeEw vtype }
    let t := if r.1 = old.g then (s, s.me.vec.lanes) else s.regrantLanes r.1
    let vec := if changes then
        s.me.vec.regrant t.2 (min old.vlmax new.vlmax) (64 - 16 * max old.tl new.tl)
      else s.me.vec
    let s := (t.1.dropEarmarks t.1.cur).honour (clusterOf t.1.cur)
    let vl := vlFor vtype avl new.vlmax
    let added := (List.range (64 * (t.2.length - old.g))).map (64 * old.g + ·)
    let c := { s.me.noteRows added with
      vec := vec, ncode := e.ncode, tl := e.tiles, vtype := vtype, vl := BitVec.ofNat 64 vl, short := r.2,
      waiting := if r.2 = 0 then 0 else s.me.waiting }
    (s.setMe (c.setReg d (BitVec.ofNat 64 vl) false)).leaveQueue

/-- Scalar decode of a SETVL or SETVLI (R108, R124, R135): a pending revocation is taken, then LANE_GEOM, then a poisoned
request (log 79), then the entry with the declaration, and the decode type and count that it sets. -/
def State.decodeSetvl (s : State) (i : Instr) (v : BitVec 9) (control : List (BitVec 5)) : Decoded :=
  s.decodePoint fun s =>
    let c := s.me
    if rowsPerReg (regCount c.pncode.toNat) c.ptl.toNat = 0 then
      .trapped (s.trapHere 0x182 (BitVec.ofNat 64 (16 * c.ptl.toNat)))
    else
      s.admitVec control { addr := c.pc, instr := i, caps := c.captures control, ncode := c.pncode, tiles := c.ptl }
        fun c => { c with dtype := vtypeWith c.dtype v, dcode := c.pncode }

/-- Scalar decode of any instruction of the vector queue. -/
def State.decodeQueued (s : State) (i : Instr) : Decoded :=
  match i with
  | .setvl _ a v => s.decodeSetvl i v [a]
  | .setvli _ v _ => s.decodeSetvl i v []
  | _ => s.decodeVector i

/-- An instruction that sets the length runs: decoded first unless it runs again. -/
def State.lengthInsn (s : State) (i : Instr) (body : State → State) : State :=
  if s.me.reissue.isSome then body s
  else
    match s.decodeQueued i with
    | .trapped t => t
    | .queued t e => body (t.setMe { t.me with reissue := some e })

/-- SETVL (R108). -/
def execSetvl (d a : BitVec 5) (v : BitVec 9) (s : State) : Out :=
  .next (s.lengthInsn (.setvl d a v) fun s => s.setLength d v (s.rv a).toNat)

/-- SETVLI (R108). -/
def execSetvli (d : BitVec 5) (v : BitVec 9) (l : BitVec 12) (s : State) : Out :=
  .next (s.lengthInsn (.setvli d v l) fun s => s.setLength d v l.toNat)

/-- VDECL (R106): a point of R124 by its major. -/
def execVdecl (n : BitVec 2) (s : State) : Out :=
  .next (s.atPoint fun s => (s.setMe { s.me with pncode := n }).advance)

/-- VGEOM (R107): a point of R124; the geometry in force; a nonzero sa field gives the pending tile count. -/
def execVgeom (d a : BitVec 5) (s : State) : Out :=
  .next (s.atPoint fun s =>
    if s.rp a then s.poisonTrap a
    else if a ≠ 0 ∧ 4 < (s.rv a).toNat then s.trapHere 0x183 (s.rv a)
    else
      let c := if a = 0 then s.me else { s.me with ptl := BitVec.ofNat 3 (s.rv a).toNat }
      (s.setMe c).retire d s.me.geom false false)

/-- VGIVE (R112). -/
def execVgive (s : State) : Out := .next (s.vector .vgive fun s => s.giveUp.leaveQueue)

/-! ### VSAVE and VREFILL (R127, R128) -/

/-- What the running thread's creels hold while the lines it saved are on their way (R199). -/
def State.stageLines (s : State) : State :=
  let x := s.cluster (clusterOf s.cur)
  s.setCluster (clusterOf s.cur) { x with
    creels := creelShares s.me.vec.lanes (s.me.pend.filter fun p => p.path == .lane) x.creels }

/-- VSAVE (R127): the lines, then the header; a fault is vector-side, since it is a vector memory instruction (log 28). -/
def State.saveVectors (s : State) : State :=
  let c := s.me
  let a := c.vspill.toNat
  match s.storeLines s.cur s.agent ((a + 64) % 2 ^ 64) c.spillLines with
  | (s, some x) => s.vsideFault .spill none x
  | (s, none) =>
    match s.store s.cur s.agent .spill .lane 15 ((a + 8) % 2 ^ 64) (c.spillHeader 2 3) false with
    | (s, .error x) => s.vsideFault .spill none x
    | (s, .ok ()) => s.stageLines.leaveQueue

/-- VSAVE (R127). -/
def execVsave (s : State) : Out := .next (s.vector .vsave State.saveVectors)

/-- Where a line of a spill area goes: a row of a lane, a segment of a mask of which the low bits are kept, a line of a
latch row. -/
inductive RefillTo where
  | row (lane r : Nat)
  | seg (m i bits : Nat)
  | latch (x t j : Nat)
  deriving DecidableEq, Repr

/-- The header of a spill area (R123). -/
structure SpillHeader where
  vl     : Nat
  vstart : Nat
  vtype  : Nat
  geo    : Geo
  side   : Nat
  kind   : Nat
  rows   : List Nat
  lsel   : Nat
  vstat  : Nat
  deriving DecidableEq, Repr

/-- The header that 64 bytes hold. -/
def spillHeaderOf (b : List Byte) : SpillHeader :=
  let num (off n : Nat) : Nat := leNat ((b.drop off).take n)
  { vl := num 8 4, vstart := num 12 4, vtype := num 16 2 % 512,
    geo := { n := regCount (num 21 1 % 4), tl := bitsOf (num 21 1) 2 3, g := num 18 2,
             ew := typeEw (BitVec.ofNat 64 (num 16 2)) },
    side := num 20 1, kind := num 22 1, rows := (List.range 4).map fun i => num (24 + i) 1, lsel := num 28 1 % 4,
    vstat := num 32 8 }

/-- Bytes of a register, of a mask and of a tile in a spill area (R123). -/
def SpillHeader.regBytes (h : SpillHeader) : Nat := h.geo.g * h.geo.rpr * 64
/-- Bytes of a mask. -/
def SpillHeader.maskBytes (h : SpillHeader) : Nat := (h.geo.vlmax + 511) / 512 * 64
/-- The offset of the first mask. -/
def SpillHeader.masksAt (h : SpillHeader) : Nat := 64 + h.geo.n * h.regBytes
/-- The offset of the first tile. -/
def SpillHeader.tilesAt (h : SpillHeader) : Nat := h.masksAt + 16 * h.maskBytes
/-- The offset of the first latch buffer. -/
def SpillHeader.latchesAt (h : SpillHeader) : Nat := h.tilesAt + h.geo.tl * (1024 * h.side * h.side)

/-- The lines a refill reads, with where each goes (R128): `x` is the new geometry, `g` the side of the weave. -/
def SpillHeader.plan (h : SpillHeader) (x : Geo) (g : Nat) : List (RefillTo × Nat) :=
  let regs := (List.range (min x.n h.geo.n)).flatMap fun k =>
    (List.range (min (x.rpr * x.g) (h.geo.rpr * h.geo.g))).map fun i =>
      (RefillTo.row (i % x.g) (k * x.rpr + i / x.g), 64 + k * h.regBytes + 64 * i)
  let bits := min x.vlmax h.geo.vlmax
  let masks := (List.range 16).flatMap fun m =>
    (List.range ((bits + 511) / 512)).map fun i =>
      (RefillTo.seg m i (bits - 512 * i), h.masksAt + m * h.maskBytes + 64 * i)
  let tiles := if g = 0 then [] else
    (List.range (min x.tl h.geo.tl)).flatMap fun t =>
      (List.range (16 * min g h.side)).flatMap fun i =>
        (List.range (min g h.side)).map fun j =>
          (RefillTo.row (i / 16 * g + j) (tileRow t i), h.tilesAt + t * (1024 * h.side * h.side) + 64 * (i * h.side + j))
  let latches := if g = 0 ∨ g ≠ h.side then [] else
    (List.range 4).flatMap fun b =>
      (List.range 64).flatMap fun t =>
        (List.range g).map fun j => (RefillTo.latch b t j, h.latchesAt + b * (4096 * g) + 64 * (t * g + j))
  regs ++ masks ++ tiles ++ latches

/-- The lines of a plan, read one after the other (R128): a fault leaves nothing changed but what was read. -/
def State.readPlan (s : State) (base : Nat) :
    List (RefillTo × Nat) → State × Except AccFault (List (RefillTo × Row × Bool))
  | [] => (s, .ok [])
  | (dst, off) :: rest =>
    match s.load s.cur s.agent .load .lane 15 ((base + off) % 2 ^ 64) 64 with
    | (s, .error x) => (s, .error x)
    | (s, .ok (bytes, p)) =>
      match s.readPlan base rest with
      | (s, .error x) => (s, .error x)
      | (s, .ok ls) => (s, .ok ((dst, BitVec.ofNat 512 (leNat bytes), p) :: ls))

/-- A line that was read takes its place. -/
def VecState.refill (v : VecState) (l : RefillTo × Row × Bool) : VecState :=
  match l.1 with
  | .row lane r => v.setRow lane r l.2.1 l.2.2
  | .seg m i bits => v.setSegment m i (keepLow l.2.1 bits) l.2.2
  | .latch x t j =>
    let v := v.setLatchLine x t j l.2.1
    { v with latchPoison := aput false v.latchPoison (64 * x + t) (aget false v.latchPoison (64 * x + t) || l.2.2) }

/-- The vector state before the lines of a refill: registers and masks zero, and tiles and latches where the area held a
weave (R128). -/
def VecState.cleared (v : VecState) (x : Geo) (go : Nat) : VecState :=
  let keep (k : Nat) : Bool := decide (x.n * x.rpr ≤ k % 64) && (go = 0 || v.side = 0 || decide (k % 64 < 64 - 16 * x.tl))
  let v := { v with
    rows := v.rows.filter fun p => keep p.1, rowPoison := v.rowPoison.filter fun p => keep p.1,
    masks := [], maskPoison := [] }
  if go = 0 then v else { v with slots := [], latchPoison := [], valid := [] }

/-- The status of a refill but for its low two bits (R128). -/
def SpillHeader.status (h : SpillHeader) (x : Geo) (g : Nat) : Nat :=
  (if x.n < h.geo.n then 0x10 else 0) +
  (if h.side ≠ 0 ∧ g ≠ 0 ∧ (g < h.side ∨ x.tl < h.geo.tl) then 0x4 else 0) +
  (if h.side ≠ 0 ∧ h.side ≠ g then 0x8 else 0)

/-- VTYPE as a header gives it (R128): VTYPE.RM never holds 5, 6 or 7, and such a write leaves the field (R16, R133). A
reserved type pair is taken as it stands (log 80). -/
def SpillHeader.vtypeOver (h : SpillHeader) (old : Word) : Word :=
  if 5 ≤ h.vtype / 16 % 8 then BitVec.ofNat 64 (h.vtype / 128 * 128 + old.toNat / 16 % 8 * 16 + h.vtype % 16)
  else BitVec.ofNat 64 h.vtype

/-- VREFILL once its header was read (R128). A header that reads poisoned is used as it stands: its poison goes to `sd` and is
consumed, which is the model's choice (log 108). -/
def State.refillFrom (s : State) (d : BitVec 5) (h : SpillHeader) (poison : Bool) : State :=
  let vtype := h.vtypeOver s.me.vtype
  let s := s.setMe { s.me with dtype := vtype }
  let x : Geo := { s.me.geo with ew := typeEw vtype }
  let g := s.me.vec.side
  match s.readPlan s.me.vspill.toNat (h.plan x g) with
  | (s, .error f) => s.vsideFault .spill none f
  | (s, .ok lines) =>
    let c := s.me
    let vec := lines.foldl VecState.refill (c.vec.cleared x h.side)
    let vec := if h.side ≠ 0 ∧ h.side = g then
        { vec with valid := (h.rows.zip (List.range 4)).foldl (fun m r => aput 0 m r.2 r.1) [],
                   lsel := BitVec.ofNat 2 h.lsel }
      else vec
    let vl := min h.vl x.vlmax
    let st := h.status x g + (if vl < h.vl then 2 else 0) + (if min h.vstart vl < h.vstart then 1 else 0)
    let rows := (List.range x.g).flatMap fun l => (List.range (x.n * x.rpr)).map (64 * l + ·)
    let c := { c.noteRows rows with
      vec := vec, vtype := vtype, dtype := vtype, vstat := BitVec.ofNat 64 (h.vstat % 2), vl := BitVec.ofNat 64 vl,
      vstart := BitVec.ofNat 64 (min h.vstart vl) }
    let p := poison || lines.any fun l => l.2.2
    (s.setMe ((c.setReg d (BitVec.ofNat 64 st) poison).consume p)).leaveQueue

/-- VREFILL in the vector queue (R128). -/
def State.refillVectors (s : State) (d : BitVec 5) : State :=
  match s.load s.cur s.agent .load .lane 15 s.me.vspill.toNat 64 with
  | (s, .error x) => s.vsideFault .spill none x
  | (s, .ok (bytes, poison)) =>
    let h := spillHeaderOf bytes
    if h.kind = 1 ∨ h.kind = 2 then s.refillFrom d h poison
    else (s.setMe ((s.me.setReg d 0x20 poison).consume poison)).leaveQueue

/-- VREFILL (R128). -/
def execVrefill (d : BitVec 5) (s : State) : Out := .next (s.vector (.vrefill d) fun s => s.refillVectors d)

end Sys2Proof.Machine
end

