-- ==== Sys2Proof/Machine/Links.lean ====
section
/-! DEFINITION. Links beyond the package: Euvex links and inbound accesses (R363 to R366), the host links, address
translation by the host and MSI-X masks (R367 to R369). -/

namespace Sys2Proof.Machine

/-! ### Euvex links (R366) -/

/-- The X-die that holds a link has reported ready (R363, R378). -/
def State.xdieOfLink (s : State) (l : Nat) : Bool := if l < 8 then s.mgmt else s.xdie

/-- A link reset (R352, R366): the link retrains; its record stands on C-die 0 (log 57). -/
def State.resetLink (s : State) (l : Nat) : State :=
  (s.setEuvex l { state := .retrain, came := (s.euvex l).came }).record 0 { cause := 0x396, bound := 7, action := 7, core := l, unit := 6 }

/-- LINK_RETRY (R366): a flit fails its check and is retried; the 16th failure of one flit starts a link reset. -/
def execLinkRetry (l : Nat) (s : State) : Out :=
  let x := s.euvex l
  whenEnabled "LINK_RETRY" (decide (l < 16) && x.state == .up)
    (if 16 ≤ x.retries + 1 then s.resetLink l else s.setEuvex l { x with retries := x.retries + 1 })

/-- LINK_RESET (R366): by firmware, also from DOWN. -/
def execLinkReset (l : Nat) (s : State) : Out :=
  whenEnabled "LINK_RESET" (decide (l < 16) && s.xdieOfLink l) (s.resetLink l)

/-- LINK_RETRAIN_END (R366): the link is UP, or retrains again, and after the third failure is DOWN. -/
def execLinkRetrainEnd (l : Nat) (up : Bool) (s : State) : Out :=
  let x := s.euvex l
  let failed : Link := { x with state := if 3 ≤ x.failed + 1 then .down else .retrain, failed := x.failed + 1 }
  whenEnabled "LINK_RETRAIN_END" (decide (l < 16) && x.state == .retrain)
    (s.setEuvex l (if up then { state := .up, came := true } else failed))

/-- EUVEX_LINK_UP (R378): at bring-up. -/
def execEuvexLinkUp (l : Nat) (s : State) : Out :=
  let x := s.euvex l
  whenEnabled "EUVEX_LINK_UP"
    (decide (l < 16) && s.xdieOfLink l && x.state == .down && x.failed == 0 && !x.came && !(s.failed.contains (.link l)))
    (s.setEuvex l { state := .up, came := true })

/-! ### Inbound accesses (R365) -/

/-- A window holds an address and trusts a source function. -/
def Window.admits (w : Window) (src pa n : Nat) : Bool :=
  decide (w.base ≤ pa) && decide (pa + n ≤ w.base + 4096 * w.size) && w.trust.contains src

/-- The window through which an access enters. -/
def State.windowFor (s : State) (src pa n : Nat) : Option Window :=
  (s.windows.find? fun p => p.2.admits src pa n).map (·.2)

/-- A refused access is recorded (R365); the spec names no cause for the record: a free value (log 46). -/
def State.recordInbound (s : State) (f : Nat) : State :=
  (s.record 0 { cause := s.freeCause f, bound := 7, vf := f, unit := 6 }).tick

/-- Where an inbound access lands in its function's stage-2 view, in device or host memory: none where stage 2 does not
give it. Nothing is forwarded to another link (R363). -/
def State.inboundPlace (s : State) (f pa n : Nat) (write : Bool) : Option Place :=
  match s.stage2 f pa with
  | .error _ => none
  | .ok l =>
    if (if write then l.w else l.r) && decide (pa % 2 ^ l.bits + n ≤ 2 ^ l.bits) && !(s.unmapped f (l.at pa)) &&
        !(inPeer (l.at pa)) && !(s.keyMissing l pa) then some (s.placeAt f (l.at pa) (s.slotKey l.key))
    else none

/-- An inbound access waits: the island of its home's die is being reset (R361). -/
def State.inboundHeld (s : State) (p : Place) : Bool :=
  decide (p.loc < deviceEnd) && ((s.die (homeDie p.loc)).islandBusy || s.awaitsWalk p.loc)

/-- An inbound message waits: the island of its destination's die is being reset (R361). -/
def State.inboundWire (s : State) (w : Wire) : Bool :=
  match s.target w.fn w.dest with
  | .core c _ => (s.die (c / 256)).islandBusy
  | .engine d _ => (s.die d).islandBusy
  | _ => false

/-- The A bit, and for a write the D bit, of the leaf that an inbound access uses (R324). -/
def State.markInbound (s : State) (src pa n : Nat) (write : Bool) : State :=
  match s.windowFor src pa n with
  | some w => s.markFrame w.fn pa write
  | none => s

/-- A read by a peer: the bytes with their poison, poison where it is refused. -/
def State.peerRead (s : State) (src pa n : Nat) : State :=
  match (s.windowFor src pa n).bind fun w => s.inboundPlace w.fn pa n false with
  | none =>
    let t := s.recordInbound 127
    { t with report := (List.range n).map fun i => Config.freeByte s.freeCount i, answer := 1 }
  | some p =>
    let s := ((s.block (s.inboundHeld p)).markInbound src pa n false).noteRead p
    let r := s.readPlace p n
    { s with report := r.1, answer := BitVec.ofNat 64 (ofBool r.2) }

/-- A store by a peer, discarded where it is refused. -/
def State.peerWrite (s : State) (src pa : Nat) (bytes : List Byte) (poison : Bool) : State :=
  match (s.windowFor src pa bytes.length).bind fun w => s.inboundPlace w.fn pa bytes.length true with
  | none => s.recordInbound 127
  | some p =>
    let s := ((s.block (s.inboundHeld p)).markInbound src pa bytes.length true).noteDead p
    if p.dead then s else s.writeHome p.loc bytes poison p.key

/-- A message from a peer: its status, which is counted for the function (R242), TENANT where it is refused. -/
def State.peerMessage (s : State) (src win ep dest cls : Nat) (payload : BitVec 256) (poison : Bool) : State :=
  match (s.windows.find? fun p => p.1 == win).map (·.2) with
  | none => { s.recordInbound 127 with answer := 3 }
  | some w =>
    if !(w.trust.contains src) || bitsOf dest 30 1 = 1 then { s.recordInbound 127 with answer := 3 }
    else
      let m : Wire := { src := 2 ^ 30 + src / 128 % 4096 * 2 ^ 18 + ep % 2 ^ 18, fn := w.fn, dest := dest, cls := cls,
                        kind := 0, payload := payload, poison := poison }
      match (s.block (s.inboundWire m)).offerAny m with
      | (s, st) => { s with answer := BitVec.ofNat 64 st }

/-- PEER_INBOUND_ACCESS (R365). -/
def execPeerInboundAccess (acc : PeerAccess) (s : State) : Out :=
  let ok := (List.range 16).any fun l => (s.euvex l).state == .up
  match acc with
  | .read src pa n => whenEnabled "PEER_INBOUND_ACCESS" (ok && decide (0 < n)) (s.peerRead src pa n)
  | .write src pa bytes poison => whenEnabled "PEER_INBOUND_ACCESS" (ok && !bytes.isEmpty) (s.peerWrite src pa bytes poison)
  | .message src win ep dest cls payload poison =>
    whenEnabled "PEER_INBOUND_ACCESS" (ok && wellFormedEndpoint dest && decide (cls < 16))
      (s.peerMessage src win ep dest cls payload poison)

/-! ### The host links (R367 to R369) -/

/-- HOST_LINK_UP (R378): a host link finishes its training. -/
def execHostLinkUp (x : Nat) (s : State) : Out :=
  whenEnabled "HOST_LINK_UP" (decide (x < 2) && (if x = 0 then s.mgmt else s.xdie) && !(s.failed.contains (.host x)))
    { s with hostLinks := aset s.hostLinks x true }

/-- HOST_LINK_DOWN (R368, R369): the loss is recorded (R379; its cause is a free value, log 46). -/
def execHostLinkDown (x : Nat) (s : State) : Out :=
  whenEnabled "HOST_LINK_DOWN" (decide (x < 2) && aget false s.hostLinks x)
    ({ s with hostLinks := aset s.hostLinks x false }.record 0
      { cause := s.freeCause x, bound := 7, core := 16 + x, unit := 6 }).tick

/-- ATS_INVALIDATION (R367): the translation of a host page leaves the X-die's cache, after every access of the function to
host memory that used it is performed. -/
def execAtsInvalidation (x f : Nat) (va : Word) (s : State) : Out :=
  let used (e : Pending) : Bool := decide (hostBase ≤ e.loc) && decide (e.loc < scratchBase) &&
    (e.loc - hostBase) / 4096 == va.toNat % 2 ^ 51 / 4096
  whenEnabled "ATS_INVALIDATION" (aget false s.hostLinks x)
    (let t := s.ctxs.foldl (fun s p => if p.2.fn = f then s.drain p.1 used else s) s
     { t with ats := aset t.ats x ((aget [] t.ats x).filter (· != (f, va.toNat % 2 ^ 51 / 4096))) })

/-- MSIX_VECTOR_UNMASK (R369): a vector held pending is sent. -/
def execMsixVectorUnmask (f v : Nat) (s : State) : Out :=
  whenEnabled "MSIX_VECTOR_UNMASK" (decide (f ≤ 64) && decide (v < 64) && s.hostUp f) (s.unmaskVector f v)

end Sys2Proof.Machine
end

