-- ==== Sys2Proof/Machine/Resets.lean ====
section
/-! DEFINITION. Resets and absence (R100, R353, R357 to R361): a function's reset, the absent moment of a die and its
return, islands, and flits at a Stile. -/

namespace Sys2Proof.Machine

/-! ### VF reset (R100, R242, R281, R290, R353) -/

/-- Every crew with the property ends at once. -/
def State.endCrews (s : State) (which : Crew → Bool) : State :=
  ((s.crews.filter fun p => which p.2).map (·.1)).foldl (fun s k => s.endCrew k) s

/-- A die's queues and counters as a function's reset leaves them (R281): its queues closed and empty, its counters 0. -/
def Die.clearedFor (d : Die) (f : Nat) (owns : Nat → Bool) : Die :=
  { d with
    queues := d.queues.filter fun q => q.2.fn != f
    counters := d.counters.filter fun c => !(owns c.1) }

/-- A core as a function's reset leaves it (R242, R290): in its partition every channel is empty and unbound; its
directory entries are freed. -/
def Core.clearedFor (x : Core) (f : Nat) (inside : Bool) : Core :=
  { x with
    chans := if inside then [] else x.chans
    dir := x.dir.map fun e => if e.2.fn = f ∧ e.2.state ≠ .free then (e.1, e.2.freed) else e }

/-- The cluster lies in a function's partition. -/
def State.inPartition (s : State) (f cl : Nat) : Bool :=
  match (s.fnOf f).part with | some p => p.holds cl | none => false

/-- The record of a function's reset, on each of its C-dies (R352). -/
def State.recordReset (s : State) (f : Nat) : State :=
  (match (s.fnOf f).part with | some p => p.dies | none => []).foldl
    (fun s d => s.record d { cause := 0x398, bound := 5, action := 7, vf := f, unit := 8 }) s

/-- A move between a function that is reset and another one (R294, R353): where the destination is the function's, the entry
stays where it was, and DMOVE gives 4; where the source is, it is gone, and DMOVE gives 1. -/
def State.cutMove (s : State) (f : Nat) (p : Nat × Move) : State :=
  let source := (s.slotAt p.2.source).fn
  if p.2.fn = f ∧ source ≠ f then (s.cancelMove p.1 p.2).answerMove p.2 4
  else if p.2.fn ≠ f ∧ source = f then
    (s.cancelMove p.1 p.2).answerMove p.2 1
  else s

/-- VF reset (R100, R353): its crews end with no completion, its launches, queues, channels, entries and censuses are
gone, LID and PORTSTAT restart. -/
def State.resetFn (s : State) (f : Nat) : State :=
  let s := ((s.recordReset f).endCrews fun c => c.fn == f).endCensuses fun c => c.fn == f
  let s := s.moves.foldl (fun s p => s.cutMove f p) s
  let x := s.fnOf f
  let s := s.setFn f { x with
    lqueues := [], headAge := [], lid := 0, last := 0, portPart := false, resetting := true }
  { s with
    launches := s.launches.filter fun p => p.1 / 2 ^ 32 != f
    moves := s.moves.filter fun p => p.2.fn != f
    dies := s.dies.map fun p => (p.1, p.2.clearedFor f fun c => s.ownsCounter f p.1 c)
    cores := s.cores.map fun p => (p.1, p.2.clearedFor f (s.inPartition f (p.1 / 16))) }

/-- VF_RESET (R100, R353): by firmware through management, or a function-level reset of the VF by the host; so once the
controller is ready, or the VF's host link is up (R378). -/
def execVfReset (f : Nat) (s : State) : Out :=
  whenEnabled "VF_RESET" (decide (f < 64) && (s.mgmt || s.hostUp f) && !(s.fnOf f).resetting) (s.resetFn f)

/-- VF_RESET_END (R353): the function's endpoints answer again. -/
def execVfResetEnd (f : Nat) (s : State) : Out :=
  whenEnabled "VF_RESET_END" ((s.fnOf f).resetting) (s.setFn f { s.fnOf f with resetting := false })

/-! ### The absent moment (R303, R304, R353, R358, R359) -/

/-- Moves with one side on a die that becomes absent (R303): cancelled at the destination where the source's die is
lost; with the source valid again, and answer 4, where the destination's is. -/
def State.loseMoves (s : State) (d : Nat) : State :=
  s.moves.foldl (fun s p =>
    let m := p.2
    if m.source / 64 / 256 = d then
      let t := s.setSlotAt m.dest (s.slotAt m.dest).freed
      { t with moves := aerase t.moves p.1 }
    else if m.dest / 64 / 256 = d then (s.cancelMove p.1 m).answerMove m 4
    else s) s

/-- Every thread on a die ends with its crew, which its launch counts as lost (R353). -/
def State.loseThreads (s : State) (d : Nat) : State :=
  let s := ((s.crews.filter fun p => p.2.cluster / 16 == d && !p.2.saved).map (·.1)).foldl
    (fun s k => s.loseCrew k 0x384) s
  ((s.ctxs.filter fun p => dieOf p.1 == d).map (·.1)).foldl (fun s g => (s.settleThread g).freeCtx g) s

/-- The counted entries of a die's cores get null replies (R304). -/
def Census.nullFrom (c : Census) (d : Nat) : Census :=
  { c with counted := c.counted.map fun e => if e.core / 256 = d then e.nullified else e }

/-- Every census as the loss of a die leaves it: those of its own unit end, their counts on its cores are null. -/
def State.loseCensuses (s : State) (d : Nat) : State :=
  let s := ((s.die d).censuses.map fun c => 256 * d + c.1).foldl (fun s k => s.freeCensus k) s
  { s with dies := s.dies.map fun p =>
      (p.1, { p.2 with censuses := p.2.censuses.map fun c => (c.1, c.2.nullFrom d) }) }

/-- A dirty line homed on another die is lost (R353): its granule is poisoned. What the home still stores under the
poison is a free value (log 54). -/
def State.loseLine (s : State) (a : Nat) : State :=
  ((List.range 64).foldl (fun s i => s.storeByte (a + i) (Config.freeByte s.freeCount (a + i))) s).setPoison a true

/-- The lines with a property that a die's L1s hold and that are homed elsewhere. -/
def State.foreignLines (s : State) (d : Nat) (which : L1Line → Bool) : List Nat :=
  (s.cores.filter fun p => p.1 / 256 == d).flatMap fun p =>
    (p.2.l1.filter fun l => which l && homeDie (64 * l.line) != d).map fun l => 64 * l.line

/-- The commands that the engines of a die run when it is lost are cut (R262, R353). -/
def State.cutEngines (s : State) (d : Nat) : State :=
  (List.range 4).foldl (fun s u => match s.inProgress ⟨d, u⟩ with
    | some p => s.cutCommand ⟨d, u⟩ p.1 p.2
    | none => s) s

/-- A core after the reset of its die: its directory entries are freed, and the censuses that visited it are known
still; its array, channels and granule roles start anew. -/
def Core.afterReset (x : Core) : Core :=
  { dir := x.dir.map fun e => if e.2.state = .free then e else (e.1, e.2.freed), seen := x.seen }

/-- The engines of a die that is reset (R262; log 56): their commands are discarded, to be answered once they are ready
again. -/
def Engine.lost (x : Engine) : Engine :=
  { x with ready := false, inbox := [], replies := [], discarded := x.discarded ++ x.inbox }

/-- A die's own state after its reset; its error records, its undervolt offsets, the generations of its census ids and
what its Stile holds stay. Its predictive-failed arrays are retired, but for lanes and check lanes, which were quarantined at
once (R355). -/
def Die.afterReset (x : Die) (after : DieState) (lost : Bool) : Die :=
  { x.retire (fun a => a % 16 != 1 && a % 16 != 2) with
    state := after, reported := false, walkLost := x.walkLost || lost, ftvec := 0, vfsel := 0, vftvec := [], prqaddr := 0,
    prq := 0, prqstat := 0, prqBusy := [], prqWork := none, errthr := BitVec.ofNat 64 (1024 * 4294967296 + 16),
    arrays := [], queues := [], counters := [], engines := x.engines.map (fun e => (e.1, e.2.lost)), throttle := 0 }

/-- The place in the scratch store lies in an array of the die. -/
def inArrays (d k : Nat) : Bool := k / (256 * arrayBytes) == d

/-- The package units of a die that must report ready again (R380). -/
def unitOfDie (d : Nat) : ReadyUnit → Bool
  | .cdie x => x == d
  | .hbm k => k / 2 == d
  | .engine x _ => x == d
  | _ => false

/-- A die becomes absent, and its reset or power-off begins (R353, R358, R380): lines of other homes that its L1s hold
dirty are lost, and where no walk can run, so are all that they hold with write ownership; else the walk runs on. A walk that
starts again goes on over the lines of the one before. -/
def State.loseDie (s : State) (d : Nat) (after : DieState) (lost : Bool) : State :=
  let s := (s.cutEngines d).record d { cause := 0x397, bound := 8, action := 7, unit := 8 }
  let s := ((s.loseMoves d).loseThreads d).loseCensuses d
  let owned := (s.die d).walkOwned ++ s.foreignLines d (·.owned)
  let s := ((s.foreignLines d fun l => l.dirty) ++ if lost then owned else []).foldl (fun s a => s.loseLine a) s
  let x := (s.die d).afterReset after lost
  let s := s.setDie d { x with walking := !lost, walkOwned := if lost then [] else owned }
  { s.dropL2 fun e _ => e == d with
    cores := s.cores.map fun p => if p.1 / 256 = d then (p.1, p.2.afterReset) else p
    clusters := s.clusters.map fun p => if p.1 / 16 = d then (p.1, { quotas := p.2.quotas }) else p
    scratch := s.scratch.filter fun p => !(inArrays d p.1)
    scrPoison := s.scrPoison.filter fun p => !(inArrays d (64 * p.1))
    hbmStacks := aput false (aput false s.hbmStacks (2 * d) false) (2 * d + 1) false
    failed := s.failed.filter fun u => !(unitOfDie d u) }

/-- The die is present. -/
def State.isPresent (s : State) (d : Nat) : Bool := decide (d < 8) && (s.die d).state == .present

/-- DIE_RESET (R353, R361, R380): firmware resets a die, also one that missed its bound, once no reset of its island is in
progress. -/
def execDieReset (die : Nat) (s : State) : Out :=
  whenEnabled "DIE_RESET"
    ((s.isPresent die || (decide (die < 8) && s.failed.contains (.cdie die))) && !(s.die die).islandBusy)
    (s.loseDie die .resetting false)

/-- DIE_HEARTBEAT_LOSS (R358): the Stile resets its die at once. -/
def execDieHeartbeatLoss (die : Nat) (s : State) : Out :=
  whenEnabled "DIE_HEARTBEAT_LOSS" (s.isPresent die && !(s.die die).islandBusy) (s.loseDie die .resetting false)

/-- DIE_REQUEST_TIMEOUT (R358). -/
def execDieRequestTimeout (die : Nat) (s : State) : Out :=
  whenEnabled "DIE_REQUEST_TIMEOUT" (s.isPresent die && !(s.die die).islandBusy) (s.loseDie die .resetting false)

/-- DIE_POWER_OFF (R353): the tag walk runs before power is removed. -/
def execDiePowerOff (die : Nat) (s : State) : Out :=
  whenEnabled "DIE_POWER_OFF" (s.isPresent die && !(s.die die).islandBusy) (s.loseDie die .off false)

/-- DIE_POWER_LOSS (R353): the die loses power before any walk; its reset waits for its island (R361; log 53). -/
def execDiePowerLoss (die : Nat) (s : State) : Out :=
  whenEnabled "DIE_POWER_LOSS" (s.isPresent die && !(s.die die).islandBusy) (s.loseDie die .resetting true)

/-- THERMAL_TRIP (R380, R383): a die reset, also in the die's first bring-up and while its power-off runs; during one, it
starts again. It waits for its island (R361). -/
def execThermalTrip (die : Nat) (s : State) : Out :=
  let d := s.die die
  whenEnabled "THERMAL_TRIP"
    (decide (die < 8) && s.powered && (d.state != .off || d.walking) && !d.islandBusy)
    (s.loseDie die (if d.state = .off then .off else .resetting) false)

/-- TAG_WALK_TIMEOUT (R353): the walk of a die's reset or power-off does not complete; the lines of other homes that it
held with write ownership are poisoned there. -/
def execTagWalkTimeout (die : Nat) (s : State) : Out :=
  let d := s.die die
  whenEnabled "TAG_WALK_TIMEOUT" (decide (die < 8) && d.walking && !d.reported)
    (let t := d.walkOwned.foldl (fun s a => s.loseLine a) s
     t.setDie die { t.die die with walkLost := true, walking := false, walkOwned := [] })

/-- The tag walk of a die completes (R353). -/
def State.endTagWalk (s : State) (die : Nat) : State :=
  s.setDie die { s.die die with walking := false, walkOwned := [] }

/-! ### The die's return (R353, R360, R378) -/

/-- A stack has reported ready or failed. -/
def State.stackSettled (s : State) (k : Nat) : Bool := aget false s.hbmStacks k || s.failed.contains (.hbm k)

/-- The logged granules are poisoned and the log cleared (R360). -/
def State.poisonLogged (s : State) (d : Nat) : State :=
  let s := (s.die d).log.foldl (fun s g => s.setPoison g true) s
  s.setDie d { s.die d with log := [] }

/-- A die whose walk did not complete poisons its whole HBM and writes a record (R353, R360). -/
def State.poisonAll (s : State) (d : Nat) : State :=
  let x := s.die d
  if x.walkLost then
    let s := s.setDie d { x with walkLost := false, lostMemory := true }
    ({ s with memPoison := s.memPoison.filter fun p => homeDie (64 * p.1) != d }).record d
      { cause := 0x391, bound := 8, action := 1, unit := 4 }
  else s

/-- A die that has reported ready becomes present once its stacks are settled and the logged granules poisoned; its
memory stays absent where the log had overflowed (R360, R378). -/
def State.admitDie (s : State) (d : Nat) : State :=
  if (s.die d).reported && s.stackSettled (2 * d) && s.stackSettled (2 * d + 1) && (s.die d).state != .present then
    let s := (s.poisonAll d).poisonLogged d
    let x := s.die d
    s.setDie d { x with state := .present, memHeld := x.overflow }
  else s

/-- A bank of an image kind passes verification; one that no update has written holds the image of manufacture (R382;
log 70). -/
def State.bankGood (s : State) (kind bank : Nat) : Bool :=
  !(ahas s.images (2 * kind + bank)) || Config.imageVerifies kind (aget [] s.images (2 * kind + bank))

/-- The bank that is to come into force at the next reset of the functions of a kind. -/
def State.bankDue (s : State) (kind : Nat) : Nat := aget (aget 0 s.banks kind) s.nextBanks kind

/-- The bank that comes into force: the one due where it passes verification, else the other; none where both fail. -/
def State.bankFor (s : State) (kind : Nat) : Option Nat :=
  [s.bankDue kind, 1 - s.bankDue kind].find? (s.bankGood kind)

/-- The bank of the next reset comes into force for the functions of an image kind; a bank that is passed over is recorded
(R382; the cause is a free value, log 46). -/
def State.takeBank (s : State) (kind : Nat) : State :=
  let due := s.bankDue kind
  let bank := (s.bankFor kind).getD due
  let s := if s.bankGood kind due then s else (s.record 0 { cause := s.freeCause kind, unit := 8 }).tick
  { s with banks := aput 0 s.banks kind bank, nextBanks := aerase s.nextBanks kind }

/-- Functions whose images fail in both banks stay failed; else they come up (R382). -/
def State.withBank (s : State) (kinds : List Nat) (u : ReadyUnit) (up : State → State) : State :=
  let t := kinds.foldl (fun s k => s.takeBank k) s
  if kinds.all fun k => (s.bankFor k).isSome then up t else { t with failed := u :: t.failed }

/-- DIE_READY (R353, R360, R378): a C-die reports ready; its arithmetic clock has left reset (R58), and it runs the
image of the active bank, or where both banks fail stays failed (R382). -/
def execDieReady (die : Nat) (s : State) : Out :=
  let d := s.die die
  whenEnabled "DIE_READY"
    (decide (die < 8) && d.state != .present && d.stile && !d.stileFailed && !d.islandBusy && !d.reported &&
      !(s.failed.contains (.cdie die)))
    (s.withBank [0] (.cdie die) fun t =>
      ((t.endTagWalk die).setDie die
        { (t.endTagWalk die).die die with reported := true, clockBase := s.clock }).admitDie die)

/-- HBM_READY (R378): a stack reports ready. -/
def execHbmReady (stack : Nat) (s : State) : Out :=
  whenEnabled "HBM_READY" (decide (stack < 16) && (s.die (stack / 2)).reported && !(s.stackSettled stack))
    (({ s with hbmStacks := aset s.hbmStacks stack true }).admitDie (stack / 2))

/-! ### Islands (R361) -/

/-- ISLAND_RESET (R361, R380): firmware resets a Stile's island, once no reset of its die is in progress; the Stile is not
ready until it resumes, and a record reports that (R379; the cause is a free value, log 46). -/
def execIslandReset (die : Nat) (s : State) : Out :=
  let d := s.die die
  whenEnabled "ISLAND_RESET" (decide (die < 8) && (d.stile || d.stileFailed) && !d.islandBusy && d.state != .resetting)
    ((s.setDie die { d with stile := false, stileFailed := false, islandBusy := true }).record die
      { cause := s.freeCause die, bound := 8, action := 7, unit := 7 }).tick

/-- A partition contains a die, or a route between two of its dies passes through it. -/
def Rect.routesThrough (p : Rect) (die : Nat) : Bool := p.dies.any fun a => p.dies.any fun b => (routeOf a b).contains die

/-- Firmware resets every partition that contains a die or routes through it (R361). -/
def State.resetThrough (s : State) (die : Nat) : State :=
  ((s.fns.filter fun p => !p.2.resetting && p.2.part.any fun r => r.routesThrough die).map (·.1)).foldl
    (fun s f => s.resetFn f) s

/-- ISLAND_FAILED (R361): the island has not resumed in time; its neighbours answer for every route through it, and the
partitions that need it are reset. -/
def execIslandFailed (die : Nat) (s : State) : Out :=
  let d := s.die die
  whenEnabled "ISLAND_FAILED" (decide (die < 8) && d.islandBusy)
    ((((s.setDie die { d with islandBusy := false, stileFailed := true }).record die
      { cause := s.freeCause die, bound := 8, unit := 7 }).tick).resetThrough die)

/-- STILE_READY (R361, R378): at bring-up, or an island that resumes after its reset. -/
def execStileReady (die : Nat) (s : State) : Out :=
  let d := s.die die
  whenEnabled "STILE_READY" (decide (die < 8) && s.mgmt && (d.islandBusy || (!d.stile && !d.stileFailed && !(s.failed.contains (.stile die)))))
    (s.setDie die { d with stile := true, islandBusy := false, stileFailed := false })

/-! ### Flits (R359) -/

/-- A read request at a Stile: the bytes and whether they are poisoned; a record where the home is absent (R359). -/
def State.flitRead (s : State) (pa len : Nat) : State :=
  let s := s.noteAbsent pa
  let r := s.readLoc pa len (aget noKey s.lineKey (pa / 64))
  { s with report := r.1, answer := BitVec.ofNat 64 (ofBool r.2) }

/-- An atomic update of 8 bytes (R236). -/
def atomicApply (f : AtomicFn) (old v : Word) : Word :=
  match f with
  | .swap => v
  | .add => old + v
  | .and => old &&& v
  | .or => old ||| v
  | .xor => old ^^^ v
  | .min => if v.slt old then v else old
  | .max => if old.slt v then v else old

/-- An atomic operation at a Stile: the old value and its poison, and the update, which an absent home does not make (R236,
R359). -/
def State.flitAtomic (s : State) (pa : Nat) (f : AtomicFn) (v : Word) : State :=
  let key := aget noKey s.lineKey (pa / 64)
  let t := s.flitRead pa 8
  let r := s.readLoc pa 8 key
  if s.homeAbsent pa then t
  else t.writeHome pa (leBytes 8 (atomicApply f (BitVec.ofNat 64 (leNat r.1)) v).toNat) r.2 key

/-- STILE_FLIT (R357, R359): transit traffic is forwarded, always; else the die serves the flit, or the Stile answers for
it. -/
def execStileFlit (die : Nat) (flit : Flit) (s : State) : Out :=
  let d := s.die die
  let up := decide (die < 8) && d.stile && !d.stileFailed && !d.islandBusy
  let here (pa len : Nat) : Bool := up && decide (pa < deviceEnd) && homeDie pa == die && decide (pa % 64 + len ≤ 64)
  match flit with
  | .transit => whenEnabled "STILE_FLIT" up s
  | .read pa len => whenEnabled "STILE_FLIT" (here pa len) (s.viewing die fun s => s.flitRead pa len)
  | .store pa bytes poison =>
    whenEnabled "STILE_FLIT" (here pa bytes.length)
      (s.viewing die fun s => s.writeHome pa bytes poison (aget noKey s.lineKey (pa / 64)))
  | .atomicOp pa f v => whenEnabled "STILE_FLIT" (here pa 8) (s.viewing die fun s => s.flitAtomic pa f v)
  | .wire k =>
    match s.wireAt k with
    | none => .refused (.notEnabled "STILE_FLIT")
    | some w =>
      let mine := match s.target w.fn w.dest with
        | .core c _ => c / 256 == die
        | .engine e _ => e == die
        | _ => false
      whenEnabled "STILE_FLIT" (up && mine && s.canArrive k w) (s.arriveWire k w)
  | .visit cid core =>
    match s.census cid with
    | none => .refused (.notEnabled "STILE_FLIT")
    | some c => whenEnabled "STILE_FLIT" (up && core / 256 == die && !c.done && c.toVisit.contains core) (s.visit cid core c)
  | .forward k =>
    match (s.forwards.find? fun p => p.1 == k).map (·.2) with
    | none => .refused (.notEnabled "STILE_FLIT")
    | some f =>
      let e := s.slotAt f.dest
      whenEnabled "STILE_FLIT" (up && f.dest / 64 / 256 == die && !(e.state == .destination && e.gen == f.gen))
        (s.arriveForward k f)

end Sys2Proof.Machine
end

