-- ==== Sys2Proof/Machine/Management.lean ====
section
/-! DEFINITION. Management (R373 to R376, R381 to R383) and what is left of bring-up (R378): each operation leaves in
`answer` 0 for success, 1 for the refusal that R374 names, and 2 for busy (R381; log 58). -/

namespace Sys2Proof.Machine

/-- A management operation ends with success. -/
def State.granted (s : State) : State := { s with answer := 0 }

/-- A management operation is refused. -/
def State.denied (s : State) : State := { s with answer := 1 }

/-- A management operation: answered busy while another is being served (R381), refused, or with its effect; no management
traffic is answered before the controller is ready (R378). -/
def State.manage (s : State) (name : String) (wellFormed refuse : Bool) (act : State → State) : Out :=
  whenEnabled name (s.mgmt && wellFormed)
    (if s.mgmtBusy then { s with answer := 2 } else if refuse then s.denied else (act s).granted)

/-! ### Tenancy (R374) -/

/-- Two rectangles share a cluster. -/
def Rect.meets (a b : Rect) : Bool :=
  decide (a.x0 < b.x0 + b.w) && decide (b.x0 < a.x0 + a.w) && decide (a.y0 < b.y0 + b.h) && decide (b.y0 < a.y0 + a.h)

/-- A rectangle overlaps another function's partition. -/
def State.overlapsOther (s : State) (f : Nat) (r : Rect) : Bool :=
  s.fns.any fun p => p.1 != f && (match p.2.part with | some q => q.meets r | none => false)

/-- The function has a resident crew, an open queue or a live census. -/
def State.inUse (s : State) (f : Nat) : Bool :=
  (s.crews.any fun p => p.2.fn == f && !p.2.saved) ||
  (s.dies.any fun d => (d.2.queues.any fun q => q.2.isOpen && q.2.fn == f) ||
    (d.2.censuses.any fun c => c.2.fn == f)) ||
  ((s.fnOf f).lqueues.any fun q => q.2.isOpen)

/-- PARTITION (R370, R374). -/
def execPartition (f x0 y0 w h : Nat) (s : State) : Out :=
  let r : Rect := { x0 := x0, y0 := y0, w := w, h := h }
  s.manage "PARTITION"
    (decide (f ≤ 64) && decide (0 < w) && decide (0 < h) && decide (x0 + w ≤ 16) && decide (y0 + h ≤ 8))
    (s.overlapsOther f r || s.inUse f) fun s => s.setFn f { s.fnOf f with part := some r }

/-- QUOTA (R373, R374). -/
def execQuota (f cl lanes : Nat) (s : State) : Out :=
  s.manage "QUOTA" (decide (f ≤ 64) && decide (cl < 128)) (decide (256 < lanes)) fun s =>
    s.setCluster cl { s.cluster cl with quotas := aset (s.cluster cl).quotas f lanes }

/-- HBMSHARE (R373, R374). -/
def execHbmshare (f stack weight : Nat) (s : State) : Out :=
  s.manage "HBMSHARE" (decide (f ≤ 64) && decide (stack < 16) && decide (weight ≤ 255)) false fun s =>
    s.setFn f { s.fnOf f with weights := aset (s.fnOf f).weights stack weight }

/-- S2ROOT (R374): the root is installed, then TLBINV VFALL acts. -/
def execS2root (f root : Nat) (s : State) : Out :=
  s.manage "S2ROOT" (decide (f ≤ 64) && decide (root < 2 ^ 52)) (decide (root % 65536 ≠ 0)) fun s =>
    (s.setFn f { s.fnOf f with s2root := some root }).removeTranslations (fun e => e.fn == f) fun e => e.fn == f

/-- Queues and counters of a die go to a function, and from every other one (R374). -/
def State.assignRange (s : State) (f die : Nat) (r : QRange) : State :=
  let s := { s with fns := s.fns.map fun (p : Nat × Fn) =>
    if p.1 ≠ f ∧ ahas p.2.assigned die = true then
      (p.1, { p.2 with reassigned := aset p.2.reassigned die (r :: aget [] p.2.reassigned die) })
    else p }
  s.setFn f { s.fnOf f with
    assigned := aset (s.fnOf f).assigned die r, reassigned := aerase (s.fnOf f).reassigned die }

/-- QASSIGN (R271, R280, R374). -/
def execQassign (f die q0 qn c0 cn : Nat) (s : State) : Out :=
  let taken := (s.die die).queues.any fun q => q.2.isOpen && q.2.fn != f && decide (q0 ≤ q.1) && decide (q.1 < q0 + qn)
  s.manage "QASSIGN" (decide (f ≤ 64) && decide (die < 8) && decide (q0 + qn ≤ 256) && decide (c0 + cn ≤ 4096)) taken
    fun s => s.assignRange f die { q0 := q0, qn := qn, c0 := c0, cn := cn }

/-- APERTURE (R362, R374). -/
def execAperture (idx : Nat) (valid : Bool) (dev addr : Nat) (mask : BitVec 65) (s : State) : Out :=
  s.manage "APERTURE" true (decide (1024 ≤ idx) || decide (4096 ≤ dev) || decide (4096 ≤ addr)) fun s =>
    { s with apertures := if valid then aset s.apertures idx { dev := dev, addr := addr, mask := mask }
                          else aerase s.apertures idx }

/-- PEERLINKS (R363, R374). -/
def execPeerlinks (peer : Nat) (links : List Nat) (s : State) : Out :=
  s.manage "PEERLINKS" true
    (decide (0xFFF ≤ peer) || decide (16 < links.length) || (links.any fun l => decide (16 ≤ l)) || !(decide links.Nodup))
    fun s => { s with linkSets := aset s.linkSets peer links }

/-- INBOUND (R365, R374). -/
def execInbound (idx base size f : Nat) (trust : List Nat) (s : State) : Out :=
  s.manage "INBOUND" true
    (decide (1024 ≤ idx) || decide (base % 4096 ≠ 0) || decide (2 ^ 52 < base + 4096 * size) || decide (64 < f))
    fun s => { s with windows := aset s.windows idx { base := base, size := size, fn := f, trust := trust } }

/-- MEMRELEASE (R360, R374): the memory of a die whose log overflowed serves again; what was logged meanwhile is poisoned
first. -/
def execMemrelease (die : Nat) (s : State) : Out :=
  s.manage "MEMRELEASE" (decide (die < 8)) ((s.die die).state != .present) fun s =>
    (s.poisonLogged die).setDie die { (s.poisonLogged die).die die with memHeld := false, overflow := false }

/-- The counts of a function, one word each: lane, granule and context cycles, messages accepted and refused, drops,
pushes, dispatches, fulls, stops, registrations, moves, directory refusals, revocations by cause (R374). -/
def Usage.words (u : Usage) : List Word :=
  ([u.laneCycles, u.granuleCycles, u.ctxCycles, u.accepted, u.refused, u.drops, u.pushes, u.dispatches, u.fulls, u.stops,
    u.registrations, u.moves, u.dirRefusals, aget 0 u.revokes 0, aget 0 u.revokes 1, aget 0 u.revokes 2]).map
    fun n => BitVec.ofNat 64 n

/-- COUNTERS (R374): the counts stand in `report`. -/
def execCounters (f : Nat) (s : State) : Out :=
  s.manage "COUNTERS" (decide (f ≤ 64)) false fun s => { s with report := bytesOf (s.fnOf f).usage.words }

/-! ### Keys (R375, R376) -/

/-- Cached copies of a line are tagged with a slot (R376). -/
def State.taggedWith (s : State) (slot line : Nat) : Bool := (aget noKey s.tags line).map (·.1) == some slot

/-- The lines of a slot that are dirty in some cache. -/
def State.dirtyOf (s : State) (slot : Nat) : List Nat :=
  ((s.cores.flatMap fun p => (p.2.l1.filter (·.dirty)).map (·.line)) ++ (s.l2.filter (·.2.dirty)).map (·.2.line)).filter
    (s.taggedWith slot)

/-- KEYLOAD (R375). Lines that are dirty in a cache when a loaded slot takes another key are written back under the new
one (log 14). -/
def execKeyload (slot : Nat) (wrapped : BitVec 576) (s : State) : Out :=
  let key := Config.unwrap wrapped
  s.manage "KEYLOAD" (decide (slot < 1024)) key.isNone fun s =>
    let new : Key := key.map fun k => (slot, k)
    let t := (s.dirtyOf slot).foldl (fun s line =>
      { s with lineKey := aset s.lineKey line new, tags := aset s.tags line new }) s
    { t with keys := aset t.keys slot (key.getD 0) }

/-- The cached lines of a slot are written back and dropped. -/
def State.dropTagged (s : State) (slot : Nat) : State :=
  { s.dropL2 fun _ l => s.taggedWith slot l.line with
    cores := s.cores.map fun p => (p.1, { p.2 with l1 := p.2.l1.filter fun l => !(s.taggedWith slot l.line) }) }

/-- KEYCLEAR (R375): the slot's translations are removed, once the accesses that used them are performed, then its cached
lines are written back and dropped, and the slot is emptied. -/
def execKeyclear (slot : Nat) (s : State) : Out :=
  s.manage "KEYCLEAR" (decide (slot < 1024)) false fun s =>
    let t := (s.removeTranslations (fun e => e.key == slot) fun _ => false).dropTagged slot
    { t with keys := aerase t.keys slot }

/-! ### Transport, images, power (R381 to R383) -/

/-- PLDM_DISCOVERY (R381): the types the endpoint answers. -/
def execPldmDiscovery (s : State) : Out :=
  s.manage "PLDM_DISCOVERY" true false fun s => { s with report := [0x00#8, 0x02#8, 0x05#8, 0x3F#8] }

/-- SENSOR_READ (R381): input voltage, module power, coolant inlet temperature, and the hottest junction of each die;
the reading is a free value. -/
def execSensorRead (id : Nat) (s : State) : Out :=
  s.manage "SENSOR_READ" (decide (id < 11)) false fun s =>
    { s.tick with report := leBytes 8 (Config.sensor id s.freeCount).toNat }

/-- POWER_CAP_SET (R383): from 1.5 kW to 4.2 kW. -/
def execPowerCapSet (watts : Nat) (s : State) : Out :=
  s.manage "POWER_CAP_SET" true (decide (watts < 1500) || decide (4200 < watts)) fun s => { s with powerCap := watts }

/-- FIRMWARE_UPDATE (R382): an image that passes its checks goes to the inactive bank and takes effect at the next reset
of the functions that run it. -/
def execFirmwareUpdate (kind : Nat) (image : List Byte) (s : State) : Out :=
  let bank := 1 - aget 0 s.banks kind
  s.manage "FIRMWARE_UPDATE" (decide (kind < 3))
    (!(Config.imageVerifies kind image) || decide (Config.imageVersion image < s.secMin)) fun s =>
    { s with images := aset s.images (2 * kind + bank) image, nextBanks := aset s.nextBanks kind bank }

/-- THERMAL_THROTTLE (R383): idle issue cycles are inserted into a die. -/
def execThermalThrottle (die cycles : Nat) (s : State) : Out :=
  whenEnabled "THERMAL_THROTTLE" (s.isPresent die) (s.setDie die { s.die die with throttle := cycles })

/-! ### Bring-up (R378) -/

/-- POWER_GOOD (R378). -/
def execPowerGood (s : State) : Out := whenEnabled "POWER_GOOD" (!s.powered) { s with powered := true }

/-- MGMT_READY (R378, R382): the images of X-die 0 and of the package scheduler are verified first. -/
def execMgmtReady (s : State) : Out :=
  whenEnabled "MGMT_READY" (s.powered && !s.mgmt && !(s.failed.contains .mgmt))
    (s.withBank [1, 2] .mgmt fun t => { t with mgmt := true })

/-- XDIE_READY (R378, R382): X-die 1, whose image is verified first. -/
def execXdieReady (s : State) : Out :=
  whenEnabled "XDIE_READY" (s.mgmt && !s.xdie && !(s.failed.contains .xdie))
    (s.withBank [1] .xdie fun t => { t with xdie := true })

/-- ENGINE_READY (R262, R378): the commands a reset discarded are answered. -/
def execEngineReady (die u : Nat) (s : State) : Out :=
  let e : Seat := ⟨die, u⟩
  whenEnabled "ENGINE_READY"
    (decide (die < 8) && decide (u < 4) && (s.die die).reported && !(s.engine e).ready &&
      !(s.failed.contains (.engine die u)))
    (let t := s.answerDiscarded e
     t.setEngine e { t.engine e with ready := true })

/-- A function that a unit's bound counts from has reported, and the unit has not; a link that was up once met its bound
(R378). -/
def State.awaited (s : State) (u : ReadyUnit) : Bool :=
  !(s.failed.contains u) &&
  match u with
  | .mgmt => s.powered && !s.mgmt
  | .xdie => s.mgmt && !s.xdie
  | .stile d => decide (d < 8) && s.mgmt && !(s.die d).stile && !(s.die d).islandBusy && !(s.die d).stileFailed
  | .cdie d => decide (d < 8) && (s.die d).stile && !(s.die d).reported
  | .hbm k => decide (k < 16) && (s.die (k / 2)).reported && !(aget false s.hbmStacks k)
  | .engine d n => decide (d < 8) && decide (n < 4) && (s.die d).reported && !(aget {} (s.die d).engines n).ready
  | .link l => decide (l < 16) && (if l < 8 then s.mgmt else s.xdie) && !(aget {} s.links l).came
  | .host x => decide (x < 2) && (if x = 0 then s.mgmt else s.xdie) && !(ahas s.hostLinks x)

/-- The C-die on which the failure of a unit is recorded, the UNIT of R346 and the id of an engine; X-dies have no die
(log 57). -/
def unitRecord (u : ReadyUnit) : Nat × Nat × Nat :=
  match u with
  | .mgmt | .xdie => (0, 8, 0)
  | .stile d => (d, 7, 0)
  | .cdie d => (d, 8, 0)
  | .hbm k => (k / 2, 4, 0)
  | .engine d n => (d, 5, 256 * d + n)
  | .link _ | .host _ => (0, 6, 0)

/-- READY_TIMEOUT (R378): a function misses its bound and is marked failed; a die may become present now that a stack of
its is settled. -/
def execReadyTimeout (u : ReadyUnit) (s : State) : Out :=
  let r := unitRecord u
  let t := ({ s with failed := u :: s.failed }.record r.1
    { cause := s.freeCause 0, unit := r.2.1, core := r.2.2 }).tick
  let t := match u with | .stile d => t.setDie d { t.die d with stileFailed := true } | _ => t
  whenEnabled "READY_TIMEOUT" (s.awaited u) (match u with | .hbm k => t.admitDie (k / 2) | _ => t)

end Sys2Proof.Machine
end

