-- ==== Sys2Proof/Machine/MaskCross.lean ====
section
/-! DEFINITION. Masks and lane crossing: majors 0x26 to 0x29 (R150 to R165). -/

namespace Sys2Proof.Machine

/-! ### Mask logic (R155) -/

/-- A mask instruction writes bits up to the boundary; a group that read poison consumes it. -/
def State.maskwise (s : State) (d : BitVec 4) (ps : List MaskPut) (reads : Bool) : State :=
  let c := s.me
  let n := if reads then c.geo.groupsOf ((ps.filter (·.poison)).map (·.e)) else 0
  (s.setMe ((c.writeMask d.toNat ps).consumeTimes n)).commitTo c.stop noFlags

/-- Mask logic of two sources. -/
def State.maskLogic (s : State) (d a b : BitVec 4) (f : Bool → Bool → Bool) : State :=
  let v := s.me.vec
  s.maskwise d (s.me.span.map fun e =>
    let x := v.maskBit a.toNat e
    let y := v.maskBit b.toNat e
    { e := e, val := f x.1 y.1, poison := x.2 || y.2 }) true

/-- MAND (R155). -/
def execMand (d a b : BitVec 4) (s : State) : Out := .next (s.vector (.mand d a b) fun s => s.maskLogic d a b (· && ·))
/-- MOR (R155). -/
def execMor (d a b : BitVec 4) (s : State) : Out := .next (s.vector (.mor d a b) fun s => s.maskLogic d a b (· || ·))
/-- MXOR (R155). -/
def execMxor (d a b : BitVec 4) (s : State) : Out := .next (s.vector (.mxor d a b) fun s => s.maskLogic d a b (· ^^ ·))
/-- MNOT (R155). -/
def execMnot (d a : BitVec 4) (s : State) : Out :=
  .next (s.vector (.mnot d a) fun s => s.maskLogic d a a fun x _ => !x)
/-- MSET (R155). -/
def execMset (d : BitVec 4) (s : State) : Out :=
  .next (s.vector (.mset d) fun s => s.maskwise d (s.me.span.map fun e => { e := e, val := true, poison := false }) false)
/-- MCLR (R155). -/
def execMclr (d : BitVec 4) (s : State) : Out :=
  .next (s.vector (.mclr d) fun s =>
    s.maskwise d (s.me.span.map fun e => { e := e, val := false, poison := false }) false)

/-! ### Mask to scalar (R156) -/

/-- The set bits of a mask from VSTART to VL − 1. -/
def Ctx.setBitsOf (c : Ctx) (a : BitVec 4) : List Nat :=
  ((List.range (c.len - c.start)).map (c.start + ·)).filter fun e => (c.vec.maskBit a.toNat e).1

/-- A segment of a mask read from VSTART to VL − 1 is poisoned. -/
def Ctx.maskPoisoned (c : Ctx) (a : BitVec 4) : Bool :=
  decide (c.start < c.len) &&
    (List.range ((c.len + 511) / 512)).any fun i => decide (c.start / 512 ≤ i) && (c.vec.segment a.toNat i).2

/-- A scalar made of a mask. -/
def State.maskScalar (s : State) (d : BitVec 5) (a : BitVec 4) (f : List Nat → Word) : State :=
  let c := s.me
  let p := c.maskPoisoned a
  (s.setMe ((c.setReg d (f (c.setBitsOf a)) p).consume p)).retireVec noFlags

/-- MCNT (R156). -/
def execMcnt (d : BitVec 5) (a : BitVec 4) (s : State) : Out :=
  .next (s.vector (.mcnt d a) fun s => s.maskScalar d a fun es => BitVec.ofNat 64 es.length)
/-- MANY (R156). -/
def execMany (d : BitVec 5) (a : BitVec 4) (s : State) : Out :=
  .next (s.vector (.many d a) fun s => s.maskScalar d a fun es => if es = [] then 0 else 1)
/-- MFIRST (R156). -/
def execMfirst (d : BitVec 5) (a : BitVec 4) (s : State) : Out :=
  .next (s.vector (.mfirst d a) fun s => s.maskScalar d a fun es => match es with
    | [] => BitVec.allOnes 64
    | e :: _ => BitVec.ofNat 64 e)

/-! ### Compress, expand, permute, push, slide (R157 to R161) -/

/-- A value for an element of the destination. -/
structure Moved where
  e      : Nat
  val    : Nat
  poison : Bool
  deriving DecidableEq, Repr

/-- A whole instruction writes elements of one register at a width and retires; poison read is consumed once (R154). -/
def State.writeWhole (s : State) (d : BitVec 6) (w : Nat) (ms : List Moved) (consumed : Bool) (fl : Flags) : State :=
  let c := s.me
  let c' := c.putRows (ms.map fun m => c.geo.put w d.toNat m.e m.val m.poison)
  (s.setMe (c'.consume consumed)).retireVec fl

/-- A whole instruction whose poisoned results are those that read poison. -/
def State.moveWhole (s : State) (d : BitVec 6) (ms : List Moved) : State :=
  s.writeWhole d s.me.vw ms (ms.any (·.poison)) noFlags

/-- Element `e` of a register at the element width in force, with its poison. -/
def Ctx.at (c : Ctx) (k : BitVec 6) (e : Nat) : Nat × Bool := c.vec.elem c.geo c.vw k.toNat e

/-- VCPRS (R157): VL becomes the count; a poisoned mask segment poisons every written row and the count. -/
def execVcprs (d a : BitVec 6) (b : BitVec 5) (m : BitVec 4) (s : State) : Out :=
  .next (s.vector (.vcprs d a b m) fun s =>
    let c := s.me
    let es := c.active m
    let p := c.maskPoisoned m
    let n := BitVec.ofNat 64 es.length
    let ms : List Moved := (List.range es.length).map fun i =>
      let x := c.at a ((es[i]?).getD (0, false)).1
      { e := i, val := x.1, poison := x.2 || p }
    let c := { c.putRows (ms.map fun x => c.geo.put c.vw d.toNat x.e x.val x.poison) with vl := n }
    (s.setMe ((c.setReg b n p).consume (p || ms.any (·.poison)))).retireVec noFlags)

/-- VEXPD (R158): which element an active element receives depends on the mask bits below it. -/
def execVexpd (d a : BitVec 6) (m : BitVec 4) (s : State) : Out :=
  .next (s.vector (.vexpd d a m) fun s =>
    let c := s.me
    let es := c.active m
    s.moveWhole d ((List.range es.length).map fun j =>
      let x := c.at a j
      { e := ((es[j]?).getD (0, false)).1, val := x.1, poison := x.2 || (es.take (j + 1)).any (·.2) }))

/-- VPERM (R159): an index of VL or more gives 0; a poisoned index gives 0, poisoned. -/
def execVperm (d a b : BitVec 6) (m : BitVec 4) (s : State) : Out :=
  .next (s.vector (.vperm d a b m) fun s =>
    let c := s.me
    s.moveWhole d ((c.active m).map fun t =>
      let i := c.at b t.1
      let x := if i.1 < c.len ∧ !i.2 then c.at a i.1 else (0, false)
      { e := t.1, val := x.1, poison := x.2 || i.2 || t.2 }))

/-- What the sources of VPUSH come to: the winner of each position, and whether two named one. -/
def pushAll (srcs : List Moved) : Assoc Moved × Bool :=
  srcs.foldl (fun r x => (aset r.1 x.e x, r.2 || ahas r.1 x.e)) ([], false)

/-- Every row of a register that holds an element below VL is poisoned. -/
def Ctx.poisonRows (c : Ctx) (k : BitVec 6) : Ctx :=
  let x := c.geo
  { c with vec := { c.vec with rowPoison := (List.range ((c.len + x.epr - 1) / x.epr)).foldl (fun m i =>
      aput false m (64 * x.laneOf x.ew (i * x.epr) + k.toNat * x.rpr + x.rowIn x.ew (i * x.epr)) true) c.vec.rowPoison } }

/-- VPUSH (R160): the highest active source of a position wins, and a conflict sets VSTAT.PCONF. -/
def execVpush (d a b : BitVec 6) (m : BitVec 4) (s : State) : Out :=
  .next (s.vector (.vpush d a b m) fun s =>
    let c := s.me
    let all := (c.active m).map fun t => (t, c.at b t.1)
    let lost := all.any fun t => t.2.2
    let r := pushAll ((all.filter fun t => !t.2.2 && decide (t.2.1 < c.len)).map fun t =>
      let x := c.at a t.1.1
      { e := t.2.1, val := x.1, poison := x.2 || t.1.2 })
    let ms := r.1.map (·.2)
    let c := c.putRows (ms.map fun x => c.geo.put c.vw d.toNat x.e x.val x.poison)
    let c := { c with vstat := if r.2 then c.vstat ||| 1#64 else c.vstat }
    let c := if lost then c.poisonRows d else c
    (s.setMe (c.consume (lost || ms.any (·.poison)))).retireVec noFlags)

/-- A slide or rotation: each active element takes the element `f` names, 0 for `some none`, or stays. -/
def State.slide (s : State) (d a : BitVec 6) (b : BitVec 5) (m : BitVec 4) (f : Nat → Nat → Nat → Option (Option Nat)) :
    State :=
  let c := s.me
  let k := c.operand b
  s.moveWhole d ((c.active m).filterMap fun t =>
    (f c.len k.1.toNat t.1).map fun i =>
      let x := match i with | some e => c.at a e | none => (0, false)
      { e := t.1, val := x.1, poison := x.2 || k.2 || t.2 })

/-- VSLUP (R161). -/
def execVslup (d a : BitVec 6) (b : BitVec 5) (m : BitVec 4) (s : State) : Out :=
  .next (s.vector (.vslup d a b m) fun s => s.slide d a b m fun _ k e => if k ≤ e then some (some (e - k)) else none)
/-- VSLDN (R161). -/
def execVsldn (d a : BitVec 6) (b : BitVec 5) (m : BitVec 4) (s : State) : Out :=
  .next (s.vector (.vsldn d a b m) fun s =>
    s.slide d a b m fun n k e => if e + k < n then some (some (e + k)) else some none)
/-- VROT (R161). -/
def execVrot (d a : BitVec 6) (b : BitVec 5) (m : BitVec 4) (s : State) : Out :=
  .next (s.vector (.vrot d a b m) fun s => s.slide d a b m fun n k e => some (some ((e + k) % n)))

/-! ### Selection by value (R162 to R164) -/

/-- An encoding of a type ranks strictly above another: by value at its kind; among floats −0 below +0 and a NaN below
every number (R11, R162). -/
def ranksAbove (t x y : Nat) : Bool :=
  if typeFloat t then
    let a := decodeFloat t x
    let b := decodeFloat t y
    if a.isNan then false
    else if b.isNan then true
    else match a.cmp b with
      | .gt => true
      | .lt => false
      | .eq => !a.negative && b.negative
  else decide (intOf t y < intOf t x)

/-- The greatest of elements with its lowest index (R162). -/
def greatest (t : Nat) (xs : List (Nat × Nat)) : Option (Nat × Nat) :=
  xs.foldl (fun best x => match best with
    | none => some x
    | some z => if ranksAbove t x.2 z.2 then some x else best) none

/-- NV where an element is a signalling NaN (R11, R162). -/
def signals (t : Nat) (xs : List (Nat × Nat)) : Flags :=
  if typeFloat t && xs.any fun x => (decodeFloat t x.2).sig then flagNV else noFlags

/-- VMAXIX (R162): the greatest active element and its index go to the scalars, and its mask bit is cleared; that the
clearing poisons no segment, also where the place of the bit comes from poison, is the model's choice (log 87). -/
def execVmaxix (d : BitVec 5) (a : BitVec 6) (b : BitVec 5) (m : BitVec 4) (s : State) : Out :=
  .next (s.vector (.vmaxix d a b m) fun s =>
    let c := s.me
    let es := c.active m
    let xs := es.map fun t => (t.1, (c.at a t.1).1)
    let p := c.maskPoisoned m || es.any fun t => (c.at a t.1).2
    match greatest c.vt xs with
    | none => (s.setMe (((c.setReg d 0 p).setReg b (BitVec.allOnes 64) p).consume p)).retireVec noFlags
    | some z =>
      let v := if typeFloat c.vt && (decodeFloat c.vt z.2).isNan then defaultNaN c.vt else z.2
      let c' := { c with vec := c.vec.putMask c.geo m.toNat [{ e := z.1, val := false, poison := false }] }
      (s.setMe (((c'.setReg d (extendFor c.vt v) p).setReg b (BitVec.ofNat 64 z.1) p).consume p)).retireVec
        (signals c.vt xs))

/-- The lowest value of a type (R163). -/
def lowestOf (t : Nat) : Nat :=
  if typeFloat t then (formatOf t).inf true else if typeSigned t then 2 ^ (typeWidth t - 1) else 0

/-- The sum of the two greatest of elements (R163; log 30). -/
def topTwo (t rm : Nat) (xs : List (Nat × Nat)) : Nat × Flags :=
  match greatest t xs with
  | none => (lowestOf t, noFlags)
  | some x =>
    match greatest t (xs.filter fun y => y.1 != x.1) with
    | none => (x.2, signals t xs)
    | some y =>
      let r := if typeFloat t then vfAdd t rm x.2 y.2 0 else vAdds t x.2 y.2
      (r.1, r.2 ||| signals t xs)

/-- VGRPT2 (R163). -/
def execVgrpt2 (d a : BitVec 6) (b : BitVec 5) (m : BitVec 4) (s : State) : Out :=
  .next (s.vector (.vgrpt2 d a b m) fun s =>
    let c := s.me
    let k := c.operand b
    let gs := k.1.toNat
    if gs = 0 then s.retireVec noFlags
    else
      let ng := (c.len + gs - 1) / gs
      let rs := (List.range (ng - c.start)).map fun i =>
        let j := c.start + i
        let es := (List.range (min gs (c.len - j * gs))).filterMap fun o =>
          let sel := c.vec.selects m (j * gs + o)
          if sel.1 then some (j * gs + o, sel.2) else none
        let r := topTwo c.vt c.vrm (es.map fun t => (t.1, (c.at a t.1).1))
        (({ e := j, val := r.1, poison := k.2 || es.any fun t => t.2 || (c.at a t.1).2 } : Moved), r.2)
      s.writeWhole d c.vw (rs.map (·.1)) (rs.any fun r => r.1.poison) (rs.foldl (fun fl r => fl ||| r.2) noFlags))

/-- VGRPMSK (R164). -/
def execVgrpmsk (d a : BitVec 4) (b : BitVec 5) (m : BitVec 4) (s : State) : Out :=
  .next (s.vector (.vgrpmsk d a b m) fun s =>
    let c := s.me
    let k := c.operand b
    if k.1 = 0 then s.commitTo c.stop noFlags
    else s.maskwise d ((c.activeBelow m c.stop).map fun t =>
      let x := c.vec.maskBit a.toNat (t.1 / k.1.toNat)
      { e := t.1, val := x.1, poison := x.2 || k.2 || t.2 }) true)

/-! ### N of 32 (R165) -/

/-- The magnitude of an encoding is less than another's (R165): a NaN is greatest. -/
def smaller (t x y : Nat) : Bool :=
  if typeFloat t then
    let a := decodeFloat t x
    let b := decodeFloat t y
    if a.isNan then false
    else if b.isNan then true
    else
      let p := if a.negative then a.negate else a
      let q := if b.negative then b.negate else b
      p.cmp q == .lt
  else decide ((intOf t x).natAbs < (intOf t y).natAbs)

/-- The positions of a block that are chosen: the `n` active ones of greatest magnitude, ties to the lower position,
then inactive ones from the lowest on (R165). `xs` gives the active positions with their elements. -/
def chosen (t n : Nat) (xs : List (Nat × Nat)) : List Nat :=
  let rank (x : Nat × Nat) : Nat :=
    (xs.filter fun y => smaller t x.2 y.2 || (!(smaller t y.2 x.2) && decide (y.1 < x.1))).length
  let idle := ((List.range 32).filter fun p => !(xs.any fun x => x.1 == p)).take (n - xs.length)
  (List.range 32).filter fun p => idle.contains p || xs.any fun x => x.1 == p && decide (rank x < n)

/-- VNOFM (R165): the chosen elements of each block packed, or the block's map; poison in an active element of the block or
in its mask segment poisons it. -/
def execVnofm (d a : BitVec 6) (b : BitVec 5) (m : BitVec 4) (s : State) : Out :=
  .next (s.vector (.vnofm d a b m) fun s =>
    let c := s.me
    let k := c.operand b
    let n := min (bitsOf k.1.toNat 0 6) 32
    let nb := (c.len + 31) / 32
    let blocks := (List.range nb).map fun i =>
      (i, (c.active m).filterMap fun t => if t.1 / 32 = i then some (t.1 % 32, c.at a t.1, t.2) else none)
    let bad (x : Nat × List (Nat × (Nat × Bool) × Bool)) : Bool :=
      k.2 || (c.vec.selects m (32 * x.1)).2 || x.2.any fun t => t.2.1.2 || t.2.2
    let read := blocks.any bad
    if bit k.1 8 then
      s.writeWhole d 32 (blocks.map fun x =>
        let ps := chosen c.vt n (x.2.map fun t => (t.1, t.2.1.1))
        { e := x.1, val := ps.foldl (fun v p => v + 2 ^ p) 0, poison := bad x }) read noFlags
    else
      s.writeWhole d c.vw ((blocks.flatMap fun x =>
        let ps := chosen c.vt n (x.2.map fun t => (t.1, t.2.1.1))
        (List.range ps.length).map fun i =>
          let v := match x.2.find? fun t => t.1 == (ps[i]?).getD 0 with
            | some t => t.2.1.1
            | none => 0
          { e := x.1 * n + i, val := v, poison := bad x }).filter fun y => decide (y.e < c.geo.vlmax)) read noFlags)

end Sys2Proof.Machine
end

