-- ==== Sys2Proof/Machine/Put.lean ====
section
/-! DEFINITION. PUT and PUTM, major 0x33 (R256, R257). -/

namespace Sys2Proof.Machine

/-- The source address, length, channel and offset of a descriptor (R256). -/
def putLen (w : Word) : Nat := bitsOf w.toNat 0 12 + 1
/-- The offset in the region, in bytes. -/
def putOffset (w : Word) : Nat := 4 * bitsOf w.toNat 12 17
/-- CMPL. -/
def putCmpl (w : Word) : Bool := bit w 29
/-- CHAN. -/
def putChan (w : Word) : Nat := bitsOf w.toNat 30 6
/-- CORE. -/
def putCore (w : Word) : Nat := bitsOf w.toNat 36 11
/-- CMASK. -/
def putMask (w : Word) : Nat := bitsOf w.toNat 47 16

/-- A descriptor keeps to R256. -/
def goodPut (multi : Bool) (w : Word) : Bool :=
  !(bit w 63) && (if multi then putMask w != 0 && putCore w % 16 == 0 else putMask w == 0)

/-- The status of a delivery at a destination core id (R257), with the core and its crew where it is accepted. -/
def State.putStatus (s : State) (f id ch off n : Nat) : Nat × Option (Nat × Nat) :=
  match s.coreById f id with
  | none => (2, none)
  | some core =>
    if s.strays f (some s.cur) (core / 16) then (3, none)
    else if !(s.reaches f (dieOf s.cur) (core / 256)) then (2, none)
    else
      match s.regionOfChan core ch with
      | none => (2, none)
      | some (k, r) => if 16384 * r.granules < off + n then (4, none) else (0, some (core, k))

/-- The poison of each byte of resolved parts. -/
def State.partPoison (s : State) (ps : List Part) : List Bool :=
  ps.flatMap fun p => (List.range p.len).map fun i =>
    p.place.dead || s.peerRefuses p.place.loc || s.granulePoison (p.place.loc + i) || s.locAbsent (p.place.loc + i)

/-- The barrier that sc names (R256; log 37): a device address is resolved as an atomic access at the PUT. -/
def State.putBarrierAt (s : State) (a : Word) : State × Except AccFault PutBarrier :=
  if a = 0 then (s, .ok .none)
  else if inWindow a.toNat then (s, .ok (.region (bitsOf a.toNat 0 20)))
  else
    match s.atomicPlace s.cur s.agent a.toNat 16 with
    | (s, .error x) => (s, .error x)
    | (s, .ok p) => (s, .ok (.at p.loc p.key))

/-- A delivery to one accepting core is started. -/
def State.startPut (s : State) (w sa sc : Word) (cls id : Nat) (at_ : Nat × Nat) (bytes : List Byte)
    (poison : List Bool) (bar : PutBarrier) : State :=
  let msg := s.ownWire (64 * id + putChan w) cls 2 ((0 : BitVec 64) ++ sc ++ sa ++ w) false
  let j : PutJob :=
    { sender := s.cur, cls := cls, fn := s.me.fn, core := at_.1, crew := at_.2, offset := putOffset w, bytes := bytes,
      poison := poison, barrier := bar, message := if putCmpl w then some msg else none }
  { s with puts := aset s.puts s.serial j, serial := s.serial + 1 }

/-- The deliveries to a list of core ids: the state, and the status of each. -/
def State.putAll (s : State) (w sa sc : Word) (cls : Nat) (bytes : List Byte) (poison : List Bool) (bar : PutBarrier) :
    List Nat → State × List Nat
  | [] => (s, [])
  | id :: rest =>
    let r := s.putStatus s.me.fn id (putChan w) (putOffset w) (putLen w)
    let t := match r.2 with
      | some at_ => s.startPut w sa sc cls id at_ bytes poison bar
      | none => if r.1 = 3 then (s.stray s.me.fn (dieOf s.cur)).1 else s
    match t.putAll w sa sc cls bytes poison bar rest with
    | (t, sts) => (t, r.1 :: sts)

/-- The core ids of a descriptor. -/
def putCores (multi : Bool) (w : Word) : List Nat :=
  if multi then ((List.range 16).filter fun i => putMask w / 2 ^ i % 2 = 1).map (putCore w + ·) else [putCore w]

/-- A destination core lies behind an island that is being reset (R361). -/
def State.putHeld (s : State) (f : Nat) (ids : List Nat) : Bool :=
  ids.any fun id => (s.coreById f id).any fun core => s.routeHeld (dieOf s.cur) (core / 256)

/-- The result: the status of the one core, or the mask of the accepting cores. -/
def putResult (multi : Bool) (w : Word) (sts : List Nat) : Nat :=
  if multi then
    ((putCores true w).zip sts).foldl (fun n p => if p.2 = 0 then n + 2 ^ (p.1 % 16) else n) 0
  else sts.headD 0

/-- PUT and PUTM (R257): the source is read whole, then each destination answers. -/
def State.put (s : State) (multi : Bool) (d a b e : BitVec 5) (cls : Nat) : State :=
  match [a, b, e].find? fun r => s.rp r with
  | some r => s.poisonTrap r
  | none =>
    let w := s.rv b
    let sc := s.rv e
    if !(goodPut multi w) then s.trapOpen 0x204
    else if sc.toNat % 16 ≠ 0 then s.trapOpen 0x205
    else if inWindow sc.toNat ∧ bitsOf sc.toNat 20 5 ≠ 16 then s.trapOpen 0x204
    else if s.putHeld s.me.fn (putCores multi w) then s.stall
    else
      let s := s.flushMsg s.cur (ordered cls)
      match (s.beforeWalk s.cur s.agent .load (s.rv a).toNat (putLen w)).resolve s.agent .load (s.rv a).toNat (putLen w) with
      | (_, .error x) => s.trapFault .load x
      | (t, .ok parts) =>
        match t.putBarrierAt sc with
        | (_, .error x) => s.trapFault .atomic x
        | (t, .ok bar) =>
          match t.loadParts t.cur .msg cls parts with
          | (t, bytes, poison) =>
            match t.putAll w (s.rv a) sc cls bytes (t.partPoison parts) bar (putCores multi w) with
            | (t, sts) => t.retire d (BitVec.ofNat 64 (putResult multi w sts)) false poison

/-- PUT (R257). -/
def execPut (d a b e : BitVec 5) (c : BitVec 4) (s : State) : Out := .next (s.put false d a b e c.toNat)

/-- PUTM (R257). -/
def execPutm (d a b e : BitVec 5) (c : BitVec 4) (s : State) : Out := .next (s.put true d a b e c.toNat)

end Sys2Proof.Machine
end

