-- ==== Sys2Proof/Machine/System.lean ====
section
/-! DEFINITION. Major 0x15 and the words that are no instruction: the fences (R228 to R231), TRAP, ERET, YIELD, the
illegal-instruction trap (R43), and the firmware services (R330, R377). -/

namespace Sys2Proof.Machine

/-! ### Fences -/

/-- The bit of a path in the mask of FENCE.P (R226). -/
def Path.maskBit : Path → Nat
  | .scalar => 0
  | .lane => 1
  | .copy => 2
  | .gather => 3
  | .msg => 4
  | .host => 5

/-- FENCE.C (R228, R229): the older stores, messages and deliveries of the named classes are performed; a point of R124, since LANE is among its
paths. -/
def execFenceC (k : BitVec 16) (s : State) : Out :=
  .next (s.atPoint fun s =>
    ((s.drain s.cur fun p => k.getLsbD (p.cls % 16)).flushMsg s.cur fun c => k.getLsbD c).advance)

/-- FENCE.P (R228, R230): the older stores and messages on the named paths are performed; a point of R124 where LANE or GATHER is
among them. -/
def execFenceP (p : BitVec 6) (s : State) : Out :=
  let act (s : State) : State :=
    let t := s.drain s.cur fun e => p.getLsbD e.path.maskBit
    (if p.getLsbD 4 then t.flushMsg t.cur fun _ => true else t).advance
  .next (if p.getLsbD 1 || p.getLsbD 3 then s.atPoint act else act s)

/-- FENCE.SV (R231), a point of R124. Kinds 0 to 2 hold the accesses of younger vector instructions behind the older scalar
ones; kinds 3 and 4 perform the older vector stores. Vector loads are performed when they run. -/
def execFenceSv (k : BitVec 6) (s : State) : Out :=
  .next (s.atPoint fun s =>
    let t := s.drain s.cur fun e => e.path == .lane && (k.getLsbD 3 || k.getLsbD 4)
    (t.setMe { t.me with svHold := t.me.svHold ||| k.extractLsb' 0 3 }).advance)

/-! ### TRAP, ERET, YIELD and illegal words -/

/-- TRAP's trap (R74): the return address is the next word. -/
def State.trapInsn (s : State) (imm : BitVec 16) : State :=
  s.trap { cause := 0x100, value := imm.zeroExtend 64, epc := s.me.here + 4 }

/-- TRAP (R74). -/
def execTrap (imm : BitVec 16) (s : State) : Out := .next (s.trapInsn imm)

/-- ERET (R75, R124, R316). -/
def execEret (s : State) : Out := .next (s.atPoint State.eret)

/-- YIELD (R76): the context is not ready in the next cycle. -/
def execYield (s : State) : Out :=
  .next (s.setMe { s.me.advance with yielded := true })

/-- The cause code of R43. -/
def illCode : IllCause → Nat
  | .illZero => 0x000
  | .illMajor => 0x001
  | .illFn => 0x002
  | .illField => 0x003
  | .illType => 0x004
  | .illRm => 0x005
  | .illRange => 0x006

/-- ILLEGAL_INSTRUCTION (R43): a word that is no instruction, with the first cause that it has, is reached by the
running context. -/
def execIllegalInstruction (w : BitVec 32) (cause : IllCause) (s : State) : Out :=
  .next (s.trapHere (illCode cause) (w.zeroExtend 64))

/-! ### Firmware services (R330, R377) -/

/-- What a service comes to: a status, or a request in progress at a die's port, whose RESULT the thread waits for. -/
inductive Served where
  | status (n : Nat)
  | pending (die : Nat)
  deriving DecidableEq, Repr

/-- The trap of a service, in whose handler the firmware writes a status to s3 and returns (R330). -/
def State.serviceEnd (s : State) (imm : BitVec 16) (v : Word) : State :=
  let t := s.trapInsn imm
  (t.setMe (t.me.setReg 3 v false)).eret

/-- A TRAP that names a service: from supervisor level the firmware acts and returns with a status in s3, once it has one;
from any other level, or where no firmware trap can be taken, it is the trap of R74 (log 25). -/
def State.service (s : State) (imm : BitVec 16) (act : State → State × Served) : State :=
  if s.me.level = .supervisor ∧ s.me.firm.regs.depth ≠ 2 then
    match s.me.wait with
    | some (.answered v) => s.serviceEnd imm v
    | some (.service _) => s
    | _ =>
      match act s with
      | (t, .status n) => t.serviceEnd imm (BitVec.ofNat 64 n)
      | (t, .pending d) => t.setMe { t.me with wait := some (.service d) }
  else s.trapInsn imm

/-- What the port of a die shows for the request just submitted there (R331). -/
def Die.served (x : Die) (d : Nat) : Served :=
  if x.prqWork.isSome then .pending d else .status (bitsOf x.prqstat.toNat 60 3)

/-- PREEMPT (R330). -/
def execPreempt (s : State) : Out :=
  .next (s.service 0x100 fun s =>
    let f := s.me.fn
    let arg := (s.rv 3).toNat
    match s.coreById f (bitsOf arg 0 11) with
    | none => (s, .status 1)
    | some core =>
      let d := core / 256
      if (s.die d).prqWork.isSome then (s, .status 4)
      else
        let area := (s.rv 4 >>> 12) <<< 12
        let s := s.setDie d { s.die d with prqaddr := area }
        let s := s.submitPreempt d (4 * core + bitsOf arg 11 2) area.toNat (some f)
        (s, (s.die d).served d))

/-- RESUME (R330). -/
def execResume (s : State) : Out :=
  .next (s.service 0x101 fun s =>
    let d := dieOf s.cur
    if (s.die d).prqWork.isSome then (s, .status 4)
    else
      let area := (s.rv 4 >>> 12) <<< 12
      let s := s.setDie d { s.die d with prqaddr := area }
      let s := s.submitResume d s.me.fn area.toNat
      (s, (s.die d).served d))

/-- SETVEC (R318, R330): the caller's default trap vector on its die. -/
def execSetvec (s : State) : Out :=
  .next (s.service 0x102 fun s =>
    let d := s.die (dieOf s.cur)
    (s.setDie (dieOf s.cur) { d with vftvec := aset d.vftvec s.me.fn (vecWrite (s.rv 3)) }, .status 0))

/-- The active images of some kinds, as they are measured (R377, R382). -/
def State.imagesOf (s : State) (kinds : List Nat) : List Nat :=
  kinds.flatMap fun k =>
    let bytes := aget [] s.images (2 * k + aget 0 s.banks k)
    bytes.length :: bytes.map (·.toNat)

/-- A function's configuration, as it is measured (R377): partition, quotas, shares, stage-2 root, the apertures and inbound
windows, and the numbers of the loaded key slots (log 69). -/
def State.configOf (s : State) (f : Nat) : List Nat :=
  let x := s.fnOf f
  let part := (x.part.map fun r => [1, r.x0, r.y0, r.w, r.h]).getD [0]
  let quotas := (List.range 128).map fun cl => s.quotaOf f cl
  let shares := (List.range 16).map fun k => s.hbmWeight f k
  let root := (x.s2root.map fun r => [1, r]).getD [0]
  let apertures := (s.apertures.filter fun p => p.2.mask.getLsbD f).flatMap fun p => [p.1, p.2.dev, p.2.addr]
  let windows := (s.windows.filter fun p => p.2.fn == f).flatMap fun p => [p.1, p.2.base, p.2.size]
  part ++ quotas ++ shares ++ root ++ apertures ++ windows ++ s.keys.map (·.1)

/-- The first 352 bytes of a function's attestation report (R377). -/
def State.reportBody (s : State) (f : Nat) (nonce : BitVec 512) : List Byte :=
  let digest (xs : List Nat) : List Byte := (List.range 64).map (Config.measure xs)
  leBytes 8 1 ++ (List.range 8).map Config.serialByte ++ leBytes 2 f ++ leBytes 2 s.device ++
    leBytes 4 (s.tenantWord f).toNat ++ leBytes 8 0 ++ leBytes 64 nonce.toNat ++
    digest (s.imagesOf [0]) ++ digest (s.imagesOf [1, 2]) ++ digest (s.configOf f) ++
    (List.range 57).map Config.attestKey ++ leBytes 7 0

/-- The attestation report of a function (R377): signed, and filled with zeros to 512 bytes. -/
def State.reportOf (s : State) (f : Nat) (nonce : BitVec 512) : List Byte :=
  let body := s.reportBody f nonce
  body ++ (List.range 114).map (Config.signature body) ++ leBytes 46 0

/-- ATTEST (R377). -/
def execAttest (s : State) : Out :=
  .next (s.service 0x103 fun s =>
    let ag := { s.agent with level := .supervisor, stalls := false }
    let a := (s.rv 3).toNat
    let b := (s.rv 4).toNat
    if a % 64 ≠ 0 ∨ b % 64 ≠ 0 then (s, .status 3)
    else
      match s.load s.cur ag .load .scalar 15 a 64 with
      | (s, .error _) => (s, .status 2)
      | (s, .ok r) =>
        match s.store s.cur ag .store .scalar 15 b (s.reportOf s.me.fn (BitVec.ofNat 512 (leNat r.1))) r.2 with
        | (s, .error _) => (s, .status 2)
        | (s, .ok ()) => (s, .status 0))

/-- ATTEST_REPORT (R377): management requests a function's report. -/
def execAttestReport (f : Nat) (nonce : BitVec 512) (s : State) : Out :=
  whenEnabled "ATTEST_REPORT" (s.mgmt && decide (f ≤ 64))
    (if s.mgmtBusy then { s with answer := 2 } else { s with report := s.reportOf f nonce, answer := 0 })

end Sys2Proof.Machine
end

