-- ==== Sys2Proof/Machine/Formats.lean ====
section
/-! DEFINITION. The operand formats FMTA and FMTB (R170, R171). -/

namespace Sys2Proof.Machine

/-- A value of FMTA or FMTB by its fields (R170): plane stride in bytes, class, valid slots, rows per fill, scale
stride, sparsity, planes stored and read, centring, type. -/
structure Fmt where
  psb  : Nat
  oc   : Nat
  nv   : Nat
  kc   : Nat
  sstr : Nat
  spar : Nat
  p    : Nat
  pl   : Nat
  c    : Bool
  ty   : Nat
  deriving DecidableEq, Repr

/-- The fields of FMTA or FMTB. -/
def Fmt.of (w : Word) : Fmt :=
  let f := bitsOf w.toNat
  { psb := 64 * f 44 20, oc := f 40 4, nv := f 31 9, kc := f 24 7 + 1, sstr := f 12 12, spar := f 10 2,
    p := f 7 3 + 1, pl := f 4 3 + 1, c := bit w 3, ty := f 0 3 }

/-- The value is invalid in either register (R171). -/
def Fmt.bad (x : Fmt) : Bool :=
  decide (6 ≤ x.ty) || x.spar == 3 || (x.spar != 0 && x.ty == 5) || (x.spar != 0 && x.kc % 32 != 0) ||
  (x.ty == 5 && decide (x.p < 2)) || (x.ty == 5 && decide (x.p < x.pl)) || decide (64 < x.kc)

/-- A sampled value of FMTA is invalid (R171). -/
def badFmtA (w : Word) : Bool :=
  (Fmt.of w).bad || (Fmt.of w).ty == 5 || bitsOf w.toNat 44 20 != 0 || bitsOf w.toNat 7 5 != 0 ||
  bitsOf w.toNat 3 4 != 0

/-- A sampled value of FMTB is invalid (R171). -/
def badFmtB (w : Word) : Bool := (Fmt.of w).bad

/-- The value rows of a block of 32 in a sparse operand (R182). -/
def Fmt.kept (x : Fmt) : Nat := if x.spar = 1 then 8 else 16

/-- The type code of R6 that an operand type stands for (R170, R174). -/
def operandType (t : Nat) : Nat :=
  match t with
  | 0 => 13
  | 1 => 9
  | 2 => 8
  | 3 => 12
  | _ => 0

/-- The size of an operand of a type in bytes. -/
def operandBytes (t : Nat) : Nat := typeWidth (operandType t) / 8

end Sys2Proof.Machine
end

