-- ==== Sys2Proof/Machine/VecMem.lean ====
section
/-! DEFINITION. Vector loads and stores: majors 0x2A to 0x2D (R206 to R212). -/

namespace Sys2Proof.Machine

/-! ### Addresses and ports (R207, R220) -/

/-- The ordering point of element `e` on the LANE path: its class at the port of the lane that holds it. -/
def Ctx.portKey (c : Ctx) (oc : BitVec 4) (e : Nat) : Nat :=
  oc.toNat + 16 * ((c.vec.lanes[c.geo.laneOf c.vw e]?).getD 0 + 1)

/-- Consecutive elements: b + e·EW/8. -/
def Ctx.unitAddr (c : Ctx) (a : BitVec 5) (e : Nat) : Option Nat :=
  some (((c.operand a).1 + BitVec.ofNat 64 (e * (c.vw / 8))).toNat)

/-- Strided elements: b + e·s. -/
def Ctx.strideAddr (c : Ctx) (a k : BitVec 5) (e : Nat) : Option Nat :=
  some (((c.operand a).1 + BitVec.ofNat 64 e * (c.operand k).1).toNat)

/-- Indexed elements: b + index; none where the index is poisoned (R207). -/
def Ctx.indexAddr (c : Ctx) (a : BitVec 5) (x : BitVec 6) (e : Nat) : Option Nat :=
  let i := c.vec.elem c.geo c.vw x.toNat e
  if i.2 then none else some (((c.operand a).1 + BitVec.ofNat 64 i.1).toNat)

/-! ### Loads (R207, R208, R210) -/

/-- An element read at its address; 0 and poison, without an access, where it has none. -/
def State.readElem (s : State) (oc : BitVec 4) (addr : Nat → Option Nat) (e : Nat) :
    State × Except AccFault (Nat × Bool) :=
  match addr e with
  | none => (s, .ok (0, true))
  | some a =>
    match s.load s.cur s.agent .load .lane (s.me.portKey oc e) a (s.me.vw / 8) with
    | (s, .error x) => (s, .error x)
    | (s, .ok (bytes, p)) => (s, .ok (leNat bytes, p))

/-- Active elements read in ascending order until one faults. -/
def State.readElems (s : State) (read : State → Nat → State × Except AccFault (Nat × Bool)) :
    List (Nat × Bool) → State × List Done × Option (Nat × AccFault)
  | [] => (s, [], none)
  | t :: rest =>
    match read s t.1 with
    | (s, .error x) => (s, [], some (t.1, x))
    | (s, .ok r) =>
      match s.readElems read rest with
      | (s, ds, f) => (s, { e := t.1, val := r.1, poison := r.2 || t.2, flags := noFlags } :: ds, f)

/-- The elements that were read are written to the register at `d`. -/
def Ctx.landElems (c : Ctx) (d : BitVec 6) (ds : List Done) : Ctx :=
  (c.putRows (ds.map fun x => c.geo.put c.vw d.toNat x.e x.val x.poison)).consumeTimes (c.poisonedGroups ds)

/-- A vector load: the elements below a fault are written, VSTART names the faulting one, and the trap is taken (R208). -/
def State.vecLoad (s : State) (d : BitVec 6) (m : BitVec 4)
    (read : State → Nat → State × Except AccFault (Nat × Bool)) : State :=
  let stop := s.me.stop
  match s.readElems read (s.me.activeBelow m stop) with
  | (s, ds, none) => (s.setMe (s.me.landElems d ds)).commitTo stop noFlags
  | (s, ds, some (f, x)) => (s.setMe (s.me.landElems d ds)).faultAt noFlags .load f x

/-- VLD (R207). -/
def execVld (d : BitVec 6) (a : BitVec 5) (c m : BitVec 4) (s : State) : Out :=
  .next (s.vector (.vld d a c m) fun s =>
    let addr := s.me.unitAddr a
    s.vecLoad d m fun s e => s.readElem c addr e)

/-- VLDS (R207). -/
def execVlds (d : BitVec 6) (a : BitVec 5) (c m : BitVec 4) (k : BitVec 5) (s : State) : Out :=
  .next (s.vector (.vlds d a c m k) fun s =>
    let addr := s.me.strideAddr a k
    s.vecLoad d m fun s e => s.readElem c addr e)

/-- VLDX (R207). -/
def execVldx (d : BitVec 6) (a : BitVec 5) (c m : BitVec 4) (x : BitVec 6) (s : State) : Out :=
  .next (s.vector (.vldx d a c m x) fun s =>
    let addr := s.me.indexAddr a x
    s.vecLoad d m fun s e => s.readElem c addr e)

/-- VLDFF (R210): a fault past the lowest active element of the instruction shortens VL instead. -/
def execVldff (d : BitVec 6) (a : BitVec 5) (c m : BitVec 4) (s : State) : Out :=
  .next (s.vector (.vldff d a c m) fun s =>
    let addr := s.me.unitAddr a
    let stop := s.me.stop
    let first := (s.me.reissue.bind (·.begun)).getD s.me.start
    match s.readElems (fun s e => s.readElem c addr e) (s.me.activeBelow m stop) with
    | (s, ds, none) => (s.setMe (s.me.landElems d ds)).commitTo stop noFlags
    | (s, ds, some (f, x)) =>
      let s := s.setMe (s.me.landElems d ds)
      let shorten := (List.range (f - first)).any fun i => (s.me.vec.selects m (first + i)).1
      if shorten ∧ x.fault.cause ≠ heldCause then (s.setMe { s.me with vl := BitVec.ofNat 64 f }).retireVec noFlags
      else s.faultAt noFlags .load f x)

/-- The bytes of the planes of one element (R211): plane `k` of `n` gives bit `P − 1 − k`. -/
def State.readPlanes (s : State) (oc : BitVec 4) (f : Fmt) (b : Word) (e : Nat) :
    Nat → Nat → State × Except AccFault (Nat × Bool)
  | 0, _ => (s, .ok (0, false))
  | n + 1, k =>
    match s.load s.cur s.agent .load .lane (s.me.portKey oc e) (b + BitVec.ofNat 64 (f.psb * k + e / 8)).toNat 1 with
    | (s, .error x) => (s, .error x)
    | (s, .ok (bytes, p)) =>
      match s.readPlanes oc f b e n (k + 1) with
      | (s, .error x) => (s, .error x)
      | (s, .ok r) => (s, .ok (r.1 + bitsOf (leNat bytes) (e % 8) 1 * 2 ^ (f.p - 1 - k), p || r.2))

/-- VLDP (R211). -/
def execVldp (d : BitVec 6) (a : BitVec 5) (c m : BitVec 4) (p : BitVec 3) (s : State) : Out :=
  .next (s.vector (.vldp d a c m p) fun s =>
    let n := p.toNat + 1
    let f := Fmt.of s.me.fmtb
    if badFmtB s.me.fmtb then s.vsideTrap 0x193 5 0 0
    else if f.ty ≠ 5 ∨ f.p < n then s.vsideTrap 0x195 n 0 0
    else
      let b := (s.me.operand a).1
      let w := s.me.vw
      s.vecLoad d m fun s e =>
        match s.readPlanes c f b e n 0 with
        | (s, .error x) => (s, .error x)
        | (s, .ok r) => (s, .ok (encodeInt w (planeValue f.p n f.c r.1), r.2)))

/-! ### Stores (R207 to R209) -/

/-- A store of one element: where it goes, its bytes, its poison, its ordering point. -/
structure StoreElem where
  e      : Nat
  addr   : Nat
  bytes  : List Byte
  poison : Bool
  key    : Nat
  deriving DecidableEq, Repr

/-- The stores of the active elements below a bound; an element whose index is poisoned makes none. -/
def Ctx.storeElems (c : Ctx) (d : BitVec 6) (oc m : BitVec 4) (addr : Nat → Option Nat) (bound : Nat) :
    List StoreElem :=
  (c.activeBelow m bound).filterMap fun t =>
    (addr t.1).map fun a =>
      let x := c.vec.elem c.geo c.vw d.toNat t.1
      { e := t.1, addr := a, bytes := leBytes (c.vw / 8) x.1, poison := x.2 || t.2, key := c.portKey oc t.1 }

/-- Every element is checked in ascending order: those below the lowest that faults with where they go, under the
translation of the check (R208), and that fault. -/
def State.checkElems (s : State) : List StoreElem → State × List (StoreElem × List Part) × Option (Nat × AccFault)
  | [] => (s, [], none)
  | t :: rest =>
    match (s.beforeWalk s.cur s.agent .store t.addr t.bytes.length).resolve s.agent .store t.addr t.bytes.length with
    | (_, .error x) => (s, [], some (t.e, x))
    | (s, .ok parts) =>
      match s.checkElems rest with
      | (s, ps, f) => (s, (t, parts) :: ps, f)

/-- The elements of one vector row that fill an aligned granule with clean data go as one store (R338; log 90): the list
holds the stores of one row. -/
def joinRow (ts : List (StoreElem × List Part)) : List (StoreElem × List Part) :=
  match ts with
  | (t, p :: _) :: _ =>
    let bytes := ts.flatMap fun u => u.1.bytes
    let inOrder := (ts.zip (List.range ts.length)).all fun u => u.1.1.addr == t.addr + t.bytes.length * u.2
    if bytes.length = 64 ∧ t.addr % 64 = 0 ∧ inOrder ∧ ts.all (fun u => !u.1.poison) then
      [({ t with bytes := bytes }, [{ p with len := 64 }])]
    else ts
  | _ => ts

/-- Stores of elements, by the vector rows of `n` elements that hold them. -/
def joinRows (n : Nat) : List (StoreElem × List Part) → List (StoreElem × List Part) → List (StoreElem × List Part)
  | row, [] => joinRow row
  | row, t :: rest =>
    if row.all fun u => u.1.e / n == t.1.e / n then joinRows n (row ++ [t]) rest
    else joinRow row ++ joinRows n [t] rest

/-- Checked element stores are made, in ascending order. -/
def State.writeElems (s : State) (ts : List (StoreElem × List Part)) : State :=
  (joinRows s.me.geo.epr [] ts).foldl
    (fun s t => s.storeParts s.cur .lane t.1.key t.2 t.1.bytes t.1.poison) s

/-- Poison that a store of the active elements below a bound reads, by groups (R207, R339). -/
def Ctx.storePoison (c : Ctx) (d : BitVec 6) (m : BitVec 4) (addr : Nat → Option Nat) (bound : Nat) : Nat :=
  c.geo.groupsOf (((c.activeBelow m bound).filter fun t =>
    t.2 || (addr t.1).isNone || (c.vec.elem c.geo c.vw d.toNat t.1).2).map (·.1))

/-- The end of a vector store up to `stop`, or the trap of its lowest faulting element (R208). -/
def State.endStore (s : State) (d : BitVec 6) (m : BitVec 4) (addr : Nat → Option Nat) (stop : Nat) :
    Option (Nat × AccFault) → State
  | none => (s.setMe (s.me.consumeTimes (s.me.storePoison d m addr stop))).commitTo stop noFlags
  | some (f, x) => (s.setMe (s.me.consumeTimes (s.me.storePoison d m addr f))).faultAt noFlags .store f x

/-- A vector store. -/
def State.vecStore (s : State) (d : BitVec 6) (oc m : BitVec 4) (addr : Nat → Option Nat) : State :=
  let stop := s.me.stop
  match s.checkElems (s.me.storeElems d oc m addr stop) with
  | (s, ts, f) => (s.writeElems ts).endStore d m addr stop f

/-- VST (R207). -/
def execVst (d : BitVec 6) (a : BitVec 5) (c m : BitVec 4) (s : State) : Out :=
  .next (s.vector (.vst d a c m) fun s => s.vecStore d c m (s.me.unitAddr a))

/-- VSTS (R207). -/
def execVsts (d : BitVec 6) (a : BitVec 5) (c m : BitVec 4) (k : BitVec 5) (s : State) : Out :=
  .next (s.vector (.vsts d a c m k) fun s => s.vecStore d c m (s.me.strideAddr a k))

/-- The winners among the stores of one VSTX: of those at equal addresses the highest-indexed (R209). -/
def winners : List StoreElem → List StoreElem
  | [] => []
  | t :: rest => if rest.any fun u => u.addr == t.addr then winners rest else t :: winners rest

/-- The bytes that the stores of a list hold for an address. -/
def bytesFor (ts : List StoreElem) (a : Nat) : List Byte :=
  ts.filterMap fun t => if t.addr ≤ a then t.bytes[a - t.addr]? else none

/-- Stores that overlap at different addresses: each byte takes the value of one of them, which is not fixed (R209; log
32). -/
def settleOverlaps (n : Nat) (ts : List (StoreElem × List Part)) : List (StoreElem × List Part) :=
  ts.map fun t => ({ t.1 with bytes := (List.range t.1.bytes.length).map fun i =>
    let xs := bytesFor (ts.map (·.1)) (t.1.addr + i)
    (xs[(Config.freeByte n (t.1.addr + i)).toNat % xs.length]?).getD 0 }, t.2)

/-- VSTX (R207 to R209): losers are checked but never performed. -/
def execVstx (d : BitVec 6) (a : BitVec 5) (c m : BitVec 4) (x : BitVec 6) (s : State) : Out :=
  .next (s.vector (.vstx d a c m x) fun s =>
    let stop := s.me.stop
    let addr := s.me.indexAddr a x
    let all := s.me.storeElems d c m addr s.me.len
    match s.checkElems (all.filter fun t => decide (t.e < stop)) with
    | (s, ts, f) =>
      let kept := (winners all).map (·.e)
      (s.tick.writeElems (settleOverlaps s.freeCount (ts.filter fun t => kept.contains t.1.e))).endStore d m addr stop f)

/-! ### VSTXADD (R212) -/

/-- The checks of the elements in ascending order: the places, or the trap the lowest failing element names. -/
def State.addPlaces (s : State) : List StoreElem → State × Except State (List (StoreElem × Place))
  | [] => (s, .ok [])
  | t :: rest =>
    if t.addr % t.bytes.length ≠ 0 then
      (s, .error (s.vsideTrap 0x0E2 t.addr (BitVec.ofNat 64 (2 ^ 31 + t.e + 3 * 2 ^ 28)) 0))
    else
      match s.atomicPlace s.cur s.agent t.addr t.bytes.length with
      | (s, .error x) => (s, .error (s.vsideFault .atomic (some t.e) x))
      | (s, .ok p) =>
        match s.addPlaces rest with
        | (s, .error u) => (s, .error u)
        | (s, .ok ps) => (s, .ok ((t, p) :: ps))

/-- Add under the type in force (R212). -/
def scatterAdd (t rm x y : Nat) : Nat × Flags := if typeFloat t then vfAdd t rm x y 0 else vAdd t x y

/-- The sum of the elements at one address, with poison and flags. -/
def combine (t rm : Nat) : List StoreElem → Nat × Bool × Flags
  | [] => (0, false, noFlags)
  | x :: rest =>
    rest.foldl (fun a y =>
      let r := scatterAdd t rm a.1 (leNat y.bytes)
      (r.1, a.2.1 || y.poison, a.2.2 ||| r.2)) (leNat x.bytes, x.poison, noFlags)

/-- One update for each distinct address, in order of its lowest element. -/
def State.addAll (s : State) (t rm oc : Nat) : Nat → List (StoreElem × Place) → State × Flags × Bool
  | 0, _ => (s, noFlags, false)
  | _, [] => (s, noFlags, false)
  | fuel + 1, (x, p) :: rest =>
    let same := x :: ((rest.filter fun y => y.1.addr == x.addr).map (·.1))
    let c := combine t rm same
    let n := x.bytes.length
    let s := s.drain s.cur fun e => e.path == .lane &&
      (e.cls % 16 == oc || e.cls % 16 == 15 || oc == 15 || overlaps e.loc e.size p.loc n)
    let s := s.noteRead p
    let m := s.readPlace p n
    let r := scatterAdd t rm (leNat m.1) c.1
    let bad := m.2 || c.2.1
    match (s.writeHome p.loc (leBytes n r.1) bad p.key).addAll t rm oc fuel
        (rest.filter fun y => y.1.addr != x.addr) with
    | (s, fl, q) => (s, c.2.2 ||| r.2 ||| fl, bad || q)

/-- VSTXADD (R212): a whole instruction; a failing check makes no update and leaves VSTART unchanged. -/
def execVstxadd (d : BitVec 6) (a : BitVec 5) (c m : BitVec 4) (x : BitVec 6) (s : State) : Out :=
  .next (s.vector (.vstxadd d a c m x) fun s =>
    let addr := s.me.indexAddr a x
    let lost := (s.me.active m).any fun t => (addr t.1).isNone
    match s.addPlaces (s.me.storeElems d c m addr s.me.len) with
    | (_, .error t) => t
    | (s, .ok ps) =>
      match s.addAll s.me.vt s.me.vrm c.toNat ps.length ps with
      | (s, fl, p) => (s.setMe (s.me.consume (p || lost))).retireVec fl)

end Sys2Proof.Machine
end

