-- ==== Sys2Proof/Machine/Weave.lean ====
section
/-! DEFINITION. Weaves: the square, its tiles and latches, fills, tile operations and drains: majors 0x2E to 0x30
(R167 to R189). -/

namespace Sys2Proof.Machine

/-! ### Tiles and latches (R168, R169) -/

/-- The logical lane that holds tile element (r, c). -/
def VecState.tileLane (v : VecState) (r c : Nat) : Nat := r / 16 * v.side + c / 16

/-- The word of tile element (r, c). -/
def VecState.tileWord (v : VecState) (t r c : Nat) : Nat :=
  bitsOf (v.row (v.tileLane r c) (tileRow t r)).1.toNat (32 * (c % 16)) 32

/-- The poison of the register row that holds tile element (r, c). -/
def VecState.tilePoison (v : VecState) (t r c : Nat) : Bool := (v.row (v.tileLane r c) (tileRow t r)).2

/-- A tile written: words by row and column, poison by row and column block. -/
def VecState.setTile (v : VecState) (t : Nat) (word : Nat → Nat → Nat) (poison : Nat → Nat → Bool) : VecState :=
  (List.range (16 * v.side * v.side)).foldl (fun u i =>
    let r := i / v.side
    let j := i % v.side
    u.setRow (v.tileLane r (16 * j)) (tileRow t r)
      (BitVec.ofNat 512 ((List.range 16).foldl (fun n k => n + word r (16 * j + k) % 2 ^ 32 * 2 ^ (32 * k)) 0))
      (poison r j)) v

/-- The rows that the tile count sets aside read zero (R168, R177, R178). -/
def VecState.clearTiles (v : VecState) (tl : Nat) : VecState :=
  { v with
    rows := v.rows.filter fun p => decide (p.1 % 64 < 64 - 16 * tl)
    rowPoison := v.rowPoison.filter fun p => decide (p.1 % 64 < 64 - 16 * tl) }

/-- Slot `i` of row `t` of a latch buffer. -/
def VecState.slot (v : VecState) (x t i : Nat) : Nat := (aget (0 : BitVec 32) v.slots (256 * (64 * x + t) + i)).toNat

/-- The poison of a latch row. -/
def VecState.latchBad (v : VecState) (x t : Nat) : Bool := aget false v.latchPoison (64 * x + t)

/-- The valid count of a latch buffer. -/
def VecState.validOf (v : VecState) (x : Nat) : Nat := aget 0 v.valid x

/-- The active buffers of latches A and B. -/
def VecState.activeA (v : VecState) : Nat := v.lsel.toNat % 2
/-- The active buffer of latch B. -/
def VecState.activeB (v : VecState) : Nat := 2 + v.lsel.toNat / 2

/-- A latch row filled: its slots and its poison; it becomes valid (R180). -/
def VecState.fillRow (v : VecState) (x t : Nat) (xs : List (Nat × Bool)) : VecState :=
  { v with
    slots := (List.range xs.length).foldl (fun m i =>
      aput (0 : BitVec 32) m (256 * (64 * x + t) + i) (BitVec.ofNat 32 ((xs[i]?).getD (0, false)).1)) v.slots
    latchPoison := aput false v.latchPoison (64 * x + t) (xs.any (·.2))
    valid := aput 0 v.valid x (t + 1) }

/-! ### The checks at the start (R176) -/

/-- The first check that fails, with its cause and value, takes its trap; else the instruction goes on. -/
def State.unless (s : State) (cs : List (Bool × Nat × Nat)) (k : State → State) : State :=
  match cs.find? (·.1) with
  | some x => (s.vsideTrap x.2.1 x.2.2 0 0).tick
  | none => k s

/-- WEAVE_NONE, whose TVAL the spec does not state (log 35). -/
def State.noWeave (s : State) : Bool × Nat × Nat := (s.me.vec.side == 0, 0x191, (Config.freeWord s.freeCount).toNat)

/-- WEAVE_TILE. -/
def Ctx.noTile (c : Ctx) (w : BitVec 2) : Bool × Nat × Nat := (decide (c.tl.toNat ≤ w.toNat), 0x192, w.toNat)

/-- WEAVE_LATCH of a buffer. -/
def Ctx.shortLatch (c : Ctx) (x need : Nat) : Bool × Nat × Nat := (decide (c.vec.validOf x < need), 0x196, need)

/-- WEAVE_FMT of FMTA. -/
def Ctx.fmtaBad (c : Ctx) : Bool × Nat × Nat := (badFmtA c.fmta, 0x193, 4)

/-- WEAVE_FMT of FMTB. -/
def Ctx.fmtbBad (c : Ctx) : Bool × Nat × Nat := (badFmtB c.fmtb, 0x193, 5)

/-! ### Forming, dissolving, clearing, formats (R177 to R179) -/

/-- The register rows of a tile on its weave lanes, as 64·lane + row (R168). -/
def Ctx.tileRows (c : Ctx) (w : BitVec 2) : List Nat :=
  (List.range (c.vec.side * c.vec.side)).flatMap fun l => (List.range 16).map fun i => 64 * l + tileRow w.toNat i

/-- WFORM (R177). -/
def execWform (g : BitVec 4) (s : State) : Out :=
  .next (s.vector (.wform g) fun s =>
    let n := g.toNat + 1
    s.unless [(decide (s.me.lanes < n * n), 0x190, n)] fun s =>
      let vec := { (s.me.vec.clearTiles s.me.tl.toNat).clearLatches with side := n }
      (s.setMe { s.me with vec := vec }).retireVec noFlags)

/-- WSPLIT (R178). -/
def execWsplit (s : State) : Out :=
  .next (s.vector .wsplit fun s =>
    let vec := { (s.me.vec.clearTiles s.me.tl.toNat).clearLatches with side := 0 }
    (if s.me.vec.side = 0 then s else s.setMe { s.me with vec := vec }).retireVec noFlags)

/-- WZERO (R178). -/
def execWzero (w : BitVec 2) (s : State) : Out :=
  .next (s.vector (.wzero w) fun s =>
    s.unless [s.noWeave, s.me.noTile w] fun s =>
      let vec := s.me.vec.setTile w.toNat (fun _ _ => 0) fun _ _ => false
      (s.setMe { s.me.noteRows (s.me.tileRows w) with vec := vec }).retireVec noFlags)

/-- WFMT (R179). -/
def execWfmt (a b : BitVec 5) (s : State) : Out :=
  .next (s.vector (.wfmt a b) fun s =>
    (s.setMe { s.me with fmta := s.rv a, fmtb := s.rv b }).retireVec noFlags)

/-! ### Fills (R180 to R182) -/

/-- How a slot of a latch row is read. -/
abbrev SlotRead := State → Nat → State × Except AccFault (Nat × Bool)

/-- Slots read in ascending order until one faults. -/
def State.readSlots (s : State) (slot : SlotRead) : List Nat → State × Except AccFault (List (Nat × Bool))
  | [] => (s, .ok [])
  | i :: rest =>
    match slot s i with
    | (s, .error x) => (s, .error x)
    | (s, .ok r) =>
      match s.readSlots slot rest with
      | (s, .error x) => (s, .error x)
      | (s, .ok rs) => (s, .ok (r :: rs))

/-- Latch rows from `t` on are filled until a read faults. -/
def State.fillRows (s : State) (x : Nat) (slot : Nat → SlotRead) : Nat → Nat → State × Option AccFault
  | 0, _ => (s, none)
  | n + 1, t =>
    match s.readSlots (slot t) (List.range (16 * s.me.vec.side)) with
    | (s, .error f) => (s, some f)
    | (s, .ok xs) => (s.setMe { s.me with vec := s.me.vec.fillRow x t xs }).fillRows x slot n (t + 1)

/-- The running fill is marked for resumption (R180). -/
def Ctx.marked (c : Ctx) : Ctx := { c with reissue := c.reissue.map fun e => { e with resume := true } }

/-- A fill stands at the head of the vector queue, marked for resumption (R121, R180). -/
def State.pauseFill (s : State) : State :=
  let c := s.me.marked
  s.setMe { c with vq := c.reissue.toList ++ c.vq, reissue := none, cut := none }

/-- WGATH or WLDB. -/
def isFill (i : Instr) : Bool :=
  match i with
  | .wgath _ _ _ | .wldb _ _ => true
  | _ => false

/-- The contexts of a cluster whose fill stands first in their vector queue. -/
def State.fillers (s : State) (cl : Nat) : List Nat :=
  (clusterCtxs cl).filter fun g => s.runs g && (s.ctx g).vq.head?.any fun e => isFill e.instr

/-- The context whose fill the gather unit of a cluster serves next (R190): round-robin after the one served last. -/
def State.gatherNext (s : State) (cl : Nat) : Option Nat :=
  let fs := s.fillers cl
  (fs.find? fun g => decide ((s.cluster cl).gathered < g)).or fs.head?

/-- How many latch rows the gather unit serves of the running fill in its turn (R190): one while other fills are pending. -/
def State.gatherRows (s : State) : Option Nat := if (s.fillers (clusterOf s.cur)).isEmpty then none else some 1

/-- A fill of buffer `x` with so many rows; at its end the LSEL bit named toggles. -/
def State.fill (s : State) (x rows : Nat) (toggle : BitVec 2) (slot : Nat → SlotRead) : State :=
  let c := s.me
  let resumed := c.reissue.any (·.resume)
  let c := if resumed then c else { c with vec := { c.vec with valid := aput 0 c.vec.valid x 0 } }
  let from_ := c.vec.validOf x
  let stop := match c.cut with | none => rows | some k => min rows k
  let stop := match s.gatherRows with | none => stop | some k => min stop (from_ + k)
  let s := s.setCluster (clusterOf s.cur) { s.cluster (clusterOf s.cur) with gathered := s.cur }
  match (s.setMe c).fillRows x slot (stop - from_) from_ with
  | (s, some f) => (s.setMe s.me.marked).vsideFault .fill none f
  | (s, none) =>
    if stop < rows then s.pauseFill
    else
      let bad := (List.range rows).any (s.me.vec.latchBad x)
      let vec := { s.me.vec with lsel := s.me.vec.lsel ^^^ toggle }
      (s.setMe ({ s.me with vec := vec }.consume bad)).retireVec noFlags

/-- A read of the gather unit (R180). -/
def State.gather (s : State) (oc : Nat) (a : Word) (n : Nat) : State × Except AccFault (Nat × Bool) :=
  match s.load s.cur (s.userAgent s.cur) .fill .gather oc a.toNat n with
  | (s, .error x) => (s, .error x)
  | (s, .ok (bytes, p)) => (s, .ok (leNat bytes, p))

/-- WGATH (R181). -/
def execWgath (a : BitVec 6) (b : BitVec 5) (m : BitVec 4) (s : State) : Out :=
  .next (s.vector (.wgath a b m) fun s =>
    s.unless [s.noWeave, s.me.fmtaBad] fun s =>
      let f := Fmt.of s.me.fmta
      let base := s.rv b
      let c := s.me
      s.fill (1 - c.vec.activeA) f.kc 1 fun t s i =>
        let sel := c.vec.selects m i
        if i < min f.nv (16 * c.vec.side) ∧ i < c.len ∧ sel.1 then
          let d := c.vec.elem c.geo c.vw a.toNat i
          if d.2 then (s, .ok (0, true))
          else
            match s.gather f.oc (base + BitVec.ofNat 64 (d.1 + t * operandBytes f.ty)) (operandBytes f.ty) with
            | (s, .error x) => (s, .error x)
            | (s, .ok r) => (s, .ok (r.1, r.2 || sel.2))
        else (s, .ok (0, false)))

/-- The planes of a slot of a bit-plane fill (R182): plane `k` gives bit `P − 1 − k`. -/
def State.gatherPlanes (s : State) (f : Fmt) (a : Word) (x : Int) : Nat → Nat → State × Except AccFault (Nat × Bool)
  | 0, _ => (s, .ok (0, false))
  | n + 1, k =>
    match s.gather f.oc (a + BitVec.ofNat 64 (f.psb * k) + BitVec.ofInt 64 (x / 8)) 1 with
    | (s, .error e) => (s, .error e)
    | (s, .ok y) =>
      match s.gatherPlanes f a x n (k + 1) with
      | (s, .error e) => (s, .error e)
      | (s, .ok r) => (s, .ok (bitsOf y.1 (x % 8).toNat 1 * 2 ^ (f.p - 1 - k) + r.1, y.2 || r.2))

/-- The latch rows of a fill of B (R182). -/
def Fmt.rows (f : Fmt) : Nat := if f.spar = 0 then f.kc else f.kc / 32 * (f.kept + 1)

/-- WLDB (R182). -/
def execWldb (a b : BitVec 5) (s : State) : Out :=
  .next (s.vector (.wldb a b) fun s =>
    s.unless [s.noWeave, s.me.fmtbBad] fun s =>
      let f := Fmt.of s.me.fmtb
      let base := s.rv a
      let st := s.rv b
      let side := s.me.vec.side
      s.fill (2 + (1 - s.me.vec.lsel.toNat / 2)) f.rows 2 fun t s i =>
        if min f.nv (16 * side) ≤ i then (s, .ok (0, false))
        else if f.ty = 5 then s.gatherPlanes f base (t * st.toInt + i) f.pl 0
        else
          let n := if f.spar ≠ 0 ∧ t % (f.kept + 1) = f.kept then 4 else operandBytes f.ty
          s.gather f.oc (base + BitVec.ofNat 64 t * st + BitVec.ofNat 64 (i * n)) n)

/-! ### Tile operations (R183 to R187) -/

/-- A product of two operands of a type code is added to a tile word (R183). -/
def mac (t : Nat) (acc : Nat × Flags) (a b : Nat) : Nat × Flags :=
  let x := a % 2 ^ typeWidth t
  let y := b % 2 ^ typeWidth t
  if typeFloat t then
    let r := fmaValues 10 0 (decodeFloat t x) (decodeFloat t y) (decodeFloat 10 acc.1)
    (r.1, acc.2 ||| r.2)
  else (encodeInt 32 ((acc.1 : Int) + intOf t x * intOf t y), acc.2)

/-- A tile operation: the new word and flags of each element from its old word; the rows that gain poison. -/
def State.tileOp (s : State) (w : BitVec 2) (f : Nat → Nat → Nat → Nat × Flags) (bad : Nat → Nat → Bool) : State :=
  let v := s.me.vec
  let n := 16 * v.side
  let fl := (List.range (n * n)).foldl (fun fl i => fl ||| (f (i / n) (i % n) (v.tileWord w.toNat (i / n) (i % n))).2)
    noFlags
  let poison := fun r j => v.tilePoison w.toNat r (16 * j) || bad r j
  let vec := v.setTile w.toNat (fun r c => (f r c (v.tileWord w.toNat r c)).1) poison
  let read := (List.range (n * v.side)).any fun i => poison (i / v.side) (i % v.side)
  (s.setMe ({ s.me.noteRows (s.me.tileRows w) with vec := vec }.consume read)).retireVec fl

/-- One of the first `k` rows of the active buffers is poisoned. -/
def VecState.latchesBad (v : VecState) (k : Nat) : Bool :=
  (List.range k).any fun t => v.latchBad v.activeA t || v.latchBad v.activeB t

/-- WOP (R184). -/
def execWop (w : BitVec 2) (k : BitVec 6) (t : BitVec 4) (s : State) : Out :=
  .next (s.vector (.wop w k t) fun s =>
    let c := s.me
    let v := c.vec
    let n := k.toNat + 1
    s.unless [s.noWeave, c.noTile w, c.shortLatch v.activeA n, c.shortLatch v.activeB n] fun s =>
      s.tileOp w (fun r col x => (List.range n).foldl (fun a i =>
        mac (operandType t.toNat) a (v.slot v.activeA i r) (v.slot v.activeB i col)) (x, noFlags))
        fun _ _ => v.latchesBad n)

/-- The positions that a map chooses in block `b`, with the value row of each: at most `n` (R185). -/
def mapTerms (n b map : Nat) : List (Nat × Nat) :=
  let ps := ((List.range 32).filter fun p => bitsOf map p 1 == 1).take n
  (List.range ps.length).map fun u => (32 * b + (ps[u]?).getD 0, b * (n + 1) + u)

/-- The terms of column `c` of a sparse operand over `blocks` blocks: row of A, row of B. -/
def VecState.sparseTerms (v : VecState) (n blocks c : Nat) : List (Nat × Nat) :=
  (List.range blocks).flatMap fun b => mapTerms n b (v.slot v.activeB (b * (n + 1) + n) c)

/-- A latch row that supplies a term of WOPS is poisoned (R183). -/
def VecState.sparseBad (v : VecState) (n blocks : Nat) : Bool :=
  (List.range (16 * v.side)).any fun c => (v.sparseTerms n blocks c).any fun p =>
    v.latchBad v.activeA p.1 || v.latchBad v.activeB p.2 || v.latchBad v.activeB (p.2 / (n + 1) * (n + 1) + n)

/-- WOPS (R185). -/
def execWops (w : BitVec 2) (k : BitVec 6) (t : BitVec 4) (s : State) : Out :=
  .next (s.vector (.wops w k t) fun s =>
    let c := s.me
    let v := c.vec
    let steps := k.toNat + 1
    let f := Fmt.of c.fmtb
    let blocks := steps / 32
    s.unless [s.noWeave, c.noTile w, c.fmtbBad,
        (f.spar == 0 || !(steps == 32 || steps == 64), 0x194, steps),
        c.shortLatch v.activeA steps, c.shortLatch v.activeB (blocks * (f.kept + 1))] fun s =>
      s.tileOp w (fun r col x => (v.sparseTerms f.kept blocks col).foldl (fun a p =>
        mac (operandType t.toNat) a (v.slot v.activeA p.1 r) (v.slot v.activeB p.2 col)) (x, noFlags))
        fun _ _ => v.sparseBad f.kept blocks)

/-- WBP (R186). -/
def execWbp (w : BitVec 2) (k : BitVec 6) (p : BitVec 4) (s : State) : Out :=
  .next (s.vector (.wbp w k p) fun s =>
    let c := s.me
    let v := c.vec
    let n := k.toNat + 1
    let planes := p.toNat + 1
    let f := Fmt.of c.fmtb
    s.unless [s.noWeave, c.noTile w, c.fmtbBad, (f.ty != 5 || decide (f.pl < planes), 0x195, planes),
        c.shortLatch v.activeA n, c.shortLatch v.activeB n] fun s =>
      s.tileOp w (fun r col x => (encodeInt 32 ((List.range n).foldl (fun (a : Int) i =>
        a + intOf 0 (v.slot v.activeA i r % 256) * planeValue f.p planes f.c (v.slot v.activeB i col)) x), noFlags))
        fun _ _ => v.latchesBad n)

/-- WOPV (R187): a poisoned vcol element that supplies a term poisons its tile row, a poisoned vrow element every tile row
(R183). -/
def execWopv (w : BitVec 2) (a b : BitVec 6) (m : BitVec 4) (t : BitVec 4) (s : State) : Out :=
  .next (s.vector (.wopv w a b m t) fun s =>
    let c := s.me
    let v := c.vec
    let ty := operandType t.toNat
    let live := fun e => decide (c.start ≤ e) && decide (e < c.len) && (v.selects m e).1
    let at_ := fun (k : BitVec 6) e => v.elem c.geo (typeWidth ty) k.toNat e
    let bad := fun (k : BitVec 6) e => (at_ k e).2 || (v.selects m e).2
    let some_ := (List.range (16 * v.side)).any live
    let all := (List.range (16 * v.side)).any fun e => live e && bad b e
    s.unless [s.noWeave, c.noTile w] fun s =>
      s.tileOp w (fun r col x =>
        if live r && live col then mac ty (x, noFlags) (at_ a r).1 (at_ b col).1 else (x, noFlags))
        fun r _ => some_ && ((live r && bad a r) || all))

/-! ### Drain (R188) -/

/-- The product of three values rounded once to FP32 under RNE. The spec gives no order of the two products: an infinity and
a zero raise NV also beside a quiet NaN (DESIGN CHOICE, log 91). -/
def scaledProduct (x y z : Value) : Nat × Flags :=
  let xs := [x, y, z]
  let anyInf := xs.any fun v => match v with | .inf _ => true | _ => false
  let anyZero := xs.any fun v => match v with | .fin _ m _ => m == 0 | _ => false
  let neg := (x.negative != y.negative) != z.negative
  if anyInf && anyZero then invalid 10
  else if xs.any Value.isNan then nanResult 10 (xs.any Value.sig)
  else
    match x, y, z with
    | .fin _ m1 e1, .fin _ m2 e2, .fin _ m3 e3 => roundExact 10 0 neg (m1 * m2 * m3) (e1 + e2 + e3)
    | _, _, _ => ((formatOf 10).inf neg, noFlags)

/-- The accumulator of a drain as a value (R188). -/
def accValue (int : Bool) (x : Nat) : Value :=
  if int then .fin (decide (intOf 2 x < 0)) (intOf 2 x).natAbs 0 else decodeFloat 10 x

/-- Scaled (R188): the word, its poison, its flags. The poison of the tile row travels also with the +0 that is returned without
a read (log 100). -/
def State.scaled (s : State) (x : Nat) (p : Bool) (r c : Nat) : State × Except AccFault (Nat × Bool × Flags) :=
  let fa := Fmt.of s.me.fmta
  let fb := Fmt.of s.me.fmtb
  let n := 16 * s.me.vec.side
  if min fa.nv n ≤ r ∨ min fb.nv n ≤ c then (s, .ok (0, p, noFlags))
  else
    match s.gather fa.oc (s.me.scla + BitVec.ofNat 64 (2 * fa.sstr * r)) 2 with
    | (s, .error e) => (s, .error e)
    | (s, .ok a) =>
      match s.gather fb.oc (s.me.sclb + BitVec.ofNat 64 (2 * fb.sstr * c)) 2 with
      | (s, .error e) => (s, .error e)
      | (s, .ok b) =>
        let y := scaledProduct (accValue (fa.ty == 4 || fb.ty == 5) x) (decodeFloat 13 a.1) (decodeFloat 13 b.1)
        (s, .ok (y.1, p || a.2 || b.2, y.2))

/-- Tile rows per register of a drain (R188). -/
def Ctx.drainRows (c : Ctx) : Nat := 16 * c.geo.g * c.geo.rpr / (16 * c.vec.side)

/-- Registers of the run of a drain (R188). -/
def Ctx.drainRegs (c : Ctx) : Nat := (16 * c.vec.side + c.drainRows - 1) / c.drainRows

/-- What a drain writes in element `e` of each register of the run from the `q`-th on. -/
def State.drainElem (s : State) (w : BitVec 2) (scale : Bool) (e : Nat) :
    List Nat → State × Except AccFault (List (Nat × Done))
  | [] => (s, .ok [])
  | q :: rest =>
    let v := s.me.vec
    let n := 16 * v.side
    let rpt := s.me.drainRows
    let r := q * rpt + e / n
    let c := e % n
    let inside := decide (e < rpt * n) && decide (r < n)
    let x := if inside then v.tileWord w.toNat r c else 0
    let p := inside && v.tilePoison w.toNat r c
    match if scale then s.scaled x p r c else (s, .ok (x, p, noFlags)) with
    | (s, .error f) => (s, .error f)
    | (s, .ok y) =>
      match s.drainElem w scale e rest with
      | (s, .error f) => (s, .error f)
      | (s, .ok ds) => (s, .ok ((q, { e := e, val := y.1, poison := y.2.1, flags := y.2.2 }) :: ds))

/-- Elements drained in ascending order until a scale read faults. -/
def State.drainElems (s : State) (w : BitVec 2) (scale : Bool) (regs : List Nat) :
    List Nat → State × List (Nat × Done) × Option (Nat × AccFault)
  | [] => (s, [], none)
  | e :: rest =>
    match s.drainElem w scale e regs with
    | (s, .error f) => (s, [], some (e, f))
    | (s, .ok ds) =>
      match s.drainElems w scale regs rest with
      | (s, more, f) => (s, ds ++ more, f)

/-- WDRAIN and WDRAIN.S (R188): a fault of a scale read is one of its element (log 34); of two invalid formats FMTA is
named (DESIGN CHOICE, log 92). -/
def execWdrain (w : BitVec 2) (d : BitVec 6) (k : BitVec 1) (s : State) : Out :=
  .next (s.vector (.wdrain w d k) fun s =>
    let c := s.me
    let scale := k = 1
    s.unless ([s.noWeave, c.noTile w] ++ (if scale then [c.fmtaBad, c.fmtbBad] else []) ++
        [(decide (regCount c.ncode.toNat ≤ d.toNat + c.drainRegs - 1), 0x197, c.drainRegs)]) fun s =>
      let stop := s.me.stop
      match s.drainElems w scale (List.range c.drainRegs) s.me.span with
      | (s, ds, f) =>
        let c := s.me
        let fl := flagsOf (ds.map (·.2))
        let c' := c.putRows (ds.map fun (x : Nat × Done) => c.geo.put 32 (d.toNat + x.1) x.2.e x.2.val x.2.poison)
        let c := c'.consumeTimes (c.poisonedGroups (ds.map (·.2)))
        match f with
        | none => (s.setMe c).commitTo stop fl
        | some (e, x) => (s.setMe c).faultAt fl .fill e x)

end Sys2Proof.Machine
end

