-- ==== Sys2Proof/Machine/Dispatch.lean ====
section
/-! DEFINITION. One arm per constructor of Instr: what it does to the machine. -/

namespace Sys2Proof.Machine

def exec (i : Instr) (s : State) : Host.Outcome State Fault Refusal :=
  match i with
  | .add d a b => Sys2Proof.Machine.execAdd d a b s
  | .sub d a b => Sys2Proof.Machine.execSub d a b s
  | .and d a b => Sys2Proof.Machine.execAnd d a b s
  | .or d a b => Sys2Proof.Machine.execOr d a b s
  | .xor d a b => Sys2Proof.Machine.execXor d a b s
  | .sll d a b => Sys2Proof.Machine.execSll d a b s
  | .srl d a b => Sys2Proof.Machine.execSrl d a b s
  | .sra d a b => Sys2Proof.Machine.execSra d a b s
  | .slt d a b => Sys2Proof.Machine.execSlt d a b s
  | .sltu d a b => Sys2Proof.Machine.execSltu d a b s
  | .min d a b => Sys2Proof.Machine.execMin d a b s
  | .max d a b => Sys2Proof.Machine.execMax d a b s
  | .minu d a b => Sys2Proof.Machine.execMinu d a b s
  | .maxu d a b => Sys2Proof.Machine.execMaxu d a b s
  | .clz d a => Sys2Proof.Machine.execClz d a s
  | .ctz d a => Sys2Proof.Machine.execCtz d a s
  | .popc d a => Sys2Proof.Machine.execPopc d a s
  | .mul d a b => Sys2Proof.Machine.execMul d a b s
  | .mulh d a b => Sys2Proof.Machine.execMulh d a b s
  | .mulhu d a b => Sys2Proof.Machine.execMulhu d a b s
  | .div d a b => Sys2Proof.Machine.execDiv d a b s
  | .divu d a b => Sys2Proof.Machine.execDivu d a b s
  | .rem d a b => Sys2Proof.Machine.execRem d a b s
  | .remu d a b => Sys2Proof.Machine.execRemu d a b s
  | .sel d a b e => Sys2Proof.Machine.execSel d a b e s
  | .addi d a imm => Sys2Proof.Machine.execAddi d a imm s
  | .andi d a imm => Sys2Proof.Machine.execAndi d a imm s
  | .ori d a imm => Sys2Proof.Machine.execOri d a imm s
  | .xori d a imm => Sys2Proof.Machine.execXori d a imm s
  | .slti d a imm => Sys2Proof.Machine.execSlti d a imm s
  | .slli d a h => Sys2Proof.Machine.execSlli d a h s
  | .srli d a h => Sys2Proof.Machine.execSrli d a h s
  | .srai d a h => Sys2Proof.Machine.execSrai d a h s
  | .bfx d a p l => Sys2Proof.Machine.execBfx d a p l s
  | .bfi d a p l => Sys2Proof.Machine.execBfi d a p l s
  | .lih d imm => Sys2Proof.Machine.execLih d imm s
  | .addpc d imm => Sys2Proof.Machine.execAddpc d imm s
  | .fadd d a b r t => Sys2Proof.Machine.execFadd d a b r t s
  | .fsub d a b r t => Sys2Proof.Machine.execFsub d a b r t s
  | .fmul d a b r t => Sys2Proof.Machine.execFmul d a b r t s
  | .fdiv d a b r t => Sys2Proof.Machine.execFdiv d a b r t s
  | .fsqrt d a r t => Sys2Proof.Machine.execFsqrt d a r t s
  | .fmin d a b t => Sys2Proof.Machine.execFmin d a b t s
  | .fmax d a b t => Sys2Proof.Machine.execFmax d a b t s
  | .feq d a b t => Sys2Proof.Machine.execFeq d a b t s
  | .flt d a b t => Sys2Proof.Machine.execFlt d a b t s
  | .fle d a b t => Sys2Proof.Machine.execFle d a b t s
  | .fma d a b e r t => Sys2Proof.Machine.execFma d a b e r t s
  | .fcvt d a r sx t => Sys2Proof.Machine.execFcvt d a r sx t s
  | .beq a b o => Sys2Proof.Machine.execBeq a b o s
  | .bne a b o => Sys2Proof.Machine.execBne a b o s
  | .blt a b o => Sys2Proof.Machine.execBlt a b o s
  | .bge a b o => Sys2Proof.Machine.execBge a b o s
  | .bltu a b o => Sys2Proof.Machine.execBltu a b o s
  | .bgeu a b o => Sys2Proof.Machine.execBgeu a b o s
  | .jal d o => Sys2Proof.Machine.execJal d o s
  | .jalr d a imm => Sys2Proof.Machine.execJalr d a imm s
  | .jtab d a n => Sys2Proof.Machine.execJtab d a n s
  | .ldB d a c imm => Sys2Proof.Machine.execLdB d a c imm s
  | .ldH d a c imm => Sys2Proof.Machine.execLdH d a c imm s
  | .ldW d a c imm => Sys2Proof.Machine.execLdW d a c imm s
  | .ldD d a c imm => Sys2Proof.Machine.execLdD d a c imm s
  | .stB d a c imm => Sys2Proof.Machine.execStB d a c imm s
  | .stH d a c imm => Sys2Proof.Machine.execStH d a c imm s
  | .stW d a c imm => Sys2Proof.Machine.execStW d a c imm s
  | .stD d a c imm => Sys2Proof.Machine.execStD d a c imm s
  | .ldBu d a c imm => Sys2Proof.Machine.execLdBu d a c imm s
  | .ldHu d a c imm => Sys2Proof.Machine.execLdHu d a c imm s
  | .ldWu d a c imm => Sys2Proof.Machine.execLdWu d a c imm s
  | .pref l a imm => Sys2Proof.Machine.execPref l a imm s
  | .ldAcq d a sx c => Sys2Proof.Machine.execLdAcq d a sx c s
  | .stRel d a sx c => Sys2Proof.Machine.execStRel d a sx c s
  | .amoaddW d a b c => Sys2Proof.Machine.execAmoaddW d a b c s
  | .amoaddD d a b c => Sys2Proof.Machine.execAmoaddD d a b c s
  | .amominW d a b c => Sys2Proof.Machine.execAmominW d a b c s
  | .amominD d a b c => Sys2Proof.Machine.execAmominD d a b c s
  | .amomaxW d a b c => Sys2Proof.Machine.execAmomaxW d a b c s
  | .amomaxD d a b c => Sys2Proof.Machine.execAmomaxD d a b c s
  | .amoandW d a b c => Sys2Proof.Machine.execAmoandW d a b c s
  | .amoandD d a b c => Sys2Proof.Machine.execAmoandD d a b c s
  | .amoorW d a b c => Sys2Proof.Machine.execAmoorW d a b c s
  | .amoorD d a b c => Sys2Proof.Machine.execAmoorD d a b c s
  | .amoxorW d a b c => Sys2Proof.Machine.execAmoxorW d a b c s
  | .amoxorD d a b c => Sys2Proof.Machine.execAmoxorD d a b c s
  | .amoswpW d a b c => Sys2Proof.Machine.execAmoswpW d a b c s
  | .amoswpD d a b c => Sys2Proof.Machine.execAmoswpD d a b c s
  | .amocasW d a b c => Sys2Proof.Machine.execAmocasW d a b c s
  | .amocasD d a b c => Sys2Proof.Machine.execAmocasD d a b c s
  | .cflush a c => Sys2Proof.Machine.execCflush a c s
  | .cinv a c => Sys2Proof.Machine.execCinv a c s
  | .crr d r => Sys2Proof.Machine.execCrr d r s
  | .crw a r => Sys2Proof.Machine.execCrw a r s
  | .crs d a r => Sys2Proof.Machine.execCrs d a r s
  | .crc d a r => Sys2Proof.Machine.execCrc d a r s
  | .fenceC k => Sys2Proof.Machine.execFenceC k s
  | .fenceP p => Sys2Proof.Machine.execFenceP p s
  | .fenceSv k => Sys2Proof.Machine.execFenceSv k s
  | .trap imm => Sys2Proof.Machine.execTrap imm s
  | .preempt => Sys2Proof.Machine.execPreempt s
  | .resume => Sys2Proof.Machine.execResume s
  | .setvec => Sys2Proof.Machine.execSetvec s
  | .attest => Sys2Proof.Machine.execAttest s
  | .eret => Sys2Proof.Machine.execEret s
  | .yield => Sys2Proof.Machine.execYield s
  | .exit => Sys2Proof.Machine.execExit s
  | .launch d a => Sys2Proof.Machine.execLaunch d a s
  | .cbar d a => Sys2Proof.Machine.execCbar d a s
  | .prio d a => Sys2Proof.Machine.execPrio d a s
  | .tsleep d a => Sys2Proof.Machine.execTsleep d a s
  | .twake d a => Sys2Proof.Machine.execTwake d a s
  | .setvl d a v => Sys2Proof.Machine.execSetvl d a v s
  | .vdecl n => Sys2Proof.Machine.execVdecl n s
  | .vgive => Sys2Proof.Machine.execVgive s
  | .vsave => Sys2Proof.Machine.execVsave s
  | .vrefill d => Sys2Proof.Machine.execVrefill d s
  | .vgeom d a => Sys2Proof.Machine.execVgeom d a s
  | .setvli d v l => Sys2Proof.Machine.execSetvli d v l s
  | .vaddVV d a b m => Sys2Proof.Machine.execVaddVV d a b m s
  | .vsubVV d a b m => Sys2Proof.Machine.execVsubVV d a b m s
  | .vmulVV d a b m => Sys2Proof.Machine.execVmulVV d a b m s
  | .vmulhVV d a b m => Sys2Proof.Machine.execVmulhVV d a b m s
  | .vminVV d a b m => Sys2Proof.Machine.execVminVV d a b m s
  | .vmaxVV d a b m => Sys2Proof.Machine.execVmaxVV d a b m s
  | .vandVV d a b m => Sys2Proof.Machine.execVandVV d a b m s
  | .vorVV d a b m => Sys2Proof.Machine.execVorVV d a b m s
  | .vxorVV d a b m => Sys2Proof.Machine.execVxorVV d a b m s
  | .vsllVV d a b m => Sys2Proof.Machine.execVsllVV d a b m s
  | .vsrlVV d a b m => Sys2Proof.Machine.execVsrlVV d a b m s
  | .vsraVV d a b m => Sys2Proof.Machine.execVsraVV d a b m s
  | .vaddsVV d a b m => Sys2Proof.Machine.execVaddsVV d a b m s
  | .vsubsVV d a b m => Sys2Proof.Machine.execVsubsVV d a b m s
  | .vaddVS d a b m => Sys2Proof.Machine.execVaddVS d a b m s
  | .vsubVS d a b m => Sys2Proof.Machine.execVsubVS d a b m s
  | .vmulVS d a b m => Sys2Proof.Machine.execVmulVS d a b m s
  | .vmulhVS d a b m => Sys2Proof.Machine.execVmulhVS d a b m s
  | .vminVS d a b m => Sys2Proof.Machine.execVminVS d a b m s
  | .vmaxVS d a b m => Sys2Proof.Machine.execVmaxVS d a b m s
  | .vandVS d a b m => Sys2Proof.Machine.execVandVS d a b m s
  | .vorVS d a b m => Sys2Proof.Machine.execVorVS d a b m s
  | .vxorVS d a b m => Sys2Proof.Machine.execVxorVS d a b m s
  | .vsllVS d a b m => Sys2Proof.Machine.execVsllVS d a b m s
  | .vsrlVS d a b m => Sys2Proof.Machine.execVsrlVS d a b m s
  | .vsraVS d a b m => Sys2Proof.Machine.execVsraVS d a b m s
  | .vaddsVS d a b m => Sys2Proof.Machine.execVaddsVS d a b m s
  | .vsubsVS d a b m => Sys2Proof.Machine.execVsubsVS d a b m s
  | .vwadd d a b m => Sys2Proof.Machine.execVwadd d a b m s
  | .vwmacc d a b m => Sys2Proof.Machine.execVwmacc d a b m s
  | .vwmaccu d a b m => Sys2Proof.Machine.execVwmaccu d a b m s
  | .vnclip d a b m => Sys2Proof.Machine.execVnclip d a b m s
  | .vfaddVV d a b m => Sys2Proof.Machine.execVfaddVV d a b m s
  | .vfsubVV d a b m => Sys2Proof.Machine.execVfsubVV d a b m s
  | .vfmulVV d a b m => Sys2Proof.Machine.execVfmulVV d a b m s
  | .vfmaVV d a b m => Sys2Proof.Machine.execVfmaVV d a b m s
  | .vfmsVV d a b m => Sys2Proof.Machine.execVfmsVV d a b m s
  | .vfnmaVV d a b m => Sys2Proof.Machine.execVfnmaVV d a b m s
  | .vfdivVV d a b m => Sys2Proof.Machine.execVfdivVV d a b m s
  | .vfminVV d a b m => Sys2Proof.Machine.execVfminVV d a b m s
  | .vfmaxVV d a b m => Sys2Proof.Machine.execVfmaxVV d a b m s
  | .vfaddVS d a b m => Sys2Proof.Machine.execVfaddVS d a b m s
  | .vfsubVS d a b m => Sys2Proof.Machine.execVfsubVS d a b m s
  | .vfmulVS d a b m => Sys2Proof.Machine.execVfmulVS d a b m s
  | .vfmaVS d a b m => Sys2Proof.Machine.execVfmaVS d a b m s
  | .vfmsVS d a b m => Sys2Proof.Machine.execVfmsVS d a b m s
  | .vfnmaVS d a b m => Sys2Proof.Machine.execVfnmaVS d a b m s
  | .vfdivVS d a b m => Sys2Proof.Machine.execVfdivVS d a b m s
  | .vfminVS d a b m => Sys2Proof.Machine.execVfminVS d a b m s
  | .vfmaxVS d a b m => Sys2Proof.Machine.execVfmaxVS d a b m s
  | .vfsqrt d a m => Sys2Proof.Machine.execVfsqrt d a m s
  | .vfrsq d a m => Sys2Proof.Machine.execVfrsq d a m s
  | .vfrec d a m => Sys2Proof.Machine.execVfrec d a m s
  | .vfexp2 d a m => Sys2Proof.Machine.execVfexp2 d a m s
  | .vflog2 d a m => Sys2Proof.Machine.execVflog2 d a m s
  | .vfsin d a m => Sys2Proof.Machine.execVfsin d a m s
  | .vfcos d a m => Sys2Proof.Machine.execVfcos d a m s
  | .vcvt d a m sx => Sys2Proof.Machine.execVcvt d a m sx s
  | .vmv d a m => Sys2Proof.Machine.execVmv d a m s
  | .vbcast d b m => Sys2Proof.Machine.execVbcast d b m s
  | .vidx d m => Sys2Proof.Machine.execVidx d m s
  | .vcmpEqVV d a b m => Sys2Proof.Machine.execVcmpEqVV d a b m s
  | .vcmpNeVV d a b m => Sys2Proof.Machine.execVcmpNeVV d a b m s
  | .vcmpLtVV d a b m => Sys2Proof.Machine.execVcmpLtVV d a b m s
  | .vcmpLeVV d a b m => Sys2Proof.Machine.execVcmpLeVV d a b m s
  | .vcmpGtVV d a b m => Sys2Proof.Machine.execVcmpGtVV d a b m s
  | .vcmpGeVV d a b m => Sys2Proof.Machine.execVcmpGeVV d a b m s
  | .vcmpEqVS d a b m => Sys2Proof.Machine.execVcmpEqVS d a b m s
  | .vcmpNeVS d a b m => Sys2Proof.Machine.execVcmpNeVS d a b m s
  | .vcmpLtVS d a b m => Sys2Proof.Machine.execVcmpLtVS d a b m s
  | .vcmpLeVS d a b m => Sys2Proof.Machine.execVcmpLeVS d a b m s
  | .vcmpGtVS d a b m => Sys2Proof.Machine.execVcmpGtVS d a b m s
  | .vcmpGeVS d a b m => Sys2Proof.Machine.execVcmpGeVS d a b m s
  | .vfcmpEq d a b m => Sys2Proof.Machine.execVfcmpEq d a b m s
  | .vfcmpNe d a b m => Sys2Proof.Machine.execVfcmpNe d a b m s
  | .vfcmpLt d a b m => Sys2Proof.Machine.execVfcmpLt d a b m s
  | .vfcmpLe d a b m => Sys2Proof.Machine.execVfcmpLe d a b m s
  | .vrsum d a b m => Sys2Proof.Machine.execVrsum d a b m s
  | .vrmax d a b m => Sys2Proof.Machine.execVrmax d a b m s
  | .vrmin d a b m => Sys2Proof.Machine.execVrmin d a b m s
  | .vfrsum d a b m => Sys2Proof.Machine.execVfrsum d a b m s
  | .vfrmax d a b m => Sys2Proof.Machine.execVfrmax d a b m s
  | .mand d a b => Sys2Proof.Machine.execMand d a b s
  | .mor d a b => Sys2Proof.Machine.execMor d a b s
  | .mxor d a b => Sys2Proof.Machine.execMxor d a b s
  | .mnot d a => Sys2Proof.Machine.execMnot d a s
  | .mset d => Sys2Proof.Machine.execMset d s
  | .mclr d => Sys2Proof.Machine.execMclr d s
  | .mcnt d a => Sys2Proof.Machine.execMcnt d a s
  | .many d a => Sys2Proof.Machine.execMany d a s
  | .mfirst d a => Sys2Proof.Machine.execMfirst d a s
  | .vmaxix d a b m => Sys2Proof.Machine.execVmaxix d a b m s
  | .vcprs d a b m => Sys2Proof.Machine.execVcprs d a b m s
  | .vexpd d a m => Sys2Proof.Machine.execVexpd d a m s
  | .vperm d a b m => Sys2Proof.Machine.execVperm d a b m s
  | .vpush d a b m => Sys2Proof.Machine.execVpush d a b m s
  | .vslup d a b m => Sys2Proof.Machine.execVslup d a b m s
  | .vsldn d a b m => Sys2Proof.Machine.execVsldn d a b m s
  | .vrot d a b m => Sys2Proof.Machine.execVrot d a b m s
  | .vgrpt2 d a b m => Sys2Proof.Machine.execVgrpt2 d a b m s
  | .vgrpmsk d a b m => Sys2Proof.Machine.execVgrpmsk d a b m s
  | .vnofm d a b m => Sys2Proof.Machine.execVnofm d a b m s
  | .vld d a c m => Sys2Proof.Machine.execVld d a c m s
  | .vldff d a c m => Sys2Proof.Machine.execVldff d a c m s
  | .vldp d a c m p => Sys2Proof.Machine.execVldp d a c m p s
  | .vlds d a c m sx => Sys2Proof.Machine.execVlds d a c m sx s
  | .vldx d a c m x => Sys2Proof.Machine.execVldx d a c m x s
  | .vst d a c m => Sys2Proof.Machine.execVst d a c m s
  | .vsts d a c m sx => Sys2Proof.Machine.execVsts d a c m sx s
  | .vstx d a c m x => Sys2Proof.Machine.execVstx d a c m x s
  | .vstxadd d a c m x => Sys2Proof.Machine.execVstxadd d a c m x s
  | .wform g => Sys2Proof.Machine.execWform g s
  | .wsplit => Sys2Proof.Machine.execWsplit s
  | .wzero w => Sys2Proof.Machine.execWzero w s
  | .wdrain w d sx => Sys2Proof.Machine.execWdrain w d sx s
  | .wfmt a b => Sys2Proof.Machine.execWfmt a b s
  | .wgath a b m => Sys2Proof.Machine.execWgath a b m s
  | .wldb a b => Sys2Proof.Machine.execWldb a b s
  | .wop w k t => Sys2Proof.Machine.execWop w k t s
  | .wops w k t => Sys2Proof.Machine.execWops w k t s
  | .wbp w k p => Sys2Proof.Machine.execWbp w k p s
  | .wopv w a b m t => Sys2Proof.Machine.execWopv w a b m t s
  | .send d a b c => Sys2Proof.Machine.execSend d a b c s
  | .sendP a b c => Sys2Proof.Machine.execSendP a b c s
  | .mpop d a b c => Sys2Proof.Machine.execMpop d a b c s
  | .mret => Sys2Proof.Machine.execMret s
  | .waitm d a b => Sys2Proof.Machine.execWaitm d a b s
  | .eng d a b c => Sys2Proof.Machine.execEng d a b c s
  | .put d a b e c => Sys2Proof.Machine.execPut d a b e c s
  | .putm d a b e c => Sys2Proof.Machine.execPutm d a b e c s
  | .chbind d a b => Sys2Proof.Machine.execChbind d a b s
  | .chen d a => Sys2Proof.Machine.execChen d a s
  | .chdis d a => Sys2Proof.Machine.execChdis d a s
  | .chpendRead d a b => Sys2Proof.Machine.execChpendRead d a b s
  | .chpendSet d a b => Sys2Proof.Machine.execChpendSet d a b s
  | .chpendClear d a b => Sys2Proof.Machine.execChpendClear d a b s
  | .binit a b c => Sys2Proof.Machine.execBinit a b c s
  | .barr d a b c => Sys2Proof.Machine.execBarr d a b c s
  | .bexp d a b c => Sys2Proof.Machine.execBexp d a b c s
  | .bwait d a b c => Sys2Proof.Machine.execBwait d a b c s
  | .bqry d a b c => Sys2Proof.Machine.execBqry d a b c s
  | .tqpush d a b c => Sys2Proof.Machine.execTqpush d a b c s
  | .queueOpen d a b c => Sys2Proof.Machine.execQueueOpen d a b c s
  | .queueClose d a b c => Sys2Proof.Machine.execQueueClose d a b c s
  | .queueResume d a b c => Sys2Proof.Machine.execQueueResume d a b c s
  | .queuePurge d a b c => Sys2Proof.Machine.execQueuePurge d a b c s
  | .tget d a b c => Sys2Proof.Machine.execTget d a b c s
  | .tdone d c => Sys2Proof.Machine.execTdone d c s
  | .tdepRead d a b c => Sys2Proof.Machine.execTdepRead d a b c s
  | .tdepAdd d a b c => Sys2Proof.Machine.execTdepAdd d a b c s
  | .tdepSet d a b c => Sys2Proof.Machine.execTdepSet d a b c s
  | .tileq d a b c => Sys2Proof.Machine.execTileq d a b c s
  | .xdisp d a b e c => Sys2Proof.Machine.execXdisp d a b e c s
  | .xcomb d a b e c => Sys2Proof.Machine.execXcomb d a b e c s
  | .dreg d a => Sys2Proof.Machine.execDreg d a s
  | .ddel d a => Sys2Proof.Machine.execDdel d a s
  | .dmove d a b => Sys2Proof.Machine.execDmove d a b s
  | .solicit d a b o => Sys2Proof.Machine.execSolicit d a b o s
  | .reply d a b => Sys2Proof.Machine.execReply d a b s
  | .cwait d a b => Sys2Proof.Machine.execCwait d a b s
  | .cresResult d a b => Sys2Proof.Machine.execCresResult d a b s
  | .cresStatus d a b => Sys2Proof.Machine.execCresStatus d a b s
  | .cresFree d a b => Sys2Proof.Machine.execCresFree d a b s
  | .cresAbandon d a b => Sys2Proof.Machine.execCresAbandon d a b s
  | .tlbinvVa d a b => Sys2Proof.Machine.execTlbinvVa d a b s
  | .tlbinvAll d a b => Sys2Proof.Machine.execTlbinvAll d a b s
  | .tlbinvRoot d a b => Sys2Proof.Machine.execTlbinvRoot d a b s
  | .tlbinvGpa d a b => Sys2Proof.Machine.execTlbinvGpa d a b s
  | .tlbinvVfall d a b => Sys2Proof.Machine.execTlbinvVfall d a b s
  | .chkerr d a => Sys2Proof.Machine.execChkerr d a s
  | .errqPop d a b => Sys2Proof.Machine.execErrqPop d a b s
  | .errqNotice d a b => Sys2Proof.Machine.execErrqNotice d a b s
  | .poisonMark a b => Sys2Proof.Machine.execPoisonMark a b s
  | .poisonClear a b => Sys2Proof.Machine.execPoisonClear a b s
  | .illegalInstruction w cause => Sys2Proof.Machine.execIllegalInstruction w cause s
  | .handlerRun g => Sys2Proof.Machine.execHandlerRun g s
  | .messageArrival k => Sys2Proof.Machine.execMessageArrival k s
  | .bounce k => Sys2Proof.Machine.execBounce k s
  | .remoteStatusTimeout g => Sys2Proof.Machine.execRemoteStatusTimeout g s
  | .deviceMessageRetry k => Sys2Proof.Machine.execDeviceMessageRetry k s
  | .deviceMessageDrop k => Sys2Proof.Machine.execDeviceMessageDrop k s
  | .waitmTimeout g => Sys2Proof.Machine.execWaitmTimeout g s
  | .bwaitTimeout g => Sys2Proof.Machine.execBwaitTimeout g s
  | .tsleepTimeout g => Sys2Proof.Machine.execTsleepTimeout g s
  | .tgetTimeout g => Sys2Proof.Machine.execTgetTimeout g s
  | .cwaitTimeout g => Sys2Proof.Machine.execCwaitTimeout g s
  | .launchPortWrite f off data => Sys2Proof.Machine.execLaunchPortWrite f off data s
  | .portstatRead f => Sys2Proof.Machine.execPortstatRead f s
  | .crewPlacement die f => Sys2Proof.Machine.execCrewPlacement die f s
  | .launchHeadAging f lvl => Sys2Proof.Machine.execLaunchHeadAging f lvl s
  | .launchCompletion f lid => Sys2Proof.Machine.execLaunchCompletion f lid s
  | .threadPreemptionStop g => Sys2Proof.Machine.execThreadPreemptionStop g s
  | .preemptDeferTimeout g => Sys2Proof.Machine.execPreemptDeferTimeout g s
  | .crewSave die => Sys2Proof.Machine.execCrewSave die s
  | .prqPreempt die v => Sys2Proof.Machine.execPrqPreempt die v s
  | .prqResume die v => Sys2Proof.Machine.execPrqResume die v s
  | .crewMove c cl => Sys2Proof.Machine.execCrewMove c cl s
  | .vftvecWrite die v => Sys2Proof.Machine.execVftvecWrite die v s
  | .registerWrite g r v => Sys2Proof.Machine.execRegisterWrite g r v s
  | .starvationRevocation g => Sys2Proof.Machine.execStarvationRevocation g s
  | .starvationVictimPick g => Sys2Proof.Machine.execStarvationVictimPick g s
  | .earmarkLapse g => Sys2Proof.Machine.execEarmarkLapse g s
  | .forcedRevocation g cause => Sys2Proof.Machine.execForcedRevocation g cause s
  | .laneDrainComplete cl lane => Sys2Proof.Machine.execLaneDrainComplete cl lane s
  | .engCopy die u => Sys2Proof.Machine.execEngCopy die u s
  | .engCopy2d die u => Sys2Proof.Machine.execEngCopy2d die u s
  | .engFill die u => Sys2Proof.Machine.execEngFill die u s
  | .engPlanepack die u => Sys2Proof.Machine.execEngPlanepack die u s
  | .engMigrate die u => Sys2Proof.Machine.execEngMigrate die u s
  | .engUnassignedOpcode die u => Sys2Proof.Machine.execEngUnassignedOpcode die u s
  | .engineReply die u => Sys2Proof.Machine.execEngineReply die u s
  | .engineReset die u => Sys2Proof.Machine.execEngineReset die u s
  | .putDeliveryComplete k => Sys2Proof.Machine.execPutDeliveryComplete k s
  | .taskDispatch die q => Sys2Proof.Machine.execTaskDispatch die q s
  | .ringRefill die q => Sys2Proof.Machine.execRingRefill die q s
  | .censusVisit die cid core => Sys2Proof.Machine.execCensusVisit die cid core s
  | .censusForward k => Sys2Proof.Machine.execCensusForward k s
  | .dmoveInstall k => Sys2Proof.Machine.execDmoveInstall k s
  | .stubFree core slot => Sys2Proof.Machine.execStubFree core slot s
  | .censusComplete die cid => Sys2Proof.Machine.execCensusComplete die cid s
  | .pageWalk g va acc => Sys2Proof.Machine.execPageWalk g va acc s
  | .checkMismatch g lane => Sys2Proof.Machine.execCheckMismatch g lane s
  | .parityRepair g lane row => Sys2Proof.Machine.execParityRepair g lane row s
  | .uncorrectableError h => Sys2Proof.Machine.execUncorrectableError h s
  | .correctedError die arr dom => Sys2Proof.Machine.execCorrectedError die arr dom s
  | .errthrWindowEnd die arr => Sys2Proof.Machine.execErrthrWindowEnd die arr s
  | .ctxLost g => Sys2Proof.Machine.execCtxLost g s
  | .vfReset f => Sys2Proof.Machine.execVfReset f s
  | .vfResetEnd f => Sys2Proof.Machine.execVfResetEnd f s
  | .dieReset die => Sys2Proof.Machine.execDieReset die s
  | .dieHeartbeatLoss die => Sys2Proof.Machine.execDieHeartbeatLoss die s
  | .dieRequestTimeout die => Sys2Proof.Machine.execDieRequestTimeout die s
  | .stileFlit die flit => Sys2Proof.Machine.execStileFlit die flit s
  | .dieReady die => Sys2Proof.Machine.execDieReady die s
  | .islandReset die => Sys2Proof.Machine.execIslandReset die s
  | .islandFailed die => Sys2Proof.Machine.execIslandFailed die s
  | .linkRetry l => Sys2Proof.Machine.execLinkRetry l s
  | .linkReset l => Sys2Proof.Machine.execLinkReset l s
  | .linkRetrainEnd l up => Sys2Proof.Machine.execLinkRetrainEnd l up s
  | .peerInboundAccess acc => Sys2Proof.Machine.execPeerInboundAccess acc s
  | .hostInterruptMessage k => Sys2Proof.Machine.execHostInterruptMessage k s
  | .atsInvalidation x f va => Sys2Proof.Machine.execAtsInvalidation x f va s
  | .partition f x0 y0 w h => Sys2Proof.Machine.execPartition f x0 y0 w h s
  | .quota f cl lanes => Sys2Proof.Machine.execQuota f cl lanes s
  | .hbmshare f stack weight => Sys2Proof.Machine.execHbmshare f stack weight s
  | .s2root f root => Sys2Proof.Machine.execS2root f root s
  | .qassign f die q0 qn c0 cn => Sys2Proof.Machine.execQassign f die q0 qn c0 cn s
  | .aperture idx valid dev addr mask => Sys2Proof.Machine.execAperture idx valid dev addr mask s
  | .peerlinks peer links => Sys2Proof.Machine.execPeerlinks peer links s
  | .inbound idx base size f trust => Sys2Proof.Machine.execInbound idx base size f trust s
  | .keyload slot wrapped => Sys2Proof.Machine.execKeyload slot wrapped s
  | .keyclear slot => Sys2Proof.Machine.execKeyclear slot s
  | .memrelease die => Sys2Proof.Machine.execMemrelease die s
  | .counters f => Sys2Proof.Machine.execCounters f s
  | .attestReport f nonce => Sys2Proof.Machine.execAttestReport f nonce s
  | .firmwareUpdate kind image => Sys2Proof.Machine.execFirmwareUpdate kind image s
  | .pldmDiscovery => Sys2Proof.Machine.execPldmDiscovery s
  | .sensorRead id => Sys2Proof.Machine.execSensorRead id s
  | .powerCapSet watts => Sys2Proof.Machine.execPowerCapSet watts s
  | .powerGood => Sys2Proof.Machine.execPowerGood s
  | .mgmtReady => Sys2Proof.Machine.execMgmtReady s
  | .xdieReady => Sys2Proof.Machine.execXdieReady s
  | .stileReady die => Sys2Proof.Machine.execStileReady die s
  | .hbmReady stack => Sys2Proof.Machine.execHbmReady stack s
  | .engineReady die u => Sys2Proof.Machine.execEngineReady die u s
  | .euvexLinkUp l => Sys2Proof.Machine.execEuvexLinkUp l s
  | .hostLinkUp x => Sys2Proof.Machine.execHostLinkUp x s
  | .readyTimeout u => Sys2Proof.Machine.execReadyTimeout u s
  | .thermalThrottle die cycles => Sys2Proof.Machine.execThermalThrottle die cycles s
  | .thermalTrip die => Sys2Proof.Machine.execThermalTrip die s
  | .hostLinkDown x => Sys2Proof.Machine.execHostLinkDown x s
  | .msixVectorUnmask f v => Sys2Proof.Machine.execMsixVectorUnmask f v s
  | .diePowerOff die => Sys2Proof.Machine.execDiePowerOff die s
  | .diePowerLoss die => Sys2Proof.Machine.execDiePowerLoss die s
  | .tagWalkTimeout die => Sys2Proof.Machine.execTagWalkTimeout die s
  | .undervoltOffsetRestore die dom off => Sys2Proof.Machine.execUndervoltOffsetRestore die dom off s

end Sys2Proof.Machine
end

