-- ==== Sys2Proof/Machine/Outside.lean ====
section
/-! DEFINITION. Acts of firmware, of the management controller and of the host for which the opcode table has no row
(R311, R331, R345, R353, R363, R367, R368, R381, R382). -/

namespace Sys2Proof.Machine

/-! ### Management (R331, R345, R381) -/

/-- A management request that is answered busy while another is in progress (R381). -/
def State.mgmtRequest (s : State) (name : String) (able : Bool) (act : State → State) : Out :=
  whenEnabled name (s.mgmt && able) (if s.mgmtBusy then { s with answer := 2 } else act s)

/-- Management takes the oldest error record of a die at firmware level, as ERRQ does (R345, R381): the answer is 0, or 1 with
no record, with the records lost in bits 47:32. -/
def actPopError (d : Nat) (s : State) : Out :=
  s.mgmtRequest "POP_ERROR" (decide (d < 8)) fun s =>
    let x := s.die d
    let q := aget {} x.errors firmQueue
    let lost := BitVec.ofNat 64 (min q.lost 65535 * 2 ^ 32)
    let s := s.setDie d { x with errors := aset x.errors firmQueue { q with records := q.records.drop 1, lost := 0 } }
    match q.records with
    | [] => { s with answer := 1 + lost }
    | r :: _ => { s with answer := lost, report := leBytes 64 r.toNat }

/-- Management writes PRQADDR of a die (R331). -/
def actWritePrqaddr (d : Nat) (v : Word) (s : State) : Out :=
  s.mgmtRequest "WRITE_PRQADDR" ((s.die d).state == .present) fun s =>
    { s.setDie d { s.die d with prqaddr := (v >>> 12) <<< 12 } with answer := 0 }

/-- Management writes PRQ of a die (R331). -/
def actWritePrq (d : Nat) (v : Word) (s : State) : Out :=
  s.mgmtRequest "WRITE_PRQ" ((s.die d).state == .present) fun s => s.mgmtPrq d v

/-- Management reads PRQSTAT of a die (R331): RESULT 4 stands for its next read only. -/
def actReadPrqstat (d : Nat) (s : State) : Out :=
  s.mgmtRequest "READ_PRQSTAT" ((s.die d).state == .present) fun s =>
    let x := s.die d
    { s.setDie d { x with prqBusy := x.prqBusy.filter (· != mgmtWriter) } with answer := x.prqstatFor mgmtWriter }

/-! ### Firmware and bring-up -/

/-- Firmware sets the device's id (R363). -/
def actSetDevice (id : Nat) (s : State) : Out :=
  whenEnabled "SET_DEVICE" (s.mgmt && decide (id < 4096)) { s with device := id }

/-- Bring-up sets a die's firmware trap vector, before a thread runs there (R311). -/
def actSetFtvec (d : Nat) (v : Word) (s : State) : Out :=
  whenEnabled "SET_FTVEC"
    (decide (d < 8) && (s.die d).stile && !(s.ctxs.any fun p => dieOf p.1 == d && p.2.live))
    (s.setDie d { s.die d with ftvec := vecWrite v })

/-- The tag walk of a die that is reset or powered off completes (R353). -/
def actEndTagWalk (d : Nat) (s : State) : Out := whenEnabled "END_TAG_WALK" (s.die d).walking (s.endTagWalk d)

/-- A bank of an image kind holds other bytes than were written to it (R382): 2·kind + bank. -/
def actDamageBank (bank : Nat) (image : List Byte) (s : State) : Out :=
  whenEnabled "DAMAGE_BANK" (decide (bank < 6)) { s with images := aset s.images bank image }

/-- The module after a loss of its input power: as at reset, but for what power does not hold: the banks of the images, of
which the ones due come into force as the functions report ready again (R382), the fused minimum, memory outside the package,
and the model's own counts (log 106). -/
def State.powerCycled (s : State) : State :=
  { State.reset with
    agenda := s.agenda, freeCount := s.freeCount, serial := s.serial, clock := s.clock,
    banks := s.banks, nextBanks := s.nextBanks, images := s.images, secMin := s.secMin,
    mem := s.mem.filter fun p => decide (deviceEnd ≤ p.1)
    memPoison := s.memPoison.filter fun p => decide (deviceEnd ≤ 64 * p.1) }

/-- The input power of the module goes and comes back (R378): every function is reset. -/
def actPowerCycle (s : State) : Out := whenEnabled "POWER_CYCLE" s.powered s.powerCycled

/-! ### The host (R84, R367 to R369) -/

/-- Firmware assigns a virtual function to a host link (R368). -/
def actAssignHostLink (f link : Nat) (s : State) : Out :=
  whenEnabled "ASSIGN_HOST_LINK" (s.mgmt && decide (f < 64) && decide (link < 2))
    (s.setFn f { s.fnOf f with hostLink := some link })

/-- A byte of the MSI-X table (R368): bit 0 of byte 12 of an entry is the vector's mask (log 10). -/
def Fn.tableAt (x : Fn) (k : Nat) : Byte :=
  let b := aget 0 x.msixTable k
  if k % 16 = 12 then (b &&& 0xFE#8) ||| BitVec.ofNat 8 (ofBool (x.msixMask.getLsbD (k / 16))) else b

/-- Eight bytes of BAR0 above the launch port (R368); reserved bytes read zero. -/
def Fn.bar (x : Fn) (off : Nat) : Word :=
  if off = 0x1000 then x.nbase
  else if 0x2000 ≤ off ∧ off < 0x2400 then
    BitVec.ofNat 64 (leNat ((List.range 8).map fun i => x.tableAt (off - 0x2000 + i)))
  else if off = 0x3000 then x.msixPend
  else 0

/-- The host reads 8 aligned bytes of a function's BAR0 (R84, R368): in the launch port PORTSTAT, which the read clears in
part. -/
def actReadBar (f off : Nat) (s : State) : Out :=
  if off < 4096 then
    if off % 8 = 0 then execPortstatRead f s else .refused (.notEnabled "READ_BAR")
  else
    whenEnabled "READ_BAR" (s.hostUp f && decide (f ≤ 64) && decide (off % 8 = 0) && decide (off < 65536))
      { s with answer := (s.fnOf f).bar off }

/-- The host takes the oldest record that Advanced Error Reporting carries (R367). -/
def actTakeAer (s : State) : Out :=
  match s.aer with
  | [] => .refused (.notEnabled "TAKE_AER")
  | r :: rest => .next { s with aer := rest, report := leBytes 64 r.toNat }

/-- An act. -/
def runAct (a : Act) (s : State) : Out :=
  match a with
  | .setDevice id => actSetDevice id s
  | .assignHostLink f link => actAssignHostLink f link s
  | .setFtvec d v => actSetFtvec d v s
  | .popError d => actPopError d s
  | .writePrqaddr d v => actWritePrqaddr d v s
  | .writePrq d v => actWritePrq d v s
  | .readPrqstat d => actReadPrqstat d s
  | .readBar f off => actReadBar f off s
  | .takeAer => actTakeAer s
  | .endTagWalk d => actEndTagWalk d s
  | .mgmtBegin => whenEnabled "MGMT_BEGIN" (s.mgmt && !s.mgmtBusy) { s with mgmtBusy := true }
  | .mgmtEnd => whenEnabled "MGMT_END" s.mgmtBusy { s with mgmtBusy := false }
  | .damageBank bank image => actDamageBank bank image s
  | .powerCycle => actPowerCycle s

end Sys2Proof.Machine
end

