-- ==== Sys2Proof/Machine/Select.lean ====
section
/-! DEFINITION. The issue slot (R54, R56, R91): which registers await a result, which instructions wait for the vector
queue, when a context is ready, and which one issues. -/

namespace Sys2Proof.Machine

/-! ### Registers that await a result (R54, R136, R217) -/

/-- The scalar registers that a vector instruction writes when it retires (VMAXIX writes two, R162). -/
def scalarDests (i : Instr) : List (BitVec 5) :=
  match i with
  | .vrsum d _ _ _ | .vrmax d _ _ _ | .vrmin d _ _ _ | .vfrsum d _ _ _ | .vfrmax d _ _ _ => [d]
  | .mcnt d _ | .many d _ | .mfirst d _ | .vcprs _ _ d _ => [d]
  | .vmaxix d _ x _ => [d, x]
  | .setvl d _ _ | .setvli d _ _ | .vrefill d => [d]
  | _ => []

/-- A field of a word that names a scalar register. -/
def regField (w : BitVec 32) (lo : Nat) : BitVec 5 := w.extractLsb' lo 5

/-- Registers `k` to `k + 3`, of which the word names the first; none where it names s0 (R247). -/
def fourAt (k : BitVec 5) : List (BitVec 5) := if k = 0 then [] else [k, k + 1, k + 2, k + 3]

/-- The scalar registers that a scalar word reads, by its major opcode (R33 to R42); a field that a row leaves zero names
s0. A TRAP reads the arguments of a firmware service (R330). -/
def wordReads (w : BitVec 32) : List (BitVec 5) :=
  let d := regField w 6
  let a := regField w 11
  let b := regField w 16
  let e := regField w 21
  match (w.extractLsb' 0 6).toNat with
  | 0x32 =>
    match (regField w 27).toNat with
    | 2 => [a]
    | 4 => [a, b]
    | _ => b :: fourAt a
  | 0x01 | 0x08 | 0x34 | 0x35 | 0x36 | 0x38 | 0x39 | 0x3A => [a, b]
  | 0x02 | 0x09 | 0x33 | 0x37 => [a, b, e]
  | 0x03 | 0x04 | 0x0A | 0x0E | 0x0F | 0x10 | 0x12 | 0x14 | 0x16 => [a]
  | 0x05 | 0x0C | 0x11 => [a, d]
  | 0x13 => [a, b, d]
  | 0x15 => if a = 3 then [3, 4] else []
  | _ => []

/-- The scalar registers that a scalar word reads or writes. -/
def wordNames (w : BitVec 32) : List (BitVec 5) :=
  let dests := if (w.extractLsb' 0 6).toNat = 0x32 ∧ regField w 27 = 2 then fourAt (regField w 16) else []
  regField w 6 :: (dests ++ wordReads w)

/-- A word of majors 0x18 to 0x30. -/
def vectorMajor (w : BitVec 32) : Bool :=
  decide (0x18 ≤ (w.extractLsb' 0 6).toNat) && decide ((w.extractLsb' 0 6).toNat ≤ 0x30)

/-- One of the registers, other than s0, is to be written by one of the entries. -/
def awaitsAny (rs : List (BitVec 5)) (es : List VqEntry) : Bool :=
  es.any fun e => (scalarDests e.instr).any fun d => d != 0 && rs.contains d

/-- The scalar registers that late loads have still to fill (R217). -/
def Ctx.lateRegs (c : Ctx) : List (BitVec 5) := c.pend.filterMap fun p => p.load.map (·.dest)

/-- The scalar registers that an instruction at scalar decode reads into the vector queue (R136). -/
def queueReads (i : Instr) (c : Ctx) : List (BitVec 5) :=
  match i with
  | .setvl _ a _ => [a]
  | .vgeom d a => [d, a]
  | i => ((vecSpec i c.dcodeType).map fun x => x.control ++ x.data).getD []

/-- One of the registers awaits a result: of a queued vector instruction, or of a late load. -/
def Ctx.awaiting (c : Ctx) (rs : List (BitVec 5)) : Bool :=
  awaitsAny rs c.vq || rs.any fun r => r != 0 && c.lateRegs.contains r

/-! ### Instructions that wait for the vector queue -/

/-- A control register that an instruction of the vector queue may read or write (R72, R113). -/
def queueRegister (n : Nat) : Bool := decide (n < 0x105)

/-- An instruction that waits until every older vector-queue instruction has retired: accesses to the control registers that
they touch (R72), fences of the LANE or GATHER path (R228), releases (R83, R93, R95, R232, R267, R278, R305), and those that
say so (R77, R94, R107, R124, R328, R343). ERET is none of them (R75; log 97). -/
def waitsForQueue (i : Instr) : Bool :=
  match i with
  | .crr _ r | .crw _ r | .crs _ _ r | .crc _ _ r => queueRegister r.toNat
  | .fenceC _ => true
  | .fenceP p => p.getLsbD 1 || p.getLsbD 3
  | .fenceSv k => k >>> 3 != 0
  | .exit | .launch _ _ | .cbar _ _ | .tsleep _ _ | .twake _ _ | .vgeom _ _ => true
  | .stRel _ _ _ _ | .barr _ _ _ _ | .bexp _ _ _ _ => true
  | .tqpush _ _ _ _ | .tdone _ _ | .tdepAdd _ _ _ _ | .tdepSet _ _ _ _ | .tileq _ _ _ _ => true
  | .queueOpen _ _ _ _ | .queueClose _ _ _ _ | .queueResume _ _ _ _ | .queuePurge _ _ _ _ => true
  | .dreg _ _ | .dmove _ _ _ | .solicit _ _ _ _ | .reply _ _ _ => true
  | .tlbinvVa _ _ _ | .tlbinvAll _ _ _ | .tlbinvRoot _ _ _ | .tlbinvGpa _ _ _ | .tlbinvVfall _ _ _ => true
  | .chkerr _ _ => true
  | _ => false

/-- An instruction that waits until every older scalar instruction has retired, late loads among them: TRAP (R74), ERET
(R75), EXIT (R77), CBAR (R93), TSLEEP (R94), CHKERR (R343), and accesses to CIR, which a load that consumes poison writes
(R72, R339). -/
def waitsForScalars (i : Instr) : Bool :=
  match i with
  | .trap _ | .eret | .exit | .cbar _ _ | .tsleep _ _ | .chkerr _ _ => true
  | .crr _ r | .crw _ r | .crs _ _ r | .crc _ _ r => r == 0x104
  | _ => false

/-- VDECL and VGEOM: of the vector majors, but no instructions of the vector queue (R106, R107). -/
def unqueued (i : Instr) : Bool :=
  match i with
  | .vdecl _ | .vgeom _ _ => true
  | _ => false

/-- A vector instruction can enter the queue: there is room (R56), and no VREFILL, which sets the decode type, holds
decode (R135). -/
def roomForVector (c : Ctx) : Bool :=
  decide (c.vq.length < 32) && !(c.vq.any fun e => match e.instr with | .vrefill _ => true | _ => false)

/-! ### Which context issues -/

/-- The word at the PC can issue in this cycle (R56): no register it names awaits a result, and it waits neither for the
vector queue nor for room in it, nor for late loads. A register that a queued instruction is to write awaits no late load
(R54). -/
noncomputable def State.wordIssues (s : State) (w : BitVec 32) : Bool :=
  let c := s.me
  match decode w with
  | .error _ => c.lateRegs.isEmpty
  | .ok i =>
    if vectorMajor w && !(unqueued i) then
      roomForVector c && !(c.awaiting (queueReads i c)) && !((scalarDests i).any c.lateRegs.contains)
    else
      !(c.awaiting (if vectorMajor w then queueReads i c else wordNames w)) &&
        (c.vq.isEmpty || !(waitsForQueue (refine i s))) && (c.lateRegs.isEmpty || !(waitsForScalars i))

/-- No pre-emption is to stop the thread before its next instruction (R98). -/
def Ctx.goesOn (c : Ctx) : Bool := c.preempt == .none || c.inTrap || c.holdsPreempt

/-- The next instruction of a context can issue (R56): the store buffer has room (R203), no pre-emption is to stop the
thread before it (R98), and the word at the PC issues; a fetch that faults takes its trap, and one that is held does not
issue. -/
noncomputable def State.canIssue (s : State) (g : Nat) : Bool :=
  let c := s.ctx g
  decide (bufferedStores c.pend < 16) && c.goesOn &&
  match ({ s with cur := g }).fetch with
  | (_, .error t) => t.cause != heldCause
  | (t, .ok w) => t.wordIssues w

/-- A context is ready (R56): a thread runs in it, it has not yielded the cycle, it waits in no instruction, and its next
instruction can issue. -/
noncomputable def State.ready (s : State) (g : Nat) : Bool :=
  s.runs g && !(s.ctx g).yielded && (s.ctx g).wait.isNone && s.canIssue g

/-- The contexts of a core in round-robin order after the one that last issued. -/
def rotation (last : Nat) : List Nat := (List.range 4).map fun i => (last + 1 + i) % 4

/-- The contexts of a core that are ready, by their place in it. -/
noncomputable def State.readyIn (s : State) (core : Nat) : List Nat :=
  (List.range 4).filter fun i => s.ready (4 * core + i)

/-- The context the issue selector picks (R91): highest effective level, round-robin within it. -/
noncomputable def State.pick (s : State) (core : Nat) : Option Nat :=
  let ready := s.readyIn core
  let top := ready.foldl (fun m i => max m (s.ctx (4 * core + i)).effLevel) 0
  let cands := ready.filter fun i => (s.ctx (4 * core + i)).effLevel == top
  ((rotation (aget 3 (s.core core).last top)).find? cands.contains).map (4 * core + ·)

/-- What issuing does to the contexts of the core (R76, R91): the picked one's W is 0, every other ready one's is
raised, and no context is held back by a YIELD any longer. -/
noncomputable def State.noteIssue (s : State) (core g : Nat) : State :=
  let lvl := (s.ctx g).effLevel
  let ready := s.readyIn core
  let s := (List.range 4).foldl (fun s i =>
    let h := 4 * core + i
    let c := s.ctx h
    if c.live then
      s.setCtx h { c with yielded := false, w := if h = g then 0 else if ready.contains i then c.w + 1 else c.w }
    else s) s
  s.setCore core { s.core core with last := aset (s.core core).last lvl (g % 4) }

/-- The cycle in which no context of the core issues. -/
def State.noteIdle (s : State) (core : Nat) : State :=
  (List.range 4).foldl (fun s i =>
    let c := s.ctx (4 * core + i)
    if c.yielded then s.setCtx (4 * core + i) { c with yielded := false } else s) s

/-- A late load of a context of the core is not performed yet. -/
def State.lateOn (s : State) (core : Nat) : Bool := (List.range 4).any fun i => !(s.ctx (4 * core + i)).lateRegs.isEmpty

/-- The late loads of the contexts of a core are performed (R217), unless the way of one is held. -/
def State.landLoads (s : State) (core : Nat) : State :=
  if s.lateOn core then
    let t := (List.range 4).foldl (fun s i => s.drain (4 * core + i) fun p => p.load.isSome) s
    if t.blocked then s else t
  else s

/-- The context's oldest queued vector instruction can run: a thread is there, and not stopped for a pre-emption. -/
def State.queueRuns (s : State) (g : Nat) : Bool :=
  s.runs g && !(s.ctx g).vq.isEmpty

/-- The context whose vector queue goes on in the turn of one whose queue can: where that one's fill stands first, the one that
the gather unit serves next (R190). -/
def State.queueTurn (s : State) (g : Nat) : Nat :=
  if (s.ctx g).vq.head?.any fun e => isFill e.instr then (s.gatherNext (clusterOf g)).getD g else g

end Sys2Proof.Machine
end

