-- ==== Sys2Proof/Machine/Run.lean ====
section
/-! DEFINITION. What one turn of the agenda does, over exec. -/

namespace Sys2Proof.Machine

/-! ### The next instruction -/

/-- The cause of a word that is no instruction, under the decode type: ILL_TYPE precedes the empty mask of VMAXIX
(R43, R135). -/
def illUnderType (s : State) (w : BitVec 32) (x : IllCause) : IllCause :=
  match x, decodeMajor27 (w ||| 0x00800000#32) with
  | .illRange, .ok i =>
    match vecSpec i s.me.dcodeType with
    | some v => if (w.extractLsb' 0 6).toNat = 0x27 ∧ !v.types then .illType else x
    | none => x
  | _, _ => x

/-- A pending LANE_REVOKE is taken at a scalar word that reads or writes a register which a squashed instruction was to
write (R124, R136). -/
def revokesAt (c : Ctx) (w : BitVec 32) : Option PendingRevoke :=
  if vectorMajor w then none
  else c.revoke.filter fun _ => awaitsAny (wordNames w) (c.replay.filter fun e => e.depth == 0)

/-- Scalar decode goes past what stands in the vector queue (R126). -/
def State.passQueue (s : State) : State :=
  if s.me.vq.isEmpty then s else s.setMe { s.me with vq := s.me.vq.map fun e => { e with passed := true } }

/-- The word at the PC runs: as an instruction, or as an illegal one (R43), before which, in majors 0x18 to 0x30, a pending
LANE_REVOKE is taken (R124; log 98). -/
noncomputable def runWord (s : State) (w : BitVec 32) : Host.Outcome State Fault Refusal :=
  match decode w with
  | .error x =>
    match s.me.revoke.filter fun _ => vectorMajor w with
    | some p => .next (s.takeRevoke p)
    | none => exec (.illegalInstruction w (illUnderType s w x)) s
  | .ok i =>
    match revokesAt s.me w with
    | some p => .next (s.takeRevoke p)
    | none => exec (refine i s) s

/-- The operands of a scalar load whose value may come later (R217): destination, base, class, offset, size, whether it
is signed. -/
def lateLoad (i : Instr) : Option (BitVec 5 × BitVec 5 × BitVec 4 × BitVec 10 × Nat × Bool) :=
  match i with
  | .ldB d a c o => some (d, a, c, o, 1, true)
  | .ldH d a c o => some (d, a, c, o, 2, true)
  | .ldW d a c o => some (d, a, c, o, 4, true)
  | .ldD d a c o => some (d, a, c, o, 8, false)
  | .ldBu d a c o => some (d, a, c, o, 1, false)
  | .ldHu d a c o => some (d, a, c, o, 2, false)
  | .ldWu d a c o => some (d, a, c, o, 4, false)
  | _ => none

/-- The word at the PC runs as a scalar load whose value comes later, where it is one that can: it takes no trap. -/
noncomputable def deferWord (s : State) (w : BitVec 32) : Option State :=
  match decode w with
  | .error _ => none
  | .ok i =>
    match lateLoad i, revokesAt s.me w with
    | some (d, a, c, o, n, sext), none =>
      if d = 0 ∨ s.rp a then none else (s.deferLoad s.cur c.toNat (s.ea a o).toNat n d sext).map State.advance
    | _, _ => none

/-- What an issue slot does with the instruction at the PC: `queue` lets a vector instruction wait in its queue, `late` fixes
the value of a scalar load later. -/
structure IssueMode where
  queue : Bool := false
  late  : Bool := false
  deriving DecidableEq, Repr

/-- A word that was fetched issues. A vector instruction that finds its queue empty runs at once, or enters the queue; a fill
enters it while other fills are pending (R190). -/
noncomputable def issueWord (m : IssueMode) (s : State) (w : BitVec 32) : Host.Outcome State Fault Refusal :=
  match decode w with
  | .error _ => runWord s w
  | .ok i =>
    if vectorMajor w && !(unqueued i) && (m.queue || !s.me.vq.isEmpty || (isFill i && s.gatherRows.isSome)) then
      match s.decodeQueued i with
      | .trapped t => .next t
      | .queued t e => .next (t.setMe { t.me with vq := t.me.vq ++ [e] })
    else
      match if m.late then deferWord s.passQueue w else none with
      | some t => .next t
      | none => runWord s.passQueue w

/-- What an instruction of the running context comes to: where something that it performs crosses a way that is held, none of
it happens yet, and it waits (R361, R366; log 52). -/
def State.orWait (s : State) : Host.Outcome State Fault Refusal → Host.Outcome State Fault Refusal
  | .next t => .next (if t.blocked then s.stall else t)
  | o => o

/-- The running context's next instruction: fetched and issued, or the trap of the fetch; a fetch that is held waits. -/
noncomputable def runFetched (m : IssueMode) (s : State) : Host.Outcome State Fault Refusal :=
  s.orWait (match s.fetch with
    | (s, .error t) => .next (if t.cause = heldCause then s else s.trap t)
    | (s, .ok w) => issueWord m s w)

/-- The state an outcome goes on with: as before where it is a stop. -/
def reached (s : State) : Host.Outcome State Fault Refusal → State
  | .next t => t
  | _ => s

/-- What a context does in a cycle without taking the issue slot (R56): at its boundary a pending pre-emption stops it, or an
eligible handler starts (R98, R246); else an instruction whose wait is over ends. -/
noncomputable def State.boundary (s : State) (g : Nat) : State :=
  let c := s.ctx g
  if !(s.runs g) then s
  else if c.stopsHere then reached s (exec (.threadPreemptionStop g) s)
  else if (s.eligibleChan g).isSome then reached s (exec (.handlerRun g) s)
  else if c.wait.any (s.waitOver g) && c.goesOn then
    { reached s (runFetched {} { s with cur := g }) with cur := s.cur }
  else s

/-- The oldest queued vector instruction of a context runs (R104, R136), up to an element group where `cut` names an element
of it. -/
noncomputable def runQueue (g : Nat) (cut : Option Nat) (s : State) : Host.Outcome State Fault Refusal :=
  match (s.ctx g).vq with
  | [] => .refused (.notEnabled "VECTOR")
  | e :: rest =>
    let t := { s with cur := g }
    let t := t.setMe { t.me with vq := rest, reissue := some e, cut := cut }
    t.orWait (exec e.instr t)

/-- The contexts of a core, by number. -/
def contextsOf (core : Nat) : List Nat := (List.range 4).map (4 * core + ·)

/-- The boundaries of the contexts of a core in one cycle. -/
noncomputable def State.boundaries (s : State) (core : Nat) : State := (contextsOf core).foldl State.boundary s

/-- The cycle in which no context of a core issues: the vector queue of one of them goes on, or one whose store buffer is full
performs its oldest store. -/
noncomputable def idleSlot (core : Nat) (s : State) : Host.Outcome State Fault Refusal :=
  let t := s.noteIdle core
  match (contextsOf core).find? t.queueRuns with
  | some g => runQueue (t.queueTurn g) none t
  | none =>
    match (contextsOf core).find? fun g => decide (16 ≤ bufferedStores (t.ctx g).pend) with
    | some g => .next (if (t.makeRoom g).blocked then t else t.makeRoom g)
    | none => .next t

/-- The issue slot of a core (R56, R91). -/
noncomputable def issue (m : IssueMode) (core : Nat) (s : State) : Host.Outcome State Fault Refusal :=
  match (s.boundaries core).pick core with
  | none => idleSlot core (s.boundaries core)
  | some g => runFetched m { ((s.boundaries core).noteIssue core g) with cur := g }

/-- A context's oldest queued instruction runs, whole or up to an element: a group-divisible one, or a fill,
when the gather unit serves it. -/
noncomputable def progress (g : Nat) (cut : Option Nat) (s : State) : Host.Outcome State Fault Refusal :=
  let divisible := ((s.ctx g).vq.head?.bind fun e => vecSpec e.instr (s.ctx g).vt).any (·.divisible)
  if s.queueRuns g && s.queueTurn g == g && (cut.isNone || divisible) then runQueue g cut s else .refused (.notEnabled "PROGRESS")

/-- A pending store of a context is performed, where no older access of the context precedes it (R219 to R221). -/
def perform (g k : Nat) (s : State) : Host.Outcome State Fault Refusal :=
  match s.mayPerform g k with
  | none => .refused (.notEnabled "PERFORM")
  | some t => if t.blocked then .refused (.notEnabled "PERFORM") else .next t

/-- The row is an event of its own: no word that an issue slot runs, and no service or trap of the running thread. -/
def isEvent (i : Instr) : Bool :=
  match i with
  | .illegalInstruction _ _ => false
  | i => (encode i).isNone

/-- An event in which a unit, the host or a peer moves data or messages: where one of them crosses a way that is held, it does
not happen yet (R361, R366). Resets, losses and errors happen all the same. -/
def movesData (i : Instr) : Bool :=
  match i with
  | .launchPortWrite _ _ _ | .crewPlacement _ _ | .launchCompletion _ _ | .crewSave _ | .prqPreempt _ _ | .prqResume _ _
  | .crewMove _ _ | .starvationRevocation _ | .starvationVictimPick _ | .forcedRevocation _ _ | .engCopy _ _
  | .engCopy2d _ _ | .engFill _ _ | .engPlanepack _ _ | .engMigrate _ _ | .putDeliveryComplete _ | .taskDispatch _ _
  | .ringRefill _ _ | .pageWalk _ _ _ | .dmoveInstall _ | .peerInboundAccess _ | .hostInterruptMessage _
  | .messageArrival _ => true
  | _ => false

/-- An event taken now, or not: one that moves data waits while something of it crosses a way that is held. -/
def takenNow (moves : Bool) : Host.Outcome State Fault Refusal → Host.Outcome State Fault Refusal
  | .next t => if t.blocked && moves then .refused (.notEnabled "EVENT") else .next { t with blocked := false }
  | o => o

/-- One turn. -/
noncomputable def runTurn (t : Turn) (s : State) : Host.Outcome State Fault Refusal :=
  match t with
  | .event i => if isEvent i then takenNow (movesData i) (exec i s) else .refused (.notEnabled "EVENT")
  | .issue core => issue {} core (s.landLoads core)
  | .hold core => issue { queue := true } core s
  | .defer core => issue { queue := true, late := true } core s
  | .vector g => progress g none s
  | .progress g e => progress g (some e) s
  | .perform g k => perform g k s
  | .outside a => takenNow true (runAct a s)

/-- The outcome with the time of the step passed. -/
def timed : Host.Outcome State Fault Refusal → Host.Outcome State Fault Refusal
  | .next t => .next t.passTime
  | .fault f => .fault f
  | .refused f => .refused f

/-- Where a program's first word is put for `withFetchWord`: a physical address of HBM stack 0. -/
def fetchAddr : Nat := 0x10000

/-- The state with a word stored where the step fetches next: context 0 of the package occupied at firmware level,
whose addresses are physical, its PC at the word, nothing else ready on its core, and the memory that holds the
word serving. -/
def placeWord (s : State) (w : BitVec 32) : State :=
  let c : Ctx := { s.ctx 0 with
    live := true, pc := BitVec.ofNat 64 fetchAddr, level := .firmware, wait := none, vq := [], reissue := none,
    preempt := .none, yielded := false, revoke := none, pend := [] }
  let x := s.core 0
  let s := { s with agenda := [], cur := 0, viewer := none, blocked := false }
  let s := ((((s.setCtx 0 c).setCtx 1 {}).setCtx 2 {}).setCtx 3 {}).setCore 0 { x with chans := [] }
  let s := s.setDie 0 { s.die 0 with state := .present, stile := true, memHeld := false }
  let s := { s with hbmStacks := aset s.hbmStacks 0 true, lineKey := aerase s.lineKey (fetchAddr / 64) }
  (s.setPoison fetchAddr false).storeBytes fetchAddr (leBytes 4 w.toNat)

end Sys2Proof.Machine
end

