-- ==== Sys2Proof/Machine/Step.lean ====
section
/-! DEFINITION. One step: the next turn of the agenda, or the issue slot of the running core where the agenda says
nothing; then time passes. -/

namespace Sys2Proof.Machine

noncomputable def step (s : State) : Host.Outcome State Fault Refusal :=
  timed (match s.agenda with
    | [] => runTurn (.issue (coreOf s.cur)) s
    | t :: rest => runTurn t { s with agenda := rest })

def State.withFetchWord (s : State) (_nbits w : Nat) : State := placeWord s (BitVec.ofNat 32 w)

end Sys2Proof.Machine
end

