-- ==== Sys2Proof/Safety.lean ====
section
/-! DEFINITION. What counts as a safe step, and the words the statements are written in: what a state keeps of another,
and what an instruction that ends normally leaves behind. -/

namespace Sys2Proof

/-- The outcome is a next state. -/
def Runs (o : Machine.Out) : Prop := ∃ t, o = .next t

/-- The outcome is a next state with the property. -/
def Reaches (o : Machine.Out) (p : Machine.State → Prop) : Prop := ∃ t, o = .next t ∧ p t

/-- The byte stores of a state keep their canonical form. -/
def Machine.State.ok (s : Machine.State) : Bool :=
  Machine.Memory.wf s.mem && Machine.Memory.wf s.scratch

namespace Machine

/-- Nothing of the machine differs but contexts, and of these only the running one: memory, poison, keys, every other
thread, every unit, every clock and every table is as before. -/
def OnlyMe (s t : State) : Prop := t = { s with ctxs := t.ctxs } ∧ ∀ g, g ≠ s.cur → t.ctx g = s.ctx g

/-- Every byte of memory and of the scratch store, and the poison of every granule, is as before. -/
def SameBytes (s t : State) : Prop := (∀ l, t.stored l = s.stored l) ∧ ∀ l, t.granulePoison l = s.granulePoison l

/-- The poison count and mark of CIR after an instruction that consumed poison, or none, ended (R339, R341). -/
def cirAfter (consumed : Bool) (w : Word) : Word := if consumed then bumpCount w 32 ||| 1#64 else w

/-- An instruction that writes one scalar register ended: the register holds the value and the poison, and s0 nothing
(R44); FSTAT has the flags added (R20); every other register, every other special register, every trap register, the
vector state and everything else of the machine is as before; the PC is as given. -/
def WroteAt (s t : State) (d : BitVec 5) (v : Word) (p consumed : Bool) (flags : Flags) (pc : Word) : Prop :=
  OnlyMe s t ∧
  (∀ r, t.me.raw r = if r = d ∧ d ≠ 0 then (v, p) else s.me.raw r) ∧
  t.me = { s.me with
    pc := pc, regs := t.me.regs, poison := t.me.poison, cir := cirAfter consumed s.me.cir,
    fstat := s.me.fstat ||| flags.zeroExtend 64, reissue := none, wait := none, cut := none }

/-- The same without flags, at the next word. -/
def WroteOne (s t : State) (d : BitVec 5) (v : Word) (p consumed : Bool) : Prop :=
  WroteAt s t d v p consumed noFlags (s.me.pc + 4)

/-- An instruction that writes no register ended: of the whole machine only the PC moved. -/
def MovedTo (s t : State) (pc : Word) : Prop :=
  OnlyMe s t ∧ t.me = { s.me with pc := pc, reissue := none, wait := none, cut := none }

/-- `n` bytes from a physical address on lie in device memory that serves and is reached at once, clean, and under no key
slot, in memory and in the caches. -/
abbrev PlainBytes (s : State) (a n : Nat) : Prop :=
  ∀ i, i < n → a + i < deviceEnd ∧ s.homeAbsent (a + i) = false ∧ s.heldAt (a + i) = false ∧
    s.granulePoison (a + i) = false ∧ aget noKey s.lineKey ((a + i) / 64) = noKey ∧
    aget noKey s.tags ((a + i) / 64) = noKey

/-- The `n` bytes stored from a physical address on, lowest first. -/
def storedBytes (s : State) (a n : Nat) : List Byte := (List.range n).map fun i => s.stored (a + i)

/-- The bytes from an address on are the given ones, and every other byte of memory and of the scratch store is as
before. -/
def StoredAt (s t : State) (a : Nat) (bytes : List Byte) : Prop :=
  ∀ l, t.stored l = if a ≤ l ∧ l < a + bytes.length then (bytes[l - a]?).getD 0 else s.stored l

/-- The running context took a trap into a level (R315): nothing but that context differs; the level's trap registers
hold cause, value, return address, the fault description and the level it came from, over a DEPTH raised by one, with the
shadow set kept of the trap before; the PC is at the handler; and every scalar register, every flag, the vector state,
the queued and squashed instructions and the pending accesses are as before. -/
def Trapped (s t : State) (l : Level) (cause : Nat) (value epc telem : Word) : Prop :=
  let old := s.me.trapSet l
  OnlyMe s t ∧
  t.me.trapSet l = { old with
    regs := { cause := BitVec.ofNat 10 cause, val := value, epc := (epc >>> 2) <<< 2, telem := telem,
              ppl := BitVec.ofNat 2 s.me.level.code, vside := false, depth := old.regs.depth + 1,
              gpa := (t.me.trapSet l).regs.gpa }
    shadow := if old.regs.depth = 1 then old.regs else old.shadow } ∧
  t.me = { s.me with
    level := l, pc := trapVector old.vec cause, sup := t.me.sup, firm := t.me.firm, reissue := none, wait := none,
    cut := none } ∧
  (l = .firmware → t.me.sup = s.me.sup) ∧ (l ≠ .firmware → t.me.firm = s.me.firm)

end Machine

end Sys2Proof
end

