-- ==== Sys2Proof/Certificates/Slice0/Obligations.lean ====
section
/-! DEFINITION. The statements for the provers. -/

open Sys2Proof Sys2Proof.Machine

/-! ### Scalar integers (R44, R53, R59 to R62) -/

/-- The bits of a word from the top down. -/
def Sys2Proof.bitsDown (a : Word) : List Bool := (List.range 64).map fun i => a.getLsbD (63 - i)

/-- The bits of a word from the bottom up. -/
def Sys2Proof.bitsUp (a : Word) : List Bool := (List.range 64).map fun i => a.getLsbD i

/-- What R59 to R62 say a scalar integer instruction leaves: its destination, the value, and whether the value is
poisoned; none for any other instruction, and for BFX and BFI whose field runs past bit 63. -/
def Sys2Proof.intResult (s : State) (i : Instr) : Option (BitVec 5 × Word × Bool) :=
  let v := fun r => s.rv r
  let n := fun r => (s.rv r).toNat
  let z := fun r => (s.rv r).toInt
  let p := fun r => s.rp r
  let sh := fun r => (s.rv r).toNat % 64
  let bool := fun (b : Prop) [Decidable b] => if b then (1 : Word) else 0
  match i with
  | .add d a b => some (d, BitVec.ofNat 64 (n a + n b), p a || p b)
  | .sub d a b => some (d, BitVec.ofInt 64 (z a - z b), p a || p b)
  | .and d a b => some (d, v a &&& v b, p a || p b)
  | .or d a b => some (d, v a ||| v b, p a || p b)
  | .xor d a b => some (d, v a ^^^ v b, p a || p b)
  | .sll d a b => some (d, BitVec.ofNat 64 (n a * 2 ^ sh b), p a || p b)
  | .srl d a b => some (d, BitVec.ofNat 64 (n a / 2 ^ sh b), p a || p b)
  | .sra d a b => some (d, BitVec.ofInt 64 (z a / 2 ^ sh b), p a || p b)
  | .slt d a b => some (d, bool (z a < z b), p a || p b)
  | .sltu d a b => some (d, bool (n a < n b), p a || p b)
  | .min d a b => some (d, BitVec.ofInt 64 (Min.min (z a) (z b)), p a || p b)
  | .max d a b => some (d, BitVec.ofInt 64 (Max.max (z a) (z b)), p a || p b)
  | .minu d a b => some (d, BitVec.ofNat 64 (Min.min (n a) (n b)), p a || p b)
  | .maxu d a b => some (d, BitVec.ofNat 64 (Max.max (n a) (n b)), p a || p b)
  | .clz d a => some (d, BitVec.ofNat 64 ((bitsDown (v a)).takeWhile (!·)).length, p a)
  | .ctz d a => some (d, BitVec.ofNat 64 ((bitsUp (v a)).takeWhile (!·)).length, p a)
  | .popc d a => some (d, BitVec.ofNat 64 ((bitsUp (v a)).count true), p a)
  | .mul d a b => some (d, BitVec.ofNat 64 (n a * n b), p a || p b)
  | .mulh d a b => some (d, BitVec.ofInt 64 (z a * z b / 2 ^ 64), p a || p b)
  | .mulhu d a b => some (d, BitVec.ofNat 64 (n a * n b / 2 ^ 64), p a || p b)
  | .div d a b => some (d, if v b = 0 then BitVec.ofInt 64 (-1) else BitVec.ofInt 64 ((z a).tdiv (z b)), p a || p b)
  | .divu d a b => some (d, if v b = 0 then BitVec.ofNat 64 (2 ^ 64 - 1) else BitVec.ofNat 64 (n a / n b), p a || p b)
  | .rem d a b => some (d, if v b = 0 then v a else BitVec.ofInt 64 ((z a).tmod (z b)), p a || p b)
  | .remu d a b => some (d, if v b = 0 then v a else BitVec.ofNat 64 (n a % n b), p a || p b)
  | .sel d a b c =>
    some (d, if v c ≠ 0 then v a else v b, p c || if v c ≠ 0 then p a else p b)
  | .addi d a imm => some (d, BitVec.ofInt 64 (n a + imm.toInt), p a)
  | .andi d a imm => some (d, v a &&& BitVec.ofInt 64 imm.toInt, p a)
  | .ori d a imm => some (d, v a ||| BitVec.ofInt 64 imm.toInt, p a)
  | .xori d a imm => some (d, v a ^^^ BitVec.ofInt 64 imm.toInt, p a)
  | .slti d a imm => some (d, bool (z a < imm.toInt), p a)
  | .slli d a h => some (d, BitVec.ofNat 64 (n a * 2 ^ h.toNat), p a)
  | .srli d a h => some (d, BitVec.ofNat 64 (n a / 2 ^ h.toNat), p a)
  | .srai d a h => some (d, BitVec.ofInt 64 (z a / 2 ^ h.toNat), p a)
  | .bfx d a q l =>
    if q.toNat + l.toNat + 1 ≤ 64 then some (d, BitVec.ofNat 64 (n a / 2 ^ q.toNat % 2 ^ (l.toNat + 1)), p a) else none
  | .bfi d a q l =>
    if q.toNat + l.toNat + 1 ≤ 64 then
      some (d, BitVec.ofNat 64 (n d / 2 ^ (q.toNat + l.toNat + 1) * 2 ^ (q.toNat + l.toNat + 1) +
        n a % 2 ^ (l.toNat + 1) * 2 ^ q.toNat + n d % 2 ^ q.toNat), p a || p d)
    else none
  | .lih d imm => some (d, BitVec.ofInt 64 (imm.toInt * 65536), false)
  | .addpc d imm => some (d, BitVec.ofInt 64 (s.me.pc.toNat + imm.toInt * 65536), false)
  | _ => none

/-- R44, R59 to R62: every scalar integer instruction runs in every state, writes its destination the value of the
tables and the poison of the sources it read, and changes nothing else; s0 stays 0. -/
def Obligations.ScalarIntegerResults : Prop :=
  ∀ (s : State) (i : Instr) (d : BitVec 5) (v : Word) (p : Bool), s.me.reissue = none → intResult s i = some (d, v, p) →
    Reaches (exec i s) fun t => WroteOne s t d v p p

/-! ### Scalar floating point (R9 to R12, R16 to R22, R63 to R65) -/

/-- What R63 to R65 say a scalar floating-point instruction leaves: its destination, the value with its flags, whether
a source is poisoned. The value of an operand is what its low EW bits encode, and the rounding mode is the field, or FRM
for 7. -/
def Sys2Proof.floatResult (s : State) (i : Instr) : Option (BitVec 5 × (Nat × Flags) × Bool) :=
  let ty := fun (t : BitVec 2) => floatCode t.toNat
  let low := fun r (t : Nat) => (s.rv r).toNat % 2 ^ typeWidth t
  let x := fun r (t : BitVec 2) => decodeFloat (ty t) (low r (ty t))
  let rm := fun (r : BitVec 3) => if r = 7 then bitsOf s.me.fstat.toNat 8 3 else r.toNat
  let cmp := fun (t : BitVec 2) k a b =>
    let q := compareFloat (ty t) k (low a (ty t)) (low b (ty t)); (if q.1 then 1 else 0, q.2)
  let p := fun r => s.rp r
  match i with
  | .fadd d a b r t => some (d, addValues (ty t) (rm r) (x a t) (x b t), p a || p b)
  | .fsub d a b r t => some (d, addValues (ty t) (rm r) (x a t) (x b t).negate, p a || p b)
  | .fmul d a b r t => some (d, mulValues (ty t) (rm r) (x a t) (x b t), p a || p b)
  | .fdiv d a b r t => some (d, divValues (ty t) (rm r) (x a t) (x b t), p a || p b)
  | .fsqrt d a r t => some (d, sqrtValue (ty t) (rm r) (x a t), p a)
  | .fmin d a b t => some (d, minMaxFloat (ty t) false (low a (ty t)) (low b (ty t)), p a || p b)
  | .fmax d a b t => some (d, minMaxFloat (ty t) true (low a (ty t)) (low b (ty t)), p a || p b)
  | .feq d a b t => some (d, cmp t .eq a b, p a || p b)
  | .flt d a b t => some (d, cmp t .lt a b, p a || p b)
  | .fle d a b t => some (d, cmp t .le a b, p a || p b)
  | .fma d a b c r t => some (d, fmaValues (ty t) (rm r) (x a t) (x b t) (x c t), p a || p b || p c)
  | .fcvt d a r sx t =>
    let q := convert (low a sx.toNat) sx.toNat t.toNat (rm r) false
    some (d, (if 8 ≤ t.toNat then q.1 else (BitVec.ofInt 64 (intOf t.toNat q.1)).toNat, q.2), p a)
  | _ => none

/-- R20, R63 to R65: every scalar floating-point instruction runs in every state, writes its destination the result with
zeros (an integer result: its extension) above it, adds its flags to FSTAT, and changes nothing else. -/
def Obligations.ScalarFloatResults : Prop :=
  ∀ (s : State) (i : Instr) (d : BitVec 5) (r : Nat × Flags) (p : Bool), s.me.reissue = none →
    floatResult s i = some (d, r, p) →
    Reaches (exec i s) fun t => WroteAt s t d (BitVec.ofNat 64 r.1) p p r.2 (s.me.pc + 4)

/-- The integer of an element at the kind of a type code: signed for INT, unsigned for UINT. -/
def Sys2Proof.atKind (t : Nat) (x : Nat) : Int := if t < 4 then (BitVec.ofNat (typeWidth t) x).toInt else x

/-- The integer k · 2^(e − z): the number k · 2^e in units of 2^z. -/
def Sys2Proof.atScale (k : Int) (e z : Int) : Int := k * 2 ^ (e - z).toNat

/-- An encoding of a type with its flags is k · 2^e rounded to nearest, ties to even (R9, R16, R18): it is finite where some
finite number of the type is as great in magnitude; a finite one is nearer to k · 2^e than any other finite number of the
type, or as near with a lowest bit of 0, and raises NX just where it differs from k · 2^e; any other comes with OF and
NX. -/
def Sys2Proof.RoundsTo (t : Nat) (k e : Int) (r : Nat × Flags) : Prop :=
  ((∃ n m x, decodeFloat t r.1 = .fin n m x) ∨ r.2 = 5) ∧
  ∀ c n m x, decodeFloat t c = .fin n m x →
    ((∀ z : Int, z ≤ e → z ≤ x → (atScale k e z).natAbs ≤ (atScale (signedOf n m) x z).natAbs) →
      ∃ n' m' x', decodeFloat t r.1 = .fin n' m' x') ∧
    ∀ n' m' x', decodeFloat t r.1 = .fin n' m' x' → ∀ z : Int, z ≤ e → z ≤ x → z ≤ x' →
      let v := atScale k e z
      let w := atScale (signedOf n m) x z
      let y := atScale (signedOf n' m') x' z
      r.2.getLsbD 0 = decide (y ≠ v) ∧
      ((y - v).natAbs < (w - v).natAbs ∨ (y - v).natAbs = (w - v).natAbs ∧ (y = w ∨ r.1 % 2 = 0))

/-- R12: equality raises NV for a signalling NaN alone, less-than and less-or-equal for any NaN; no comparison with a
NaN holds, −0 equals +0, and of two other numbers the order is that of their values.

R9, R16, R18, R22: in rounding mode 0 the sum and the product of two finite numbers, in any float type, are their exact sum
and product rounded to nearest, ties to even, and so is the conversion of a finite number of a float type, or of an integer,
to a float type. -/
def Obligations.FloatComparisons : Prop :=
  (∀ (t m m' : Nat) (e e' : Int) (a b : Bool), 8 ≤ t → t ≤ 13 →
    RoundsTo t (atScale (signedOf a m) e (min e e') + atScale (signedOf b m') e' (min e e')) (min e e')
      (addValues t 0 (.fin a m e) (.fin b m' e')) ∧
    RoundsTo t (signedOf (a != b) (m * m')) (e + e') (mulValues t 0 (.fin a m e) (.fin b m' e'))) ∧
  (∀ (t src x : Nat), 8 ≤ t → t ≤ 13 →
    (src < 8 → RoundsTo t (atKind src (x % 2 ^ typeWidth src)) 0 (convert x src t 0 false)) ∧
    (8 ≤ src → src ≤ 13 → ∀ n m e, decodeFloat src x = .fin n m e →
      RoundsTo t (signedOf n m) e (convert x src t 0 false))) ∧
  ∀ (t a b : Nat),
    let x := decodeFloat t a
    let y := decodeFloat t b
    (x.isNan = true ∨ y.isNan = true → ∀ k, (compareFloat t k a b).1 = decide (k = FCmp.ne)) ∧
    (compareFloat t .eq a b).2 = (if x.sig || y.sig then flagNV else noFlags) ∧
    (compareFloat t .lt a b).2 = (if x.isNan || y.isNan then flagNV else noFlags) ∧
    (compareFloat t .le a b).2 = (if x.isNan || y.isNan then flagNV else noFlags) ∧
    ∀ n m e n' m' e', x = .fin n m e → y = .fin n' m' e' → ∀ z : Int, z ≤ e → z ≤ e' →
      let v := signedOf n m * 2 ^ (e - z).toNat
      let w := signedOf n' m' * 2 ^ (e' - z).toNat
      (compareFloat t .eq a b).1 = decide (v = w) ∧ (compareFloat t .lt a b).1 = decide (v < w) ∧
      (compareFloat t .le a b).1 = decide (v ≤ w)

/-! ### Control transfer (R66 to R69) -/

/-- The operands of a branch, its offset, and its condition (R67). -/
def Sys2Proof.branchOf (s : State) : Instr → Option (BitVec 5 × BitVec 5 × BitVec 13 × Bool)
  | .beq a b o => some (a, b, o, decide (s.rv a = s.rv b))
  | .bne a b o => some (a, b, o, decide (s.rv a ≠ s.rv b))
  | .blt a b o => some (a, b, o, decide ((s.rv a).toInt < (s.rv b).toInt))
  | .bge a b o => some (a, b, o, decide ((s.rv b).toInt ≤ (s.rv a).toInt))
  | .bltu a b o => some (a, b, o, decide ((s.rv a).toNat < (s.rv b).toNat))
  | .bgeu a b o => some (a, b, o, decide ((s.rv b).toNat ≤ (s.rv a).toNat))
  | _ => none

/-- R67: a branch with clean operands goes to its target where its condition holds and to the next word otherwise; it
writes no register, raises no flag, and changes nothing else. -/
def Obligations.BranchesFollowTheirCondition : Prop :=
  ∀ (s : State) (i : Instr) (a b : BitVec 5) (o : BitVec 13) (c : Bool), s.me.reissue = none →
    branchOf s i = some (a, b, o, c) → s.rp a = false → s.rp b = false →
    Reaches (exec i s) fun t =>
      MovedTo s t (BitVec.ofInt 64 (s.me.pc.toNat + 4 + if c then 4 * o.toInt else 0))

/-- R68, R69: JAL and JALR write the link and go to their target, the target of JALR taken from the old sa; JTAB with an
index in range goes where its entry says, with an index out of range to the word after the table, and links the word
after the table either way. The entry is read as a load, and `u` is the machine after that read. -/
def Obligations.JumpsLinkAndGo : Prop :=
  ∀ (s : State) (d a : BitVec 5), s.me.reissue = none →
    (∀ o : BitVec 21, Reaches (exec (.jal d o) s) fun t =>
      WroteAt s t d (s.me.pc + 4) false false noFlags (BitVec.ofInt 64 (s.me.pc.toNat + 4 + 4 * o.toInt))) ∧
    (s.rp a = false →
      (∀ imm : BitVec 16, Reaches (exec (.jalr d a imm) s) fun t =>
        WroteAt s t d (s.me.pc + 4) false false noFlags (BitVec.ofInt 64 ((s.rv a).toNat + imm.toInt))) ∧
      ∀ n : BitVec 16,
        let base := s.me.pc + 4
        let next := BitVec.ofNat 64 (base.toNat + 4 * n.toNat)
        (n.toNat ≤ (s.rv a).toNat → Reaches (exec (.jtab d a n) s) fun t => WroteAt s t d next false false noFlags next) ∧
        ((s.rv a).toNat < n.toNat → ∀ u bytes,
          s.load s.cur s.agent .load .scalar 15 (base + 4 * s.rv a).toNat 4 = (u, .ok (bytes, false)) →
          Reaches (exec (.jtab d a n) s) fun t =>
            WroteAt u t d next false false noFlags (BitVec.ofInt 64 (base.toNat + (BitVec.ofNat 32 (leNat bytes)).toInt))))

/-- The level that takes a trap whose natural level is supervisor (R310). -/
abbrev Sys2Proof.trapLevel (s : State) : Level := if s.me.level = .firmware then .firmware else .supervisor

/-- The poisoned-control trap was taken (R66, R340): the level that takes it has cause 0x380, a TVAL, a TELEM and the
instruction's own address in TEPC; no register and no byte of memory changed, and CIR records the consumption. -/
def Sys2Proof.PoisonTook (s t : State) (value telem : Word) : Prop :=
  let l := trapLevel s
  t.me.level = l ∧ (t.me.trapSet l).regs.cause = 0x380 ∧ (t.me.trapSet l).regs.val = value ∧
  (t.me.trapSet l).regs.telem = telem ∧
  (t.me.trapSet l).regs.epc = (s.me.pc >>> 2) <<< 2 ∧ (t.me.trapSet l).regs.ppl = BitVec.ofNat 2 s.me.level.code ∧
  t.me.pc = trapVector (s.me.trapSet l).vec 0x380 ∧
  (∀ q, t.me.raw q = s.me.raw q) ∧ t.me.cir = cirAfter true s.me.cir ||| 2#64 ∧ SameBytes s t

/-- The same for a register source: TVAL is the register's number, and TELEM 0. -/
def Sys2Proof.PoisonTrapped (s t : State) (r : BitVec 5) : Prop := PoisonTook s t (BitVec.ofNat 64 r.toNat) 0

/-- The same for a memory source at an address: TVAL is the address of its granule, and TELEM has KIND 1. -/
def Sys2Proof.PoisonTrappedAt (s t : State) (a : Word) : Prop :=
  PoisonTook s t (BitVec.ofNat 64 (a.toNat / 64 * 64)) 0x10000000

/-! ### Scalar memory (R203, R213, R214, R219, R232 to R236) -/

/-- The destination, address register, class, offset and size of a scalar load, and the register's value of the bytes
read as a number (R203). -/
def Sys2Proof.loadForm : Instr → Option (BitVec 5 × BitVec 5 × BitVec 4 × BitVec 10 × Nat × (Nat → Word))
  | .ldB d a c imm => some (d, a, c, imm, 1, fun n => BitVec.ofInt 64 (BitVec.ofNat 8 n).toInt)
  | .ldH d a c imm => some (d, a, c, imm, 2, fun n => BitVec.ofInt 64 (BitVec.ofNat 16 n).toInt)
  | .ldW d a c imm => some (d, a, c, imm, 4, fun n => BitVec.ofInt 64 (BitVec.ofNat 32 n).toInt)
  | .ldD d a c imm => some (d, a, c, imm, 8, fun n => BitVec.ofNat 64 n)
  | .ldBu d a c imm => some (d, a, c, imm, 1, fun n => BitVec.ofNat 64 n)
  | .ldHu d a c imm => some (d, a, c, imm, 2, fun n => BitVec.ofNat 64 n)
  | .ldWu d a c imm => some (d, a, c, imm, 4, fun n => BitVec.ofNat 64 n)
  | _ => none

/-- The source, address register, class, offset and size of a scalar store (R203). -/
def Sys2Proof.storeForm : Instr → Option (BitVec 5 × BitVec 5 × BitVec 4 × BitVec 10 × Nat)
  | .stB d a c imm => some (d, a, c, imm, 1)
  | .stH d a c imm => some (d, a, c, imm, 2)
  | .stW d a c imm => some (d, a, c, imm, 4)
  | .stD d a c imm => some (d, a, c, imm, 8)
  | _ => none

/-- The level that takes a memory fault (R310): firmware for stage-2 faults, PA_RANGE, WALK_POISON and KEY_ABSENT. -/
abbrev Sys2Proof.faultLevel (s : State) (cause : Nat) : Level :=
  if 0x085 ≤ cause ∧ cause ≤ 0x08A then .firmware else trapLevel s

/-- TELEM of a memory fault of a scalar access (R314): KIND, STG and LVL; 0 for ATOM_REMOTE. -/
def Sys2Proof.faultTelem (k : AccKind) (cause stg lvl : Nat) : Nat :=
  let kind := match k with | .fetch => 0 | .load => 1 | .store => 2 | .atomic => 3 | .fill => 4 | .spill => 5
  if cause = 0x0F1 then 0 else kind * 2 ^ 28 + stg * 2 ^ 27 + lvl * 2 ^ 25

/-- The trap of a memory fault was taken (R312, R314, R315, R329): at the level of its cause, with the lowest faulting byte
address in TVAL, the kind, stage and level in TELEM, for a stage-2 fault the guest physical address in FGPA, and nothing
else changed but what the walk itself leaves: a cached translation, or the record of a poisoned table entry. -/
def Sys2Proof.FaultTaken (s t : State) (k : AccKind) (cause stg lvl gpa addr : Nat) : Prop :=
  let l := faultLevel s cause
  ∃ v : State, v.ctxs = s.ctxs ∧ v.cur = s.cur ∧ SameBytes s v ∧ (cause ≠ 0x089 → v = { s with tlb := v.tlb }) ∧
    Trapped v t l cause (BitVec.ofNat 64 addr) s.me.pc (BitVec.ofNat 64 (faultTelem k cause stg lvl)) ∧
    (l = .firmware →
      t.me.firm.regs.gpa = if 0x085 ≤ cause ∧ cause ≤ 0x087 then BitVec.ofNat 52 gpa else 0)

/-- The fault of an access of a kind that lies in one page, at a level, where no cached translation covers it (R198, R319
to R323, R329): cause, stage, level and guest physical address. At firmware level an address that maps nothing; else one
that is not canonical; in the scratch window a fetch, a slot that names no core, a crew without a region there, an offset past
the region; else, where no root is set, the fault of the walk of stage 1, the stage-1 permissions, that of stage 2, its
permissions, a physical address that maps nothing, and a key slot without a key. -/
def Sys2Proof.pageFault (s : State) (level : Level) (k : AccKind) (va : Nat) : Option (Nat × Nat × Nat × Nat) :=
  let f := s.me.fn
  let plain := fun (cause : Nat) => some (cause, 0, 0, 0)
  let lacks := fun (r w x : Bool) => match k with
    | .fetch => !x
    | .load | .fill => !r
    | .store | .spill => !w
    | .atomic => !(r && w)
  let stores := k == .store || k == .atomic || k == .spill
  let lvl := fun (l : Leaf) => if l.bits = 30 then 1 else if l.bits = 21 then 2 else 3
  let told := fun (x : MemFault) => if x.cause = heldCause then none else some (x.cause, x.stg, x.lvl, x.gpa)
  if level = .firmware then
    if 2 ^ 52 ≤ va ∨ deviceEnd ≤ va ∧ va < peerBase then plain 0x088 else none
  else if va / 2 ^ 55 ≠ 0 ∧ va / 2 ^ 55 ≠ 511 then plain 0x081
  else if inWindow va = true then
    let slot := va / 2 ^ 20 % 32
    let core := if slot < 16 then 16 * clusterOf s.cur + slot else coreOf s.cur
    if k = .fetch then plain 0x0E3
    else match s.me.crew with
      | none => plain 0x0E0
      | some c =>
        if 16 < slot ∨ ((s.core core).roles.any fun r => r.2 == .scratch c 0) = false then plain 0x0E0
        else if ((s.core core).roles.any fun r => r.2 == .scratch c (va % 2 ^ 20 / 16384)) = false then plain 0x0E1
        else none
  else match (s.fnOf f).s1root with
    | none => plain 0x082
    | some root => match s.walk1 f va 4 root {} with
      | .error x => told x
      | .ok (l1, _) =>
        if lacks l1.r l1.w l1.x = true ∨ (if level = .user then l1.u = false else k = .fetch ∧ l1.u = true) then
          some (0x083, 0, lvl l1, 0)
        else if l1.a = false ∨ stores = true ∧ l1.d = false then none
        else match s.stage2Path f (l1.at va) with
          | .error x => told x
          | .ok (l2, _) =>
            if lacks l2.r l2.w l2.x = true then some (0x086, 1, lvl l2, l1.at va)
            else if s.unmapped f (l2.at (l1.at va)) = true then some (0x088, 1, lvl l2, 0)
            else if l2.at (l1.at va) < deviceEnd ∧ ahas s.keys l2.key = false then some (0x08A, 1, lvl l2, 0)
            else none

/-- Where an instruction whose one access is of `n` bytes at an address faults (R204, R329), with no store of the thread
pending and no cached translation of the page: in the page that holds the access; and, at firmware level, in the second of
two pages, with that page's first byte in TVAL, where the first is device memory that serves. -/
def Sys2Proof.FaultsWhere (s : State) (i : Instr) (k : AccKind) (a n : Nat) : Prop :=
  s.me.pend = [] → (∀ e ∈ s.tlb, e.covers s.me.fn a = false) →
  (0 < n → a % 4096 + n ≤ 4096 → ∀ cause stg lvl gpa, pageFault s s.me.level k a = some (cause, stg, lvl, gpa) →
    (s.me.trapSet (faultLevel s cause)).regs.depth ≠ 2 →
    Reaches (exec i s) fun t => FaultTaken s t k cause stg lvl gpa a) ∧
  (s.me.level = .firmware → n ≤ 4096 → PlainBytes s a 1 → s.me.firm.regs.depth ≠ 2 →
    let next := (a / 4096 + 1) * 4096
    next < a + n → deviceEnd ≤ next → next < peerBase →
    Reaches (exec i s) fun t => FaultTaken s t k 0x088 0 0 0 next)

/-- The trap that an instruction takes for whatever fault its access meets, but for an access whose way is held, which waits
(log 52). -/
def Sys2Proof.TakesItsFault {α : Type} (s : State) (i : Instr) (k : AccKind) (r : Except AccFault α) : Prop :=
  ∀ x, r = .error x → x.fault.cause ≠ heldCause → (s.me.trapSet (faultLevel s x.fault.cause)).regs.depth ≠ 2 →
    Reaches (exec i s) fun t => FaultTaken s t k x.fault.cause x.fault.stg x.fault.lvl x.fault.gpa x.addr

/-- What the walk makes of a table entry (R322, R329): one read poisoned is WALK_POISON, one with V = 0 invalid, one with a
reserved bit 63:62 or 11:9, a leaf at level 0, a pointer at level 3, or W without R malformed, of the stage and level of the
read; a valid leaf gives its page and permissions. -/
def Sys2Proof.EntriesFault : Prop :=
  ∀ (e : Nat) (stage level addr entry : Nat) (key : Key), stage < 2 →
    let gpa := if stage = 0 then 0 else addr
    let rank := if stage = 0 then 4 else 5
    let fault := fun (cause : Nat) => (Except.error
      { rank := rank, cause := cause, stg := stage, lvl := level, gpa := gpa, entry := entry } : Except MemFault (Leaf ⊕ Nat))
    readEntry e true stage level addr entry key = fault 0x089 ∧
    (e % 2 = 0 → readEntry e false stage level addr entry key = fault (if stage = 0 then 0x082 else 0x085)) ∧
    (e % 2 = 1 → (e / 2 ^ 62 % 4 ≠ 0 ∨ e / 2 ^ 9 % 8 ≠ 0 ∨ (level = 0 ∧ e / 2 % 2 = 1) ∨ (level = 3 ∧ e / 2 % 2 = 0) ∨
        (e / 4 % 2 = 0 ∧ e / 8 % 2 = 1)) →
      readEntry e false stage level addr entry key = fault (if stage = 0 then 0x084 else 0x087)) ∧
    ∀ l, readEntry e false stage level addr entry key = .ok (.inl l) → e % 2 = 1 ∧ e / 2 % 2 = 1 ∧
      l.pa = e / 4096 % 2 ^ 40 * 4096 ∧ l.bits = (if level = 1 then 30 else if level = 2 then 21 else 12) ∧
      l.r = decide (e / 4 % 2 = 1) ∧ l.w = decide (e / 8 % 2 = 1) ∧ l.x = decide (e / 16 % 2 = 1) ∧
      l.u = decide (e / 32 % 2 = 1) ∧ l.a = decide (e / 64 % 2 = 1) ∧ l.d = decide (e / 128 % 2 = 1)

/-- R203: a scalar load whose access resolves, at any level and under any translation, writes its register the bytes read,
extended as its mnemonic says, with their poison, and changes nothing beyond what the access did.

R4, R203: at firmware level, with no store of the thread pending, a scalar load of clean device memory reads the
bytes stored from the address sa plus the offset on, aligned or not, lowest first; besides the register and the PC only
the tags of L1s and L2s may differ.

R198, R204, R310, R314, R319 to R323, R329: a scalar load whose access faults takes the trap of that fault as `FaultTaken`
says, where `pageFault` says; and a table entry faults as `EntriesFault` says. -/
def Obligations.LoadsReadTheirBytes : Prop :=
  EntriesFault ∧
  (∀ (s : State) (i : Instr) (d a : BitVec 5) (c : BitVec 4) (imm : BitVec 10) (n : Nat) (f : Nat → Word),
     s.me.reissue = none → loadForm i = some (d, a, c, imm, n, f) → s.rp a = false →
     let at_ := (s.rv a + BitVec.ofInt 64 imm.toInt).toNat
     FaultsWhere s i .load at_ n ∧ TakesItsFault s i .load (s.load s.cur s.agent .load .scalar c.toNat at_ n).2) ∧
  (∀ (s u : State) (i : Instr) (d a : BitVec 5) (c : BitVec 4) (imm : BitVec 10) (n : Nat) (f : Nat → Word)
     (bytes : List Byte) (p : Bool), s.me.reissue = none → loadForm i = some (d, a, c, imm, n, f) → s.rp a = false →
     s.load s.cur s.agent .load .scalar c.toNat (s.ea a imm).toNat n = (u, .ok (bytes, p)) →
     Reaches (exec i s) fun t => WroteOne u t d (f (leNat bytes)) p p) ∧
  ∀ (s : State) (i : Instr) (d a : BitVec 5) (c : BitVec 4) (imm : BitVec 10) (n : Nat) (f : Nat → Word),
    s.me.reissue = none → loadForm i = some (d, a, c, imm, n, f) → s.rp a = false → s.me.level = .firmware →
    s.me.pend = [] →
    let at_ := (s.rv a + BitVec.ofInt 64 imm.toInt).toNat
    PlainBytes s at_ n →
    Reaches (exec i s) fun t =>
      WroteOne { s with cores := t.cores, l2 := t.l2 } t d (f (leNat (storedBytes s at_ n))) false false

/-- R203: a scalar store whose access resolves, at any level and under any translation, writes no register, raises no
flag, and changes nothing beyond what the access did; a poisoned source is consumed.

R4, R203, R219: at firmware level, with no store of the thread pending, a scalar store of a clean register to clean
device memory leaves every byte as it was until it is performed; the thread's own load of the address returns the bytes
of the register at once; and once performed the store has put those bytes, lowest first, at the address sa plus the
offset, and changed no other byte.

R198, R204, R310, R314, R319 to R323, R329: a scalar store whose access faults takes the trap of that fault as `FaultTaken`
says, where `pageFault` says. -/
def Obligations.StoresPutTheirBytes : Prop :=
  (∀ (s : State) (i : Instr) (d a : BitVec 5) (c : BitVec 4) (imm : BitVec 10) (n : Nat),
     s.me.reissue = none → storeForm i = some (d, a, c, imm, n) → s.rp a = false →
     let at_ := (s.rv a + BitVec.ofInt 64 imm.toInt).toNat
     FaultsWhere s i .store at_ n ∧ TakesItsFault s i .store
       (s.store s.cur s.agent .store .scalar c.toNat at_ (leBytes n (s.rv d).toNat) (s.rp d)).2) ∧
  (∀ (s u : State) (i : Instr) (d a : BitVec 5) (c : BitVec 4) (imm : BitVec 10) (n : Nat),
     s.me.reissue = none → storeForm i = some (d, a, c, imm, n) → s.rp a = false →
     s.store s.cur s.agent .store .scalar c.toNat (s.ea a imm).toNat (leBytes n (s.rv d).toNat) (s.rp d) = (u, .ok ()) →
     Reaches (exec i s) fun t => OnlyMe u t ∧
       t.me = { u.me with
         pc := s.me.pc + 4, cir := cirAfter (s.rp d) u.me.cir, reissue := none, wait := none, cut := none }) ∧
  ∀ (s : State) (i : Instr) (d a : BitVec 5) (c : BitVec 4) (imm : BitVec 10) (n : Nat),
    s.me.reissue = none → storeForm i = some (d, a, c, imm, n) → s.rp a = false → s.rp d = false →
    s.me.level = .firmware → s.me.pend = [] → s.viewer = none →
    let at_ := (s.rv a + BitVec.ofInt 64 imm.toInt).toNat
    PlainBytes s at_ n →
    Reaches (exec i s) fun t =>
      OnlyMe s t ∧ t.me = { s.me with pc := s.me.pc + 4, pend := t.me.pend, wait := none, cut := none } ∧
      (t.load t.cur t.agent .load .scalar c.toNat at_ n).2 = .ok (leBytes n (s.rv d).toNat, false) ∧
      StoredAt s (t.drainAll t.cur) at_ (leBytes n (s.rv d).toNat) ∧ (t.drainAll t.cur).me.pend = []

/-- The destination, address register, second source, class and width of an atomic operation, and the new value of the
old value, the second source and the old destination, all as numbers of that width (R234). -/
def Sys2Proof.amoForm : Instr → Option (BitVec 5 × BitVec 5 × BitVec 5 × BitVec 4 × Nat × (Nat → Nat → Nat → Nat))
  | .amoaddW d a b c => some (d, a, b, c, 4, fun x y _ => (x + y) % 2 ^ 32)
  | .amoaddD d a b c => some (d, a, b, c, 8, fun x y _ => (x + y) % 2 ^ 64)
  | .amominW d a b c => some (d, a, b, c, 4, fun x y _ => if (BitVec.ofNat 32 x).toInt ≤ (BitVec.ofNat 32 y).toInt then x else y)
  | .amominD d a b c => some (d, a, b, c, 8, fun x y _ => if (BitVec.ofNat 64 x).toInt ≤ (BitVec.ofNat 64 y).toInt then x else y)
  | .amomaxW d a b c => some (d, a, b, c, 4, fun x y _ => if (BitVec.ofNat 32 x).toInt ≤ (BitVec.ofNat 32 y).toInt then y else x)
  | .amomaxD d a b c => some (d, a, b, c, 8, fun x y _ => if (BitVec.ofNat 64 x).toInt ≤ (BitVec.ofNat 64 y).toInt then y else x)
  | .amoandW d a b c => some (d, a, b, c, 4, fun x y _ => x &&& y)
  | .amoandD d a b c => some (d, a, b, c, 8, fun x y _ => x &&& y)
  | .amoorW d a b c => some (d, a, b, c, 4, fun x y _ => x ||| y)
  | .amoorD d a b c => some (d, a, b, c, 8, fun x y _ => x ||| y)
  | .amoxorW d a b c => some (d, a, b, c, 4, fun x y _ => x ^^^ y)
  | .amoxorD d a b c => some (d, a, b, c, 8, fun x y _ => x ^^^ y)
  | .amoswpW d a b c => some (d, a, b, c, 4, fun _ y _ => y)
  | .amoswpD d a b c => some (d, a, b, c, 8, fun _ y _ => y)
  | .amocasW d a b c => some (d, a, b, c, 4, fun x y z => if x = z then y else x)
  | .amocasD d a b c => some (d, a, b, c, 8, fun x y z => if x = z then y else x)
  | _ => none

/-- R234, R235: at firmware level, with no store of the thread pending, an atomic operation with clean sources on an
aligned address of clean device memory writes its register the old value, sign-extended, puts the new value at the
address in the same step, and changes no other byte and no other register.

R198, R235, R310, R314, R319 to R323, R329: an aligned atomic operation whose access faults takes the trap of that fault as
`FaultTaken` says, where `pageFault` says; one outside the package, at firmware level, takes ATOM_REMOTE. -/
def Obligations.AtomicsReadAndWriteAtOnce : Prop :=
  (∀ (s : State) (i : Instr) (d a b : BitVec 5) (c : BitVec 4) (n : Nat) (f : Nat → Nat → Nat → Nat),
     s.me.reissue = none → amoForm i = some (d, a, b, c, n, f) → s.rp a = false → (s.rv a).toNat % n = 0 →
     FaultsWhere s i .atomic (s.rv a).toNat n ∧
     TakesItsFault s i .atomic (s.atomicPlace s.cur s.agent (s.rv a).toNat n).2 ∧
     (s.me.level = .firmware → s.me.pend = [] → hostBase ≤ (s.rv a).toNat → (s.rv a).toNat < 2 ^ 52 →
       s.heldAt (s.rv a).toNat = false → s.me.firm.regs.depth ≠ 2 →
       Reaches (exec i s) fun t => FaultTaken s t .atomic 0x0F1 0 0 0 (s.rv a).toNat)) ∧
  ∀ (s : State) (i : Instr) (d a b : BitVec 5) (c : BitVec 4) (n : Nat) (f : Nat → Nat → Nat → Nat),
    s.me.reissue = none → amoForm i = some (d, a, b, c, n, f) → s.rp a = false → s.rp b = false → s.rp d = false →
    s.me.level = .firmware → s.me.pend = [] → (s.rv a).toNat % n = 0 → PlainBytes s (s.rv a).toNat n →
    let old := leNat (storedBytes s (s.rv a).toNat n)
    let low := fun r => (s.rv r).toNat % 2 ^ (8 * n)
    Reaches (exec i s) fun t =>
      WroteOne { s with mem := t.mem, lineKey := t.lineKey, tags := t.tags, cores := t.cores, l2 := t.l2 } t d
        (BitVec.ofInt 64 (BitVec.ofNat (8 * n) old).toInt) false false ∧
      StoredAt s t (s.rv a).toNat (leBytes n (f old (low b) (low d)))

/-- The registers that a scalar instruction uses for control at every level and in every state, in the order in which it
looks at them (R66, R92 to R95, R107, R203, R234, R340 and the chapters that cite it). -/
def Sys2Proof.controlUses : Instr → List (BitVec 5)
  | .beq a b _ | .bne a b _ | .blt a b _ | .bge a b _ | .bltu a b _ | .bgeu a b _ => [a, b]
  | .jalr _ a _ | .jtab _ a _ => [a]
  | .ldB _ a _ _ | .ldH _ a _ _ | .ldW _ a _ _ | .ldD _ a _ _ | .ldBu _ a _ _ | .ldHu _ a _ _ | .ldWu _ a _ _ => [a]
  | .stB _ a _ _ | .stH _ a _ _ | .stW _ a _ _ | .stD _ a _ _ => [a]
  | .ldAcq _ a _ _ | .stRel _ a _ _ | .cflush a _ | .cinv a _ => [a]
  | .amoaddW _ a _ _ | .amoaddD _ a _ _ | .amominW _ a _ _ | .amominD _ a _ _ | .amomaxW _ a _ _ | .amomaxD _ a _ _
  | .amoandW _ a _ _ | .amoandD _ a _ _ | .amoorW _ a _ _ | .amoorD _ a _ _ | .amoxorW _ a _ _ | .amoxorD _ a _ _
  | .amoswpW _ a _ _ | .amoswpD _ a _ _ | .amocasW _ a _ _ | .amocasD _ a _ _ => [a]
  | .launch _ a | .cbar _ a | .prio _ a | .tsleep _ a | .twake _ a | .vgeom _ a | .dreg _ a | .ddel _ a | .chkerr _ a => [a]
  | .binit a b _ | .barr _ a b _ | .bexp _ a b _ | .bwait _ a b _ | .bqry _ a b _ => [a, b]
  | .put _ a b e _ | .putm _ a b e _ | .xdisp _ a b e _ | .xcomb _ a b e _ => [a, b, e]
  | .send _ _ b _ | .sendP _ b _ | .eng _ _ b _ | .reply _ _ b => [b]
  | .chbind _ a b | .waitm _ a b | .chpendRead _ a b | .chpendSet _ a b | .chpendClear _ a b => [a, b]
  | .mpop _ a _ _ | .chen _ a | .chdis _ a => [a]
  | .tqpush _ a b _ | .queueOpen _ a b _ | .queueClose _ a b _ | .queueResume _ a b _ | .queuePurge _ a b _
  | .tileq _ a b _ | .tget _ a b _ | .tdepRead _ a b _ | .tdepAdd _ a b _ | .tdepSet _ a b _ => [a, b]
  | .dmove _ a b | .solicit _ a b _ | .cwait _ a b | .cresResult _ a b | .cresStatus _ a b | .cresFree _ a b
  | .cresAbandon _ a b => [a, b]
  | _ => []

/-- R66, R339, R340: an instruction that would use a poisoned value for control takes the poisoned-control trap instead, with
no other effect: a scalar instruction for the first poisoned register of its control uses, among them a branch's operands,
the target of JALR, the index of JTAB, and the address of a load, a store, an atomic operation or an order instruction; a
vector instruction that passes its checks for the first of its control operands; SETVL for its request where its
declaration stands. So does one that reads poison in the entry of a JTAB, a launch record, a barrier object or a descriptor.

R204, R232, R235: an atomic operation, a load-acquire or a store-release at an address that is no multiple of its
size takes the trap 0x0F0 with the address in TVAL, with no register and no byte changed. -/
def Obligations.PoisonedControlAndMisalignedAtomicsTrap : Prop :=
  (∀ (s : State) (i : Instr) (r : BitVec 5), s.me.reissue = none → s.me.revoke = none → s.me.wait = none →
     (s.me.trapSet (trapLevel s)).regs.depth ≠ 2 →
     ((controlUses i).find? (fun q => s.rp q) = some r → Reaches (exec i s) fun t => PoisonTrapped s t r) ∧
     (s.me.level ≠ .user →
       (∃ d a b, (i = .tlbinvVa d a b ∨ i = .tlbinvAll d a b ∨ i = .tlbinvRoot d a b ∨ i = .tlbinvGpa d a b ∨
           i = .tlbinvVfall d a b ∨ i = .errqPop d a b ∨ i = .errqNotice d a b ∨ i = .poisonMark a b ∨
           i = .poisonClear a b) ∧
         [a, b].find? (fun q => s.rp q) = some r) → Reaches (exec i s) fun t => PoisonTrapped s t r) ∧
     (∀ x, vecSpec i s.me.dcodeType = some x → x.cause (regCount s.me.dcode.toNat) = 0 →
       x.control.find? (fun q => s.rp q) = some r → Reaches (exec i s) fun t => PoisonTrapped s t r) ∧
     (∀ d a v, i = .setvl d a v → 8 * 2 ^ s.me.pncode.toNat + 16 * s.me.ptl.toNat ≤ 64 → s.rp a = true → a = r →
       Reaches (exec i s) fun t => PoisonTrapped s t r) ∧
     (∀ d a b c, i = .eng d a b c → s.rp b = false → wellFormedEndpoint (s.rv b).toNat = true →
       (payloadRegs a).find? (fun q => s.rp q) = some r → Reaches (exec i s) fun t => PoisonTrapped s t r)) ∧
  (∀ (s u : State) (i : Instr) (d a : BitVec 5) (bytes : List Byte), s.me.reissue = none → s.me.revoke = none →
     s.me.wait = none → s.rp a = false → (u.me.trapSet (trapLevel u)).regs.depth ≠ 2 →
     (∀ n : BitVec 16, i = .jtab d a n → (s.rv a).toNat < n.toNat →
       s.load s.cur s.agent .load .scalar 15 (s.me.pc + 4 + 4 * s.rv a).toNat 4 = (u, .ok (bytes, true)) →
       u.me.reissue = none → Reaches (exec i s) fun t => PoisonTrappedAt u t (s.me.pc + 4 + 4 * s.rv a)) ∧
     (i = .launch d a → (s.rv a).toNat % 64 = 0 →
       ((s.drainAll s.cur).flushMsg s.cur fun _ => true).load s.cur s.agent .load .scalar 15 (s.rv a).toNat 64 =
         (u, .ok (bytes, true)) →
       u.cur = s.cur → u.me.reissue = none → Reaches (exec i s) fun t => PoisonTrappedAt u t (u.rv a)) ∧
     (i = .dreg d a ∨ (∃ b o, i = .solicit d a b o ∧ s.rp b = false) → (s.rv a).toNat % 32 = 0 →
       s.load s.cur s.agent .load .scalar 15 (s.rv a).toNat 32 = (u, .ok (bytes, true)) →
       u.me.reissue = none → Reaches (exec i s) fun t => PoisonTrappedAt u t (s.rv a)) ∧
     (∀ b c q n, (i = .tqpush d a b c ∧ n = 8 ∨ i = .tileq d a b c ∧ n = 32) → s.rp b = false →
       (s.rv b).getLsbD 63 = false → s.queueOf s.me.fn (s.rv b) false = some q → (s.queueAt q).tile = decide (n = 32) →
       s.load s.cur s.agent .load .scalar c.toNat (s.rv a).toNat n = (u, .ok (bytes, true)) →
       u.me.reissue = none → Reaches (exec i s) fun t => PoisonTrappedAt u t (s.rv a)) ∧
     ∀ b c v p, (i = .barr d a b c ∧ 1 ≤ (s.rv b).toNat ∧ (s.rv b).toNat ≤ 65535 ∨ i = .bexp d a b c ∨
         i = .bwait d a b c ∨ i = .bqry d a b c ∧ (s.rv b).toNat ≤ 1) → s.rp b = false → (s.rv a).toNat % 16 = 0 →
       let w := if i = .barr d a b c ∨ i = .bexp d a b c then s.barrierRelease else s
       w.atomicPlace w.cur w.agent (s.rv a).toNat 16 = (v, .ok p) → v.atomicRead v.cur c.toNat p 16 = (u, bytes, true) →
       u.me.reissue = none → Reaches (exec i s) fun t => PoisonTrappedAt u t (s.rv a)) ∧
  ∀ (s : State) (i : Instr) (a : BitVec 5) (n : Nat),
    ((∃ d b c f, amoForm i = some (d, a, b, c, n, f)) ∨
      (∃ d x c, (i = .ldAcq d a x c ∨ i = .stRel d a x c) ∧ n = 8)) →
    s.me.reissue = none → s.me.revoke = none → s.rp a = false → (s.rv a).toNat % n ≠ 0 →
    let l := trapLevel s
    (s.me.trapSet l).regs.depth ≠ 2 →
    Reaches (exec i s) fun t => Trapped s t l 0x0F0 (s.rv a) s.me.pc 0

/-- R213, R214, R232: at firmware level, with no store of the thread pending, LD.acq reads 8 stored bytes; ST.rel leaves
a store of 8 bytes that its drain puts at the address; CFLUSH leaves no dirty copy of the line and CINV no copy in any
L1 or L2; and PREF, which traps nowhere, leaves every register and every byte.

R198, R204, R214, R232, R310, R314, R319 to R323, R329: an aligned LD.acq or ST.rel, and a CFLUSH or CINV of an address
outside the window, whose access faults takes the trap of that fault as `FaultTaken` says, where `pageFault` says; a CFLUSH or
CINV of a window address does nothing below firmware level. -/
def Obligations.OrderedAccessesAndMaintenance : Prop :=
  (∀ (s : State) (d a : BitVec 5) (x : BitVec 2) (c : BitVec 4), s.me.reissue = none → s.rp a = false →
     let at_ := (s.rv a).toNat
     (at_ % 8 = 0 →
       FaultsWhere s (.ldAcq d a x c) .load at_ 8 ∧
       TakesItsFault s (.ldAcq d a x c) .load (s.load s.cur s.agent .load .scalar c.toNat at_ 8).2 ∧
       (s.me.revoke = none → FaultsWhere s (.stRel d a x c) .store at_ 8)) ∧
     ∀ i, i = .cflush a c ∨ i = .cinv a c →
       (inWindow at_ = false → FaultsWhere s i .load at_ 1) ∧
       (s.me.level ≠ .firmware → inWindow at_ = true → Reaches (exec i s) fun t => MovedTo s t (s.me.pc + 4))) ∧
  ∀ (s : State) (d a : BitVec 5) (x : BitVec 2) (c : BitVec 4) (imm : BitVec 10),
    s.me.reissue = none → s.me.level = .firmware → s.me.pend = [] →
    let at_ := (s.rv a).toNat
    Reaches (exec (.pref d a imm) s) (fun t => MovedTo { s with cores := t.cores, l2 := t.l2 } t (s.me.pc + 4)) ∧
    (s.rp a = false → PlainBytes s at_ 1 →
      Reaches (exec (.cflush a c) s) (fun t => MovedTo { s with cores := t.cores, l2 := t.l2 } t (s.me.pc + 4) ∧
        (∀ n y, (n, y) ∈ t.cores → ∀ l ∈ y.l1, l.line = at_ / 64 → l.dirty = false) ∧
        ∀ n l, (n, l) ∈ t.l2 → l.line = at_ / 64 → l.dirty = false) ∧
      Reaches (exec (.cinv a c) s) (fun t => MovedTo { s with cores := t.cores, l2 := t.l2 } t (s.me.pc + 4) ∧
        (∀ n y, (n, y) ∈ t.cores → ∀ l ∈ y.l1, l.line ≠ at_ / 64) ∧ ∀ n l, (n, l) ∈ t.l2 → l.line ≠ at_ / 64)) ∧
    (s.rp a = false → at_ % 8 = 0 → PlainBytes s at_ 8 →
      Reaches (exec (.ldAcq d a x c) s) (fun t =>
        WroteOne { s with cores := t.cores, l2 := t.l2 } t d (BitVec.ofNat 64 (leNat (storedBytes s at_ 8))) false
          false) ∧
      (s.rp d = false → s.me.revoke = none → s.viewer = none →
        Reaches (exec (.stRel d a x c) s) fun t =>
          OnlyMe s t ∧ t.me = { s.me with pc := s.me.pc + 4, pend := t.me.pend, wait := none, cut := none } ∧
          StoredAt s (t.drainAll t.cur) at_ (leBytes 8 (s.rv d).toNat)))

/-! ### Control registers (R45, R71, R72, R311 to R314, R318, R354) -/

/-- R45, R71: a read of an implemented control register at a level its number allows, with no revocation pending, writes
the register's value. A read of PRQSTAT also ends the answer 4 that it gave (R331); no other read changes anything. -/
def Obligations.ControlRegisterReads : Prop :=
  ∀ (s : State) (d : BitVec 5) (r : BitVec 12) (v : Word), s.me.reissue = none → s.me.revoke = none →
    (r.toNat / 1024 = 3 ∨ r.toNat / 1024 ≤ s.me.level.code) → s.crRead r.toNat = some v →
    Reaches (exec (.crr d r) s) fun t =>
      WroteOne (if r.toNat = 0x912 then s.afterRead r.toNat else s) t d v false false

/-- R45, R71: CRW writes its operand to a writable register; CRS and CRC write its union with the operand and what it has
beside the operand, and write sd the old value, even where the operand is zero or sd is s0. -/
def Obligations.ControlRegisterWritesAndReturnsOld : Prop :=
  ∀ (s : State) (d a : BitVec 5) (r : BitVec 12) (v : Word), s.me.reissue = none → s.me.revoke = none →
    (r.toNat / 1024 = 3 ∨ r.toNat / 1024 ≤ s.me.level.code) → r.toNat / 256 % 2 = 0 → s.crRead r.toNat = some v →
    s.rp a = false →
    Reaches (exec (.crw a r) s) (fun t =>
      MovedTo (s.crWrite r.toNat (s.rv a)) t ((s.crWrite r.toNat (s.rv a)).me.pc + 4)) ∧
    Reaches (exec (.crs d a r) s) (fun t =>
      WroteOne (s.crWrite r.toNat (v ||| s.rv a)) t d v false false) ∧
    Reaches (exec (.crc d a r) s) fun t =>
      WroteOne (s.crWrite r.toNat (v &&& ~~~(s.rv a))) t d v false false

/-- What a control register whose write has no effect of its own holds after a write of `v` over `old`: the writable
fields of its layout, each by its write rule (R19, R113 to R117, R171, R311 to R314, R318, R331, R354). -/
def Sys2Proof.storedField (n : Nat) (old v : Word) : Option Word :=
  let low := fun k => some (BitVec.ofNat 64 (v.toNat % 2 ^ k))
  let high := fun k => some (BitVec.ofNat 64 (v.toNat / 2 ^ k * 2 ^ k))
  let ppl := fun top => some (if top < v.toNat % 4 then old else BitVec.ofNat 64 (old.toNat / 4 * 4 + v.toNat % 4))
  match n with
  | 0x000 => some (BitVec.ofNat 64 (v.toNat % 64 +
      (if 5 ≤ v.toNat / 256 % 8 then old.toNat / 256 % 8 else v.toNat / 256 % 8) * 256))
  | 0x001 => low 18
  | 0x002 => low 1
  | 0x003 => high 6
  | 0x004 | 0x005 => some v
  | 0x006 | 0x007 => high 1
  | 0x400 | 0x800 => some (BitVec.ofNat 64 (v.toNat / 256 * 256 + v.toNat % 2))
  | 0x401 | 0x801 => low 10
  | 0x402 | 0x802 => some v
  | 0x403 | 0x803 => high 2
  | 0x404 => ppl 1
  | 0x804 => ppl 2
  | 0x405 | 0x805 => some (BitVec.ofNat 64 (v.toNat / 2 ^ 25 % 2 ^ 7 * 2 ^ 25 + v.toNat % 2 ^ 18))
  | 0x806 => low 52
  | 0x810 => high 12
  | 0x814 => low 7
  | 0x820 => some (BitVec.ofNat 64 (v.toNat / 2 ^ 32 * 2 ^ 32 + v.toNat % 2 ^ 16))
  | _ => none

/-- R71: after a write of a register without an effect of its own it reads as the writable fields of its layout took the
value, and every other register reads as before, but for VFTVEC, which VFSEL selects; the scalar registers, memory and
every other thread are as before. The same for the event that writes such a register of a live thread. -/
def Obligations.ControlRegisterFieldsHoldWhatWasWritten : Prop :=
  ∀ (s : State) (n : Nat) (old v new : Word), s.crRead n = some old → storedField n old v = some new →
    let t := s.crWrite n v
    t.crRead n = some new ∧ (∀ m, m ≠ n → (n = 0x814 → m ≠ 0x815) → t.crRead m = s.crRead m) ∧
    (∀ r, t.me.raw r = s.me.raw r) ∧ t.me.pc = s.me.pc ∧ SameBytes s t ∧ (∀ g, g ≠ s.cur → t.ctx g = s.ctx g) ∧
    (s.me.live = true → exec (.registerWrite s.cur (BitVec.ofNat 12 n) v) s = .next t)

/-- R43, R45, R71: a register above the level in force traps as ILL_PRIV, one that is not implemented as ILL_CR, a write of
a read-only one as ILL_CRRO, and in this order; TVAL holds the word. -/
def Obligations.ControlRegisterChecks : Prop :=
  ∀ (s : State) (i : Instr) (a : BitVec 5) (r : BitVec 12) (w : BitVec 32), s.me.reissue = none → s.me.revoke = none →
    ((∃ d, i = .crr d r) ∨ i = .crw a r ∨ (∃ d, i = .crs d a r) ∨ ∃ d, i = .crc d a r) → encode i = some w →
    let l := if s.me.level = .firmware then Level.firmware else .supervisor
    let high := r.toNat / 1024 ≠ 3 ∧ s.me.level.code < r.toNat / 1024
    (s.me.trapSet l).regs.depth ≠ 2 →
    (high → Reaches (exec i s) fun t => Trapped s t l 0x007 (w.zeroExtend 64) s.me.pc 0) ∧
    (¬high → s.crRead r.toNat = none → Reaches (exec i s) fun t => Trapped s t l 0x008 (w.zeroExtend 64) s.me.pc 0) ∧
    (¬high → s.crRead r.toNat ≠ none → (∀ d, i ≠ .crr d r) → r.toNat / 256 % 2 = 1 →
      Reaches (exec i s) fun t => Trapped s t l 0x009 (w.zeroExtend 64) s.me.pc 0)

/-! ### Traps, returns, YIELD (R43, R74 to R76, R309 to R316) -/

/-- The level that takes a TRAP (R310). -/
def Sys2Proof.trapInsnLevel : Level → Level
  | .user => .supervisor
  | _ => .firmware

/-- The cause of each illegal-instruction condition (R43). -/
def Sys2Proof.illCauseOf : IllCause → Nat
  | .illZero => 0
  | .illMajor => 1
  | .illFn => 2
  | .illField => 3
  | .illType => 4
  | .illRm => 5
  | .illRange => 6

/-- The instruction is a point of R124 wherever it stands: of majors 0x18 to 0x30, FENCE.SV, or one that waits for older
instructions of the vector queue. -/
def Sys2Proof.isPoint (s : State) (i : Instr) : Bool :=
  (vecSpec i s.me.dcodeType).isSome ||
  match i with
  | .setvl _ _ _ | .setvli _ _ _ | .vdecl _ | .vgeom _ _ => true
  | .fenceSv _ | .fenceC _ | .eret | .launch _ _ | .cbar _ _ | .tsleep _ _ | .twake _ _ | .chkerr _ _ => true
  | .fenceP m => m.getLsbD 1 || m.getLsbD 3
  | .crr _ r | .crw _ r | .crs _ _ r | .crc _ _ r => r == 0x001 || r == 0x100 || r == 0x103
  | .stRel _ _ _ _ | .barr _ _ _ _ | .bexp _ _ _ _ | .dreg _ _ | .dmove _ _ _ | .solicit _ _ _ _ | .reply _ _ _ => true
  | .tqpush _ _ _ _ | .tileq _ _ _ _ | .tdone _ _ | .queueOpen _ _ _ _ | .queueClose _ _ _ _ | .queueResume _ _ _ _
  | .queuePurge _ _ _ _ => true
  | .tlbinvVa _ _ _ | .tlbinvAll _ _ _ | .tlbinvRoot _ _ _ | .tlbinvGpa _ _ _ | .tlbinvVfall _ _ _ => true
  | _ => false

/-- What the pending trap of a revocation does where an instruction takes it, before any effect of the instruction (R124,
R125, R315, R317); TVAL and RVEC are those of VSPILL as it stands (log 78). -/
def Sys2Proof.RevocationsTaken : Prop :=
  ∀ (s : State) (i : Instr) (p : PendingRevoke), s.me.reissue = none → s.me.wait = none → s.me.revoke = some p →
    isPoint s i = true →
    let depth := (if s.me.uip then 1 else 0) + s.me.sup.regs.depth.toNat + s.me.firm.regs.depth.toNat
    let v := s.setMe { s.me with
      revoke := none, replay := s.me.replay.map fun e => if e.depth = 0 then { e with depth := depth + 1 } else e }
    match p with
    | .revoke _ =>
      (s.me.level ≠ .user ∨ s.me.uip = true → (s.me.trapSet (trapLevel s)).regs.depth ≠ 2 →
        Reaches (exec i s) fun t => Trapped v t (trapLevel s) 0x180 s.me.vspill s.me.pc 0) ∧
      (s.me.level = .user → s.me.uip = false → ∀ u r,
        v.load v.cur (v.userAgent v.cur) .load .lane 15 s.me.vspill.toNat 8 = (u, r) →
        u.me.reissue = none → u.me.level = .user → u.me.sup.regs.depth ≠ 2 → match r with
        | .ok (bytes, false) =>
          if leNat bytes = 0 then Reaches (exec i s) fun t => Trapped u t .supervisor 0x180 s.me.vspill u.me.pc 0
          else Reaches (exec i s) fun t => OnlyMe u t ∧ t.me = { u.me with
            uepc := (u.me.pc >>> 2) <<< 2, uip := true, pc := BitVec.ofNat 64 (leNat bytes)
            reissue := none, wait := none, cut := none }
        | .ok (_, true) => Reaches (exec i s) fun t => Trapped u t .supervisor 0x180 s.me.vspill u.me.pc 0
        | .error x => x.fault.cause ≠ heldCause → Reaches (exec i s) fun t => ∃ w : State, w.ctxs = u.ctxs ∧
            w.cur = u.cur ∧ SameBytes u w ∧ Trapped w t .supervisor 0x180 s.me.vspill u.me.pc 0)
    | .spill a telem =>
      s.me.sup.regs.depth ≠ 2 → Reaches (exec i s) fun t =>
        let old := s.me.sup
        OnlyMe s t ∧ t.me = { v.me with
          level := .supervisor, pc := trapVector old.vec 0x181, resume := s.me.pc, sup := t.me.sup
          reissue := none, wait := none, cut := none } ∧
        t.me.sup = { old with
          regs := { cause := 0x181, val := a, epc := (s.me.pc >>> 2) <<< 2, telem := telem
                    ppl := BitVec.ofNat 2 s.me.level.code, vside := true, depth := old.regs.depth + 1, gpa := 0 }
          shadow := if old.regs.depth = 1 then old.regs else old.shadow }

/-- R43, R74, R310, R315: TRAP takes its trap with its code in TVAL and the next word as the return address; a word that
is no instruction takes the trap of the first condition it meets, with the word in TVAL and its own address as the
return address. Nothing but the trap state, the level and the PC changes. A TRAP at user level that meets two traps at
supervisor level is taken at firmware level as the trap 0x0D0 with its own cause in TVAL.

R124, R125, R315: where a revocation is pending, every instruction at a point of R124 (ERET among them) takes it before any
effect: LANE_REVOKE at the level in force, or above user level at its target, with the address of the spill area in TVAL; at
user level, with no user trap in progress, at RVEC as the spill header holds it, unless that reads as zero, poisoned or not at
all; LANE_SPILL always at supervisor level, with the faulting address. That the area and RVEC are those of VSPILL as it stands
is the model's choice (log 78). -/
def Obligations.TrapsEnterTheirLevel : Prop :=
  RevocationsTaken ∧
  ∀ (s : State), s.me.reissue = none →
    (∀ imm : BitVec 16, (s.me.trapSet (trapInsnLevel s.me.level)).regs.depth ≠ 2 →
      Reaches (exec (.trap imm) s) fun t =>
        Trapped s t (trapInsnLevel s.me.level) 0x100 (BitVec.ofNat 64 imm.toNat) (s.me.pc + 4) 0) ∧
    (∀ imm : BitVec 16, s.me.level = .user → s.me.sup.regs.depth = 2 → s.me.firm.regs.depth ≠ 2 →
      Reaches (exec (.trap imm) s) fun t => Trapped s t .firmware 0x0D0 0x100 (s.me.pc + 4) 0) ∧
    ∀ (w : BitVec 32) (c : IllCause),
      let l := if s.me.level = .firmware then Level.firmware else .supervisor
      (s.me.trapSet l).regs.depth ≠ 2 →
      Reaches (exec (.illegalInstruction w c) s) fun t =>
        Trapped s t l (illCauseOf c) (BitVec.ofNat 64 w.toNat) s.me.pc 0

/-- R75, R316: with no revocation pending, ERET at a level with a trap in progress goes to the saved PC, or the scalar
resume address of a vector-side trap, at the saved level but no higher than its own; DEPTH falls by one, and the shadow
set comes back where two traps were in progress; at user level it goes to UEPC and clears UIP. No scalar register, no
flag and nothing else of the machine changes. Where no trap is in progress at the level in force, ERET takes ERET_STRAY
with TVAL 0 and its own address. -/
def Obligations.EretReturnsOrTraps : Prop :=
  ∀ (s : State), s.me.reissue = none → s.me.revoke = none →
    (∀ l : Level, s.me.level = l → l ≠ .user → (s.me.trapSet l).regs.depth ≠ 0 →
      let r := (s.me.trapSet l).regs
      Reaches (exec .eret s) fun t => OnlyMe s t ∧ (∀ q, t.me.raw q = s.me.raw q) ∧ t.me.fstat = s.me.fstat ∧
        t.me.pc = (if r.vside then s.me.resume else r.epc) ∧ t.me.level.code = min (min r.ppl.toNat 2) l.code ∧
        t.me.trapSet l = { s.me.trapSet l with
          regs := if r.depth = 2 then (s.me.trapSet l).shadow else { r with depth := r.depth - 1 } }) ∧
    (s.me.level = .user → s.me.uip = true →
      Reaches (exec .eret s) fun t => OnlyMe s t ∧ (∀ q, t.me.raw q = s.me.raw q) ∧ t.me.fstat = s.me.fstat ∧
        t.me.pc = s.me.uepc ∧ t.me.level = .user ∧ t.me.uip = false ∧ t.me.sup = s.me.sup ∧ t.me.firm = s.me.firm) ∧
    let l := if s.me.level = .firmware then Level.firmware else .supervisor
    (if s.me.level = .user then s.me.uip = false else (s.me.trapSet s.me.level).regs.depth = 0) →
    (s.me.trapSet l).regs.depth ≠ 2 → Reaches (exec .eret s) fun t => Trapped s t l 0x101 0 s.me.pc 0

/-- R74, R75, R315, R316: a TRAP at user level with no trap in progress and nothing to reissue, followed by the ERET of its
handler, leaves the thread after the TRAP at user level, with every scalar register, flag and special register, the
vector state, memory and everything else of the machine as it was; only the supervisor's trap registers remember it. -/
def Obligations.TrapThenEretResumes : Prop :=
  ∀ (s : State) (imm : BitVec 16), s.me.reissue = none → s.me.wait = none → s.me.cut = none → s.me.level = .user →
    s.me.sup.regs.depth = 0 → s.me.revoke = none → s.me.replay = [] → s.me.pc.toNat % 4 = 0 →
    Reaches (exec (.trap imm) s) fun t => Reaches (exec .eret t) fun u =>
      OnlyMe s u ∧ u.me = { s.me with pc := s.me.pc + 4, sup := u.me.sup } ∧ u.me.sup.regs.depth = 0 ∧
      u.me.sup.vec = s.me.sup.vec

/-! ### Fences, services, crews (R79, R83, R92 to R95, R228 to R231, R318, R330) -/

/-- R228 to R231: with no revocation pending every fence runs, writes no register but those whose late loads it
completes, stays at its level, moves to the next word, and leaves no pending access of the thread that it names: FENCE.C by
class, FENCE.P by path, FENCE.SV the vector stores for kinds 3 and 4; for kinds 0 to 2 FENCE.SV leaves the hold that younger
vector accesses await. -/
def Obligations.FencesPerformWhatTheyName : Prop :=
  ∀ (s : State), s.me.reissue = none → s.me.revoke = none →
    let ends := fun (t : State) =>
      (∀ r, (∀ p ∈ s.me.pend, ∀ l, p.load = some l → l.dest ≠ r) → t.me.raw r = s.me.raw r) ∧
      t.me.pc = s.me.pc + 4 ∧ t.me.level = s.me.level
    (∀ k : BitVec 16, Reaches (exec (.fenceC k) s) fun t =>
      ends t ∧ ∀ p ∈ t.me.pend, k.getLsbD (p.cls % 16) = false) ∧
    (∀ m : BitVec 6, Reaches (exec (.fenceP m) s) fun t =>
      ends t ∧ ∀ p ∈ t.me.pend, m.getLsbD p.path.maskBit = false) ∧
    ∀ k : BitVec 6, Reaches (exec (.fenceSv k) s) fun t => ends t ∧
      t.me.svHold = s.me.svHold ||| k.extractLsb' 0 3 ∧
      (k.getLsbD 3 = true ∨ k.getLsbD 4 = true → ∀ p ∈ t.me.pend, p.path ≠ .lane)

/-- A firmware service of R330 returned: at supervisor level, at the word after the TRAP, with its status in s3 and every
other register as before. -/
def Sys2Proof.Served (s t : State) (status : Nat) : Prop :=
  t.me.level = .supervisor ∧ t.me.pc = ((s.me.pc + 4) >>> 2) <<< 2 ∧
  ∀ r, t.me.raw r = if r = 3 then (BitVec.ofNat 64 status, false) else s.me.raw r

/-- The thread waits for the RESULT of the request that its firmware service submitted at a die's port (R330). -/
def Sys2Proof.AwaitsResult (s t : State) (d : Nat) (w : PrqWork) : Prop :=
  t.me.wait = some (.service d) ∧ (t.die d).prqWork = some w ∧ t.me.pc = s.me.pc ∧ t.me.level = .supervisor ∧
  ∀ r, t.me.raw r = s.me.raw r

/-- R318, R330, R377: the four services, called at supervisor level with room for a firmware trap. SETVEC stores the
caller's default vector and answers 0. PREEMPT of a thread of the caller's function, on a die whose port is free, with an
area that can be written, asks every live thread of its crew to stop; RESUME of a saved crew that does not fit yet stands at
the port; both wait there, and the RESULT with which the request ends is the status they return. PREEMPT of a core the
function does not have answers 1, and a port that is busy 4. ATTEST with readable and writable aligned areas writes the
report and answers 0.

R330 gives the status in s3 and the return by ERET. That a service does its act and returns in one step with every other
register as before, and that PREEMPT and RESUME wait at the TRAP, is the model's choice (log 25). -/
def Obligations.FirmwareServicesAct : Prop :=
  ∀ (s : State), s.me.reissue = none → s.me.level = .supervisor → s.me.firm.regs.depth.toNat < 2 →
    let area := BitVec.ofNat 64 ((s.rv 4).toNat / 4096 * 4096)
    (s.me.wait = none →
      Reaches (exec .setvec s) (fun t => Served s t 0 ∧
        aget 0 (t.die (dieOf s.cur)).vftvec s.me.fn =
          BitVec.ofNat 64 ((s.rv 3).toNat / 256 * 256 + (s.rv 3).toNat % 2)) ∧
      (s.coreById s.me.fn ((s.rv 3).toNat % 2048) = none → Reaches (exec .preempt s) fun t => Served s t 1) ∧
      (∀ core, s.coreById s.me.fn ((s.rv 3).toNat % 2048) = some core → (s.die (core / 256)).prqWork ≠ none →
        Reaches (exec .preempt s) fun t => Served s t 4) ∧
      (∀ core k c v ps, s.coreById s.me.fn ((s.rv 3).toNat % 2048) = some core →
        let d := core / 256
        let u := s.setDie d { s.die d with prqaddr := area }
        (s.die d).prqWork = none → s.crewAt (4 * core + (s.rv 3).toNat / 2048 % 4) = some k → s.crewOf k = some c →
        c.fn = s.me.fn →
        u.resolve (saveAgent c.fn) .spill area.toNat (areaSize c.threads.length c.cores.length c.granules) = (v, .ok ps) →
        Reaches (exec .preempt s) fun t =>
          AwaitsResult s t d { resume := false, crew := k, area := area, start := s.clock } ∧
          ∀ i ∈ c.live, ∀ h, c.threads[i]? = some h → (t.ctx h).preempt = .asked) ∧
      ((s.die (dieOf s.cur)).prqWork ≠ none → Reaches (exec .resume s) fun t => Served s t 4) ∧
      (∀ key k v,
        let d := dieOf s.cur
        let u := s.setDie d { s.die d with prqaddr := area }
        let w : PrqWork := { resume := true, crew := key, area := area, start := s.clock }
        (s.die d).prqWork = none → u.savedAt s.me.fn area.toNat = (v, .ok (key, k)) →
        v.tryResume d w none (v.resumeDie d k) = none →
        Reaches (exec .resume s) fun t => AwaitsResult s t d w) ∧
      ∀ v w bytes p,
        let ag := { s.agent with level := .supervisor, stalls := false }
        (s.rv 3).toNat % 64 = 0 → (s.rv 4).toNat % 64 = 0 →
        s.load s.cur ag .load .scalar 15 (s.rv 3).toNat 64 = (v, .ok (bytes, p)) →
        v.store s.cur ag .store .scalar 15 (s.rv 4).toNat (v.reportOf s.me.fn (BitVec.ofNat 512 (leNat bytes))) p =
          (w, .ok ()) →
        Reaches (exec .attest s) fun t => Served w t 0 ∧ t.me.pend = w.me.pend ∧ t.mem = w.mem) ∧
    (∀ d, s.me.wait = some (.service d) → exec .preempt s = .next s ∧ exec .resume s = .next s ∧
      ∀ n start, n < 8 → (s.endRequest d n start).me.wait = some (.answered (BitVec.ofNat 64 n))) ∧
    ∀ v i, s.me.wait = some (.answered v) → i = .preempt ∨ i = .resume →
      Reaches (exec i s) fun t => Served s t v.toNat

/-- R76, R92, R94, R95: YIELD makes its context not ready in the next cycle and has no other effect. PRIO sets the level of
the thread's own stream to its operand, at most IPRIO at user level and 3 above it, and writes the old level; during a
handler run the handler keeps the channel's priority; nothing else changes, the wait count W included. With no revocation
pending, TSLEEP outside a handler takes a wake bit that is set and writes 0, and else waits where it stands; a wait ends with
0 once the bit is set and with 1 once its bound has passed, and that of a thread whose saved record has the sleeping flag
with 2; in a handler it traps as 0x2C5. That TVAL then holds its operand is the model's reading (log 27). With no revocation
pending, TWAKE performs the older SCALAR and LANE accesses, sets the wake bit of the live thread of the crew that its operand
numbers, itself included, and writes whether it was set; it writes 2 where there is no such thread. -/
def Obligations.YieldPrioSleepAndWake : Prop :=
  ∀ (s : State) (d a : BitVec 5), s.me.reissue = none →
    Reaches (exec .yield s) (fun t => OnlyMe s t ∧
      t.me = { s.me with pc := s.me.pc + 4, yielded := true, reissue := none, wait := none, cut := none } ∧
      t.ready s.cur = false) ∧
    (s.rp a = false →
      let top := if s.me.level = .user then s.me.iprio.toNat else 3
      let new := BitVec.ofNat 2 (min (s.rv a).toNat top)
      Reaches (exec (.prio d a) s) fun t =>
        WroteOne (s.setMe { s.me with prio := new }) t d (BitVec.ofNat 64 s.me.prio.toNat) false false ∧
        (s.me.handlers ≠ [] → t.me.ownLevel = s.me.ownLevel) ∧ t.me.w = s.me.w) ∧
    (s.me.revoke = none → s.rp a = false → s.me.wait = none → s.me.handlers = [] → s.me.wake = true →
      Reaches (exec (.tsleep d a) s) fun t => WroteOne (s.setMe { s.me with wake := false }) t d 0 false false) ∧
    (s.me.revoke = none → s.rp a = false → s.me.wait = none → s.me.handlers = [] → s.me.wake = false →
      Reaches (exec (.tsleep d a) s) fun t =>
        OnlyMe s t ∧ t.me = { s.me with wait := some (.tsleep (s.rv a).toNat) }) ∧
    (s.me.revoke = none → s.rp a = false → s.me.wait = none → s.me.handlers ≠ [] →
      let l := if s.me.level = .firmware then Level.firmware else .supervisor
      (s.me.trapSet l).regs.depth ≠ 2 →
      Reaches (exec (.tsleep d a) s) fun t => Trapped s t l 0x2C5 (s.rv a) s.me.pc 0) ∧
    (∀ n, s.me.wait = some (.tsleep n) →
      (s.me.wake = true → Reaches (exec (.tsleep d a) s) fun t =>
        WroteOne (s.setMe { s.me with wake := false }) t d 0 false false) ∧
      (s.me.wake = false → exec (.tsleep d a) s = .next s) ∧
      (n ≠ 0 → s.me.live = true →
        Reaches (exec (.tsleepTimeout s.cur) s) fun t => Reaches (exec (.tsleep d a) t) fun u =>
          WroteOne s u d 1 false false)) ∧
    (∀ kept flags cbar, bitsOf flags 2 1 = 1 → s.me.wait = recordWait kept flags cbar →
      Reaches (exec (.tsleep d a) s) fun t => WroteOne s t d 2 false false) ∧
    (s.me.revoke = none → s.rp a = false →
      let u := s.drain s.cur fun p => p.path == .scalar || p.path == .lane
      let n := (s.rv a).toNat
      (∀ k c g, s.me.crew = some k → s.crewOf k = some c → c.exited.contains n = false → c.threads[n]? = some g →
        Reaches (exec (.twake d a) s) fun t => (t.ctx g).wake = true ∧
          WroteOne (u.setCtx g { u.ctx g with wake := true }) t d (if (s.ctx g).wake then 1 else 0) false false) ∧
      (∀ k c, s.me.crew = some k → s.crewOf k = some c → c.exited.contains n = true ∨ c.threads.length ≤ n →
        Reaches (exec (.twake d a) s) fun t => WroteOne u t d 2 false false) ∧
      (s.me.crew.bind s.crewOf = none → Reaches (exec (.twake d a) s) fun t => WroteOne u t d 2 false false))

/-- R93: with no revocation and no store pending, outside a handler, CBAR on barrier 0 to 3: the last live thread of the
crew to arrive passes with the number of threads that came before it, empties the arrivals and turns the generation's
parity; any other waits where it stands with its arrival counted. -/
def Obligations.CrewBarrierLastArrivalPasses : Prop :=
  ∀ (s : State) (d a : BitVec 5) (k : Nat) (c : Crew) (xs : List Nat), s.me.reissue = none → s.me.revoke = none →
    s.me.pend = [] → s.me.wait = none → s.me.handlers = [] → s.rp a = false → (s.rv a).toNat ≤ 3 →
    s.me.crew = some k → s.crewOf k = some c → c.arrivals[(s.rv a).toNat]? = some xs →
    (xs.length + 1 = c.live.length → Reaches (exec (.cbar d a) s) fun t =>
      WroteOne { s with crews := t.crews } t d (BitVec.ofNat 64 xs.length) false false ∧
      ∃ c', t.crewOf k = some c' ∧ c'.arrivals[(s.rv a).toNat]? = some [] ∧
        c'.parity.getLsbD (s.rv a).toNat = !(c.parity.getLsbD (s.rv a).toNat)) ∧
    (xs.length + 1 ≠ c.live.length → Reaches (exec (.cbar d a) s) fun t =>
      OnlyMe { s with crews := t.crews } t ∧ t.me = { s.me with wait := some (.cbar (s.rv a).toNat xs.length) } ∧
      ∃ c', t.crewOf k = some c' ∧ c'.arrivals[(s.rv a).toNat]? = some (s.me.tidx :: xs))

/-- R82, R83, R85: LAUNCH of a record read clean from an aligned address, where the record passes the checks, the crew's
die is reached, and the queue of its level takes it: it writes 0, the launch stands under the function's next number with
the submitter's level, and the function's count of launches goes up by one. `u` is the machine after the record was
read, `v` after the entry was appended. -/
def Obligations.LaunchSubmitsTheRecord : Prop :=
  ∀ (s u v : State) (d a : BitVec 5) (bytes : List Byte), s.me.reissue = none → s.me.revoke = none → s.me.wait = none →
    s.rp a = false → (s.rv a).toNat % 64 = 0 →
    let r := BitVec.ofNat 512 (leNat bytes)
    let f := u.me.fn
    let lid := (u.fnOf f).lid
    ((s.drainAll s.cur).flushMsg s.cur fun _ => true).load s.cur s.agent .load .scalar 15 (s.rv a).toNat 64 =
      (u, .ok (bytes, false)) →
    (u.dieById f 0).any u.wayHeld = false → u.launchCheck f r = 0 →
    u.reaches f (dieOf u.cur) ((u.dieById f 0).getD 0) = true → u.submitWaits f r = false →
    u.appendEntry (launchQueue f (recLevel r)) (recWords r) u.me.level lid = (v, 0) →
    Reaches (exec (.launch d a) s) fun t =>
      t.me.raw d = (0, false) ∧ t.me.pc = v.me.pc + 4 ∧ t.me.level = v.me.level ∧
      aget { record := 0 } t.launches (launchKey f lid) = { record := r, level := u.me.level } ∧
      (t.fnOf f).lid = (lid + 1) % 2 ^ 32

/-! ### Messages, channels, handler runs (R241 to R254, R258) -/

/-- The running thread may use channel `ch`, which is not held, and no message or delivery of its own is on its way. -/
abbrev Sys2Proof.ChannelReady (s : State) (ch : Nat) : Prop :=
  ch ≤ 63 ∧ s.ownsChannel ch = true ∧ (s.chan (coreOf s.cur) ch).held = false ∧ s.ownMsgs s.cur (fun _ => true) = []

/-- R244, R252 to R254: on a channel the thread may use, CHBIND writes the binding and returns the old one; CHEN and CHDIS
write EN of a bound channel and return the old EN, and do nothing on an unbound one; CHPEND returns the state word and
leaves, sets or clears the pending bit as its operand says; WAITM answers 0 where a message is present and waits where it
stands otherwise. -/
def Obligations.ChannelInstructions : Prop :=
  ∀ (s : State) (d a b : BitVec 5), s.me.reissue = none → s.me.wait = none → s.rp a = false → s.rp b = false →
    let ch := (s.rv a).toNat
    let core := coreOf s.cur
    let x := s.chan core ch
    let en := if bindBound x.binding && bindEn x.binding then (1 : Word) else 0
    ChannelReady s ch →
    (goodBinding (s.rv b) s.me.level = true →
      (s.me.level = .user → bindBound (s.rv b) = true → bindCtx (s.rv b) = s.cur % 4) →
      Reaches (exec (.chbind d a b) s) fun t =>
        WroteOne (s.setChan core ch { x with binding := s.rv b }) t d x.binding false false) ∧
    (bindBound x.binding = true →
      Reaches (exec (.chen d a) s) (fun t =>
        WroteOne (s.setChan core ch { x with binding := x.binding ||| (1#64 <<< 61) }) t d en false false) ∧
      Reaches (exec (.chdis d a) s) fun t =>
        WroteOne (s.setChan core ch { x with binding := x.binding &&& ~~~(1#64 <<< 61) }) t d en false false) ∧
    (bindBound x.binding = false →
      Reaches (exec (.chen d a) s) (fun t => t.me.raw d = (0, false) ∧ t.chan core ch = x ∧ t.me.pc = s.me.pc + 4) ∧
      Reaches (exec (.chdis d a) s) fun t => t.me.raw d = (0, false) ∧ t.chan core ch = x ∧ t.me.pc = s.me.pc + 4) ∧
    (s.rv b = 0 → Reaches (exec (.chpendRead d a b) s) fun t =>
      WroteOne (s.setChan core ch x) t d x.stateWord false false) ∧
    (s.rv b = 1 → Reaches (exec (.chpendSet d a b) s) fun t =>
      WroteOne (s.setChan core ch { x with pend := true }) t d x.stateWord false false) ∧
    (s.rv b = 2 → Reaches (exec (.chpendClear d a b) s) fun t =>
      WroteOne (s.setChan core ch { x with pend := false }) t d x.stateWord false false) ∧
    (x.fifo ≠ [] → Reaches (exec (.waitm d a b) s) fun t => WroteOne s t d 0 false false) ∧
    (x.fifo = [] → Reaches (exec (.waitm d a b) s) fun t =>
      OnlyMe s t ∧ t.me = { s.me with wait := some (.waitm ch (s.rv b).toNat) })

/-- R250: MPOP takes the oldest message of a channel: the four registers from sb on hold its payload with its poison, sd
its tag, with the lost bit where channel 63 lost one; from an empty channel sd is 0 and nothing else is written. -/
def Obligations.MpopTakesTheOldestMessage : Prop :=
  ∀ (s : State) (d a b : BitVec 5) (c : BitVec 4), s.me.reissue = none → s.rp a = false →
    let ch := (s.rv a).toNat
    let core := coreOf s.cur
    let x := s.chan core ch
    ChannelReady s ch →
    (x.fifo = [] → Reaches (exec (.mpop d a b c) s) fun t => WroteOne s t d 0 false false) ∧
    ∀ m rest, x.fifo = m :: rest → Reaches (exec (.mpop d a b c) s) fun t =>
      t.chan core ch = { x with fifo := rest, lost := false } ∧ t.me.pc = s.me.pc + 4 ∧ t.me.level = s.me.level ∧
      SameBytes s t ∧ (∀ g, g ≠ s.cur → t.ctx g = s.ctx g) ∧
      ∀ r, t.me.raw r =
        if r = 0 then ((0 : Word), false)
        else if r = d then (m.tag ||| (if ch = 63 ∧ x.lost = true then 1#64 <<< 38 else 0), false)
        else if (r - b).toNat < 4 then (m.payload.extractLsb' (64 * (r - b).toNat) 64, m.poison)
        else s.me.raw r

/-- Word `i` of a payload of four registers from one on; 0 where the field is 0 (R247). -/
def Sys2Proof.payloadWord (s : State) (a i : BitVec 5) : Word := if a = 0 then 0 else s.rv (a + i)

/-- The payload of a message from four registers, the first lowest (R247). -/
def Sys2Proof.fourWords (s : State) (a : BitVec 5) : BitVec 256 :=
  BitVec.ofNat 256 ((payloadWord s a 0).toNat + (payloadWord s a 1).toNat * 2 ^ 64 +
    (payloadWord s a 2).toNat * 2 ^ 128 + (payloadWord s a 3).toNat * 2 ^ 192)

/-- R247, R248, R258, R372: SEND to a channel of a core of the function's clusters that is reached, on no way that is held,
and has room writes 0, and the message enters its FIFO last, poisoned where a data register is, with the pending bit set; to
a full FIFO it writes 1 and nothing enters. SEND.P puts the message on its way and goes on. ENG to an engine that is ready
and has room writes 0, and the command stands last in its inbox. A first data register of 0 stands for 32 zero bytes. -/
def Obligations.SendsReachTheirDestination : Prop :=
  ∀ (s : State) (d a b : BitVec 5) (c : BitVec 4), s.me.reissue = none → s.me.wait = none → s.rp b = false →
    wellFormedEndpoint (s.rv b).toNat = true → s.ownMsgs s.cur (fun _ => true) = [] →
    let f := s.me.fn
    let poison := s.payloadPoison a
    let msg : Msg := { payload := fourWords s a, poison := poison, tag := tagOf c.toNat 0 (s.senderEndpoint s.cur) 0 }
    let die := dieOf s.cur
    (∀ core ch, s.target f (s.rv b).toNat = .core core ch → s.reaches f die (core / 256) = true →
      s.strays f (some s.cur) (core / 16) = false → s.routeHeld die (core / 256) = false →
      (s.chan core ch).held = false →
      ((s.chan core ch).fifo.length < 8 → Reaches (exec (.send d a b c) s) fun t =>
        t.me.raw d = (0, false) ∧ t.me.pc = s.me.pc + 4 ∧ SameBytes s t ∧
        t.chan core ch = { s.chan core ch with fifo := (s.chan core ch).fifo ++ [msg], pend := true }) ∧
      (8 ≤ (s.chan core ch).fifo.length → Reaches (exec (.send d a b c) s) fun t =>
        t.me.raw d = (if d = 0 then 0 else 1, false) ∧ t.chan core ch = s.chan core ch) ∧
      Reaches (exec (.sendP a b c) s) fun t =>
        (∀ r, t.me.raw r = s.me.raw r) ∧ t.me.pc = s.me.pc + 4 ∧ t.chan core ch = s.chan core ch ∧
        aget { src := 0, fn := 0, dest := 0, cls := 0, kind := 0, payload := 0 } t.wires s.serial =
          { src := s.senderEndpoint s.cur, sender := some s.cur, level := s.me.level, crew := s.me.crew, fn := f,
            dest := (s.rv b).toNat, cls := c.toNat, kind := 0, payload := fourWords s a, poison := poison }) ∧
    ∀ die' u, s.target f (s.rv b).toNat = .engine die' u → s.reaches f die die' = true → poison = false →
      s.member f (clusterOf s.cur) = true → s.routeHeld die die' = false →
      let e := aget {} (s.die die').engines u
      e.ready = true → e.inbox.length < 64 → (e.inbox.filter fun k => k.fn == f).length < 16 →
      Reaches (exec (.eng d a b c) s) fun t => t.me.raw d = (0, false) ∧ t.me.pc = s.me.pc + 4 ∧
        aget {} (t.die die').engines u = { e with inbox := e.inbox ++
          [{ word0 := payloadWord s a 0, word1 := payloadWord s a 1, word2 := payloadWord s a 2,
             word3 := payloadWord s a 3, fn := f, level := s.me.level, sender := s.cur, crew := s.me.crew }] }

/-- R245, R246, R251: where a channel is eligible on a context, its handler run starts: the stack takes the PC, the level,
the wait, an item handed to it and the run's priority and channel; the PC is the handler's, the level user or supervisor as
the binding says, and the pending bit is clear. MRET of that run, with nothing in between, brings back PC, level and wait,
ends RUN, and sets the pending bit again where a message is left. -/
def Obligations.HandlerRunsStartAndReturn : Prop :=
  ∀ (s : State) (g ch : Nat), s.eligibleChan g = some ch → g = s.cur →
    let x := s.chan (coreOf g) ch
    Reaches (exec (.handlerRun g) s) fun t =>
      t.me = { s.me with
        pc := bindPc x.binding, level := if bindSup x.binding then .supervisor else .user, wait := none,
        handed := none
        handlers := { pc := s.me.pc, level := s.me.level, prio := bindPrio x.binding, chan := ch, wait := s.me.wait
                      handed := s.me.handed } :: s.me.handlers } ∧
      t.chan (coreOf g) ch = { x with pend := false, run := true } ∧
      Reaches (exec .mret t) fun u =>
        u.me = { s.me with reissue := none, cut := none } ∧
        u.chan (coreOf g) ch =
          { x with run := s.me.handlers.any (fun h => h.chan == ch), pend := !x.fifo.isEmpty } ∧
        ∀ h, h ≠ g → u.ctx h = s.ctx h

/-! ### PUT and barrier objects (R256, R257, R263 to R267) -/

/-- A delivery as PUT leaves it under a serial number: for which core and crew, of which bytes, with which barrier. -/
def Sys2Proof.DeliveryIs (t : State) (k core crew : Nat) (w : Word) (c : BitVec 4) (bytes : List Byte)
    (bar : PutBarrier) : Prop :=
  let j := aget { sender := 0, cls := 0, fn := 0, core := 0, crew := 0, offset := 0, bytes := [], poison := [] } t.puts k
  j.sender = t.cur ∧ j.core = core ∧ j.crew = crew ∧ j.offset = putOffset w ∧ j.bytes = bytes ∧ j.cls = c.toNat ∧
  j.barrier = bar ∧ j.message.isSome = putCmpl w

/-- The barrier address of a PUT is one it takes (R256): a multiple of 16, and in the scratch window of slot 16. -/
abbrev Sys2Proof.GoodBarrier (sc : Word) : Prop :=
  sc.toNat % 16 = 0 ∧ (inWindow sc.toNat = true → sc.toNat / 2 ^ 20 % 2 ^ 5 = 16)

/-- The barrier of a PUT at firmware level: none for 0, a place in the destination's region for a window address, else the
object at the address, in device memory that serves. -/
def Sys2Proof.BarrierAt (s : State) (sc : Word) (bar : PutBarrier) : Prop :=
  if sc = 0 then bar = .none
  else if inWindow sc.toNat then bar = .region (sc.toNat % 2 ^ 20)
  else PlainBytes s sc.toNat 16 ∧ bar = .at sc.toNat noKey

/-- R256, R257: PUT, with or without a barrier, at firmware level with no pending access of the thread, of a source in clean
device memory, to a core that accepts on no way that is held, writes 0, and the delivery of exactly the bytes stored stands
under the next serial number; PUTM writes a mask with bit i set where core i of the cluster is named and accepts. The same
at every level and under every translation, for a source that resolves and reads clean, where `u` is the machine with the
source and the barrier resolved, and `v` with the source read. -/
def Obligations.PutsStartDeliveries : Prop :=
  ∀ (s : State) (d a b e : BitVec 5) (c : BitVec 4), s.me.reissue = none →
    s.rp a = false → s.rp b = false → s.rp e = false → GoodBarrier (s.rv e) → s.ownMsgs s.cur (fun _ => true) = [] →
    let w := s.rv b
    let n := putLen w
    let mask := fun (v t : State) => d ≠ 0 → ∀ i, i < 64 → (t.me.raw d).1.getLsbD i =
      (decide (i < 16) && (putMask w).testBit i &&
        decide ((v.putStatus v.me.fn (putCore w + i) (putChan w) (putOffset w) n).1 = 0))
    (∀ bar, s.me.level = .firmware → s.me.pend = [] → PlainBytes s (s.rv a).toNat n → BarrierAt s (s.rv e) bar →
      (∀ core k, goodPut false w = true → s.putHeld s.me.fn [putCore w] = false →
        s.putStatus s.me.fn (putCore w) (putChan w) (putOffset w) n = (0, some (core, k)) →
        Reaches (exec (.put d a b e c) s) fun t =>
          WroteOne { s with puts := t.puts, serial := s.serial + 1 } t d 0 false false ∧
          DeliveryIs t s.serial core k w c (storedBytes s (s.rv a).toNat n) bar) ∧
      (goodPut true w = true → s.putHeld s.me.fn (putCores true w) = false →
        Reaches (exec (.putm d a b e c) s) fun t => t.me.pc = s.me.pc + 4 ∧ SameBytes s t ∧ mask s t)) ∧
    ∀ u u' v ps bar bytes,
      (s.beforeWalk s.cur s.agent .load (s.rv a).toNat n).resolve s.agent .load (s.rv a).toNat n = (u', .ok ps) →
      u'.putBarrierAt (s.rv e) = (u, .ok bar) → u.loadParts u.cur .msg c.toNat ps = (v, bytes, false) →
      (∀ core k, goodPut false w = true → s.putHeld s.me.fn [putCore w] = false →
        v.putStatus v.me.fn (putCore w) (putChan w) (putOffset w) n = (0, some (core, k)) →
        Reaches (exec (.put d a b e c) s) fun t =>
          t.me.raw d = (0, false) ∧ t.me.pc = s.me.pc + 4 ∧ DeliveryIs t v.serial core k w c bytes bar) ∧
      (goodPut true w = true → s.putHeld s.me.fn (putCores true w) = false →
        Reaches (exec (.putm d a b e c) s) fun t => t.me.pc = s.me.pc + 4 ∧ mask v t)

/-- What an arrival of `c` does to a barrier object (R264). -/
def Sys2Proof.arrived (o : BarObj) (c : Nat) : BarObj :=
  let full := { o with phase := (o.phase + 1) % 16, arrived := 0, bytes := 0 }
  if o.expect < o.arrived + c then { full with ovr := true }
  else if o.arrived + c = o.expect ∧ o.bytes = 0 then full
  else { o with arrived := o.arrived + c }

/-- R263 to R267: at firmware level, with no store and no revocation pending, on 16 aligned clean bytes of device memory:
BINIT makes a fresh object; on a valid object BARR arrives, completing the phase where all came, and writes the old phase
and count with the completion and overrun marks; BEXP adds to the expected bytes; BQRY reads a word; BWAIT answers 2 on an
overrun, 0 in another phase, and waits in the same. No other byte changes. -/
def Obligations.BarrierObjects : Prop :=
  ∀ (s : State) (d a b : BitVec 5) (c : BitVec 4), s.me.reissue = none → s.me.revoke = none → s.me.wait = none →
    s.rp a = false → s.rp b = false → s.me.level = .firmware → s.me.pend = [] →
    let at_ := (s.rv a).toNat
    at_ % 16 = 0 → PlainBytes s at_ 16 →
    let rest := fun (t : State) => { s with mem := t.mem, lineKey := t.lineKey, tags := t.tags, cores := t.cores, l2 := t.l2 }
    (1 ≤ (s.rv b).toNat → (s.rv b).toNat ≤ 65535 → Reaches (exec (.binit a b c) s) fun t =>
      MovedTo (rest t) t (s.me.pc + 4) ∧ StoredAt s t at_ (leBytes 16 (s.rv b).toNat)) ∧
    ∀ o, BarObj.of (leNat (storedBytes s at_ 16)) = some o →
      (1 ≤ (s.rv b).toNat → (s.rv b).toNat ≤ 65535 → Reaches (exec (.barr d a b c) s) fun t =>
        let n := arrived o (s.rv b).toNat
        WroteOne (rest t) t d (BitVec.ofNat 64 (o.phase + (if n.phase = o.phase then 0 else 16) +
          (if o.expect < o.arrived + (s.rv b).toNat then 32 else 0) + o.arrived * 65536)) false false ∧
        BarObj.of (leNat (storedBytes t at_ 16)) = some n ∧
        ∀ l, l < at_ ∨ at_ + 16 ≤ l → t.stored l = s.stored l) ∧
      (o.bytes + (s.rv b).toNat < 2 ^ 48 → Reaches (exec (.bexp d a b c) s) fun t =>
        WroteOne (rest t) t d 0 false false ∧
        BarObj.of (leNat (storedBytes t at_ 16)) = some { o with bytes := o.bytes + (s.rv b).toNat } ∧
        ∀ l, l < at_ ∨ at_ + 16 ≤ l → t.stored l = s.stored l) ∧
      ((s.rv b).toNat ≤ 1 → Reaches (exec (.bqry d a b c) s) fun t =>
        WroteOne s t d (BitVec.ofNat 64 (leNat (storedBytes s (at_ + 8 * (s.rv b).toNat) 8))) false false) ∧
      ((o.ovr || o.bovr) = true → Reaches (exec (.bwait d a b c) s) fun t => WroteOne s t d 2 false false) ∧
      ((o.ovr || o.bovr) = false → o.phase ≠ (s.rv b).toNat % 16 →
        Reaches (exec (.bwait d a b c) s) fun t => WroteOne s t d 0 false false) ∧
      ((o.ovr || o.bovr) = false → o.phase = (s.rv b).toNat % 16 → Reaches (exec (.bwait d a b c) s) fun t =>
        OnlyMe s t ∧ t.me = { s.me with wait := some (.bwait at_ noKey ((s.rv b).toNat % 16) ((s.rv b).toNat / 16)) })

/-! ### Vectors: elements (R5, R131, R132, R135, R136, R138 to R145) -/

/-- The checks of R135 pass for a vector instruction under a type and a register count. -/
def Sys2Proof.Legal (i : Instr) (type count : Nat) : Prop := ∃ x, vecSpec i type = some x ∧ x.cause count = 0

/-- A vector instruction runs to its end: it is legal under the type and count in force, and it either runs out of the
vector queue or passes scalar decode, with no poisoned control operand, no revocation pending, and no FENCE.SV to await. -/
def Sys2Proof.VectorRuns (s : State) (i : Instr) : Prop :=
  s.me.cut = none ∧ Legal i s.me.vt (regCount s.me.ncode.toNat) ∧
  ((∃ e, s.me.reissue = some e ∧ e.after = 0) ∨
    s.me.reissue = none ∧ s.me.revoke = none ∧ s.me.svHold &&& awaits i = 0 ∧ Legal i s.me.dcodeType (regCount s.me.dcode.toNat) ∧
      ∀ x, vecSpec i s.me.dcodeType = some x → ∀ r ∈ x.control, s.rp r = false)

/-- The word after an instruction that the scalar stream runs; the PC stands where it is for one out of the queue. -/
def Sys2Proof.pcAfter (s : State) : Word := if s.me.reissue.isSome then s.me.pc else s.me.pc + 4

/-- A vector instruction retired with flags (R20, R136): of the whole machine only its context, `c` but for what is named
here, and the mismatch windows of its cluster changed. -/
def Sys2Proof.Retired (s t : State) (c : Ctx) (fl : Flags) : Prop :=
  OnlyMe { s with clusters := t.clusters } t ∧
  (∀ k, t.cluster k = { s.cluster k with mismatches := (t.cluster k).mismatches }) ∧
  t.me = { c with
    pc := pcAfter s, vec := t.me.vec, cir := t.me.cir, history := t.me.history, pointers := t.me.pointers, mismatch := 0
    vstart := 0
    fstat := s.me.fstat ||| fl.zeroExtend 64, reissue := none, wait := none, cut := none }

/-- The elements an instruction processes under a mask (R5). -/
def Sys2Proof.activeOf (c : Ctx) (mk : BitVec 4) : List Nat :=
  (List.range c.len).filter fun e => decide (c.start ≤ e) && (c.vec.selects mk e).1

/-- All of the flags. -/
def Sys2Proof.allFlags (fs : List Flags) : Flags := fs.foldl (· ||| ·) noFlags

/-- No scalar register, register row, or mask segment of the context is poisoned, nor anything that its instruction out of
the queue brings with it. -/
abbrev Sys2Proof.Unpoisoned (c : Ctx) : Prop :=
  c.poison = 0 ∧ c.vec.rowPoison = [] ∧ c.vec.maskPoison = [] ∧
  ∀ e, c.reissue = some e → e.part.2 = false ∧ ∀ k ∈ e.caps, k.poison = false

/-- An element-wise instruction ended (R139): each active element of the destination, read at width `w`, holds `f` of its
number, every other element and every row outside the destination what it held, and the flags of the active elements
have merged. Where nothing was poisoned nothing is, and nothing was consumed. -/
def Sys2Proof.ElementsAre (s t : State) (d : BitVec 6) (w : Nat) (mk : BitVec 4) (f : Nat → Nat × Flags) : Prop :=
  let c := s.me
  let x := c.geo
  let k := w / x.ew
  Retired s t c (allFlags ((activeOf c mk).map fun e => (f e).2)) ∧
  t.me.vec = { c.vec with rows := t.me.vec.rows, rowPoison := t.me.vec.rowPoison } ∧
  (∀ e, e < 512 / w * x.g * (k * x.rpr) → (t.me.vec.elem x w d.toNat e).1 =
    if c.start ≤ e ∧ e < c.len ∧ (c.vec.selects mk e).1 = true then (f e).1 % 2 ^ w
    else (c.vec.elem x w d.toNat e).1) ∧
  (∀ lane row, row < 64 → (row < d.toNat * x.rpr ∨ (d.toNat + k) * x.rpr ≤ row) →
    t.me.vec.row lane row = c.vec.row lane row) ∧
  (Unpoisoned c → Unpoisoned t.me ∧ t.me.cir = c.cir)

/-- Sat (R14): an integer clamped to a type, with the flag where it was outside. -/
def Sys2Proof.clampTo (t : Nat) (y : Int) : Nat × Flags :=
  let w := typeWidth t
  let lo : Int := if t < 4 then -2 ^ (w - 1) else 0
  let hi : Int := if t < 4 then 2 ^ (w - 1) - 1 else 2 ^ w - 1
  ((BitVec.ofInt w (max lo (min hi y))).toNat, if lo ≤ y ∧ y ≤ hi then noFlags else flagSAT)

/-- An integer divided by 2^k and rounded by a mode (R16, R141). -/
def Sys2Proof.roundedShift (rm : Nat) (y : Int) (k : Nat) : Int :=
  let q := y / 2 ^ k
  let r := 2 * (y % 2 ^ k)
  let half : Int := 2 ^ k
  if y % 2 ^ k = 0 then q
  else match rm with
    | 0 => if half < r ∨ (r = half ∧ q % 2 ≠ 0) then q + 1 else q
    | 1 => if y < 0 then q + 1 else q
    | 2 => q
    | 3 => q + 1
    | _ => if half < r ∨ (r = half ∧ 0 ≤ y) then q + 1 else q

/-- What R140, R141 and R145 say an integer vector instruction or a move does: destination, its width in element widths,
mask, and the value of element `e` with its flags. -/
def Sys2Proof.intElements (s : State) (i : Instr) :
    Option (BitVec 6 × Nat × BitVec 4 × (Nat → Nat × Flags)) :=
  let c := s.me
  let t := c.vt
  let w := c.vw
  let at_ := fun k (v : BitVec 6) e => (c.vec.elem c.geo (k * w) v.toNat e).1
  let sc := fun r => (s.rv r).toNat % 2 ^ w
  let out := fun (k : Nat) (y : Int) => ((BitVec.ofInt (k * w) y).toNat, noFlags)
  let vv := fun d a b m (f : Nat → Nat → Nat × Flags) => some (d, 1, m, fun e => f (at_ 1 a e) (at_ 1 b e))
  let vs := fun d a b m (f : Nat → Nat → Nat × Flags) => some (d, 1, m, fun e => f (at_ 1 a e) (sc b))
  let z := fun x => atKind t x
  let add := fun (x y : Nat) => out 1 (z x + z y)
  let sub := fun (x y : Nat) => out 1 (z x - z y)
  let mul := fun (x y : Nat) => out 1 (z x * z y)
  let mulh := fun (x y : Nat) => out 1 (z x * z y / 2 ^ w)
  let least := fun (x y : Nat) => out 1 (min (z x) (z y))
  let most := fun (x y : Nat) => out 1 (max (z x) (z y))
  let and := fun (x y : Nat) => (x &&& y, noFlags)
  let or := fun (x y : Nat) => (x ||| y, noFlags)
  let xor := fun (x y : Nat) => (x ^^^ y, noFlags)
  let sll := fun (x y : Nat) => out 1 (x * 2 ^ (y % w))
  let srl := fun (x y : Nat) => out 1 (x / 2 ^ (y % w))
  let sra := fun (x y : Nat) => out 1 ((BitVec.ofNat w x).toInt / 2 ^ (y % w))
  let adds := fun (x y : Nat) => clampTo t (z x + z y)
  let subs := fun (x y : Nat) => clampTo t (z x - z y)
  let macc := fun (base : Nat) (d a b : BitVec 6) e =>
    let y := atKind (base + 1 + t % 4) (at_ 2 d e) + atKind (base + t % 4) (at_ 1 a e) * atKind (base + t % 4) (at_ 1 b e)
    if c.vsat then clampTo (base + 1 + t % 4) y else out 2 y
  match i with
  | .vaddVV d a b m => vv d a b m add
  | .vsubVV d a b m => vv d a b m sub
  | .vmulVV d a b m => vv d a b m mul
  | .vmulhVV d a b m => vv d a b m mulh
  | .vminVV d a b m => vv d a b m least
  | .vmaxVV d a b m => vv d a b m most
  | .vandVV d a b m => vv d a b m and
  | .vorVV d a b m => vv d a b m or
  | .vxorVV d a b m => vv d a b m xor
  | .vsllVV d a b m => vv d a b m sll
  | .vsrlVV d a b m => vv d a b m srl
  | .vsraVV d a b m => vv d a b m sra
  | .vaddsVV d a b m => vv d a b m adds
  | .vsubsVV d a b m => vv d a b m subs
  | .vaddVS d a b m => vs d a b m add
  | .vsubVS d a b m => vs d a b m sub
  | .vmulVS d a b m => vs d a b m mul
  | .vmulhVS d a b m => vs d a b m mulh
  | .vminVS d a b m => vs d a b m least
  | .vmaxVS d a b m => vs d a b m most
  | .vandVS d a b m => vs d a b m and
  | .vorVS d a b m => vs d a b m or
  | .vxorVS d a b m => vs d a b m xor
  | .vsllVS d a b m => vs d a b m sll
  | .vsrlVS d a b m => vs d a b m srl
  | .vsraVS d a b m => vs d a b m sra
  | .vaddsVS d a b m => vs d a b m adds
  | .vsubsVS d a b m => vs d a b m subs
  | .vwadd d a b m => some (d, 2, m, fun e => out 2 (z (at_ 1 a e) + z (at_ 1 b e)))
  | .vwmacc d a b m => some (d, 2, m, macc 0 d a b)
  | .vwmaccu d a b m => some (d, 2, m, macc 4 d a b)
  | .vnclip d a b m => some (d, 1, m, fun e =>
      clampTo t (roundedShift c.vrm (atKind (t + 1) (at_ 2 a e)) (at_ 1 b e % (2 * w))))
  | .vmv d a m => some (d, 1, m, fun e => (at_ 1 a e, noFlags))
  | .vbcast d b m => some (d, 1, m, fun _ => (sc b, noFlags))
  | .vidx d m => some (d, 1, m, fun e => (e % 2 ^ w, noFlags))
  | _ => none

/-- R139 to R141, R145: every integer vector instruction and vector move that passes decode, with VL at most VLMAX, runs;
each active element takes the value of the tables, from its sources as they were, and nothing else of the register file,
of the machine, or of memory changes. -/
def Obligations.VectorIntegerResults : Prop :=
  ∀ (s : State) (i : Instr) (d : BitVec 6) (k : Nat) (mk : BitVec 4) (f : Nat → Nat × Flags),
    VectorRuns s i → s.me.len ≤ s.me.geo.vlmax → intElements s i = some (d, k, mk, f) →
    Reaches (exec i s) fun t => ElementsAre s t d (k * s.me.vw) mk f

/-- What R142 to R144 say a floating-point vector instruction or a conversion does: destination, mask, and the value of
element `e` with its flags. -/
def Sys2Proof.floatElements (s : State) (i : Instr) : Option (BitVec 6 × BitVec 4 × (Nat → Nat × Flags)) :=
  let c := s.me
  let t := c.vt
  let w := c.vw
  let rm := c.vrm
  let bits := fun (v : BitVec 6) e => (c.vec.elem c.geo w v.toNat e).1
  let low := fun r => (s.rv r).toNat % 2 ^ w
  let x := decodeFloat t
  let vv := fun d a b m (f : Nat → Nat → Nat → Nat × Flags) => some (d, m, fun e => f (bits a e) (bits b e) (bits d e))
  let vs := fun d a b m (f : Nat → Nat → Nat → Nat × Flags) => some (d, m, fun e => f (bits a e) (low b) (bits d e))
  let v1 := fun d a m (f : Nat → Nat × Flags) => some (d, m, fun e => f (bits a e))
  let add := fun a b (_ : Nat) => addValues t rm (x a) (x b)
  let sub := fun a b (_ : Nat) => addValues t rm (x a) (x b).negate
  let mul := fun a b (_ : Nat) => mulValues t rm (x a) (x b)
  let fma := fun a b y => fmaValues t rm (x a) (x b) (x y)
  let fms := fun a b y => fmaValues t rm (x a) (x b) (x y).negate
  let fnma := fun a b y => fmaValues t rm (x a).negate (x b) (x y)
  let div := fun a b (_ : Nat) => divValues t rm (x a) (x b)
  let least := fun a b (_ : Nat) => minMaxFloat t false a b
  let most := fun a b (_ : Nat) => minMaxFloat t true a b
  match i with
  | .vfaddVV d a b m => vv d a b m add
  | .vfsubVV d a b m => vv d a b m sub
  | .vfmulVV d a b m => vv d a b m mul
  | .vfmaVV d a b m => vv d a b m fma
  | .vfmsVV d a b m => vv d a b m fms
  | .vfnmaVV d a b m => vv d a b m fnma
  | .vfdivVV d a b m => vv d a b m div
  | .vfminVV d a b m => vv d a b m least
  | .vfmaxVV d a b m => vv d a b m most
  | .vfaddVS d a b m => vs d a b m add
  | .vfsubVS d a b m => vs d a b m sub
  | .vfmulVS d a b m => vs d a b m mul
  | .vfmaVS d a b m => vs d a b m fma
  | .vfmsVS d a b m => vs d a b m fms
  | .vfnmaVS d a b m => vs d a b m fnma
  | .vfdivVS d a b m => vs d a b m div
  | .vfminVS d a b m => vs d a b m least
  | .vfmaxVS d a b m => vs d a b m most
  | .vfsqrt d a m => v1 d a m fun y => sqrtValue t rm (x y)
  | .vfrsq d a m => v1 d a m (vfRsq t rm)
  | .vfrec d a m => v1 d a m (vfRec t rm)
  | .vfexp2 d a m => v1 d a m (vfExp2 t rm)
  | .vflog2 d a m => v1 d a m (vfLog2 t rm)
  | .vfsin d a m => v1 d a m (vfSin t rm)
  | .vfcos d a m => v1 d a m (vfCos t rm)
  | .vcvt d a m src => some (d, m, fun e =>
      convert (c.vec.elem c.geo (typeWidth src.toNat) a.toNat e).1 src.toNat t rm c.vsat)
  | _ => none

/-- R142 to R144: every floating-point vector instruction and conversion that passes decode, with VL at most VLMAX, runs
and leaves each active element the result of the tables, an approximated function the value the model's free choice
within its bound gives (log 13), and nothing else changed. -/
def Obligations.VectorFloatResults : Prop :=
  ∀ (s : State) (i : Instr) (d : BitVec 6) (mk : BitVec 4) (f : Nat → Nat × Flags),
    VectorRuns s i → s.me.len ≤ s.me.geo.vlmax → floatElements s i = some (d, mk, f) →
    Reaches (exec i s) fun t => ElementsAre s t d s.me.vw mk f

/-! ### Vectors: masks (R12, R146, R150, R151, R155, R156, R164) -/

/-- An instruction that writes bits of a mask ended: each active bit of the destination is as `f` says, every other bit of
it and every other mask is as before, and the flags of the active elements have merged. -/
def Sys2Proof.MaskBitsAre (s t : State) (d mk : BitVec 4) (f : Nat → Bool × Flags) : Prop :=
  let c := s.me
  Retired s t c (allFlags ((activeOf c mk).map fun e => (f e).2)) ∧
  t.me.vec = { c.vec with masks := t.me.vec.masks, maskPoison := t.me.vec.maskPoison } ∧
  (∀ e, e < 131072 → (t.me.vec.maskBit d.toNat e).1 =
    if c.start ≤ e ∧ e < c.len ∧ (c.vec.selects mk e).1 = true then (f e).1 else (c.vec.maskBit d.toNat e).1) ∧
  (∀ m i, m < 16 → m ≠ d.toNat → i < 256 → t.me.vec.segment m i = c.vec.segment m i) ∧
  (Unpoisoned c → Unpoisoned t.me ∧ t.me.cir = c.cir)

/-- What R146, R155 and R164 say an instruction with a mask destination does: destination, mask, and bit `e` with its
flags. A compare with a poisoned source gives 0; a group size of 0 leaves the mask as it is. -/
def Sys2Proof.maskElements (s : State) (i : Instr) : Option (BitVec 4 × BitVec 4 × (Nat → Bool × Flags)) :=
  let c := s.me
  let t := c.vt
  let el := fun (v : BitVec 6) e => c.vec.elem c.geo c.vw v.toNat e
  let bit := fun (m : BitVec 4) e => (c.vec.maskBit m.toNat e).1
  let vv := fun d a b mk (f : Int → Int → Bool) => some (d, mk, fun e =>
    (f (atKind t (el a e).1) (atKind t (el b e).1) && !((el a e).2 || (el b e).2), noFlags))
  let vs := fun d a (b : BitVec 5) mk (f : Int → Int → Bool) => some (d, mk, fun e =>
    (f (atKind t (el a e).1) (atKind t ((s.rv b).toNat % 2 ^ c.vw)) && !((el a e).2 || s.rp b), noFlags))
  let vf := fun d a b mk k => some (d, mk, fun e =>
    let q := compareFloat t k (el a e).1 (el b e).1
    (q.1 && !((el a e).2 || (el b e).2), q.2))
  let ml := fun d (f : Nat → Bool) => some (d, (0 : BitVec 4), fun e => (f e, noFlags))
  match i with
  | .vcmpEqVV d a b m => vv d a b m fun x y => decide (x = y)
  | .vcmpNeVV d a b m => vv d a b m fun x y => decide (x ≠ y)
  | .vcmpLtVV d a b m => vv d a b m fun x y => decide (x < y)
  | .vcmpLeVV d a b m => vv d a b m fun x y => decide (x ≤ y)
  | .vcmpGtVV d a b m => vv d a b m fun x y => decide (y < x)
  | .vcmpGeVV d a b m => vv d a b m fun x y => decide (y ≤ x)
  | .vcmpEqVS d a b m => vs d a b m fun x y => decide (x = y)
  | .vcmpNeVS d a b m => vs d a b m fun x y => decide (x ≠ y)
  | .vcmpLtVS d a b m => vs d a b m fun x y => decide (x < y)
  | .vcmpLeVS d a b m => vs d a b m fun x y => decide (x ≤ y)
  | .vcmpGtVS d a b m => vs d a b m fun x y => decide (y < x)
  | .vcmpGeVS d a b m => vs d a b m fun x y => decide (y ≤ x)
  | .vfcmpEq d a b m => vf d a b m .eq
  | .vfcmpNe d a b m => vf d a b m .ne
  | .vfcmpLt d a b m => vf d a b m .lt
  | .vfcmpLe d a b m => vf d a b m .le
  | .mand d a b => ml d fun e => bit a e && bit b e
  | .mor d a b => ml d fun e => bit a e || bit b e
  | .mxor d a b => ml d fun e => bit a e != bit b e
  | .mnot d a => ml d fun e => !bit a e
  | .mset d => ml d fun _ => true
  | .mclr d => ml d fun _ => false
  | .vgrpmsk d a b mk => some (d, mk, fun e =>
      (if (s.rv b).toNat = 0 then bit d e else bit a (e / (s.rv b).toNat), noFlags))
  | _ => none

/-- R146, R155, R164: every compare, every mask-logic instruction and VGRPMSK that passes decode runs and leaves each
active bit of its mask the result of the tables, from its sources as they were, and nothing else changed. That VGRPMSK whose
source mask is its destination reads every bit as it was before the instruction is the model's reading (log 21). -/
def Obligations.MasksTakeTheirBits : Prop :=
  ∀ (s : State) (i : Instr) (d mk : BitVec 4) (f : Nat → Bool × Flags),
    VectorRuns s i → s.me.len ≤ 131072 → maskElements s i = some (d, mk, f) →
    Reaches (exec i s) fun t => MaskBitsAre s t d mk f

/-! ### Vectors: scalar results (R27 to R29, R147, R156, R162) -/

/-- An instruction of the vector queue with a scalar destination ended: the register holds the value and the poison, s0
nothing, and the vector state is as before. -/
def Sys2Proof.ScalarIs (s t : State) (d : BitVec 5) (v : Word) (p : Bool) (fl : Flags) : Prop :=
  Retired s t { s.me with regs := t.me.regs, poison := t.me.poison } fl ∧ t.me.vec = s.me.vec ∧
  (∀ r, t.me.raw r = if r = d ∧ d ≠ 0 then (v, p) else s.me.raw r) ∧ t.me.cir = cirAfter p s.me.cir

/-- The register's value of an element of a type code: sign-extended for INT, zeros above it otherwise. -/
def Sys2Proof.asWord (t : Nat) (x : Nat) : Word :=
  if t < 4 then BitVec.ofInt 64 (atKind t x) else BitVec.ofNat 64 x

/-- The fold of one lane's active elements in ascending order, each with its flags; none where there is none. -/
def Sys2Proof.foldLane (op : Nat → Nat → Nat × Flags) : List Nat → Option (Nat × Flags)
  | [] => none
  | x :: xs => some (xs.foldl (fun a y => ((op a.1 y).1, a.2 ||| (op a.1 y).2)) (x, noFlags))

/-- The binary tree over places (R27): neighbours combine, an absent one gives way, a last odd one goes up as it is. -/
def Sys2Proof.treeOf (op : Nat → Nat → Nat × Flags) : Nat → List (Option (Nat × Flags)) → Option (Nat × Flags)
  | 0, xs => xs.head?.join
  | n + 1, xs =>
    treeOf op n ((List.range ((xs.length + 1) / 2)).map fun i =>
      match (xs[2 * i]?).join, (xs[2 * i + 1]?).join with
      | some x, some y => some ((op x.1 y.1).1, x.2 ||| y.2 ||| (op x.1 y.1).2)
      | some x, none => some x
      | none, y => y)

/-- The initial value combined with a result. -/
def Sys2Proof.after (op : Nat → Nat → Nat × Flags) (a : Nat × Flags) : Option (Nat × Flags) → Nat × Flags
  | none => a
  | some z => ((op a.1 z.1).1, a.2 ||| z.2 ||| (op a.1 z.1).2)

/-- ReduceNormal and ReduceRepro (R28, R29) of the active elements of a register. -/
def Sys2Proof.reduced (s : State) (op : Nat → Nat → Nat × Flags) (a : BitVec 6) (b : BitVec 5) (mk : BitVec 4) :
    Nat × Flags :=
  let c := s.me
  let x := c.geo
  let value := fun e => (c.vec.elem x c.vw a.toNat e).1
  let act := activeOf c mk
  let init := ((s.rv b).toNat % 2 ^ c.vw, noFlags)
  if c.vrpro then
    (List.range ((c.len + 31) / 32)).foldl (fun acc j =>
      after op acc (treeOf op 5 ((List.range 32).map fun p =>
        if act.contains (32 * j + p) then some (value (32 * j + p), noFlags) else none))) init
  else
    after op init (treeOf op x.g ((List.range x.g).map fun l =>
      foldLane op ((act.filter fun e => decide (e / x.epr % x.g = l)).map value)))

/-- The destination, source, initial scalar, mask and operation of a reduction (R147). -/
def Sys2Proof.reduction (s : State) (i : Instr) :
    Option (BitVec 5 × BitVec 6 × BitVec 5 × BitVec 4 × (Nat → Nat → Nat × Flags)) :=
  let t := s.me.vt
  let w := s.me.vw
  let z := atKind t
  let int := fun (y : Int) => ((BitVec.ofInt w y).toNat, noFlags)
  match i with
  | .vrsum d a b m => some (d, a, b, m, fun x y => int (z x + z y))
  | .vrmax d a b m => some (d, a, b, m, fun x y => int (max (z x) (z y)))
  | .vrmin d a b m => some (d, a, b, m, fun x y => int (min (z x) (z y)))
  | .vfrsum d a b m => some (d, a, b, m, fun x y => addValues t s.me.vrm (decodeFloat t x) (decodeFloat t y))
  | .vfrmax d a b m => some (d, a, b, m, fun x y => minMaxFloat t true x y)
  | _ => none

/-- A row that an active element of a register lies in, or the mask segment that selects it, is poisoned. -/
def Sys2Proof.readsPoison (c : Ctx) (a : BitVec 6) (mk : BitVec 4) : Bool :=
  (activeOf c mk).any fun e => (c.vec.elem c.geo c.vw a.toNat e).2 || (c.vec.selects mk e).2

/-- R27 to R29, R147: every reduction that passes decode writes its scalar the fold of the active elements in the order of
the mode, the tree over the lanes or the blocks of 32, with the poison of what it read; MCNT, MANY and MFIRST write the
count of the set bits from VSTART to VL − 1, whether there is one, and the lowest, all ones for none. -/
def Obligations.ReductionsAndMaskCounts : Prop :=
  ∀ (s : State) (i : Instr), VectorRuns s i →
    (∀ d a b mk op, reduction s i = some (d, a, b, mk, op) → Reaches (exec i s) fun t =>
      ScalarIs s t d (asWord s.me.vt (reduced s op a b mk).1) (s.rp b || readsPoison s.me a mk) (reduced s op a b mk).2) ∧
    ∀ (d : BitVec 5) (a : BitVec 4),
      let set := ((List.range s.me.len).filter fun e => decide (s.me.start ≤ e)).filter fun e =>
        (s.me.vec.maskBit a.toNat e).1
      let p := (List.range s.me.len).any fun e => decide (s.me.start ≤ e) && (s.me.vec.maskBit a.toNat e).2
      (i = .mcnt d a → Reaches (exec i s) fun t => ScalarIs s t d (BitVec.ofNat 64 set.length) p noFlags) ∧
      (i = .many d a → Reaches (exec i s) fun t => ScalarIs s t d (if set = [] then 0 else 1) p noFlags) ∧
      (i = .mfirst d a → Reaches (exec i s) fun t =>
        ScalarIs s t d (match set with | [] => BitVec.ofInt 64 (-1) | e :: _ => BitVec.ofNat 64 e) p noFlags)

/-! ### Vectors: lane crossing (R157 to R165) -/

/-- A whole instruction that writes elements of one register ended: element `e`, read at width `w`, is `f e`, or what it was
where `f` gives none; every row outside the register is as before. -/
def Sys2Proof.ElementsMoved (s t : State) (c : Ctx) (d : BitVec 6) (w : Nat) (f : Nat → Option Nat) (fl : Flags) : Prop :=
  let x := s.me.geo
  Retired s t c fl ∧ t.me.vec = { s.me.vec with rows := t.me.vec.rows, rowPoison := t.me.vec.rowPoison } ∧
  (∀ e, e < 512 / w * x.g * x.rpr →
    (t.me.vec.elem x w d.toNat e).1 = ((f e).getD (s.me.vec.elem x w d.toNat e).1) % 2 ^ w) ∧
  (∀ lane row, row < 64 → (row < d.toNat * x.rpr ∨ (d.toNat + 1) * x.rpr ≤ row) →
    t.me.vec.row lane row = s.me.vec.row lane row) ∧
  (Unpoisoned s.me → Unpoisoned t.me ∧ t.me.cir = s.me.cir)

/-- The greatest of numbered elements of a type, the lowest number of equals (R162). -/
def Sys2Proof.best (t : Nat) (xs : List (Nat × Nat)) : Option (Nat × Nat) :=
  xs.find? fun x => xs.all fun y => !ranksAbove t y.2 x.2

/-- The sum of the two greatest of numbered elements (R163); of one, itself, also where it is a NaN (log 30). -/
def Sys2Proof.bestTwo (t rm : Nat) (xs : List (Nat × Nat)) : Nat × Flags :=
  match best t xs with
  | none => (if 8 ≤ t then (formatOf t).inf true else if t < 4 then 2 ^ (typeWidth t - 1) else 0, noFlags)
  | some x =>
    let nv := if 8 ≤ t ∧ (xs.any fun y => (decodeFloat t y.2).sig) = true then flagNV else noFlags
    match best t (xs.filter fun y => y.1 != x.1) with
    | none => (x.2, nv)
    | some y =>
      let r := if 8 ≤ t then addValues t rm (decodeFloat t x.2) (decodeFloat t y.2)
        else clampTo t (atKind t x.2 + atKind t y.2)
      (r.1, r.2 ||| nv)

/-- The positions of a block of 32 that VNOFM keeps, of active positions with their elements (R165): an active one where
fewer than `n` active ones come before it, by greater magnitude or equal and a lower position; an inactive one where the
active ones and the inactive ones below it are fewer than `n`. -/
def Sys2Proof.kept (t n : Nat) (xs : List (Nat × Nat)) : List Nat :=
  (List.range 32).filter fun p =>
    match xs.find? fun x => x.1 == p with
    | some x => decide ((xs.filter fun y =>
        smaller t x.2 y.2 || (!(smaller t y.2 x.2) && decide (y.1 < x.1))).length < n)
    | none => decide (xs.length + ((List.range p).filter fun q => !(xs.any fun x => x.1 == q)).length < n)

/-- The destination of an instruction that moves whole registers, the width at which it writes, the new value of each
element it writes, and its flags (R158, R159, R161, R163, R165). -/
def Sys2Proof.movedElements (s : State) (i : Instr) : Option (BitVec 6 × Nat × (Nat → Option Nat) × Flags) :=
  let c := s.me
  let t := c.vt
  let w := c.vw
  let at_ := fun (v : BitVec 6) e => c.vec.elem c.geo w v.toNat e
  let act := fun mk => activeOf c mk
  let on := fun mk (f : Nat → Option Nat) e => if (act mk).contains e then f e else none
  let n := fun b => (s.rv b).toNat
  match i with
  | .vexpd d a mk => some (d, w, on mk fun e =>
      some (at_ a ((act mk).filter fun q => decide (q < e)).length).1, noFlags)
  | .vperm d a b mk => some (d, w, on mk fun e =>
      some (if (at_ b e).1 < c.len ∧ (at_ b e).2 = false then (at_ a (at_ b e).1).1 else 0), noFlags)
  | .vslup d a b mk => some (d, w, on mk fun e => if n b ≤ e then some (at_ a (e - n b)).1 else none, noFlags)
  | .vsldn d a b mk => some (d, w, on mk fun e =>
      some (if e + n b < c.len then (at_ a (e + n b)).1 else 0), noFlags)
  | .vrot d a b mk => some (d, w, on mk fun e => some (at_ a ((e + n b) % c.len)).1, noFlags)
  | .vgrpt2 d a b mk =>
    let gs := n b
    let count := if gs = 0 then 0 else (c.len + gs - 1) / gs
    let sum := fun j => bestTwo t c.vrm (((List.range c.len).filter fun e =>
      decide (e / gs = j) && (c.vec.selects mk e).1).map fun e => (e, (at_ a e).1))
    some (d, w, fun j => if c.start ≤ j ∧ j < count then some (sum j).1 else none,
      allFlags (((List.range count).filter fun j => decide (c.start ≤ j)).map fun j => (sum j).2))
  | .vnofm d a b mk =>
    let k := min (n b % 64) 32
    let blocks := (c.len + 31) / 32
    let xs := fun j => ((act mk).filter fun e => decide (e / 32 = j)).map fun e => (e % 32, (at_ a e).1)
    let ps := fun j => kept t k (xs j)
    if (s.rv b).getLsbD 8 then
      some (d, 32, fun j => if j < blocks then some (((ps j).map fun p => 2 ^ p).foldl (· + ·) 0) else none, noFlags)
    else
      some (d, w, fun e => if k = 0 ∨ blocks ≤ e / k then none else
        (ps (e / k))[e % k]?.map fun p => (((xs (e / k)).find? fun x => x.1 == p).map (·.2)).getD 0, noFlags)
  | _ => none

/-- R157 to R165: every lane-crossing instruction that passes decode, with VL at most VLMAX, runs. VEXPD, VPERM, the
slides, VROT, VGRPT2 and VNOFM write the elements of the table. VCPRS packs the active elements, and VL and its scalar
become their count. VPUSH gives each position below VL the highest active source that names it and marks a conflict in
VSTAT. VMAXIX writes the greatest active element and its index and clears its mask bit, or 0 and all ones. -/
def Obligations.LaneCrossingMoves : Prop :=
  ∀ (s : State) (i : Instr), VectorRuns s i → s.me.len ≤ s.me.geo.vlmax →
    let c := s.me
    let at_ := fun (v : BitVec 6) e => c.vec.elem c.geo c.vw v.toNat e
    (∀ d w f fl, movedElements s i = some (d, w, f, fl) → Reaches (exec i s) fun t => ElementsMoved s t c d w f fl) ∧
    (∀ d a b mk, i = .vcprs d a b mk → Reaches (exec i s) fun t =>
      let n := BitVec.ofNat 64 (activeOf c mk).length
      let p := (List.range c.len).any fun e => decide (c.start ≤ e) && (c.vec.maskBit mk.toNat e).2
      ElementsMoved s t { c with regs := t.me.regs, poison := t.me.poison, vl := n } d c.vw
        (fun e => (activeOf c mk)[e]?.map fun q => (at_ a q).1) noFlags ∧
      ∀ r, t.me.raw r = if r = b ∧ b ≠ 0 then (n, p) else c.raw r) ∧
    (∀ d a b mk, i = .vpush d a b mk → Reaches (exec i s) fun t =>
      let src := (activeOf c mk).filter fun e => decide ((at_ b e).1 < c.len) && !(at_ b e).2
      let onto := fun p => src.filter fun e => (at_ b e).1 == p
      ElementsMoved s t
        { c with vstat := if (∃ p, p < c.len ∧ 2 ≤ (onto p).length) then c.vstat ||| 1#64 else c.vstat } d c.vw
        (fun p => (onto p).getLast?.map fun e => (at_ a e).1) noFlags) ∧
    ∀ d a b mk, i = .vmaxix d a b mk → c.len ≤ 131072 → Reaches (exec i s) fun t =>
      let xs := (activeOf c mk).map fun e => (e, (at_ a e).1)
      let p := readsPoison c a mk || (List.range c.len).any fun e => decide (c.start ≤ e) && (c.vec.maskBit mk.toNat e).2
      let fl := if 8 ≤ c.vt ∧ (xs.any fun x => (decodeFloat c.vt x.2).sig) = true then flagNV else noFlags
      Retired s t { c with regs := t.me.regs, poison := t.me.poison } fl ∧ t.me.cir = cirAfter p c.cir ∧
      (best c.vt xs = none → t.me.vec = c.vec ∧ ∀ r, t.me.raw r =
        if r = 0 then ((0 : Word), false) else if r = b then (BitVec.allOnes 64, p) else if r = d then (0, p)
        else c.raw r) ∧
      ∀ x, best c.vt xs = some x →
        (∀ r, t.me.raw r =
          if r = 0 then ((0 : Word), false) else if r = b then (BitVec.ofNat 64 x.1, p)
          else if r = d then
            (asWord c.vt (if 8 ≤ c.vt ∧ (decodeFloat c.vt x.2).isNan = true then defaultNaN c.vt else x.2), p)
          else c.raw r) ∧
        t.me.vec = { c.vec with masks := t.me.vec.masks, maskPoison := t.me.vec.maskPoison } ∧
        ∀ m e, m < 16 → e < 131072 → (t.me.vec.maskBit m e).1 =
          if m = mk.toNat ∧ e = x.1 then false else (c.vec.maskBit m e).1

/-! ### Vectors: memory (R4, R206 to R212, R219) -/

/-- The register, mask and element addresses of a vector memory instruction (R207, R212). -/
def Sys2Proof.laneAccess (s : State) (i : Instr) : Option (BitVec 6 × BitVec 4 × (Nat → Nat)) :=
  let c := s.me
  let base := fun (r : BitVec 5) => (s.rv r).toNat
  let unit := fun r e => (base r + e * (c.vw / 8)) % 2 ^ 64
  let stride := fun r k e => (base r + e * base k) % 2 ^ 64
  let index := fun r (x : BitVec 6) e => (base r + (c.vec.elem c.geo c.vw x.toNat e).1) % 2 ^ 64
  match i with
  | .vld d a _ m | .vldff d a _ m | .vst d a _ m => some (d, m, unit a)
  | .vlds d a _ m k | .vsts d a _ m k => some (d, m, stride a k)
  | .vldx d a _ m x | .vstx d a _ m x | .vstxadd d a _ m x => some (d, m, index a x)
  | _ => none

/-- The bytes stored by the elements of a list, an element's bytes over those of the elements before it. -/
def Sys2Proof.ElementsStored (s t : State) (es : List Nat) (addr : Nat → Nat) (bytes : Nat → List Byte) : Prop :=
  ∀ l, t.stored l =
    match (es.filter fun e => decide (addr e ≤ l ∧ l < addr e + (bytes e).length)).getLast? with
    | some e => ((bytes e)[l - addr e]?).getD 0
    | none => s.stored l

/-- The result of VSTXADD at one address (R212): the elements that name it combined in ascending order, then one update of
the old value. -/
def Sys2Proof.scattered (t rm old : Nat) (xs : List Nat) : Nat × Flags :=
  let add := fun x y => if 8 ≤ t then addValues t rm (decodeFloat t x) (decodeFloat t y)
    else ((BitVec.ofInt (typeWidth t) (atKind t x + atKind t y)).toNat, noFlags)
  match xs with
  | [] => (old, noFlags)
  | x :: rest =>
    let z := rest.foldl (fun a y => ((add a.1 y).1, a.2 ||| (add a.1 y).2)) (x, noFlags)
    ((add old z.1).1, z.2 ||| (add old z.1).2)

/-- A vector instruction took a vector-side trap (R315, R317): the level that takes it has the cause, the values and the
instruction's own address; it stands with the younger instructions of its queue at the end of the replay queue; the scalar
stream is to resume where it stood; and no scalar register and no other thread changed. -/
def Sys2Proof.VectorTrapped (s t : State) (i : Instr) (cause : Nat) (value telem : Word) (gpa : BitVec 52) : Prop :=
  let l := faultLevel s cause
  let old := s.me.trapSet l
  let here : Word := match s.me.reissue with | none => s.me.pc | some e => e.addr
  t.me.level = l ∧ t.me.pc = trapVector old.vec cause ∧ t.me.resume = pcAfter s ∧ t.me.vq = [] ∧
  (t.me.trapSet l).regs =
    { cause := BitVec.ofNat 10 cause, val := value, epc := (here >>> 2) <<< 2, telem := telem
      ppl := BitVec.ofNat 2 s.me.level.code, vside := true, depth := old.regs.depth + 1
      gpa := if l = .firmware then gpa else 0 } ∧
  (t.me.trapSet l).shadow = (if old.regs.depth = 1 then old.regs else old.shadow) ∧
  t.me.replay.map (·.instr) = s.me.replay.map (·.instr) ++ i :: s.me.vq.map (·.instr) ∧
  (∀ r, t.me.raw r = s.me.raw r) ∧ ∀ g, g ≠ s.cur → t.ctx g = s.ctx g

/-- Where the accesses of vector loads and stores fault, and what is left then (R208, R210, R212, R314, R317). -/
def Sys2Proof.VectorMemoryFaults : Prop :=
  ∀ (s : State) (i : Instr) (d : BitVec 6) (mk : BitVec 4) (addr : Nat → Nat) (f : Nat), VectorRuns s i →
    s.me.len ≤ s.me.geo.vlmax → s.me.len ≤ 2 ^ 18 → s.me.pend = [] → Unpoisoned s.me →
    (∀ e, s.me.reissue = some e → e.instr = i ∧ e.begun = none) →
    laneAccess s i = some (d, mk, addr) →
    let c := s.me
    let n := c.vw / 8
    let at_ := fun (v : BitVec 6) e => (c.vec.elem c.geo c.vw v.toNat e).1
    let loads := ∃ a k, i = .vld d a k mk ∨ i = .vldff d a k mk ∨ (∃ x, i = .vlds d a k mk x) ∨ ∃ x, i = .vldx d a k mk x
    let stores := ∃ a k, i = .vst d a k mk ∨ (∃ x, i = .vsts d a k mk x) ∨ ∃ x, i = .vstx d a k mk x
    let adds := ∃ a k x, i = .vstxadd d a k mk x
    let telem := fun (kind stg lvl : Nat) => BitVec.ofNat 64 (2 ^ 31 + f + kind * 2 ^ 28 + stg * 2 ^ 27 + lvl * 2 ^ 25)
    ((activeOf c mk).head? = some f →
      (addr f % 4096 + n ≤ 4096 → (∀ e ∈ s.tlb, e.covers c.fn (addr f) = false) →
        ∀ k kind, loads ∧ k = .load ∧ kind = 1 ∨ stores ∧ k = .store ∧ kind = 2 ∨
          adds ∧ k = .atomic ∧ kind = 3 ∧ addr f % n = 0 →
        ∀ cause stg lvl gpa, pageFault s s.agent.level k (addr f) = some (cause, stg, lvl, gpa) →
        (c.trapSet (faultLevel s cause)).regs.depth ≠ 2 →
        Reaches (exec i s) fun t => t.me.vec = c.vec ∧ t.me.pend = [] ∧ SameBytes s t ∧
          t.me.vstart = (if k = .atomic then c.vstart else BitVec.ofNat 64 f) ∧
          VectorTrapped s t i cause (BitVec.ofNat 64 (addr f)) (telem kind stg lvl)
            (if 0x085 ≤ cause ∧ cause ≤ 0x087 then BitVec.ofNat 52 gpa else 0)) ∧
      (adds → addr f % n ≠ 0 → (c.trapSet (trapLevel s)).regs.depth ≠ 2 →
        Reaches (exec i s) fun t => t.me.vec = c.vec ∧ t.me.pend = [] ∧ SameBytes s t ∧ t.me.vstart = c.vstart ∧
          VectorTrapped s t i 0x0E2 (BitVec.ofNat 64 (addr f)) (telem 3 0 0) 0)) ∧
    (s.agent.level = .firmware → f ∈ activeOf c mk → (∀ e ∈ activeOf c mk, e < f → PlainBytes s (addr e) n) →
      (2 ^ 52 ≤ addr f ∨ deviceEnd ≤ addr f ∧ addr f < peerBase) → addr f % 4096 + n ≤ 4096 →
      let below := (activeOf c mk).filter fun e => decide (e < f)
      let loaded := fun (t : State) =>
        (∀ e, e < 512 / c.vw * c.geo.g * c.geo.rpr → (t.me.vec.elem c.geo c.vw d.toNat e).1 =
          if below.contains e then leNat (storedBytes s (addr e) n) % 2 ^ c.vw else at_ d e) ∧
        (∀ lane row, row < 64 → (row < d.toNat * c.geo.rpr ∨ (d.toNat + 1) * c.geo.rpr ≤ row) →
          t.me.vec.row lane row = c.vec.row lane row) ∧ SameBytes s t
      let traps := fun (kind : Nat) (t : State) => t.me.vstart = BitVec.ofNat 64 f ∧
        VectorTrapped s t i 0x088 (BitVec.ofNat 64 (addr f)) (telem kind 0 0) 0
      (loads → (below = [] ∨ ∀ a k, i ≠ .vldff d a k mk) → c.firm.regs.depth ≠ 2 →
        Reaches (exec i s) fun t => loaded t ∧ traps 1 t) ∧
      (∀ a k, i = .vldff d a k mk → below ≠ [] → Reaches (exec i s) fun t => loaded t ∧
        Retired { s with l2 := t.l2 } t { c with vl := BitVec.ofNat 64 f } noFlags) ∧
      ((∃ a k, i = .vst d a k mk ∨ ∃ x, i = .vsts d a k mk x) → c.firm.regs.depth ≠ 2 → s.viewer = none →
        Reaches (exec i s) fun t => t.me.vec = c.vec ∧ SameBytes s t ∧ traps 2 t ∧
          ElementsStored s (t.drainAll t.cur) below addr fun e => leBytes n (at_ d e)))

/-- R4, R207 to R212: issued at firmware level, with no access of the thread pending and nothing poisoned, a vector memory
instruction that passes decode and whose active elements name clean device memory runs to its end. A load writes each
active element the bytes at its address. A store leaves memory as it is until it is performed, and then the bytes of each
active element stand at its address, a later element over an earlier one where VST or VSTS overlap or VSTX names one
address twice, and every other byte is as before. VSTXADD updates each address once. VLDP reads its planes.

R208, R210, R212, R310, R314, R317: where the first active element of a vector load or store lies in one page and faults as
`pageFault` says, nothing is loaded or stored and the trap of `VectorTrapped` is taken, with EV, the element and the fault in
TELEM and VSTART at the element; where, at firmware level, a later one is the first whose address maps nothing, the elements
below it have been loaded or stored. VLDFF whose fault lies past its first active element retires with VL cut there. VSTXADD
whose first active element is misaligned or faults traps with VSTART as it was. -/
def Obligations.VectorMemory : Prop :=
  VectorMemoryFaults ∧
  ∀ (s : State) (i : Instr), VectorRuns s i → s.me.len ≤ s.me.geo.vlmax → s.agent.level = .firmware → s.me.pend = [] →
    Unpoisoned s.me →
    let c := s.me
    let n := c.vw / 8
    let at_ := fun (v : BitVec 6) e => (c.vec.elem c.geo c.vw v.toNat e).1
    (∀ d mk addr, laneAccess s i = some (d, mk, addr) → (∀ e ∈ activeOf c mk, PlainBytes s (addr e) n) →
      ((∃ a k, i = .vld d a k mk ∨ i = .vldff d a k mk ∨ (∃ x, i = .vlds d a k mk x) ∨ ∃ x, i = .vldx d a k mk x) →
        Reaches (exec i s) fun t =>
          ElementsAre { s with l2 := t.l2 } t d c.vw mk fun e => (leNat (storedBytes s (addr e) n), noFlags)) ∧
      ((∃ a k, i = .vst d a k mk ∨ (∃ x, i = .vsts d a k mk x) ∨ ∃ x, i = .vstx d a k mk x ∧
          ∀ e ∈ activeOf c mk, ∀ q ∈ activeOf c mk, addr e = addr q ∨ addr e + n ≤ addr q ∨ addr q + n ≤ addr e) →
        s.viewer = none → Reaches (exec i s) fun t =>
          Retired { s with freeCount := t.freeCount } t { c with pend := t.me.pend } noFlags ∧ t.me.vec = c.vec ∧
          t.me.cir = c.cir ∧ (t.drainAll t.cur).me.pend = [] ∧
          ElementsStored s (t.drainAll t.cur) (activeOf c mk) addr fun e => leBytes n (at_ d e)) ∧
      (∀ a k x, i = .vstxadd d a k mk x → (∀ e ∈ activeOf c mk, addr e % n = 0) → Reaches (exec i s) fun t =>
        let places := ((activeOf c mk).map addr).eraseDups
        let new := fun p => scattered c.vt c.vrm (leNat (storedBytes s p n))
          (((activeOf c mk).filter fun e => addr e == p).map fun e => at_ d e)
        Retired { s with mem := t.mem, lineKey := t.lineKey, tags := t.tags, cores := t.cores, l2 := t.l2 } t c
          (allFlags (places.map fun p => (new p).2)) ∧
        t.me.vec = c.vec ∧ t.me.cir = c.cir ∧ ElementsStored s t places id fun p => leBytes n (new p).1)) ∧
    ∀ d a k mk p, i = .vldp d a k mk p → badFmtB c.fmtb = false →
      let f := Fmt.of c.fmtb
      let planes := p.toNat + 1
      let place := fun e j => ((s.rv a).toNat + f.psb * j + e / 8) % 2 ^ 64
      f.ty = 5 → planes ≤ f.p → (∀ e ∈ activeOf c mk, ∀ j, j < planes → PlainBytes s (place e j) 1) →
      Reaches (exec i s) fun t => ElementsAre { s with l2 := t.l2 } t d c.vw mk fun e =>
        let bits := ((List.range planes).map fun j =>
          leNat (storedBytes s (place e j) 1) / 2 ^ (e % 8) % 2 * 2 ^ (f.p - 1 - j)).foldl (· + ·) 0
        ((BitVec.ofInt c.vw (planeValue f.p planes f.c bits)).toNat, noFlags)

/-! ### Weaves (R167 to R188) -/

/-- A weave instruction retired that changes the vector state only; where nothing was poisoned, latches included, nothing is
and nothing was consumed. -/
def Sys2Proof.Woven (s t : State) (fl : Flags) : Prop :=
  Retired s t s.me fl ∧
  (Unpoisoned s.me → s.me.vec.latchPoison = [] →
    Unpoisoned t.me ∧ t.me.vec.latchPoison = [] ∧ t.me.cir = s.me.cir)

/-- A tile holds words by row and column; every row that is no row of this tile on a lane of the weave, every mask and
every latch is as before. -/
def Sys2Proof.TileIs (s t : State) (w : BitVec 2) (f : Nat → Nat → Nat) : Prop :=
  let v := s.me.vec
  let n := 16 * v.side
  t.me.vec = { v with rows := t.me.vec.rows, rowPoison := t.me.vec.rowPoison } ∧
  (∀ r c, r < n → c < n → t.me.vec.tileWord w.toNat r c = f r c % 2 ^ 32) ∧
  ∀ lane row, row < 64 → (row / 16 ≠ 3 - w.toNat ∨ v.side * v.side ≤ lane) → t.me.vec.row lane row = v.row lane row

/-- A product of two operands of a type is added to a tile word (R183). -/
def Sys2Proof.added (t : Nat) (acc : Nat × Flags) (a b : Nat) : Nat × Flags :=
  let x := a % 2 ^ typeWidth t
  let y := b % 2 ^ typeWidth t
  if 8 ≤ t then
    let r := fmaValues 10 0 (decodeFloat t x) (decodeFloat t y) (decodeFloat 10 acc.1)
    (r.1, acc.2 ||| r.2)
  else ((BitVec.ofInt 32 (acc.1 + atKind t x * atKind t y)).toNat, acc.2)

/-- The terms of a column of a sparse operand, as rows of A and of B (R185). -/
def Sys2Proof.columnTerms (v : VecState) (n blocks c : Nat) : List (Nat × Nat) :=
  (List.range blocks).flatMap fun b =>
    let set := ((List.range 32).filter fun p => (v.slot v.activeB (b * (n + 1) + n) c).testBit p).take n
    (set.zip (List.range n)).map fun pu => (32 * b + pu.1, b * (n + 1) + pu.2)

/-- The tile, and the new word of each element from its old one with its flags, of a tile operation that meets the checks
of R176 (R184 to R187); none for any other. -/
def Sys2Proof.tileWords (s : State) (i : Instr) : Option (BitVec 2 × (Nat → Nat → Nat → Nat × Flags)) :=
  let c := s.me
  let v := c.vec
  let ready := fun (w : BitVec 2) => v.side ≠ 0 ∧ w.toNat < c.tl.toNat
  let f := Fmt.of c.fmtb
  match i with
  | .wop w k t =>
    let n := k.toNat + 1
    let ty := operandType t.toNat
    if ready w ∧ n ≤ v.validOf v.activeA ∧ n ≤ v.validOf v.activeB then
      some (w, fun r col x => (List.range n).foldl (fun a j =>
        added ty a (v.slot v.activeA j r) (v.slot v.activeB j col)) (x, noFlags))
    else none
  | .wops w k t =>
    let n := k.toNat + 1
    let ty := operandType t.toNat
    let keep := if f.spar = 1 then 8 else 16
    if ready w ∧ badFmtB c.fmtb = false ∧ f.spar ≠ 0 ∧ (n = 32 ∨ n = 64) ∧ n ≤ v.validOf v.activeA ∧
        n / 32 * (keep + 1) ≤ v.validOf v.activeB then
      some (w, fun r col x => (columnTerms v keep (n / 32) col).foldl (fun a p =>
        added ty a (v.slot v.activeA p.1 r) (v.slot v.activeB p.2 col)) (x, noFlags))
    else none
  | .wbp w k p =>
    let n := k.toNat + 1
    let planes := p.toNat + 1
    if ready w ∧ badFmtB c.fmtb = false ∧ f.ty = 5 ∧ planes ≤ f.pl ∧ n ≤ v.validOf v.activeA ∧
        n ≤ v.validOf v.activeB then
      some (w, fun r col x => ((BitVec.ofInt 32 ((List.range n).foldl (fun (a : Int) j =>
        a + (BitVec.ofNat 8 (v.slot v.activeA j r)).toInt * planeValue f.p planes f.c (v.slot v.activeB j col)) x)).toNat,
        noFlags))
    else none
  | .wopv w a b mk t =>
    let ty := operandType t.toNat
    let at_ := fun (k : BitVec 6) e => (v.elem c.geo (typeWidth ty) k.toNat e).1
    let live := fun e => decide (c.start ≤ e ∧ e < c.len) && (v.selects mk e).1
    if ready w then
      some (w, fun r col x => if live r && live col then added ty (x, noFlags) (at_ a r) (at_ b col) else (x, noFlags))
    else none
  | _ => none

/-- `n` bytes from an address on lie in a granule of the crew's scratch region that the window shows to the gather unit,
clean, from a location on. -/
abbrev Sys2Proof.GatherBytes (s : State) (a n loc : Nat) : Prop :=
  inWindow a = true ∧ a % 4096 + n ≤ 4096 ∧ s.windowPlace (s.userAgent s.cur) a = .ok { loc := loc, key := noKey } ∧
  ∀ j, j < n → s.locAbsent (loc + j) = false ∧ s.granulePoison (loc + j) = false

/-- A fill ended (R180): the slots of the buffer's rows hold `f` of row and slot, the buffer counts its rows valid, the
other buffers, the registers and the masks are as before, the latch's LSEL bit has turned, and the gather unit of the
cluster has served this context last (R190). -/
def Sys2Proof.Filled (s t : State) (x rows : Nat) (turned : BitVec 2) (f : Nat → Nat → Nat) : Prop :=
  let v := s.me.vec
  Woven (s.setCluster (clusterOf s.cur) { s.cluster (clusterOf s.cur) with gathered := s.cur }) t noFlags ∧
  t.me.vec = { v with slots := t.me.vec.slots, latchPoison := t.me.vec.latchPoison, valid := t.me.vec.valid, lsel := turned } ∧
  (∀ r i, r < rows → i < 16 * v.side → t.me.vec.slot x r i = f r i % 2 ^ 32) ∧
  t.me.vec.validOf x = rows ∧
  ∀ y, y < 4 → y ≠ x → t.me.vec.validOf y = v.validOf y ∧ ∀ r i, r < 64 → i < 256 → t.me.vec.slot y r i = v.slot y r i

/-- The first check of R176 that a weave instruction fails where it starts: its cause, and TVAL; that of WEAVE_NONE the
specification does not state. Of two invalid formats of WDRAIN.S FMTA is named by the model's choice (log 92). -/
def Sys2Proof.weaveFault (s : State) (i : Instr) : Option (Nat × Option Nat) :=
  let c := s.me
  let v := c.vec
  let f := Fmt.of c.fmtb
  let keep := if f.spar = 1 then 8 else 16
  let no : Bool × Nat × Option Nat := (decide (v.side = 0), 0x191, none)
  let tile := fun (w : BitVec 2) => (decide (c.tl.toNat ≤ w.toNat), 0x192, some w.toNat)
  let latch := fun (x k : Nat) => (decide (v.validOf x < k), 0x196, some k)
  let a : Bool × Nat × Option Nat := (badFmtA c.fmta, 0x193, some 4)
  let b : Bool × Nat × Option Nat := (badFmtB c.fmtb, 0x193, some 5)
  let checks : List (Bool × Nat × Option Nat) := match i with
    | .wform g => [(decide (c.lanes < (g.toNat + 1) * (g.toNat + 1)), 0x190, some (g.toNat + 1))]
    | .wzero w | .wopv w _ _ _ _ => [no, tile w]
    | .wgath _ _ _ => [no, a]
    | .wldb _ _ => [no, b]
    | .wop w k _ => [no, tile w, latch v.activeA (k.toNat + 1), latch v.activeB (k.toNat + 1)]
    | .wops w k _ => [no, tile w, b, (decide (f.spar = 0 ∨ k.toNat + 1 ≠ 32 ∧ k.toNat + 1 ≠ 64), 0x194, some (k.toNat + 1)),
        latch v.activeA (k.toNat + 1), latch v.activeB ((k.toNat + 1) / 32 * (keep + 1))]
    | .wbp w k p => [no, tile w, b, (decide (f.ty ≠ 5 ∨ f.pl < p.toNat + 1), 0x195, some (p.toNat + 1)),
        latch v.activeA (k.toNat + 1), latch v.activeB (k.toNat + 1)]
    | .wdrain w d k =>
      let rpt := 16 * c.geo.g * c.geo.rpr / (16 * v.side)
      let regs := (16 * v.side + rpt - 1) / rpt
      [no, tile w] ++ (if k = 1 then [a, b] else []) ++ [(decide (c.geo.n ≤ d.toNat + regs - 1), 0x197, some regs)]
    | _ => []
  (checks.find? fun x => x.1).map fun x => x.2

/-- R177 to R188: weave instructions that pass decode and the checks of R176. WFORM makes a weave of its side with every
tile zero and every latch empty; WSPLIT dissolves it; WZERO clears a tile; WFMT writes the formats; a tile operation gives
every element the word of the table.

R175, R176, R317: a weave instruction that passes decode and fails a check of R176 takes the vector-side trap of the first it
fails, with the TVAL of the table, TELEM 0 and VSTART as it was, and no vector state, no memory and no other thread
changes. -/
def Obligations.WeavesAndTiles : Prop :=
  (∀ (s : State) (i : Instr) (cause : Nat) (tval : Option Nat), VectorRuns s i →
    (∀ e, s.me.reissue = some e → e.instr = i) → weaveFault s i = some (cause, tval) →
    (s.me.trapSet (trapLevel s)).regs.depth ≠ 2 →
    Reaches (exec i s) fun t => t = { s with ctxs := t.ctxs, freeCount := t.freeCount } ∧ t.me.vec = s.me.vec ∧
      t.me.vstart = s.me.vstart ∧ t.me.pend = s.me.pend ∧
      ∃ value : Word, (∀ v, tval = some v → value = BitVec.ofNat 64 v) ∧ VectorTrapped s t i cause value 0 0) ∧
  ∀ (s : State) (i : Instr), VectorRuns s i →
    let c := s.me
    let empty := fun (t : State) (side : Nat) =>
      t.me.vec = { c.vec with
        rows := t.me.vec.rows, rowPoison := t.me.vec.rowPoison, side := side, slots := [], latchPoison := [], valid := [],
        lsel := 0 } ∧
      ∀ lane row, row < 64 → t.me.vec.row lane row = if row < 64 - 16 * c.tl.toNat then c.vec.row lane row else (0, false)
    (∀ g, i = .wform g → (g.toNat + 1) * (g.toNat + 1) ≤ c.lanes → Reaches (exec i s) fun t =>
      Woven s t noFlags ∧ empty t (g.toNat + 1)) ∧
    (i = .wsplit → Reaches (exec i s) fun t =>
      Woven s t noFlags ∧ (c.vec.side = 0 → t.me.vec = c.vec) ∧ (c.vec.side ≠ 0 → empty t 0)) ∧
    (∀ w, i = .wzero w → c.vec.side ≠ 0 → w.toNat < c.tl.toNat → Reaches (exec i s) fun t =>
      Woven s t noFlags ∧ TileIs s t w fun _ _ => 0) ∧
    (∀ a b, i = .wfmt a b → Reaches (exec i s) fun t =>
      Retired s t { c with fmta := s.rv a, fmtb := s.rv b } noFlags ∧ t.me.vec = c.vec ∧ t.me.cir = c.cir) ∧
    ∀ w f, tileWords s i = some (w, f) → Reaches (exec i s) fun t =>
      let n := 16 * c.vec.side
      let new := fun r col => f r col (c.vec.tileWord w.toNat r col)
      Woven s t (allFlags ((List.range (n * n)).map fun j => (new (j / n) (j % n)).2)) ∧
      TileIs s t w fun r col => (new r col).1

/-- R180 to R182, R188: fills and drains of a formed weave that pass decode and the checks of R176, of operands in the
crew's scratch region. WGATH fills the idle buffer of A, slot `i` of row `r` from the base plus index `i` plus `r`
operands, 0 beyond NV, VL and the mask; WLDB that of B, from rows a stride apart or from bit planes. WDRAIN writes the tile
by rows across a run of registers, WDRAIN.S each element times its two scales, rounded once to FP32, with NV for an
infinity, a zero and a quiet NaN as the model chose (log 91). A fill runs to its end in one step where no fill of another
context of the cluster stands first in its queue. -/
def Obligations.WeaveFillsAndDrains : Prop :=
  ∀ (s : State) (i : Instr), VectorRuns s i → s.me.vec.side ≠ 0 → s.me.vec.side ≤ 16 →
    (∀ e, s.me.reissue = some e → e.resume = false) → s.me.pend = [] →
    let c := s.me
    let v := c.vec
    let n := 16 * v.side
    let fa := Fmt.of c.fmta
    let fb := Fmt.of c.fmtb
    (∀ a b mk, i = .wgath a b mk → badFmtA c.fmta = false →
      ∀ loc : Nat → Nat → Nat,
      let size := operandBytes fa.ty
      let live := fun j => decide (j < min fa.nv n ∧ j < c.len) && (v.selects mk j).1
      s.fillers (clusterOf s.cur) = [] →
      (∀ j, live j = true → (v.elem c.geo c.vw a.toNat j).2 = false ∧ (v.selects mk j).2 = false ∧ ∀ r, r < fa.kc →
        GatherBytes s (((s.rv b).toNat + (v.elem c.geo c.vw a.toNat j).1 + r * size) % 2 ^ 64) size (loc r j)) →
      Reaches (exec i s) fun t => Filled s t (1 - v.activeA) fa.kc (v.lsel ^^^ 1#2) fun r j =>
        if live j then leNat (storedBytes s (loc r j) size) else 0) ∧
    (∀ a b, i = .wldb a b → badFmtB c.fmtb = false →
      let keep := if fb.spar = 1 then 8 else 16
      let rows := if fb.spar = 0 then fb.kc else fb.kc / 32 * (keep + 1)
      let st := (s.rv b).toInt
      let live := min fb.nv n
      s.fillers (clusterOf s.cur) = [] →
      (fb.ty ≠ 5 → ∀ loc : Nat → Nat → Nat,
        let size := fun r => if fb.spar ≠ 0 ∧ r % (keep + 1) = keep then 4 else operandBytes fb.ty
        (∀ r j, r < rows → j < live →
          GatherBytes s (BitVec.ofInt 64 ((s.rv a).toNat + r * st + j * size r)).toNat (size r) (loc r j)) →
        Reaches (exec i s) fun t => Filled s t (3 - v.lsel.toNat / 2) rows (v.lsel ^^^ 2#2) fun r j =>
          if j < live then leNat (storedBytes s (loc r j) (size r)) else 0) ∧
      (fb.ty = 5 → ∀ loc : Nat → Nat → Nat → Nat,
        let x := fun (r j : Nat) => r * st + j
        (∀ r j k, r < rows → j < live → k < fb.pl →
          GatherBytes s (BitVec.ofInt 64 ((s.rv a).toNat + fb.psb * k + x r j / 8)).toNat 1 (loc r j k)) →
        Reaches (exec i s) fun t => Filled s t (3 - v.lsel.toNat / 2) rows (v.lsel ^^^ 2#2) fun r j =>
          if j < live then ((List.range fb.pl).map fun k =>
            leNat (storedBytes s (loc r j k) 1) / 2 ^ (x r j % 8).toNat % 2 * 2 ^ (fb.p - 1 - k)).foldl (· + ·) 0
          else 0)) ∧
    ∀ w d k, i = .wdrain w d k → w.toNat < c.tl.toNat → c.len ≤ c.geo.vlmax → c.vw = 32 →
      let rpt := c.geo.vlmax / n
      let regs := (n + rpt - 1) / rpt
      d.toNat + regs ≤ c.geo.n →
      (k = 1 → badFmtA c.fmta = false ∧ badFmtB c.fmtb = false) →
      ∀ la lb : Nat → Nat,
      (k = 1 → (∀ r, r < min fa.nv n → GatherBytes s (((c.scla).toNat + 2 * fa.sstr * r) % 2 ^ 64) 2 (la r)) ∧
        ∀ q, q < min fb.nv n → GatherBytes s (((c.sclb).toNat + 2 * fb.sstr * q) % 2 ^ 64) 2 (lb q)) →
      let value := fun q e =>
        let r := q * rpt + e / n
        let x := if e < rpt * n ∧ r < n then v.tileWord w.toNat r (e % n) else 0
        if k = 0 then (x, noFlags)
        else if r < min fa.nv n ∧ e % n < min fb.nv n then
          let acc := if fa.ty = 4 ∨ fb.ty = 5 then
              let z := (BitVec.ofNat 32 x).toInt
              Value.fin (decide (z < 0)) z.natAbs 0
            else decodeFloat 10 x
          scaledProduct acc (decodeFloat 13 (leNat (storedBytes s (la r) 2)))
            (decodeFloat 13 (leNat (storedBytes s (lb (e % n)) 2)))
        else (0, noFlags)
      let es := (List.range c.len).filter fun e => decide (c.start ≤ e)
      Reaches (exec i s) fun t =>
        Woven s t (allFlags (es.flatMap fun e => (List.range regs).map fun q => (value q e).2)) ∧
        t.me.vec = { v with rows := t.me.vec.rows, rowPoison := t.me.vec.rowPoison } ∧
        (∀ q e, q < regs → e < c.geo.vlmax → (t.me.vec.elem c.geo 32 (d.toNat + q) e).1 =
          if c.start ≤ e ∧ e < c.len then (value q e).1 % 2 ^ 32 else (v.elem c.geo 32 (d.toNat + q) e).1) ∧
        ∀ lane row, row < 64 → (row < d.toNat * c.geo.rpr ∨ (d.toNat + regs) * c.geo.rpr ≤ row) →
          t.me.vec.row lane row = v.row lane row

/-! ### The lane pool (R105 to R112, R114, R123, R127, R128) -/

/-- An instruction of the lane pool ended: only the lanes of the thread's cluster, the reservation honoured of its threads,
and what `c` gives of the running context differ. -/
def Sys2Proof.PoolOnly (s t : State) (c : Ctx) : Prop :=
  let cl := clusterOf s.cur
  t = { s with ctxs := t.ctxs, clusters := t.clusters } ∧ (∀ k, k ≠ cl → t.cluster k = s.cluster k) ∧
  t.cluster cl = { s.cluster cl with lanes := (t.cluster cl).lanes } ∧
  (∀ g, g ≠ s.cur → t.ctx g = { s.ctx g with gres := (t.ctx g).gres }) ∧
  t.me = { c with gres := t.me.gres, history := t.me.history, reissue := none, wait := none, cut := none }

/-- The lane pool of the running thread's cluster is whole (R101, R102): the thread is there; its lanes are lanes of the
cluster, each once, and granted to it; the table of the cluster's lanes lists each lane once; the lanes that it does not list
cover the reserved ones; and the thread's vector state lists nothing twice and no row beyond its lanes. -/
def Sys2Proof.PoolWhole (s : State) : Prop :=
  let cl := clusterOf s.cur
  let x := s.cluster cl
  let v := s.me.vec
  s.me.live = true ∧ v.lanes.Nodup ∧ (∀ l ∈ v.lanes, l < 256 ∧ aget LaneState.free x.lanes l = .granted s.cur) ∧
  (x.lanes.map (·.1)).Pairwise (· < ·) ∧ (∀ p ∈ x.lanes, p.1 < 256 ∧ p.2 ≠ .free) ∧ s.reservedIn cl ≤ s.unlisted cl ∧
  (v.masks.map (·.1)).Nodup ∧ (∀ lane row, row < 64 → v.lanes.length ≤ lane → v.row lane row = (0, false))

/-- The new grant of R109 for a need: the reservation covers `own`; beyond it the thread may have what it holds, what is free
or earmarked for it, within the quota that the function's other threads leave, less what waiters of its own level or a
higher one lack. -/
def Sys2Proof.grantOf (s : State) (need : Nat) : Nat :=
  let c := s.me
  let cl := clusterOf s.cur
  let others := (clusterCtxs cl).filter fun h => h != s.cur
  let want := min need c.laneMax
  let own := min want c.gres
  let held := c.lanes - c.gres
  let marked := ((s.cluster cl).lanes.filter fun p => match p.2 with | .earmarked h _ => h == s.cur | _ => false).length
  let used := ((others.filter fun h => (s.ctx h).live && (s.ctx h).fn == c.fn).map fun h =>
    max (s.ctx h).lanes (s.ctx h).gres).sum
  let extra := min (want - own) (min (held + s.freeIn cl + marked) (s.quotaOf c.fn cl - used - c.gres))
  let waiters := others.filter fun h => (s.ctx h).isWaiter && decide (c.prio.toNat ≤ (s.ctx h).prio.toNat)
  own + if waiters = [] then extra else min extra (held - (waiters.map fun h => (s.ctx h).short).sum)

/-- What a new grant keeps (R101, R111): the lanes kept keep their order, the added ones are the lowest free ones and come
after them, and each is granted to the thread. Where grant, register count or tile count changed, the rows of the lanes kept
below every tile row stay as stored, every other row is zero and clean, a mask keeps its bits and its poison below both the
old and the new VLMAX, and no weave is formed; where none did, nothing of the vector state changed. -/
def Sys2Proof.Regranted (s t : State) (g : Nat) (ncode : BitVec 2) (tiles : BitVec 3) : Prop :=
  let v := s.me.vec
  let u := t.me.vec
  let old := s.me.geo.vlmax
  let new := t.me.geo.vlmax
  let x := s.cluster (clusterOf s.cur)
  u.lanes.length = g ∧ u.lanes.take (min g v.lanes.length) = v.lanes.take (min g v.lanes.length) ∧ u.lanes.Nodup ∧
  (∀ l ∈ u.lanes, l < 256 ∧ aget LaneState.free (t.cluster (clusterOf s.cur)).lanes l = .granted s.cur) ∧
  (∀ l ∈ u.lanes.drop v.lanes.length, (∀ h, aget LaneState.free x.lanes l ≠ .granted h) ∧
    ∀ k, k < l → aget LaneState.free x.lanes k = .free → k ∈ u.lanes) ∧
  (g = s.me.lanes → ncode = s.me.ncode → tiles = s.me.tl → u = v) ∧
  (g ≠ s.me.lanes ∨ ncode ≠ s.me.ncode ∨ tiles ≠ s.me.tl →
    u.side = 0 ∧ u.slots = [] ∧ u.latchPoison = [] ∧ u.valid = [] ∧ u.lsel = 0 ∧
    (∀ lane row, row < 64 → u.row lane row =
      if lane < min g s.me.lanes ∧ row < 64 - 16 * max s.me.tl.toNat tiles.toNat then v.row lane row else (0, false)) ∧
    (∀ m e, m < 16 → e < 131072 → (u.maskBit m e).1 = (decide (e < min old new) && (v.maskBit m e).1)) ∧
    ∀ m i, m < 16 → i < 256 → (u.segment m i).2 = (decide (512 * i < min old new) && (v.segment m i).2))

/-- R101, R106 to R112: VDECL sets the pending register count; VGEOM writes the geometry in force and with an operand sets
the pending tile count; VGIVE gives up every lane and all vector state; all three at their own place in the stream, with no
revocation pending, VGIVE also out of the vector queue.

SETVL and SETVLI, there or out of the queue, under the declaration that they have, commit type and declaration. A declaration
with no row per register takes the trap LANE_GEOM with 16 times its tile count. A request of 0 gives up everything. With a
greater one, in a whole lane pool and with none of the thread's lanes still draining, the grant becomes that of R109 for the
lanes needed, the rest up to LANEMAX is the shortfall, what R111 says of the vector state is kept, and VL and sd become the
request cut to the new VLMAX, to a multiple of 32 from 32 on in the reproducible mode. -/
def Obligations.LaneInstructions : Prop :=
  ∀ (s : State),
    (s.me.reissue = none → s.me.revoke = none →
      (∀ n, Reaches (exec (.vdecl n) s) fun t => MovedTo (s.setMe { s.me with pncode := n }) t (s.me.pc + 4)) ∧
      ∀ d a, s.rp a = false → (a = 0 ∨ (s.rv a).toNat ≤ 4) → Reaches (exec (.vgeom d a) s) fun t =>
        WroteOne (s.setMe { s.me with ptl := if a = 0 then s.me.ptl else BitVec.ofNat 3 (s.rv a).toNat }) t d
          s.me.geom false false) ∧
    ((s.me.reissue = none ∧ s.me.revoke = none ∨ ∃ e, s.me.reissue = some e ∧ e.after = 0) →
      Reaches (exec .vgive s) fun t =>
        PoolOnly s t { s.me with pc := pcAfter s, vec := {}, vl := 0, short := 0, waiting := 0, mismatch := 0 } ∧
        ∀ p ∈ (t.cluster (clusterOf s.cur)).lanes, p.2 ≠ .granted s.cur ∧ p.2.markedFor s.cur = false) ∧
    ∀ (i : Instr) (d : BitVec 5) (v : BitVec 9) (avl : Nat) (ncode : BitVec 2) (tiles : BitVec 3),
      (s.me.reissue = none ∧ s.me.revoke = none ∧ ncode = s.me.pncode ∧ tiles = s.me.ptl ∨
        ∃ e, s.me.reissue = some e ∧ ncode = e.ncode ∧ tiles = e.tiles) →
      ((∃ a, i = .setvl d a v ∧ (s.me.reissue = none → s.rp a = false) ∧ (s.rv a).toNat = avl) ∨
        ∃ l, i = .setvli d v l ∧ l.toNat = avl) →
      let n := 8 * 2 ^ ncode.toNat
      let rpr := (64 - 16 * tiles.toNat) / n
      let typed := fun (old : Word) => if v.extractLsb' 4 3 = 7 then
          BitVec.ofNat 64 (v.toNat / 128 * 128 + old.toNat / 16 % 8 * 16 + v.toNat % 16)
        else BitVec.ofNat 64 v.toNat
      let vtype := typed s.me.vtype
      let epr := 64 / 2 ^ (v.toNat % 4)
      let declared := fun (t : State) (vl : Word) =>
        PoolOnly s t { s.me with
          pc := pcAfter s, regs := t.me.regs, poison := t.me.poison, vec := t.me.vec, vl := vl, vtype := vtype,
          ncode := ncode, tl := tiles, dtype := if s.me.reissue = none then typed s.me.dtype else s.me.dtype,
          dcode := if s.me.reissue = none then ncode else s.me.dcode, short := t.me.short, waiting := t.me.waiting,
          mismatch := 0 } ∧
        ∀ r, t.me.raw r = if r = d ∧ d ≠ 0 then (vl, false) else s.me.raw r
      let l := trapLevel s
      (rpr = 0 → s.me.reissue = none → (s.me.trapSet l).regs.depth ≠ 2 → Reaches (exec i s) fun t =>
        Trapped s t l 0x182 (BitVec.ofNat 64 (16 * tiles.toNat)) s.me.pc 0) ∧
      (rpr ≠ 0 → Reaches (exec i s) fun t =>
        t.me.vtype = vtype ∧ t.me.ncode = ncode ∧ t.me.tl = tiles ∧ t.me.pc = pcAfter s) ∧
      (rpr ≠ 0 → avl = 0 → Reaches (exec i s) fun t =>
        declared t 0 ∧ t.me.vec = {} ∧ t.me.short = 0 ∧ t.me.waiting = 0) ∧
      (rpr ≠ 0 → avl ≠ 0 → PoolWhole s →
        (∀ p ∈ (s.cluster (clusterOf s.cur)).lanes, ∀ m, p.2 ≠ .draining s.cur m) → Reaches (exec i s) fun t =>
        let need := min ((avl + epr * rpr - 1) / (epr * rpr)) 256
        let g := grantOf s need
        let most := epr * g * rpr
        let vl := min avl most
        t.me.lanes = g ∧ min (min need s.me.laneMax) s.me.gres ≤ g ∧ g ≤ min need s.me.laneMax ∧
        t.me.short = min need s.me.laneMax - g ∧ t.me.waiting = (if t.me.short = 0 then 0 else s.me.waiting) ∧
        declared t (BitVec.ofNat 64 (if v.getLsbD 8 = true ∧ vl < avl ∧ 32 ≤ vl then vl - vl % 32 else vl)) ∧
        Regranted s t g ncode tiles)

/-- R123, R127, R128: issued at firmware level, with no access pending, on clean device memory. VSAVE leaves its stores pending and
changes nothing else; performed, they put at VSPILL + 8 the header with KIND 2 and CAUSE 3 and at VSPILL + 64 every
register, mask, tile and latch line, and change no other byte. VREFILL of an area that holds no state writes 0x20 and
changes nothing; of an area with state and no weave it gives the lines of each register to the rows in element order and
zero to the rest, each mask its bits below both VLMAX and zero above, takes VTYPE, but for a rounding mode above 4, and
VSTAT, and cuts VL and VSTART, with the status of what was cut. That a header's reserved type pair is taken into VTYPE is
the model's choice (log 80). -/
def Obligations.SpillAreas : Prop :=
  ∀ (s : State) (d : BitVec 5), VectorRuns s .vsave → s.agent.level = .firmware → s.me.pend = [] → Unpoisoned s.me →
    s.me.vec.latchPoison = [] → s.me.lanes ≤ 256 →
    let c := s.me
    let a := c.vspill.toNat
    let x := c.geo
    (PlainBytes s a (64 + 64 * c.spillLines.length) → s.viewer = none → Reaches (exec .vsave s) fun t =>
      OnlyMe { s with clusters := t.clusters } t ∧
      (∀ k, t.cluster k = { s.cluster k with creels := (t.cluster k).creels }) ∧
      t.me = { c with
        pc := pcAfter s, pend := t.me.pend, history := t.me.history, mismatch := 0, reissue := none, wait := none,
        cut := none } ∧
      (t.drainAll t.cur).me.pend = [] ∧
      ∀ l, (t.drainAll t.cur).stored l =
        if a + 8 ≤ l ∧ l < a + 64 then ((c.spillHeader 2 3)[l - (a + 8)]?).getD 0
        else if a + 64 ≤ l ∧ l < a + 64 + 64 * c.spillLines.length then
          ((c.spillLines[(l - (a + 64)) / 64]?).map fun y => y.1.extractLsb' (8 * ((l - a) % 64)) 8).getD 0
        else s.stored l) ∧
    (PlainBytes s a 64 →
      let byte := fun off => (s.stored (a + off)).toNat
      let word := fun off n => leNat (storedBytes s (a + off) n)
      let kind := byte 22
      let n := 8 * 2 ^ (byte 21 % 4)
      let tl := byte 21 / 4 % 8
      let g := word 18 2
      let vtype := word 16 2 % 512
      let taken := if 5 ≤ vtype / 16 % 8 then vtype / 128 * 128 + c.vtype.toNat / 16 % 8 * 16 + vtype % 16 else vtype
      let rpr := (64 - 16 * tl) / n
      let epr := 64 / 2 ^ (vtype % 4)
      let line := g * rpr
      let most := epr * g * rpr
      let new := epr * x.g * x.rpr
      (kind ≠ 1 → kind ≠ 2 → Reaches (exec (.vrefill d) s) fun t =>
        OnlyMe { s with l2 := t.l2 } t ∧ (∀ r, t.me.raw r = if r = d ∧ d ≠ 0 then (0x20, false) else c.raw r) ∧
        t.me = { c with
          pc := pcAfter s, regs := t.me.regs, poison := t.me.poison, svHold := t.me.svHold, history := t.me.history
          mismatch := 0, reissue := none, wait := none, cut := none }) ∧
      ((kind = 1 ∨ kind = 2) → byte 20 = 0 →
        PlainBytes s a (64 + n * (line * 64) + 16 * ((most + 511) / 512 * 64)) →
        Reaches (exec (.vrefill d) s) fun t =>
          let vl := min (word 8 4) new
          let start := min (word 12 4) vl
          let status := (if start < word 12 4 then 1 else 0) + (if vl < word 8 4 then 2 else 0) +
            if x.n < n then 16 else 0
          OnlyMe { s with l2 := t.l2 } t ∧
          t.me = { c with
            pc := pcAfter s, regs := t.me.regs, poison := t.me.poison, vec := t.me.vec, vtype := BitVec.ofNat 64 taken,
            dtype := BitVec.ofNat 64 taken, svHold := t.me.svHold, vstat := BitVec.ofNat 64 (word 32 8 % 2),
            vl := BitVec.ofNat 64 vl, vstart := BitVec.ofNat 64 start, history := t.me.history, mismatch := 0
            reissue := none, wait := none, cut := none } ∧
          (∀ r, t.me.raw r = if r = d ∧ d ≠ 0 then (BitVec.ofNat 64 status, false) else c.raw r) ∧
          (∀ k j, k < x.n → j < x.rpr * x.g → t.me.vec.row (j % x.g) (k * x.rpr + j / x.g) =
            (if k < n ∧ j < line then BitVec.ofNat 512 (word (64 + k * (line * 64) + 64 * j) 64) else 0, false)) ∧
          (∀ m e, m < 16 → e < 131072 → t.me.vec.maskBit m e =
            (decide (e < min most new) &&
              (byte (64 + n * (line * 64) + m * ((most + 511) / 512 * 64) + e / 8)).testBit (e % 8), false))))

/-! ### EXIT (R77, R93, R112) -/

/-- R77: EXIT runs in every state; its context is free, no lane is granted to it or earmarked for it. With no access pending,
no byte changes, and a thread of a crew that is not its last leaves the crew with its exit noted; the last one's crew is gone,
and its launch counts one crew more as ended. R77 has EXIT wait for the older instructions and accesses: that it ends in the
step also where some are pending is the model's reading (log 53), and that the registers of the free context hold zeros is
its choice (log 5). -/
def Obligations.ExitEndsTheThread : Prop :=
  ∀ (s : State),
    Reaches (exec .exit s) fun t => t.ctx s.cur = {} ∧
      (∀ p ∈ (t.cluster (clusterOf s.cur)).lanes, p.2 ≠ .granted s.cur ∧ p.2.markedFor s.cur = false) ∧
      (s.me.pend = [] → SameBytes s t ∧
        ∀ k x, s.me.crew = some k → s.crewOf k = some x →
          ((∃ i ∈ x.live, i ≠ s.me.tidx) → ∃ y, t.crewOf k = some y ∧ y.exited = s.me.tidx :: x.exited) ∧
          ((∀ i ∈ x.live, i = s.me.tidx) → t.crewOf k = none ∧
            ∀ l, (launchKey x.fn x.lid, l) ∈ s.launches →
              (aget { record := 0 } t.launches (launchKey x.fn x.lid)).completed =
                (aget { record := 0 } s.launches (launchKey x.fn x.lid)).completed + 1))

/-! ### Task queues (R271 to R281, R286) -/

/-- Nothing of the thread is under way: no instruction runs again or waits, no revocation, store, message or delivery of it
is pending. -/
abbrev Sys2Proof.Quiet (s : State) : Prop :=
  s.me.reissue = none ∧ s.me.wait = none ∧ s.me.revoke = none ∧ s.me.pend = [] ∧ s.ownMsgs s.cur (fun _ => true) = []

/-- An instruction ended with a status or a value in sd: of the scalar registers, the flags and the level nothing else
changed. -/
def Sys2Proof.Ended (s t : State) (d : BitVec 5) (v : Word) : Prop :=
  (∀ r, t.me.raw r = if r = d ∧ d ≠ 0 then (v, false) else s.me.raw r) ∧ t.me.pc = s.me.pc + 4 ∧
  t.me.level = s.me.level ∧ t.me.fstat = s.me.fstat

/-- The same, and memory is as before. -/
def Sys2Proof.Answered (s t : State) (d : BitVec 5) (v : Word) : Prop := Ended s t d v ∧ SameBytes s t

/-- A handle's low bits name queue `q` of C-die `die`, assigned to the thread's function and reached on a way that is not
held. -/
abbrev Sys2Proof.NamesQueue (s : State) (h : Nat) (die q : Nat) : Prop :=
  h < 2048 ∧ h % 256 = q ∧ s.dieById s.me.fn (h / 256) = some die ∧ s.ownsQueue s.me.fn die q = true ∧
  s.reaches s.me.fn (dieOf s.cur) die = true ∧ s.wayHeld die = false

/-- The words stored from an address on. -/
def Sys2Proof.storedWords (s : State) (a n : Nat) : List Word :=
  (List.range n).map fun i => BitVec.ofNat 64 (leNat (storedBytes s (a + 8 * i) 8))

/-- R271 to R274: control actions above user level. OPEN with a good descriptor, read clean at firmware level, opens a
closed queue empty with the descriptor's ring, support endpoint and class, and answers 5 for an open one; CLOSE closes an
open empty queue, answers 5 for one that holds something and 4 for a closed one; RESUME ends a stop, and answers 5 where
there is none; PURGE empties an open queue and ends its stop. A refill moves the oldest entry of the ring on chip. -/
def Obligations.QueueControl : Prop :=
  ∀ (s : State) (d a b : BitVec 5) (c : BitVec 4) (die q : Nat), Quiet s → s.rp a = false → s.rp b = false →
    s.me.level = .firmware →
    let h := fun act => 2 ^ 63 + act * 2 ^ 60 + (s.rv b).toNat % 2048
    let x := s.queue die q
    let full := !x.chip.isEmpty || x.used != 0 || !x.parked.isEmpty || !x.tiles.isEmpty || s.inHand (256 * die + q)
    NamesQueue s ((s.rv b).toNat % 2048) die q →
    ((s.rv b).toNat = h 0 → PlainBytes s (s.rv a).toNat 64 →
      let ws := storedWords s (s.rv a).toNat 8
      let w := fun i => ((ws[i]?).getD 0).toNat
      goodDescriptor false ws = true →
      (x.isOpen = true → Reaches (exec (.queueOpen d a b c) s) fun t => Answered s t d 5 ∧ t.queue die q = x) ∧
      (x.isOpen = false → Reaches (exec (.queueOpen d a b c) s) fun t => Answered s t d 0 ∧
        t.queue die q =
          { isOpen := true, tile := (w 1).testBit 28, ring := true, rbase := BitVec.ofNat 64 (w 0), rlog2 := w 1 % 64,
            supep := w 1 / 64 % 2 ^ 18, oc := w 1 / 2 ^ 24 % 16, trowb := w 2 % 2 ^ 32, level := s.me.level,
            fn := s.me.fn })) ∧
    ((s.rv b).toNat = h 1 → Reaches (exec (.queueClose d a b c) s) fun t =>
      Answered s t d (if x.isOpen = false then 4 else if full then 5 else 0) ∧
      t.queue die q = if x.isOpen = true ∧ full = false then {} else x) ∧
    ((s.rv b).toNat = h 2 → Reaches (exec (.queueResume d a b c) s) fun t =>
      Answered s t d (if x.isOpen = false then 4 else if x.stopped then 0 else 5) ∧
      t.queue die q = if x.isOpen then { x with stopped := false } else x) ∧
    ((s.rv b).toNat = h 3 → Reaches (exec (.queuePurge d a b c) s) fun t =>
      Answered s t d (if x.isOpen then 0 else 4) ∧
      (x.isOpen = true →
        let y := t.queue die q
        y.isOpen = true ∧ y.stopped = false ∧ y.chip = [] ∧ y.used = 0 ∧ y.parked = [] ∧ y.waiters = x.waiters)) ∧
    ∀ u v hs ws, die < 256 → q < 256 → x.chip.length < 64 → 0 < x.used → x.stopped = false → x.isOpen = true →
      x.tile = true → s.ringRead (256 * die + q) x.head 1 = (u, .ok hs) →
      u.ringRead (256 * die + q) x.head 4 = (v, .ok ws) → v.queue die q = x → u.queue die q = x →
      Reaches (exec (.ringRefill die q) s) fun t =>
        let k := x.beside.head?.getD (x.level, 0)
        (t.queue die q).chip = x.chip ++ [{ words := ws, level := k.1, lid := k.2 }] ∧
        (t.queue die q).used = x.used - 32 ∧ (t.queue die q).head = (x.head + 32) % 2 ^ x.rlog2

/-- R276, R277, R279, R286: at firmware level on clean device memory. TQPUSH of an entry with a good header that names no
counter to an open task queue with room on chip writes 0, and the header and the fields its mask names stand last in the
queue; TILEQ does so with a good tile record of at least one row and a tile queue; a push to a closed queue writes 4. The
scheduler hands the head entry of a task queue, expanded over the entry before it, to the oldest waiter, and of the record at
the head of a tile queue the next tile, with its index, its valid rows, its address and the mark of the last one, which takes
the record off the queue. TGET waits; once it was handed an item it writes the item to its buffer and 0, and holds the task,
also where the buffer is no multiple of 8, by the model's reading of R275 (log 42); past its bound it writes 1. TDONE ends a
task without a signal and writes 0; with one it takes 1 from the task's counter and writes the new value. -/
def Obligations.TasksArePushedGotAndDone : Prop :=
  ∀ (s : State) (d a b : BitVec 5) (c : BitVec 4) (die q : Nat), s.rp a = false → s.rp b = false → s.me.level = .firmware →
    let x := s.queue die q
    let at_ := (s.rv a).toNat
    (Quiet s → die < 256 → q < 256 → NamesQueue s (s.rv b).toNat die q → PlainBytes s at_ 136 →
      let words := fun n => (storedWords s at_ n).map fun w => (w, false)
      let hdr := leNat (storedBytes s at_ 8)
      let room := x.isOpen = true ∧ x.stopped = false ∧ x.chip.length < 64 ∧ x.used = 0
      (at_ % 8 = 0 → hdr / 2 ^ 45 = 0 → hdr.testBit 16 = false → hdr.testBit 29 = false → x.tile = false →
        (room → Reaches (exec (.tqpush d a b c) s) fun t => Answered s t d 0 ∧
          let n := 1 + ((List.range 16).filter fun i => hdr.testBit i).length
          t.queue die q = { x with chip := x.chip ++ [{ words := words n, level := s.me.level }] }) ∧
        (x.isOpen = false → Reaches (exec (.tqpush d a b c) s) fun t => Answered s t d 4 ∧ t.queue die q = x)) ∧
      (at_ % 32 = 0 → goodTile (storedWords s at_ 4) = true → leNat (storedBytes s (at_ + 24) 8) / 2 ^ 15 % 2 = 0 →
        x.tile = true → room → hdr / 2 ^ 16 % 2 ^ 24 ≠ 0 → Reaches (exec (.tileq d a b c) s) fun t =>
          Answered s t d 0 ∧ t.queue die q = { x with chip := x.chip ++ [{ words := words 4, level := s.me.level }] })) ∧
    (∀ g n w fs rest ws, die < 256 → q < 256 → (s.die die).state = .present → x.isOpen = true → x.stopped = false →
      x.tile = false → (∀ p ∈ x.parked, p.ready = false) → s.waiterOf x = some (g, n) →
      x.chip = ws :: rest →
      ws.words = w :: fs → w.1.toNat.testBit 16 = false →
      Reaches (exec (.taskDispatch die q) s) fun t =>
        (∃ fields, fields.length = 16 ∧
          t.ctx g = (s.ctx g).takes n ({ queue := 256 * die + q, header := w.1 }, w :: fields) ∧
          (n = (s.ctx g).handlers.length →
            (t.ctx g).handed = some ({ queue := 256 * die + q, header := w.1 }, w :: fields)) ∧
          ∀ i, i < 16 → fields[i]? =
            if w.1.toNat.testBit i then some (fs.getD ((List.range i).filter fun j => w.1.toNat.testBit j).length (0, false))
            else some (x.prev.getD i (0, false))) ∧
        (t.queue die q).chip = rest ∧ (t.queue die q).waiters = x.waiters.filter fun p => p != (g, n)) ∧
    (∀ g n (r : TileRec) w0 w1 w2 w3, die < 256 → q < 256 → (s.die die).state = .present → x.isOpen = true →
      x.stopped = false → x.tile = true → s.waiterOf x = some (g, n) → r.words = [w0, w1, w2, w3] →
      (x.tiles = [r] ∧ r.purged = false ∧ r.back = [] ∨
        x.tiles = [] ∧ r = { serial := s.serial, words := r.words } ∧ x.chip.head?.map (·.words) = some r.words) →
      let rows := w0.1.toNat / 2 ^ 16 % 2 ^ 24
      let tiles := (rows + 31) / 32
      let i := r.next
      let last := i + 1 = tiles
      i < tiles → Reaches (exec (.taskDispatch die q) s) fun t =>
        t.ctx g = (s.ctx g).takes n ({ queue := 256 * die + q, header := w3.1, tile := some r.serial },
          [(BitVec.ofNat 64 (w0.1.toNat % 2 ^ 16 + i * 2 ^ 16 + (if last then rows - 32 * (tiles - 1) else 32) * 2 ^ 48 +
              (if last then 2 ^ 54 else 0)), w0.2),
           (BitVec.ofNat 64 (w1.1.toNat + 32 * i * x.trowb), w1.2), w2, w3]) ∧
        (t.queue die q).tiles = [{ r with next := i + 1 }] ∧
        (t.queue die q).chip = (if last then x.chip.drop 1 else x.chip) ∧
        (t.queue die q).waiters = x.waiters.filter fun p => p != (g, n)) ∧
    (s.me.reissue = none → ∀ k bound, s.me.wait = some (.tget k bound) → s.me.pend = [] →
      (∀ item ws, s.me.handed = some (item, ws) → item.queue = k → s.viewer = none → (∀ w ∈ ws, w.2 = false) →
        PlainBytes s (s.rv b).toNat (8 * ws.length) → ws.length ≤ 17 → Reaches (exec (.tget d a b c) s) fun t =>
          Ended s t d 0 ∧ t.me.task = some item ∧ t.me.handed = none ∧
          StoredAt s (t.drainAll t.cur) (s.rv b).toNat (bytesOf (ws.map (·.1)))) ∧
      (s.me.handed = none → bound ≠ 0 → s.me.live = true → Reaches (exec (.tgetTimeout s.cur) s) fun t =>
        Reaches (exec (.tget d a b c) t) fun u => Answered s u d 1)) ∧
    (Quiet s → ∀ item, s.me.task = some item → item.tile = none →
      (item.header.toNat.testBit 29 = false → Reaches (exec (.tdone d c) s) fun t =>
        Answered s t d 0 ∧ t.me.task = none) ∧
      (item.header.toNat.testBit 29 = true → ∀ die', s.dieById s.me.fn (item.header.toNat / 2 ^ 42 % 8) = some die' →
        s.reaches s.me.fn (dieOf s.cur) die' = true → s.wayHeld die' = false →
        let k := 4096 * die' + item.header.toNat / 2 ^ 30 % 4096
        Reaches (exec (.tdone d c) s) fun t =>
          Answered s t d (BitVec.ofInt 64 (s.counter k - 1).toInt) ∧ t.me.task = none ∧ t.counter k = s.counter k - 1))

/-- R280: TDEP of an assigned counter that is reached writes its old value, sign-extended; ADD adds its operand and SET
writes it, modulo 2^32; a counter that comes to zero wakes the tasks parked on it; every other counter keeps its value. -/
def Obligations.CountersCount : Prop :=
  ∀ (s : State) (d a b : BitVec 5) (c : BitVec 4) (die k : Nat), Quiet s → s.rp a = false → s.rp b = false → k < 4096 →
    s.dieById s.me.fn ((s.rv b).toNat / 4096 % 8) = some die → (s.rv b).toNat % 4096 = k →
    s.ownsCounter s.me.fn die k = true → s.reaches s.me.fn (dieOf s.cur) die = true → s.wayHeld die = false →
    let old := s.counter (4096 * die + k)
    let becomes := fun (t : State) (v : BitVec 32) =>
      Answered s t d (BitVec.ofInt 64 old.toInt) ∧
      (∀ j, t.counter j = if j = 4096 * die + k then v else s.counter j) ∧
      ∀ q p, p ∈ (t.queue die q).parked → v = 0 → p.header.1.toNat / 2 ^ 17 % 4096 = k → p.ready = true
    ((s.rv b).toNat / 2 ^ 15 = 0 → Reaches (exec (.tdepRead d a b c) s) fun t =>
      Answered s t d (BitVec.ofInt 64 old.toInt) ∧ ∀ j, t.counter j = s.counter j) ∧
    ((s.rv b).toNat / 2 ^ 15 = 2 → Reaches (exec (.tdepAdd d a b c) s) fun t =>
      becomes t (BitVec.ofNat 32 (old.toNat + (s.rv a).toNat))) ∧
    ((s.rv b).toNat / 2 ^ 15 = 4 → Reaches (exec (.tdepSet d a b c) s) fun t =>
      becomes t (BitVec.ofNat 32 (s.rv a).toNat))

/-! ### Experts (R282 to R285) -/

/-- What a byte holds after ranges of bytes were stored one after the other: what the last range that has it stored. -/
def Sys2Proof.storedAfter (ws : List (Nat × List Byte)) (l : Nat) (old : Byte) : Byte :=
  ws.foldl (fun b w => if w.1 ≤ l ∧ l < w.1 + w.2.length then (w.2[l - w.1]?).getD 0 else b) old

/-- R282 to R284: at firmware level on clean device memory, with good descriptors. XDISP counts the row into the first
choice whose count is below its capacity, stores it there with its tag, and writes its place, expert, rank and 0 or 1;
where every choice is full it counts the row on the drop list, with a tag while there is room, and writes 2 or 3. Nothing
else of memory changes. -/
def Obligations.ExpertDispatch : Prop :=
  ∀ (s : State) (d a b e : BitVec 5) (c : BitVec 4), s.rp a = false → s.rp b = false → s.rp e = false → Quiet s →
    s.me.level = .firmware →
    let table := (s.rv b).toNat
    let rt := (s.rv e).toNat
    let src := (s.rv a).toNat
    let num := fun at_ n => leNat (storedBytes s at_ n)
    let rowb := num (table + 4) 4
    table % 64 = 0 → rt % 64 = 0 → PlainBytes s table 64 → PlainBytes s rt 64 → PlainBytes s src rowb →
    goodTable (storedWords s table 8) = true → goodRoute (storedWords s rt 8) = true →
    let rank := num (rt + 4) 1
    let expert := fun r => num (rt + 8 + 2 * r) 2
    let entry := fun r => table + 64 + 32 * expert r
    let cap := fun r => num (entry r + 16) 4
    let count := fun r => num (entry r + 20) 4
    let row := fun r => num (entry r) 8 + rowb * count r
    let tag := fun r => num (entry r + 8) 8 + 16 * count r
    let answers := fun (t : State) (pos x r st : Nat) (ws : List (Nat × List Byte)) =>
      Ended s t d (BitVec.ofNat 64 (pos * 2 ^ 32 + x * 2 ^ 16 + r * 2 ^ 8 + st)) ∧
      ∀ l, t.stored l = storedAfter ws l (s.stored l)
    (∀ r ≤ rank, expert r < num table 4 ∧ PlainBytes s (entry r) 32 ∧ goodEntry (storedWords s (entry r) 4) = true) →
    (∀ r ≤ rank, count r < cap r → (∀ q < r, cap q ≤ count q) → PlainBytes s (row r) rowb → PlainBytes s (tag r) 16 →
      Reaches (exec (.xdisp d a b e c) s) fun t =>
        answers t (count r) (expert r) r (if r = 0 then 0 else 1)
          [(entry r + 20, leBytes 4 (count r + 1)), (row r, storedBytes s src rowb),
           (tag r, leBytes 4 (num rt 4) ++ leBytes 4 (num (rt + 24 + 4 * r) 4) ++
             [BitVec.ofNat 8 (num (rt + 5) 1), BitVec.ofNat 8 r] ++ leBytes 2 (expert r) ++
             leBytes 4 (if r = 0 then 0 else 2))]) ∧
    let most := num (table + 16) 4
    let lost := num (table + 20) 4
    let counted := (table + 20, leBytes 4 (lost + 1))
    let at_ := num (table + 8) 8 + 16 * lost
    ((∀ r ≤ rank, cap r ≤ count r) → (lost < most → PlainBytes s at_ 16) → Reaches (exec (.xdisp d a b e c) s) fun t =>
      answers t lost 0xFFFF (rank + 1) (if lost < most then 2 else 3)
        (if lost < most then
          [counted, (at_, leBytes 4 (num rt 4) ++ leBytes 4 0 ++ [BitVec.ofNat 8 (num (rt + 5) 1), BitVec.ofNat 8 (rank + 1)] ++
            leBytes 2 0xFFFF ++ leBytes 4 1)]
        else [counted]))

/-- R285: at firmware level on clean device memory, with a good descriptor. XCOMB takes the tags of an expert, or of the
drop list, up to the smaller of count and capacity: each whose slot is below NSLOT writes at its place of the output the
expert's row with every element times the gate, rounded once, or zeros for a drop or a fault; the others are skipped. sd
has the rows written and, from bit 32, the tags skipped; FSTAT has the flags of the products; nothing else changes. -/
def Obligations.ExpertCombine : Prop :=
  ∀ (s : State) (d a b e : BitVec 5) (c : BitVec 4), s.rp a = false → s.rp b = false → s.rp e = false → Quiet s →
    s.me.level = .firmware →
    let table := (s.rv b).toNat
    let ds := (s.rv e).toNat
    let x := (s.rv a).toNat
    let num := fun at_ n => leNat (storedBytes s at_ n)
    let rowb := num (table + 4) 4
    PlainBytes s table 64 → PlainBytes s ds 32 → goodTable (storedWords s table 8) = true →
    goodCombine (storedWords s ds 4) = true →
    let drop := x = 0xFFFFFFFF
    let entry := table + 64 + 32 * x
    let desc := if drop then table else entry
    (drop ∨ x < num table 4 ∧ PlainBytes s entry 32) →
    let nslot := num (ds + 8) 1
    let wide := num (ds + 9) 1 = 0
    let n := min (num (desc + 16) 4) (num (desc + 20) 4)
    let row := fun i => num entry 8 + rowb * i
    let tag := fun i => num (desc + 8) 8 + 16 * i
    let slot := fun i => num (tag i + 8) 1
    let zero := fun i => drop ∨ (num (tag i + 12) 1).testBit 0 = true ∨ (num (tag i + 12) 1).testBit 2 = true
    let out := fun i => num ds 8 + (num (tag i) 4 * nslot + slot i) * rowb
    let size := if wide then 4 else 2
    let prod := fun i j => mulValues (if wide then 10 else 13) 0
      (decodeFloat (if wide then 10 else 13) (num (row i + size * j) size)) (decodeFloat 10 (num (tag i + 4) 4))
    let kept := (List.range n).filter fun i => slot i < nslot
    (∀ i < n, PlainBytes s (tag i) 16 ∧ (slot i < nslot → PlainBytes s (out i) rowb ∧ (zero i ∨ PlainBytes s (row i) rowb))) →
    (∀ i j, i < n → j < n → slot i < nslot →
      (out i + rowb ≤ tag j ∨ tag j + 16 ≤ out i) ∧ (zero j ∨ out i + rowb ≤ row j ∨ row j + rowb ≤ out i)) →
    Reaches (exec (.xcomb d a b e c) s) fun t =>
      let v := BitVec.ofNat 64 (kept.length + (n - kept.length) * 2 ^ 32)
      (∀ r, t.me.raw r = if r = d ∧ d ≠ 0 then (v, false) else s.me.raw r) ∧ t.me.pc = s.me.pc + 4 ∧
      t.me.level = s.me.level ∧
      t.me.fstat = s.me.fstat ||| (kept.foldl (fun f i =>
        if zero i then f else (List.range (rowb / size)).foldl (fun f j => f ||| (prod i j).2) f) noFlags).zeroExtend 64 ∧
      ∀ l, t.stored l = storedAfter (kept.map fun i => (out i,
        if zero i then List.replicate rowb 0
        else (List.range (rowb / size)).flatMap fun j => leBytes size (prod i j).1)) l (s.stored l)

/-! ### Directories and censuses (R289 to R303) -/

/-- R289 to R294, R303: at firmware level, with nothing under way. DREG of a good descriptor, read clean, whose channel a
live thread of the caller's crew holds and whose range lies in the crew's region takes the lowest free slot and writes its
number, or 64 where there is none. DDEL frees a valid entry and writes 0, writes 1 for a free slot and 2 otherwise. DMOVE
to a channel of another core, installed, writes 256 times the slot taken there: it holds the entry with its new range and
channel, the old slot is a stub that names it, and the tile's bytes were copied. A stub whose awaited censuses have all
passed is freed. -/
def Obligations.DirectoryEntries : Prop :=
  ∀ (s : State) (d a b : BitVec 5), Quiet s → s.rp a = false → s.rp b = false → s.me.level = .firmware →
    let core := coreOf s.cur
    (∀ crew x, (s.rv a).toNat % 32 = 0 → PlainBytes s (s.rv a).toNat 32 →
      let ws := storedWords s (s.rv a).toNat 4
      let w2 := (ws[2]?).getD 0
      goodEntryDesc ws = true → s.ownChannelCrew (w2.toNat / 2 ^ 40 % 64) = some crew → s.crewOf crew = some x →
      (s.core core).hasRegion crew = true → w2.toNat % 2 ^ 20 + w2.toNat / 2 ^ 20 % 2 ^ 20 ≤ 16384 * x.granules →
      (∀ i, i < 64 → (s.slot core i).state = .free → (∀ j, j < i → (s.slot core j).state ≠ .free) →
        Reaches (exec (.dreg d a) s) fun t => Answered s t d (BitVec.ofNat 64 i) ∧
          t.slot core i = { state := .valid, key := (ws[0]?).getD 0, kmask := (ws[1]?).getD 0, word2 := w2,
                            fn := s.me.fn, crew := crew, gen := (s.slot core i).gen } ∧
          ∀ c j, ¬(c = core ∧ j = i) → t.slot c j = s.slot c j) ∧
      ((∀ i, i < 64 → (s.slot core i).state ≠ .free) → Reaches (exec (.dreg d a) s) fun t =>
        Answered s t d 64 ∧ ∀ c j, t.slot c j = s.slot c j)) ∧
    (let i := (s.rv a).toNat
     i < 64 →
     let e := s.slot core i
     Reaches (exec (.ddel d a) s) fun t =>
      Answered s t d (if e.state = .free then 1 else if e.state = .valid then 0 else 2) ∧
      ∀ c j, t.slot c j = if c = core ∧ j = i ∧ e.state = .valid then { gen := e.gen + 1 } else s.slot c j) ∧
    (let i := (s.rv a).toNat
     let w := (s.rv b).toNat
     let e := s.slot core i
     let len := e.word2.toNat / 2 ^ 20 % 2 ^ 20
     let off := w / 2 ^ 24 % 2 ^ 20
     ∀ k x to_ j, i < 64 → goodMove (s.rv b) = true → e.state = .valid →
      s.coreById s.me.fn (w / 64 % 2048) = some to_ → s.reaches s.me.fn (dieOf s.cur) (to_ / 256) = true → to_ ≠ core →
      s.wayHeld (to_ / 256) = false → s.routeHeld (dieOf s.cur) (to_ / 256) = false →
      s.regionOfChan to_ (w % 64) = some (k, x) → off + len ≤ 16384 * x.granules → off % 64 = 0 → len % 64 = 0 →
      j < 64 → (s.slot to_ j).state = .free → (∀ h, h < j → (s.slot to_ h).state ≠ .free) → s.me.live = true →
      (∀ p ∈ s.moves, p.1 ≠ s.serial) → e.word2.toNat % 64 = 0 →
      let from_ := fun o => s.regionLoc core e.crew (e.word2.toNat % 2 ^ 20 + o)
      let into := fun o => s.regionLoc to_ k (off + o)
      (∀ o p, o < len → into o = some p →
        ∀ h, h < len → from_ h ≠ some p ∧ (into h = some p → h = o)) →
      Reaches (exec (.dmove d a b) s) fun t => Reaches (exec (.dmoveInstall s.serial) t) fun u =>
        Reaches (exec (.dmove d a b) u) fun v =>
          Ended s v d (BitVec.ofNat 64 (256 * j)) ∧
          v.slot to_ j = { e with
            fn := x.fn
            word2 := BitVec.ofNat 64 (off + len * 2 ^ 20 + w % 64 * 2 ^ 40), crew := k, gen := (s.slot to_ j).gen } ∧
          v.slot core i = { e with
            state := .stub (64 * to_ + j) (s.slot to_ j).gen (s.core to_).seen, mset := [] } ∧
          (∀ o p q, o < len → from_ o = some p → into o = some q → s.locAbsent p = false → s.locAbsent q = false →
            v.stored q = s.stored p) ∧
          ∀ l, (∀ o, o < len → into o ≠ some l) → v.stored l = s.stored l) ∧
    ∀ c i to_ gen awaited, (s.slot c i).state = .stub to_ gen awaited → (∀ k ∈ awaited, k ∈ (s.core c).seen) →
      Reaches (exec (.stubFree c i) s) fun t => t.slot c i = { gen := (s.slot c i).gen + 1 }

/-- R295 to R303: SOLICIT of a good descriptor, read clean at firmware level, opens a census of its scope under the lowest
free id of the die and writes its handle, or 1 where every id is in use. A visit counts each matching valid entry of the
core once, in slot order, and sends a forward for each that moved; a forward is resolved at its slot, counting an entry
there. Once nothing is left to visit, resolve or answer, the census completes. REPLY to a counted entry, or for a slot not
counted yet, is counted and writes 0; it writes 1 once the census is done or the slot was answered. CWAIT of a census that
is done writes 0, and 1 where its bound passes first. CRES gives its result, its status, or frees the id. -/
def Obligations.Censuses : Prop :=
  ∀ (s : State) (d a b : BitVec 5) (o : BitVec 3), Quiet s → s.rp a = false → s.rp b = false →
    let die := dieOf s.cur
    let f := s.me.fn
    let handle := fun i => BitVec.ofNat 64 (2 ^ 32 + aget 0 (s.die die).generations i * 2 ^ 20 + s.idOfDie f die * 2 ^ 16 + i)
    (s.me.level = .firmware → (s.rv a).toNat % 32 = 0 → PlainBytes s (s.rv a).toNat 32 →
      let ws := storedWords s (s.rv a).toNat 4
      let w2 := ((ws[2]?).getD 0).toNat
      s.goodSolicit ws = true →
      (∀ i, i < 256 → s.census (256 * die + i) = none → (∀ j, j < i → s.census (256 * die + j) ≠ none) →
        Reaches (exec (.solicit d a b o) s) fun t => Answered s t d (handle i) ∧
          t.census (256 * die + i) = some
            { owner := s.cur, fn := f, key := (ws[0]?).getD 0, mask := (ws[1]?).getD 0, arg := s.rv b,
              nep := w2 / 2 ^ 10 % 2 ^ 18, notify := w2.testBit 9, op := o, scope := s.scopeCores w2,
              toVisit := s.scopeCores w2 }) ∧
      ((∀ i, i < 256 → s.census (256 * die + i) ≠ none) → Reaches (exec (.solicit d a b o) s) fun t =>
        Answered s t d 1)) ∧
    (∀ to_ i c, i < 256 → (s.die to_).state = .present → s.census (256 * to_ + i) = some c → c.done = false →
      let k := 256 * to_ + i
      (∀ core, core ∈ c.toVisit → core / 256 = to_ →
        let hits := (List.range 64).filter fun j => c.hits (s.slot core j)
        let new := hits.filter fun j => (s.slot core j).state = .valid ∧ ¬k ∈ (s.slot core j).mset
        let moved := hits.filter fun j => match (s.slot core j).state with
          | .source _ _ => true
          | .stub _ _ _ => true
          | _ => false
        Reaches (exec (.censusVisit to_ i core) s) fun t => SameBytes s t ∧
          t.census k = some { c with
            toVisit := c.toVisit.erase core, forwards := c.forwards + moved.length,
            counted := c.counted ++ new.map fun j => { core := core, slot := j } } ∧
          k ∈ (t.core core).seen ∧
          ∀ j, j < 64 → t.slot core j =
            if j ∈ new then { s.slot core j with mset := k :: (s.slot core j).mset } else s.slot core j) ∧
      (∀ j w, (∀ p ∈ s.forwards, p = (j, w) ∨ p.1 ≠ j) → (j, w) ∈ s.forwards → w.census = k → w.dest / 64 / 256 = to_ →
        let e := s.slotAt w.dest
        (e.gen = w.gen → e.state = .valid → ¬k ∈ e.mset → Reaches (exec (.censusForward j) s) fun t =>
          t.census k = some { c with
            forwards := c.forwards - 1, counted := c.counted ++ [{ core := w.dest / 64, slot := w.dest % 64 }] }) ∧
        (e.gen ≠ w.gen → Reaches (exec (.censusForward j) s) fun t =>
          t.census k = some { c with forwards := c.forwards - 1 })) ∧
      (c.toVisit = [] → c.forwards = 0 → (∀ e ∈ c.counted, e.answer.isSome = true ∨ e.null = true) →
        Reaches (exec (.censusComplete to_ i) s) fun t => SameBytes s t ∧ t.census k = some { c with done := true })) ∧
    (∀ to_ c, s.coreById f ((s.rv b).toNat / 2 ^ 38 % 2048) = some (coreOf s.cur) →
      s.dieById f ((s.rv b).toNat / 2 ^ 16 % 8) = some to_ →
      let i := (s.rv b).toNat % 256
      let slot := (s.rv b).toNat / 2 ^ 32 % 64
      s.census (256 * to_ + i) = some c → c.fn = f →
      aget 0 (s.die to_).generations i = (s.rv b).toNat / 2 ^ 20 % 4096 → s.wayHeld to_ = false →
      let counted := fun e : Counted => e.core = coreOf s.cur ∧ e.slot = slot
      (c.done = true → Reaches (exec (.reply d a b) s) fun t => Answered s t d 1 ∧ t.census (256 * to_ + i) = some c) ∧
      (∀ before e after, c.done = false → (∀ x ∈ c.early, ¬counted x) → c.counted = before ++ e :: after →
        (∀ x ∈ before, counted x → x.answer.isSome = true ∨ x.null = true) →
        counted e → e.answer = none → e.null = false →
        Reaches (exec (.reply d a b) s) fun t => Answered s t d 0 ∧
          t.census (256 * to_ + i) = some { c with
            counted := before ++ { e with answer := some (s.rv a, false) } :: after }) ∧
      (c.done = false → (∀ x ∈ c.early, ¬counted x) → (∀ x ∈ c.counted, ¬counted x) →
        Reaches (exec (.reply d a b) s) fun t => Answered s t d 0 ∧
          t.census (256 * to_ + i) = some { c with
            early := c.early ++ [{ core := coreOf s.cur, slot := slot, answer := some (s.rv a, false) }] }) ∧
      (c.done = false → ((∃ x ∈ c.early, counted x) ∨ (∃ x ∈ c.counted, counted x) ∧
          ∀ x ∈ c.counted, counted x → x.answer.isSome = true ∨ x.null = true) →
        Reaches (exec (.reply d a b) s) fun t => Answered s t d 1 ∧ t.census (256 * to_ + i) = some c)) ∧
    ∀ i c, i < 256 → s.dieById f (s.idOfDie f die) = some die → s.idOfDie f die < 8 →
      aget 0 (s.die die).generations i < 4096 → s.rv a = handle i → s.census (256 * die + i) = some c → c.owner = s.cur →
      (c.done = true → Reaches (exec (.cwait d a b) s) fun t => Answered s t d 0) ∧
      (c.done = false → (s.rv b).toNat ≠ 0 → s.me.live = true → Reaches (exec (.cwait d a b) s) fun t =>
        Reaches (exec (.cwaitTimeout s.cur) t) fun u => Reaches (exec (.cwait d a b) u) fun v => Answered s v d 1) ∧
      (s.rv b = 0 → c.done = true → c.poisoned = false → Reaches (exec (.cresResult d a b) s) fun t => SameBytes s t ∧
        (∀ r, t.me.raw r = if r = d ∧ d ≠ 0 then (BitVec.ofNat 64 c.result.1, false) else s.me.raw r) ∧
        t.me.pc = s.me.pc + 4 ∧ t.me.fstat = s.me.fstat ||| (c.result.2 &&& 31).zeroExtend 64) ∧
      (s.rv b = 1 → Reaches (exec (.cresStatus d a b) s) fun t => Answered s t d c.status) ∧
      let freed := fun (t : State) =>
        SameBytes s t ∧ (∀ r, r ≠ d → t.me.raw r = s.me.raw r) ∧ t.me.pc = s.me.pc + 4 ∧
        t.census (256 * die + i) = none ∧
        aget 0 (t.die die).generations i = (aget 0 (s.die die).generations i + 1) % 4096
      (s.rv b = 2 → c.done = true → Reaches (exec (.cresFree d a b) s) freed) ∧
      (s.rv b = 3 → Reaches (exec (.cresAbandon d a b) s) freed)

/-! ### Translations, errors and poison (R324 to R328, R342 to R345) -/

/-- R324 to R328, R342 to R345: with no access pending anywhere. TLBINV above user level of a good action word takes the
translations and the non-leaf entries its action names out of the caches, package-wide, and with action 2 sets the stage-1
root. A walk that finds a page caches its translation and sets A in every entry it used; one that faults changes nothing.
CHKERR writes the old CIR and clears it where asked. ERRQ stores the oldest record and takes it off the queue, with the number lost, or says the queue
is empty; action 1 sets the notice endpoint. POISON marks a granule with its bytes kept, or writes it with zeros and
clean. -/
def Obligations.TranslationsErrorsAndPoison : Prop :=
  ∀ (s : State) (d a b : BitVec 5), Quiet s → s.rp a = false → s.rp b = false → (∀ g, (s.ctx g).pend = []) → s.puts = [] →
    (let w := (s.rv b).toNat
     let x := (s.rv a).toNat
     let f := s.me.fn
     let vf := w / 256 % 128
     let gone := fun (i : Instr) (which : TlbEntry → Prop) (tables : WalkEntry → Prop) => Reaches (exec i s) fun t =>
      Answered s t d 0 ∧ (∀ e, e ∈ t.tlb ↔ e ∈ s.tlb ∧ ¬which e) ∧ (∀ e, e ∈ t.walks ↔ e ∈ s.walks ∧ ¬tables e) ∧
      ∀ g, (t.fnOf g).s1root = if i = .tlbinvRoot d a b ∧ g = f then some x else (s.fnOf g).s1root
     s.me.level ≠ .user → badTlbArg s.me.level x w = false →
     let selects := fun e : WalkEntry => e.tag = x / 2 ^ (39 - 9 * e.level)
     let read := fun via : List (Nat × Nat) => ∃ p ∈ via, p.1 = x / 2 ^ p.2
     (w % 8 = 0 → gone (.tlbinvVa d a b) (fun e => e.fn = f ∧ e.va / 2 ^ e.bits = x / 2 ^ e.bits) fun e =>
      e.fn = f ∧ e.stage = 0 ∧ selects e) ∧
     (w % 8 = 1 → gone (.tlbinvAll d a b) (fun e => e.fn = f) fun e => e.fn = f ∧ e.stage = 0) ∧
     (w % 8 = 2 → gone (.tlbinvRoot d a b) (fun e => e.fn = f) fun e => e.fn = f ∧ e.stage = 0) ∧
     (w % 8 = 3 → gone (.tlbinvGpa d a b) (fun e => e.fn = vf ∧ (e.gpa / 2 ^ e.bits = x / 2 ^ e.bits ∨ read e.via)) fun e =>
      e.fn = vf ∧ (e.stage = 1 ∧ selects e ∨ read e.via)) ∧
     (w % 8 = 4 → gone (.tlbinvVfall d a b) (fun e => e.fn = vf) fun e => e.fn = vf)) ∧
    (∀ g va acc, (s.ctx g).live = true → (s.ctx g).level ≠ .firmware → canonical va.toNat = true →
      inWindow va.toNat = false → s.viewer = none → (∀ e ∈ s.tlb, e.covers (s.ctx g).fn va.toNat = false) →
      let u := { s with viewer := some (dieOf g) }
      (∀ x, u.walk (s.ctx g).fn (s.ctx g).level acc va.toNat = .error x → x.cause ≠ 0x089 →
        exec (.pageWalk g va acc) s = .next s) ∧
      ∀ x, u.walk (s.ctx g).fn (s.ctx g).level acc va.toNat = .ok x →
        Reaches (exec (.pageWalk g va acc) s) fun t => t.ctxs = s.ctxs ∧
          { x.entry with d := x.entry.d || (needOf acc).w } ∈ t.tlb ∧
          ((∀ l ∈ x.leaf1 :: x.leaf2 :: x.used, l.entry < deviceEnd ∧ l.entry % 8 = 0 ∧ u.homeAbsent l.entry = false ∧
              aget noKey s.lineKey (l.entry / 64) = l.ekey ∧
              (aget noKey s.tags (l.entry / 64) = noKey ∨ aget noKey s.tags (l.entry / 64) = l.ekey)) →
            ∀ l ∈ x.leaf1 :: x.leaf2 :: x.used, (t.stored l.entry).getLsbD 6 = true)) ∧
    ((s.rv a).toNat < 2 → Reaches (exec (.chkerr d a) s) fun t =>
      Answered s t d s.me.cir ∧ t.me.cir = if s.rv a = 1 then 0 else s.me.cir) ∧
    (let key := if s.me.level = .firmware then 65 else s.me.fn
     let q := aget {} (s.die (dieOf s.cur)).errors key
     let after := fun (t : State) => aget {} (t.die (dieOf s.cur)).errors key
     s.me.level ≠ .user → q.lost < 65536 →
     (s.rv b = 0 → (s.rv a).toNat % 64 = 0 → q.records = [] → Reaches (exec (.errqPop d a b) s) fun t =>
      Answered s t d (BitVec.ofNat 64 (1 + q.lost * 2 ^ 32)) ∧ after t = { q with lost := 0 }) ∧
     (∀ r rest, s.rv b = 0 → (s.rv a).toNat % 64 = 0 → q.records = r :: rest → s.me.level = .firmware → s.viewer = none →
      PlainBytes s (s.rv a).toNat 64 → Reaches (exec (.errqPop d a b) s) fun t =>
        Ended s t d (BitVec.ofNat 64 (q.lost * 2 ^ 32)) ∧ after t = { q with records := rest, lost := 0 } ∧
        StoredAt s (t.drainAll t.cur) (s.rv a).toNat (leBytes 64 r.toNat)) ∧
     (s.rv b = 1 → (s.rv a).toNat < 2 ^ 19 → Reaches (exec (.errqNotice d a b) s) fun t =>
      Answered s t d 0 ∧ after t = { q with
        notice := if (s.rv a).toNat < 2 ^ 18 then none else some ((s.rv a).toNat % 2 ^ 18) })) ∧
    let x := (s.rv a).toNat
    let marked := fun (t : State) (clear : Bool) =>
      (∀ r, t.me.raw r = s.me.raw r) ∧ t.me.pc = s.me.pc + 4 ∧ t.me.level = s.me.level ∧ t.me.fstat = s.me.fstat ∧
      (∀ l, t.granulePoison l = if l / 64 = x / 64 then !clear else s.granulePoison l) ∧
      ∀ l, t.stored l = if clear ∧ l / 64 = x / 64 then 0 else s.stored l
    s.me.level = .firmware → x + 8 ≤ deviceEnd → (∀ i, i < 8 → s.heldAt (x + i) = false) →
      s.homeAbsent (x / 64 * 64) = false →
      aget noKey s.lineKey (x / 64) = noKey →
      (s.rv b = 0 → Reaches (exec (.poisonMark a b) s) fun t => marked t false) ∧
      (s.rv b = 1 → Reaches (exec (.poisonClear a b) s) fun t => marked t true)

/-! ### Events: messages, waits, deliveries, launches (R84, R85 to R90, R248, R249, R252, R257, R266, R365, R369) -/

/-- A bound of a wait passed: the context's wait is answered, and nothing else of the machine changed. -/
def Sys2Proof.WaitAnswered (s t : State) (g : Nat) (v : Word) : Prop :=
  t = s.setCtx g { s.ctx g with wait := some (.answered v) }

/-- R248, R249, R369, R372: a message on its way to a channel that is reached enters its FIFO last, sets the pending bit and
is gone; where the FIFO is full a device message is offered again later, any other bounces, as one does whose sender or
destination lies outside the bitmap of its function. A message to a host interrupt endpoint raises its vector, pending while
masked, and with NBASE fills the vector's slot and raises its count by 2. A bounce enters FIFO 63 of the sending core with
the destination and the status in its tag. A device message that stayed refused is dropped and counted. -/
def Obligations.MessageEvents : Prop :=
  ∀ (s : State) (k : Nat) (w : Wire), s.wireAt k = some w →
    (∀ core ch, s.target w.fn w.dest = .core core ch → s.reaches w.fn (s.wireDie w) (core / 256) = true →
      s.routeHeld (s.wireDie w) (core / 256) = false → (s.chan core ch).held = false → w.waits = false → w.refused = none →
      (s.strays w.fn w.sender (core / 16) = true → w.retry = false → s.messageWaits k w = false → w.device = false →
        Reaches (exec (.messageArrival k) s) fun t => SameBytes s t ∧ t.cores = s.cores ∧
          t.wireAt k = some { w with refused := some 3 }) ∧
      (s.strays w.fn w.sender (core / 16) = false →
      let x := s.chan core ch
      let arrives := fun (i : Instr) =>
        (x.fifo.length < 8 → Reaches (exec i s) fun t => SameBytes s t ∧ t.wireAt k = none ∧ t.chan core ch =
          { x with fifo := x.fifo ++ [{ payload := w.payload, poison := w.poison, tag := tagOf w.cls w.kind w.src 0 }],
                   pend := true }) ∧
        (8 ≤ x.fifo.length → Reaches (exec i s) fun t => SameBytes s t ∧ t.chan core ch = x ∧
          t.wireAt k = some (if w.device then { w with retry := true } else { w with refused := some 1 }))
      (w.retry = false → s.messageWaits k w = false → arrives (.messageArrival k)) ∧
      (w.retry = true → w.device = true → arrives (.deviceMessageRetry k)))) ∧
    (∀ v, s.target w.fn w.dest = .host v → s.hostUp w.fn = true → w.waits = false → w.refused = none → w.retry = false →
      s.messageWaits k w = false → (s.fnOf w.fn).nbase.toNat % 4096 = 0 →
      Reaches (exec (.hostInterruptMessage k) s) fun t =>
        let base := (s.fnOf w.fn).nbase.toNat
        let slot := hostBase + (base + 32 * v) % 2 ^ 51
        let count := hostBase + (base + 2048 + 8 * v) % 2 ^ 51
        t.wireAt k = none ∧
        (t.fnOf w.fn).msixPend = (if (s.fnOf w.fn).msixMask.getLsbD v then (s.fnOf w.fn).msixPend ||| BitVec.twoPow 64 v
          else (s.fnOf w.fn).msixPend) ∧
        (base ≠ 0 → storedBytes t slot 32 = leBytes 32 w.payload.toNat ∧
          leNat (storedBytes t count 8) = (leNat (storedBytes s count 8) + 2) % 2 ^ 64) ∧
        ∀ l, (base ≠ 0 → ¬(slot ≤ l ∧ l < slot + 32) ∧ ¬(count ≤ l ∧ l < count + 8)) → t.stored l = s.stored l) ∧
    (∀ st g, w.refused = some st → w.sender = some g → (s.die (dieOf g)).state = .present →
      let x := s.chan (coreOf g) 63
      x.fifo.length < 8 → Reaches (exec (.bounce k) s) fun t => SameBytes s t ∧ t.wireAt k = none ∧
        t.chan (coreOf g) 63 = { x with
          fifo := x.fifo ++ [{ payload := w.payload, poison := w.poison, tag := tagOf w.cls 3 w.dest st }],
          pend := true }) ∧
    (w.device = true → w.retry = true → Reaches (exec (.deviceMessageDrop k) s) fun t => SameBytes s t ∧
      t.wireAt k = none ∧ (t.fnOf w.fn).usage.drops = (s.fnOf w.fn).usage.drops + 1)

/-- R84 to R90, R252, R257, R266, R365, R368: a wait of a live context whose bound passed is answered, WAITM and BWAIT
with 1, a status that does not come with 2. A delivery puts its bytes into the region of its crew and is gone. At the
launch port of a function, reached over its host link: a whole slot that holds a good record is queued under the
function's next number, one that is malformed leaves its cause in LAST, any other write sets PART, and eight bytes at
0x1000 set NBASE; PORTSTAT is read and LAST and PART cleared. A head record ages. A placer puts the next crew of the
launch served on the contexts that fit, each at the record's PC. A complete launch is gone, with its message on the way
where it asked for one. That a delivery takes effect in one step is the model's choice (log 40). -/
def Obligations.WaitDeliveryAndLaunchEvents : Prop :=
  ∀ (s : State) (g f k : Nat),
    ((s.ctx g).live = true →
      (∀ ch n, (s.ctx g).wait = some (.waitm ch n) → n ≠ 0 →
        Reaches (exec (.waitmTimeout g) s) fun t => WaitAnswered s t g 1) ∧
      (∀ at_ key phase n, (s.ctx g).wait = some (.bwait at_ key phase n) → n ≠ 0 →
        Reaches (exec (.bwaitTimeout g) s) fun t => WaitAnswered s t g 1) ∧
      ((s.ctx g).wait = some .remoteStatus → Reaches (exec (.remoteStatusTimeout g) s) fun t =>
        WaitAnswered { s with wires := t.wires, fns := t.fns } t g 2)) ∧
    (∀ j, s.putAt k = some j → s.deliveryWaits k j = false →
      s.routeHeld (dieOf j.sender) (j.core / 256) = false → j.barrier = .none → j.message = none →
      let n := j.bytes.length
      Reaches (exec (.putDeliveryComplete k) s) fun t => t.putAt k = none ∧
        (∀ i l, i < n → s.putLoc j i = some l → (∀ h, h < n → s.putLoc j h = some l → h = i) → s.locAbsent l = false →
          t.stored l = (j.bytes[i]?).getD 0) ∧
        ∀ l, (∀ i, i < n → s.putLoc j i ≠ some l) → t.stored l = s.stored l) ∧
    (s.hostUp f = true → f ≤ 64 →
      let x := s.fnOf f
      (Reaches (exec (.portstatRead f) s) fun t =>
        t = { s.setFn f { x with last := 0, portPart := false } with answer := s.portstat f }) ∧
      (x.resetting = false → (s.dieById f 0).any (fun d => (s.die d).islandBusy) = false → ∀ off data, data ≠ [] →
        (off + data.length ≤ 4096 → ¬(data.length = 64 ∧ off % 64 = 0) →
          Reaches (exec (.launchPortWrite f off data) s) fun t => t = s.setFn f { x with portPart := true }) ∧
        (off + data.length ≤ 4096 → data.length = 64 → off % 64 = 0 →
          let r := BitVec.ofNat 512 (leNat data)
          let q := s.queueAt (launchQueue f (recLevel r))
          (s.launchCheck f r = 0x2C0 → Reaches (exec (.launchPortWrite f off data) s) fun t =>
            t = s.setFn f { x with last := 0x2C0 }) ∧
          (s.launchCheck f r = 0 → q.stopped = false → q.chip.length < 16 → q.used = 0 →
            Reaches (exec (.launchPortWrite f off data) s) fun t => SameBytes s t ∧
              (t.fnOf f).lid = (x.lid + 1) % 2 ^ 32 ∧
              aget { record := 0 } t.launches (launchKey f x.lid) = { record := r, level := .supervisor } ∧
              t.queueAt (launchQueue f (recLevel r)) = { q with
                chip := q.chip ++ [{ words := recWords r, level := .supervisor, lid := x.lid }] })) ∧
        (off = 0x1000 → data.length = 8 → Reaches (exec (.launchPortWrite f off data) s) fun t =>
          t = s.setFn f { x with nbase := (BitVec.ofNat 64 (leNat data) >>> 12) <<< 12 }))) ∧
    (∀ lvl, lvl < 4 → (s.queueAt (launchQueue f lvl)).chip ≠ [] → Reaches (exec (.launchHeadAging f lvl) s) fun t =>
      t = s.setFn f { s.fnOf f with headAge := aset (s.fnOf f).headAge lvl true }) ∧
    (∀ die lvl e rest l cl gs, s.resumptions f = [] → s.servedLevels f = [lvl] → lvl < 4 →
      (s.queueAt (launchQueue f lvl)).chip = e :: rest → s.launches.find? (fun p => p.1 == launchKey f e.lid) =
        some (launchKey f e.lid, l) →
      recPoison e.words = false →
      let r := recOf e.words
      s.findCluster f die (recThreads r) (recLaneMin r) (recGranules r) = some (cl, gs) → gs.Nodup →
      (∀ p, (s.fnOf f).part = some p → ∀ d, d ∈ p.dies.takeWhile (· != die) →
        s.findCluster f d (recThreads r) (recLaneMin r) (recGranules r) = none) →
      Reaches (exec (.crewPlacement die f) s) fun t =>
        (∃ c, t.crewOf s.serial = some c ∧ c.fn = f ∧ c.lid = e.lid ∧ c.cidx = l.placed ∧ c.cluster = cl ∧ c.threads = gs) ∧
        (aget { record := 0 } t.launches (launchKey f e.lid)).placed = l.placed + 1 ∧
        (t.queueAt (launchQueue f lvl)).chip = (if l.placed + 1 = recCrews r then rest else e :: rest) ∧
        ∀ i h, gs[i]? = some h → (t.ctx h).live = true ∧ (t.ctx h).pc = BitVec.ofNat 64 (field r 0 64) ∧
          (t.ctx h).level = .user ∧ (t.ctx h).crew = some s.serial ∧ (t.ctx h).tidx = i ∧ (t.ctx h).fn = f ∧
          (t.ctx h).raw 3 = (BitVec.ofNat 64 (field r 64 64), false) ∧
          (t.ctx h).raw 4 = (BitVec.ofNat 64 l.placed, false) ∧ (t.ctx h).raw 5 = (BitVec.ofNat 64 i, false)) ∧
    ∀ lid l, s.launches.find? (fun p => p.1 == launchKey f lid) = some (launchKey f lid, l) →
      l.placed = recCrews l.record → l.completed + l.lost = l.placed → field l.record 275 1 = 0 → l.tainted = false →
      Reaches (exec (.launchCompletion f lid) s) fun t => SameBytes s t ∧
        (∀ p ∈ t.launches, p.1 ≠ launchKey f lid) ∧
        (field l.record 274 1 = 0 → t.wires = s.wires) ∧
        (field l.record 274 1 = 1 → ∃ w, t.wireAt s.serial = some w ∧ w.dest = field l.record 256 18 ∧
          w.cls = field l.record 276 4 ∧ w.kind = 4 ∧ w.payload = BitVec.ofNat 256 (field l.record 288 32 +
            l.completed % 2 ^ 32 * 2 ^ 32 + (l.lossCause + if l.poison then 1024 else 0) * 2 ^ 64))

/-! ### Events: engines (R258 to R262, R330) -/

/-- R258 to R262, R330: an engine that is ready and holds fewer than 16 replies runs the command next in turn. A COPY,
COPY2D, FILL or PLANEPACK that was sent at firmware level and keeps to its row, on clean device memory, moves exactly
its bytes; an opcode from 5 on does nothing but answer 0x210; MIGRATE from user level answers 0x211, and one that moved
every line leaves the leaf with the new frame and no cached translation of the page. The command leaves the inbox, and
its reply is held where one is wanted. A held reply goes out; a reset discards the commands, which the engine answers
once it is ready. That a command takes effect in one step is the model's choice (log 40). -/
def Obligations.EngineEvents : Prop :=
  ∀ (s : State) (die u : Nat), (s.die die).state = .present → u < 4 →
    let e : Seat := ⟨die, u⟩
    let x := s.engine e
    let see := { s with viewer := some die }
    (∀ c, x.next = some c → c.poison = false → x.ready = true → s.heldReplies e < 16 → s.viewer = none →
      let ended := fun (t : State) (o : Outcome) => t.ctxs = s.ctxs ∧
        t.engine e = { x with
          inbox := x.inbox.erase c, lastFn := c.fn, replies := x.replies ++ if c.rpen then [c.reply o] else [] }
      (c.level = .firmware → c.plain = true →
        (c.opc = 0 → c.aux = 0 → overlaps c.src c.len c.dst c.len = false → PlainBytes see c.src c.len →
          PlainBytes see c.dst c.len → Reaches (exec (.engCopy die u) s) fun t =>
            ended t { bytes := c.len } ∧ StoredAt s t c.dst (storedBytes s c.src c.len)) ∧
        (let at_ := fun (base : Word) (p r : Nat) => (base + BitVec.ofNat 64 r * (BitVec.ofNat 24 p).signExtend 64).toNat
         let src := at_ c.word1 (c.aux / 2 ^ 24)
         let dst := at_ c.word2 c.aux
         let rows := c.aux / 2 ^ 48 % 65536 + 1
         c.opc = 1 → (∀ r < rows, PlainBytes see (src r) c.len ∧ PlainBytes see (dst r) c.len) →
         (∀ r q, r < rows → q < rows → overlaps (src r) c.len (dst q) c.len = false) →
         Reaches (exec (.engCopy2d die u) s) fun t => ended t { bytes := rows * c.len } ∧
          ∀ l, t.stored l =
            storedAfter ((List.range rows).map fun r => (dst r, storedBytes s (src r) c.len)) l (s.stored l)) ∧
        (c.opc = 2 → c.aux = 0 → PlainBytes see c.dst c.len → Reaches (exec (.engFill die u) s) fun t =>
          ended t { bytes := c.len } ∧
          StoredAt s t c.dst ((List.range c.len).map fun i => c.word1.extractLsb' (8 * ((c.dst + i) % 8)) 8)) ∧
        (let p := c.aux % 8 + 1
         let stride := (c.len + 511) / 512 * 64
         let v := fun i => (s.stored (c.src + i)).toInt
         let clamped := fun i => max (-(2 ^ (p - 1) : Int)) (min (2 ^ (p - 1) - 1) (v i))
         c.opc = 3 → 2 ≤ p → c.aux / 8 = 0 → c.dst % 64 = 0 → PlainBytes see c.src c.len →
         PlainBytes see c.dst (p * stride) → overlaps c.src c.len c.dst (p * stride) = false →
         Reaches (exec (.engPlanepack die u) s) fun t =>
          ended t { bytes := p * stride, clamps := ((List.range c.len).filter fun i => clamped i ≠ v i).length } ∧
          (∀ k j b, k < p → j < stride → b < 8 → (t.stored (c.dst + k * stride + j)).getLsbD b =
            (decide (8 * j + b < c.len) && (BitVec.ofInt 8 (clamped (8 * j + b))).getLsbD (p - 1 - k))) ∧
          ∀ l, l < c.dst ∨ c.dst + p * stride ≤ l → t.stored l = s.stored l)) ∧
      (5 ≤ c.opc → Reaches (exec (.engUnassignedOpcode die u) s) fun t => ended t { status := 0x210 } ∧ SameBytes s t) ∧
      (c.opc = 4 → c.level = .user → Reaches (exec (.engMigrate die u) s) fun t =>
        ended t { status := 0x211 } ∧ SameBytes s t) ∧
      ∀ root l ps p v m, c.opc = 4 → c.level ≠ .user → c.plain = true → c.len = 0 → c.aux < 4 → canonical c.src = true →
        let bits := sizeOfCode c.aux
        (ps.leaves.head?.map (·.w)).getD true = true →
        let w := { s.setEngine e { x with inbox := x.inbox.erase c, lastFn := c.fn } with viewer := some die }
        c.dst % 2 ^ bits = 0 → (s.fnOf c.fn).s1root = some root → w.walk1 c.fn c.src 4 root {} = .ok (l, ps) →
        l.size = bits → w.frameAt c.fn c.dst .store = .ok p →
        w.moveLines e c.fn (l.at c.src / 2 ^ bits * 2 ^ bits) c.dst (2 ^ bits / 64) = (v, m, none) →
        l.entry < deviceEnd → l.entry % 8 = 0 → see.homeAbsent l.entry = false → see.lostHome l.entry = false →
        Reaches (exec (.engMigrate die u) s) fun t =>
          (∀ k ∈ t.tlb, ¬(k.fn = c.fn ∧ k.va < c.src / 2 ^ bits * 2 ^ bits + 2 ^ bits ∧
            c.src / 2 ^ bits * 2 ^ bits < k.va + 2 ^ k.bits)) ∧
          (l.g64 = false → ({ t with viewer := some die }.entryAt l.entry l.ekey).1 / 4096 % 2 ^ 40 = c.dst / 4096 % 2 ^ 40)) ∧
    (∀ r rest, x.replies = r :: rest → Reaches (exec (.engineReply die u) s) fun t =>
      t.engine e = { x with replies := rest } ∧ SameBytes s t ∧ ∃ w, t.wireAt s.serial = some w ∧
        w.payload = r.payload ∧ w.dest = r.dest ∧ w.poison = r.poison ∧ w.cls = r.cls ∧ w.kind = 1 ∧ w.device = true) ∧
    (Reaches (exec (.engineReset die u) s) fun t => (s.inProgress e = none → SameBytes s t) ∧
      t.engine e = { x with ready := false, inbox := [], discarded := x.discarded ++ x.inbox }) ∧
    (die < 8 → (s.die die).reported = true → x.ready = false → s.failed.contains (.engine die u) = false →
      Reaches (exec (.engineReady die u) s) fun t => SameBytes s t ∧
        t.engine e = { x with
          ready := true, discarded := []
          replies := x.replies ++ (x.discarded.filter (·.rpen)).map fun c => c.reply { status := 0x213 } })

/-! ### Events: pre-emption, saving, lanes (R97 to R99, R119 to R125, R318, R331 to R336) -/

/-- The oldest queued SETVL or SETVLI of a thread is one that scalar decode has not gone past but by instructions of the
queue, whose words follow it up to the PC (R126): the queue is what is older, it, and what follows. -/
def Sys2Proof.AtAllocator (c : Ctx) (older : List VqEntry) (e : VqEntry) (rest : List VqEntry) : Prop :=
  let sets := fun x : VqEntry => (∃ d a v, x.instr = .setvl d a v) ∨ ∃ d v l, x.instr = .setvli d v l
  c.vq = older ++ e :: rest ∧ (∀ x ∈ older, ¬sets x) ∧ sets e ∧ e.passed = false ∧
  (∀ j x, (e :: rest)[j]? = some x → x.addr = e.addr + BitVec.ofNat 64 (4 * j)) ∧
  c.pc = e.addr + BitVec.ofNat 64 (4 * (rest.length + 1))

/-- A thread was revoked (R119 to R122, R126): its queued vector instructions stand squashed in the replay queue; where a
SETVL stands at the allocator, only those older than it, and it stands at the PC again, under the decode type and count in
force, which is the model's choice (log 99). It holds no lane and no vector state, a LANE_REVOKE or
LANE_SPILL is pending, with cause 0 only where a pre-emption was asked for too; its lanes drain; its scalar registers, but
for those that late loads fill, its level and every other thread are as before. -/
def Sys2Proof.RevokedFrom (s t : State) (g cause : Nat) : Prop :=
  let c := s.ctx g
  let x := t.ctx g
  let squashed := fun es : List VqEntry => es.map fun e => { e with depth := 0, begun := none, part := (0, false) }
  x.vec = {} ∧ x.vl = 0 ∧ x.vq = [] ∧
  (∀ older e rest, AtAllocator c older e rest →
    x.replay = c.replay ++ squashed older ∧ x.pc = e.addr ∧ x.dtype = c.vtype ∧ x.dcode = c.ncode) ∧
  ((∀ older e rest, ¬AtAllocator c older e rest) →
    x.pc = c.pc ∧ x.replay = c.replay ++ squashed c.vq ∧ x.dtype = c.dtype ∧ x.dcode = c.dcode) ∧
  ((∃ n, x.revoke = some (.revoke n) ∧ (n = cause ∨ n = 0 ∧ c.preempt ≠ .none)) ∨ ∃ a m, x.revoke = some (.spill a m)) ∧
  (∀ r, r ∉ c.lateRegs → x.raw r = c.raw r) ∧ x.level = c.level ∧ (∀ h, h ≠ g → t.ctx h = s.ctx h) ∧
  ∀ l ∈ c.vec.lanes, ∃ d, aget .free (t.cluster (clusterOf g)).lanes l = .draining g d

/-- R97 to R99, R119 to R122, R318, R331 to R336: a thread that was asked stops outside a trap handler, or after the delay
inside one. A PREEMPT request for a resident crew asks every live thread; one that names none ends with RESULT 1. Once all
have stopped, the image is written, the contexts are free and RESULT is 0. A RESUME request that fits, or a move by the
scheduler, starts the saved crew on the contexts found. VFTVEC takes its base for the selected function. A revocation,
forced or for a starving waiter, takes a thread's lanes; the earmarks of a waiter made 65,536 cycles ago lapse, and no other; a
lane that has drained goes to the waiter it is earmarked for, or is free. -/
def Obligations.PreemptionAndLaneEvents : Prop :=
  ∀ (s : State) (g die : Nat) (v : Word),
    let c := s.ctx g
    let d := s.die die
    let stops := fun (i : Instr) => Reaches (exec i s) fun t => t = s.setCtx g { c with
      preempt := .stopped, wait := (match c.wait with | some (.stopped _ _) => none | w => w), yielded := false }
    let ends := fun (t : State) (result start : Nat) => (t.die die).prqWork = none ∧
      (t.die die).prqstat = BitVec.ofNat 64 (2 ^ 63 + result * 2 ^ 60 + (s.clock - start) % 2 ^ 32)
    (c.live = true → c.preempt = .asked → c.holdsPreempt = false → (c.vq = [] ∨ c.vec.lanes ≠ []) →
      c.handed = none → (∀ h ∈ c.handlers, h.handed = none) →
      (c.inTrap = false → stops (.threadPreemptionStop g)) ∧ (c.inTrap = true → stops (.preemptDeferTimeout g))) ∧
    (die < 8 → d.state = .present → s.mgmt = true → s.mgmtBusy = false → d.prqWork = none → v.toNat / 2 ^ 61 = 4 →
      v.toNat / 256 % 8 = die →
      let h := 4 * (v.toNat % 2048) + v.toNat / 2048 % 4
      (s.crewAt h = none → Reaches (exec (.prqPreempt die v) s) fun t => SameBytes s t ∧ ends t 1 s.clock ∧
        ∀ x, t.ctx x = if (s.ctx x).wait = some (.service die) then { s.ctx x with wait := some (.answered 1) }
          else s.ctx x) ∧
      ∀ k w u ps, s.crewAt h = some k → s.crewOf k = some w →
        (s.setDie die { d with prq := v &&& 0x6000000000001FFF#64 }).resolve (saveAgent w.fn) .spill d.prqaddr.toNat
          (areaSize w.threads.length w.cores.length w.granules) = (u, .ok ps) → u.ctxs = s.ctxs → u.clock = s.clock →
        w.threads.length ≤ 64 →
        Reaches (exec (.prqPreempt die v) s) fun t =>
          (t.die die).prqWork = some { resume := false, crew := k, area := d.prqaddr, start := s.clock } ∧
          ∀ i x, i ∈ w.live → w.threads[i]? = some x → t.ctx x = { s.ctx x with preempt := .asked }) ∧
    (∀ w k u, d.prqWork = some w → w.resume = false → s.crewOf w.crew = some k →
      (∀ i x, i ∈ k.live → k.threads[i]? = some x → (s.ctx x).preempt = .stopped ∧ (s.ctx x).lanes = 0 ∧
        (s.ctx x).pend = [] ∧ s.ownMsgs x (fun _ => true) = []) → s.puts = [] →
      s.seenFrom (k.cluster / 16) (fun v => v.savePieces (saveAgent k.fn) (v.areaPieces k w.crew w.area.toNat)) =
        (u, true) → u.ctxs = s.ctxs →
      u.clock = s.clock → Reaches (exec (.crewSave die) s) fun t =>
        ends t 0 w.start ∧
        (∃ y, t.crewOf w.crew = some y ∧ y.saved = true ∧ y.area = w.area.toNat ∧ y.threads = k.threads) ∧
        ∀ x ∈ k.threads, (s.ctx x).crew = some w.crew → t.ctx x = {}) ∧
    let runs := fun (t : State) (k : Nat) (w : Crew) (cl : Nat) (gs : List Nat) =>
      ∃ y, t.crewOf k = some y ∧ y.saved = false ∧ y.cluster = cl ∧
        ∀ i j : Nat, w.live[j]? = some i → y.threads[i]? = some ((gs[j]?).getD 0)
    let whole := fun (u : State) (k : Nat) (w : Crew) (gs : List Nat) => ∀ i ∈ w.live,
      recordLost ((u.resumeRegions k w gs).readRecord (saveAgent w.fn) (w.area + 256 + 2048 * i)).2 = false ∧
      u.channelsLost (saveAgent w.fn) w = false
    (∀ f u k w cl gs, die < 8 → d.state = .present → s.mgmt = true → s.mgmtBusy = false → d.prqWork = none →
      v.toNat / 2 ^ 61 = 5 →
      let x := s.setDie die { d with prq := v &&& 0x6000000000001FFF#64 }
      x.fnOfArea d.prqaddr.toNat = some f → x.savedAt f d.prqaddr.toNat = (u, .ok (k, w)) → u.crewOf k = some w →
      u.resumePlace w (u.recordOf w) none die = some (cl, gs) → w.area = d.prqaddr.toNat → whole u k w gs →
      u.areaHeld w w.area = false →
      Reaches (exec (.prqResume die v) s) fun t => (t.die die).prqWork = none ∧ runs t k w cl gs) ∧
    (∀ k w u to_ cl gs, s.crewOf k = some w → w.saved = true → s.mgmt = true → (s.die (to_ / 16)).prqWork = none →
      (s.setDie (to_ / 16) { s.die (to_ / 16) with
        prqaddr := BitVec.ofNat 64 w.area, prq := 0x2000000000000000#64 }).savedAt w.fn w.area = (u, .ok (k, w)) →
      field (s.recordOf w) 189 1 = 1 → (∃ p, (s.fnOf w.fn).part = some p ∧ p.holds to_ = true) →
      u.resumePlace w (u.recordOf w) (some to_) (to_ / 16) = some (cl, gs) → whole u k w gs →
      Reaches (exec (.crewMove k to_) s) fun t => runs t k w cl gs) ∧
    (die < 8 → d.state = .present → Reaches (exec (.vftvecWrite die v) s) fun t =>
      ∀ n, aget 0 (t.die n).vftvec d.vfsel.toNat =
        if n = die ∧ d.vfsel.toNat ≤ 64 then ((v >>> 8) <<< 8) ||| (v &&& 1)
        else aget 0 (s.die n).vftvec d.vfsel.toNat) ∧
    (∀ cause, c.live = true → c.vec.lanes ≠ [] → s.revocable g cause = true →
      Reaches (exec (.forcedRevocation g cause) s) fun t => RevokedFrom s t g cause) ∧
    (∀ x, s.victim g = some x → s.starving g = true →
      Reaches (exec (.starvationRevocation g) s) (fun t => RevokedFrom s t x 2) ∧
      Reaches (exec (.starvationVictimPick g) s) fun t => RevokedFrom s t x 2) ∧
    (let lapsed := fun x : LaneState => ∃ n, x.mark = some (g, n) ∧ n + 65536 ≤ s.clock
     (∃ p ∈ (s.cluster (clusterOf g)).lanes, lapsed p.2) → Reaches (exec (.earmarkLapse g) s) fun t => SameBytes s t ∧
      (∀ p ∈ (t.cluster (clusterOf g)).lanes, ¬lapsed p.2) ∧
      (∀ p ∈ (s.cluster (clusterOf g)).lanes, ¬lapsed p.2 → p.2 ≠ .free → p ∈ (t.cluster (clusterOf g)).lanes) ∧
      ∀ h, t.ctx h = { s.ctx h with gres := (t.ctx h).gres }) ∧
    ∀ cl l h to_, aget .free (s.cluster cl).lanes l = .draining h to_ → Reaches (exec (.laneDrainComplete cl l) s) fun t =>
      SameBytes s t ∧ (∀ x, t.ctx x = { s.ctx x with gres := (t.ctx x).gres }) ∧
      aget .free (t.cluster cl).lanes l = (match to_ with | some w => .earmarked w.1 w.2 | none => .free) ∧
      ∀ m, m ≠ l → aget .free (t.cluster cl).lanes m = aget .free (s.cluster cl).lanes m

/-! ### Events: errors, resets, absence, links (R337, R347 to R369, R378) -/

/-- R337, R347 to R355: a mismatch that stands alone raises the thread's count of mismatches and advances the check pointer.
A parity error in a row the oldest queued instruction reads is repaired, or its row poisoned. An uncorrectable error poisons
what it struck and keeps its value; one in a context frees it with its crew. A corrected error below the threshold is
counted, a window that ends starts the count again, and an offset is set. -/
def Obligations.ErrorEvents : Prop :=
  ∀ (s : State) (g die : Nat),
    let c := s.ctx g
    let cl := clusterOf g
    let present := (s.die (dieOf g)).state = .present
    (∀ lane, c.live = true → c.preempt ≠ .stopped → present → s.comparesOn g lane = true → c.mismatch < 7 →
      (s.cluster cl).mismatches = [] → Reaches (exec (.checkMismatch g lane) s) fun t => SameBytes s t ∧
        t.ctx g = { c with
          cir := bumpCount c.cir 16 ||| 4#64, mismatch := c.mismatch + 1
          pointers := aset c.pointers (lane / 16) (aget 0 c.pointers (lane / 16) + 1) } ∧
        (t.cluster cl).mismatches = [(lane, 0)]) ∧
    (∀ lane row e rest, c.live = true → c.preempt ≠ .stopped → present → lane < c.lanes → c.vq = e :: rest →
      (row < c.geo.rpr * c.geo.n ∧ (e.instr = .vsave ∨ inGroups (registersOf e.instr c.vt).2 (row / c.geo.rpr) = true) ∨
        lane < c.vec.side * c.vec.side ∧ row < 64 ∧
          ∃ w : BitVec 2, row / 16 = 3 - w.toNat ∧ (tileRead e.instr = some w ∨ e.instr = .vsave ∧ w.toNat < c.geo.tl)) →
      Reaches (exec (.parityRepair g lane row) s) fun t => SameBytes s t ∧
        (t.ctx g = { c with cir := c.cir ||| 8#64 } ∨
          t.ctx g = { c with vec := (t.ctx g).vec } ∧ (t.ctx g).vec.row lane row = ((c.vec.row lane row).1, true))) ∧
    (∀ pa, pa < deviceEnd → s.homeAbsent pa = false → Reaches (exec (.uncorrectableError (.memGranule pa)) s) fun t =>
      t.ctxs = s.ctxs ∧ (∀ l, t.stored l = s.stored l) ∧
      ∀ l, t.granulePoison l = (decide (l / 64 = pa / 64) || s.granulePoison l)) ∧
    (∀ core off, core < 2048 → off < arrayBytes → (s.die (core / 256)).state = .present →
      Reaches (exec (.uncorrectableError (.scratchGranule core off)) s) fun t =>
        t.ctxs = s.ctxs ∧ (∀ l, t.stored l = s.stored l) ∧
        ∀ l, t.granulePoison l = (decide (l / 64 = (scratchBase + core * arrayBytes + off) / 64) || s.granulePoison l)) ∧
    (c.live = true → present →
      (∀ n : BitVec 5, n ≠ 0 → Reaches (exec (.uncorrectableError (.scalarReg g n.toNat)) s) fun t => SameBytes s t ∧
        ∀ r, (t.ctx g).raw r = if r = n then ((c.raw n).1, true) else c.raw r) ∧
      (∀ lane row, lane < c.lanes → row < 64 → Reaches (exec (.uncorrectableError (.vecRow g lane row)) s) fun t =>
        SameBytes s t ∧ (t.ctx g).vec.row lane row = ((c.vec.row lane row).1, true)) ∧
      (∀ m n, m < 16 → n < 256 → 512 * n < 64 * c.geo.g * c.geo.rpr → Reaches (exec (.uncorrectableError (.maskSeg g m n)) s) fun t =>
        SameBytes s t ∧ (t.ctx g).vec.segment m n = ((c.vec.segment m n).1, true)) ∧
      (∀ buf row, buf < 4 → row < 64 → c.vec.side ≠ 0 →
        Reaches (exec (.uncorrectableError (.latchRow g buf row)) s) fun t => SameBytes s t ∧
          aget false (t.ctx g).vec.latchPoison (64 * buf + row) = true) ∧
      ((∀ k, c.crew ≠ some k) → Reaches (exec (.ctxLost g) s) fun t => t.ctx g = {}) ∧
      ∀ k w, c.crew = some k → s.crewOf k = some w → g ∈ w.threads →
        Reaches (exec (.ctxLost g) s) fun t => t.ctx g = {} ∧ t.crewOf k = none) ∧
    (∀ core ch i m, core < 2048 → (s.die (core / 256)).state = .present → (s.chan core ch).fifo[i]? = some m →
      Reaches (exec (.uncorrectableError (.channelMsg core ch i)) s) fun t => SameBytes s t ∧
        (t.chan core ch).fifo[i]? = some { m with poison := true } ∧
        ∀ j, j ≠ i → (t.chan core ch).fifo[j]? = (s.chan core ch).fifo[j]?) ∧
    (∀ pa, (s.die die).state = .present → pa < deviceEnd → s.l2Holds die pa = true →
      Reaches (exec (.uncorrectableError (.l2Line die pa)) s) fun t => t.ctxs = s.ctxs ∧ (∀ l, t.stored l = s.stored l) ∧
        ∀ l, t.granulePoison l = (decide (l / 64 = pa / 64) || s.granulePoison l)) ∧
    (∀ core pa, core < 2048 → pa < deviceEnd → (s.die (core / 256)).state = .present →
      (∃ l ∈ (s.core core).l1, l.line = pa / 64) →
      Reaches (exec (.uncorrectableError (.l1Line core pa)) s) fun t => t.ctxs = s.ctxs ∧ (∀ l, t.stored l = s.stored l) ∧
        ∀ l, t.granulePoison l = (decide (l / 64 = pa / 64) || s.granulePoison l)) ∧
    (∀ k, k < s.serial →
      (∀ w, s.wireAt k = some w → Reaches (exec (.uncorrectableError (.messageInFlight k)) s) fun t =>
        SameBytes s t ∧ t.ctxs = s.ctxs ∧ t.wireAt k = some { w with poison := true }) ∧
      ∀ j i, s.putAt k = some j → i < j.bytes.length → j.poison.length = j.bytes.length →
        Reaches (exec (.uncorrectableError (.putInFlight k i)) s) fun t => SameBytes s t ∧ t.ctxs = s.ctxs ∧
          t.putAt k = some { j with
            poison := (List.range j.bytes.length).map fun h => (j.poison[h]?).getD false || h / 64 == i / 64 }) ∧
    (die < 8 → (s.die die).state = .present → ∀ arr dom,
      let x := aget {} (s.die die).arrays arr
      (x.count + 1 < (s.die die).errthr.toNat % 65536 → (s.die die).retired.contains arr = false →
        Reaches (exec (.correctedError die arr dom) s) fun t => SameBytes s t ∧
          aget {} (t.die die).arrays arr = { x with count := x.count + 1 }) ∧
      Reaches (exec (.errthrWindowEnd die arr) s) (fun t =>
        t = s.setDie die { s.die die with arrays := aset (s.die die).arrays arr { x with count := 0 } }) ∧
      ∀ off, Reaches (exec (.undervoltOffsetRestore die dom off) s) fun t =>
        t = s.setDie die { s.die die with undervolt := aput 0 (s.die die).undervolt dom off })

/-- R353, R357 to R361, R378: a die that is present becomes absent by a reset, a heartbeat or request that fails, a
thermal trip, or loss of power: no thread of it is left, its HBM is not ready, its Stile stays. A walk that does not
complete is remembered. It returns once it and its stacks have reported. A Stile reports ready, its island is reset and
resumes, or fails. A flit for the die is served: a read reports the bytes, a store is performed, an atomic operation
reports the bytes and updates them, and traffic in transit passes. A function's reset ends its crews, queues and launches,
starts its numbers again, and is over with its end. That the queues of a die are gone with its absence is the model's reading
(log 23); that a flit is served in one step (log 93), and that what is reported stands in `answer` and `report` (log 58), is
its choice. -/
def Obligations.DieAndFunctionResets : Prop :=
  ∀ (s : State) (n f : Nat),
    let d := s.die n
    let absent := fun (i : Instr) (to_ : DieState) => Reaches (exec i s) fun t =>
      (t.die n).state = to_ ∧ (t.die n).reported = false ∧ (t.die n).stile = d.stile ∧ (t.die n).queues = [] ∧
      (∀ g, dieOf g = n → t.ctx g = {}) ∧ aget false t.hbmStacks (2 * n) = false ∧ aget false t.hbmStacks (2 * n + 1) = false
    (n < 8 → d.islandBusy = false →
      (d.state = .present → absent (.diePowerLoss n) .resetting ∧ absent (.dieHeartbeatLoss n) .resetting ∧
        absent (.dieRequestTimeout n) .resetting ∧ absent (.diePowerOff n) .off) ∧
      (s.powered = true → (d.state ≠ .off → absent (.thermalTrip n) .resetting) ∧
        (d.state = .off → d.walking = true → absent (.thermalTrip n) .off)) ∧
      (d.state = .present ∨ s.failed.contains (.cdie n) = true → absent (.dieReset n) .resetting)) ∧
    (n < 8 → d.walking = true → d.reported = false → Reaches (exec (.tagWalkTimeout n) s) fun t =>
      t.die n = { d with walkLost := true, walking := false, walkOwned := [] } ∧ t.ctxs = s.ctxs ∧
      (∀ a ∈ d.walkOwned, t.granulePoison a = true) ∧
      ∀ l, (∀ a ∈ d.walkOwned, l / 64 ≠ a / 64) → t.granulePoison l = s.granulePoison l) ∧
    (n < 8 → d.state ≠ .present → d.stile = true → d.stileFailed = false → d.islandBusy = false →
      s.failed.contains (.cdie n) = false →
      (d.reported = false → (s.bankFor 0).isSome = true → Reaches (exec (.dieReady n) s) fun t =>
        (t.die n).reported = true ∧ (t.die n).clockBase = s.clock ∧
        ((t.die n).state = .present ↔ s.stackSettled (2 * n) = true ∧ s.stackSettled (2 * n + 1) = true)) ∧
      (d.reported = false → s.bankFor 0 = none → Reaches (exec (.dieReady n) s) fun t =>
        .cdie n ∈ t.failed ∧ (t.die n).reported = false) ∧
      (∀ k, d.reported = true → k / 2 = n → s.stackSettled k = false → Reaches (exec (.hbmReady k) s) fun t =>
        aget false t.hbmStacks k = true ∧
        ((t.die n).state = .present ↔ s.stackSettled (2 * n + (1 - k % 2)) = true))) ∧
    (n < 8 → s.mgmt = true → d.stile = false → d.stileFailed = false → s.failed.contains (.stile n) = false →
      Reaches (exec (.stileReady n) s) fun t => t = s.setDie n { d with stile := true, islandBusy := false, stileFailed := false }) ∧
    (n < 8 → d.stile = true ∨ d.stileFailed = true → d.islandBusy = false → d.state ≠ .resetting →
      Reaches (exec (.islandReset n) s) fun t =>
      (t.die n).stile = false ∧ (t.die n).stileFailed = false ∧ (t.die n).islandBusy = true ∧ (t.die n).state = d.state ∧
      SameBytes s t ∧ t.ctxs = s.ctxs ∧
      (s.mgmt = true → Reaches (exec (.stileReady n) t) fun u => (u.die n).stile = true ∧ (u.die n).stileFailed = false ∧
        (u.die n).islandBusy = false ∧ (u.die n).state = d.state) ∧
      Reaches (exec (.islandFailed n) t) fun u => (u.die n).stileFailed = true ∧ (u.die n).islandBusy = false ∧
        SameBytes s u) ∧
    (n < 8 → d.stile = true → d.stileFailed = false → d.islandBusy = false →
      exec (.stileFlit n .transit) s = .next s ∧
      ∀ pa bytes, homeDie pa = n → pa % 64 + bytes.length ≤ 64 → s.viewer = none →
        PlainBytes { s with viewer := some n } pa 1 → PlainBytes { s with viewer := some n } pa bytes.length →
        Reaches (exec (.stileFlit n (.read pa bytes.length)) s) (fun t => SameBytes s t ∧ t.answer = 0 ∧
          t.report = storedBytes s pa bytes.length) ∧
        (bytes ≠ [] → Reaches (exec (.stileFlit n (.store pa bytes false)) s) fun t => StoredAt s t pa bytes) ∧
        ∀ op v, bytes.length = 8 → Reaches (exec (.stileFlit n (.atomicOp pa op v)) s) fun t =>
          t.report = storedBytes s pa 8 ∧ t.answer = 0 ∧ StoredAt s t pa
            (leBytes 8 (atomicApply op (BitVec.ofNat 64 (leNat (storedBytes s pa 8))) v).toNat)) ∧
    (f < 64 → (s.mgmt || s.hostUp f) = true → (s.fnOf f).resetting = false → Reaches (exec (.vfReset f) s) fun t =>
      (t.fnOf f).resetting = true ∧ (t.fnOf f).lid = 0 ∧ (t.fnOf f).lqueues = [] ∧
      (∀ p ∈ t.launches, p.1 / 2 ^ 32 ≠ f) ∧ (∀ m q, ∀ p ∈ (t.die m).queues, p.1 = q → p.2.fn ≠ f) ∧
      (∀ k, ∀ w, t.crewOf k = some w → w.fn ≠ f) ∧
      Reaches (exec (.vfResetEnd f) t) fun u => u = t.setFn f { t.fnOf f with resetting := false })

/-- R363 to R369: a Euvex link that is up counts the failed tries of a flit and retrains at the sixteenth; a reset makes
it retrain; a retraining ends up, or fails, and the third failure leaves it down. A peer's access through a window that
trusts it, to memory its function's stage 2 gives, reads the bytes there or stores them, and changes nothing else once the
leaf's A and D bits are set; one that no window admits stores nothing, answers a read with poison and a message with TENANT.
A host link goes up and down. An invalidation leaves no pending access of the function to the page, and no cached
translation of it. Unmasking a vector sends what it held. That an answer stands in `answer` and `report` is the model's
choice (log 58). -/
def Obligations.LinkEvents : Prop :=
  ∀ (s : State) (l f : Nat),
    let x := s.euvex l
    (l < 16 → x.state = .up → (x.retries < 15 → Reaches (exec (.linkRetry l) s) fun t =>
        t = s.setEuvex l { x with retries := x.retries + 1 }) ∧
      (15 ≤ x.retries → Reaches (exec (.linkRetry l) s) fun t => SameBytes s t ∧
        t.euvex l = { state := .retrain, came := x.came })) ∧
    (l < 16 → s.xdieOfLink l = true → Reaches (exec (.linkReset l) s) (fun t => SameBytes s t ∧
        t.euvex l = { state := .retrain, came := x.came }) ∧
      (x.state = .down → x.failed = 0 → x.came = false → s.failed.contains (.link l) = false →
        Reaches (exec (.euvexLinkUp l) s) fun t => t = s.setEuvex l { state := .up, came := true })) ∧
    (l < 16 → x.state = .retrain → Reaches (exec (.linkRetrainEnd l true) s) (fun t =>
        t = s.setEuvex l { state := .up, came := true }) ∧
      Reaches (exec (.linkRetrainEnd l false) s) fun t =>
        t = s.setEuvex l { x with state := if x.failed < 2 then .retrain else .down, failed := x.failed + 1 }) ∧
    ((∃ k, k < 16 ∧ (s.euvex k).state = .up) → ∀ src pa,
      (∀ w leaf n, 0 < n → s.windowFor src pa n = some w → s.stage2 w.fn pa = .ok leaf → pa % 2 ^ leaf.bits + n ≤ 2 ^ leaf.bits →
        (∀ i, i < n → leaf.at pa + i < deviceEnd ∧ s.homeAbsent (leaf.at pa + i) = false ∧
          s.granulePoison (leaf.at pa + i) = false ∧
          aget (s.slotKey leaf.key) s.lineKey ((leaf.at pa + i) / 64) = s.slotKey leaf.key ∧
          (aget noKey s.tags ((leaf.at pa + i) / 64) = noKey ∨
            aget noKey s.tags ((leaf.at pa + i) / 64) = s.slotKey leaf.key)) →
        ahas s.keys leaf.key = true →
        (leaf.r = true → Reaches (exec (.peerInboundAccess (.read src pa n)) s) fun t => t.answer = 0 ∧
          (leaf.a = true → SameBytes s t ∧ t.report = storedBytes s (leaf.at pa) n)) ∧
        (∀ bytes, bytes.length = n → leaf.w = true →
          Reaches (exec (.peerInboundAccess (.write src pa bytes false)) s) fun t =>
            storedBytes t (leaf.at pa) n = bytes ∧ (leaf.a = true → leaf.d = true → StoredAt s t (leaf.at pa) bytes))) ∧
      (∀ bytes poison, bytes ≠ [] → s.windowFor src pa bytes.length = none →
        Reaches (exec (.peerInboundAccess (.write src pa bytes poison)) s) (fun t => SameBytes s t) ∧
        Reaches (exec (.peerInboundAccess (.read src pa bytes.length)) s) fun t => SameBytes s t ∧ t.answer = 1) ∧
      ∀ win ep to_ cls payload poison, wellFormedEndpoint to_ = true → cls < 16 → (∀ p ∈ s.windows, p.1 ≠ win) →
        Reaches (exec (.peerInboundAccess (.message src win ep to_ cls payload poison)) s) fun t =>
          SameBytes s t ∧ t.answer = 3) ∧
    (∀ h, h < 2 → (if h = 0 then s.mgmt else s.xdie) = true → s.failed.contains (.host h) = false →
      Reaches (exec (.hostLinkUp h) s) fun t => t = { s with hostLinks := aset s.hostLinks h true } ∧
        Reaches (exec (.hostLinkDown h) t) fun u => u.hostLinks = aset t.hostLinks h false ∧ u.ctxs = t.ctxs ∧
          SameBytes t u ∧ aget false u.hostLinks h = false) ∧
    (∀ h va, aget false s.hostLinks h = true → (∀ p ∈ s.ctxs, ∀ q ∈ s.ctxs, p.1 = q.1 → p = q) →
      Reaches (exec (.atsInvalidation h f va) s) fun t =>
        (f, va.toNat % 2 ^ 51 / 4096) ∉ aget [] t.ats h ∧
        ∀ g, (s.ctx g).fn = f → g ∈ s.ctxs.map (·.1) → ∀ p ∈ (t.ctx g).pend, p.loc < hostBase ∨ scratchBase ≤ p.loc ∨
          (p.loc - hostBase) / 4096 ≠ va.toNat % 2 ^ 51 / 4096) ∧
    (∀ v, f ≤ 64 → v < 64 → s.hostUp f = true → Reaches (exec (.msixVectorUnmask f v) s) fun t => SameBytes s t ∧
      (t.fnOf f).msixMask = (s.fnOf f).msixMask &&& ~~~(BitVec.twoPow 64 v) ∧
      (t.fnOf f).msixPend = (s.fnOf f).msixPend &&& ~~~(BitVec.twoPow 64 v))

/-! ### Events: management and bring-up (R373 to R383) -/

/-- R370 to R383: once the management controller is ready, an operation whose arguments keep to their row takes effect
and answers 0, and one that R374 refuses answers 1 and changes nothing else; while it serves another request it answers 2.
Before that, power good comes first, then the controller, then X-die 1; a unit that misses its bound is marked failed. That
answers 0 to 2 and what is reported stand in `answer` and `report` is the model's choice (log 58). -/
def Obligations.ManagementAndBringUp : Prop :=
  ∀ (s : State) (f n k : Nat),
    let x := s.fnOf f
    let does := fun (i : Instr) (u : State) => exec i s = .next { u with answer := 0 }
    let denies := fun (i : Instr) => exec i s = .next { s with answer := 1 }
    (s.mgmt = true → s.mgmtBusy = true → f ≤ 64 →
      exec .pldmDiscovery s = .next { s with answer := 2 } ∧ exec (.counters f) s = .next { s with answer := 2 }) ∧
    (s.mgmt = true → s.mgmtBusy = false →
      (f ≤ 64 →
        (∀ x0 y0 w h, 0 < w → 0 < h → x0 + w ≤ 16 → y0 + h ≤ 8 →
          let r : Rect := { x0 := x0, y0 := y0, w := w, h := h }
          (s.overlapsOther f r = false → s.inUse f = false →
            does (.partition f x0 y0 w h) (s.setFn f { x with part := some r })) ∧
          ((s.overlapsOther f r || s.inUse f) = true → denies (.partition f x0 y0 w h))) ∧
        (n < 128 → (k ≤ 256 → does (.quota f n k) (s.setCluster n { s.cluster n with quotas := aset (s.cluster n).quotas f k })) ∧
          (256 < k → denies (.quota f n k))) ∧
        (n < 16 → k ≤ 255 → does (.hbmshare f n k) (s.setFn f { x with weights := aset x.weights n k })) ∧
        (n < 2 ^ 52 → n % 65536 ≠ 0 → denies (.s2root f n)) ∧
        (n < 2 ^ 52 → n % 65536 = 0 → Reaches (exec (.s2root f n) s) fun t => t.answer = 0 ∧
          (t.fnOf f).s2root = some n ∧ ∀ e, e ∈ t.tlb ↔ e ∈ s.tlb ∧ e.fn ≠ f) ∧
        (∀ q0 qn c0 cn, n < 8 → q0 + qn ≤ 256 → c0 + cn ≤ 4096 →
          ((s.die n).queues.all fun q => !q.2.isOpen || q.2.fn == f) = true →
          let inQ := fun q => decide (q0 ≤ q) && decide (q < q0 + qn)
          let inC := fun c => decide (c0 ≤ c) && decide (c < c0 + cn)
          Reaches (exec (.qassign f n q0 qn c0 cn) s) fun t => t.answer = 0 ∧ t.ctxs = s.ctxs ∧ SameBytes s t ∧
            (∀ q, t.ownsQueue f n q = inQ q ∧ t.ownsCounter f n q = inC q) ∧
            ∀ g m q, (g ≠ f ∧ m = n → t.ownsQueue g m q = (s.ownsQueue g m q && !(inQ q)) ∧
                t.ownsCounter g m q = (s.ownsCounter g m q && !(inC q))) ∧
              (m ≠ n → t.ownsQueue g m q = s.ownsQueue g m q ∧ t.ownsCounter g m q = s.ownsCounter g m q)) ∧
        does (.counters f) { s with report := bytesOf x.usage.words } ∧
        ∀ nonce, Reaches (exec (.attestReport f nonce) s) fun t => t = { s with report := t.report, answer := 0 } ∧
          t.report.length = 512 ∧ (t.report.drop 16).take 2 = leBytes 2 f ∧ (t.report.drop 32).take 64 = leBytes 64 nonce.toNat) ∧
      (∀ valid dev addr mask, (n < 1024 → dev < 4096 → addr < 4096 → does (.aperture n valid dev addr mask) { s with
            apertures := if valid then aset s.apertures n { dev := dev, addr := addr, mask := mask } else aerase s.apertures n }) ∧
        (1024 ≤ n ∨ 4096 ≤ dev ∨ 4096 ≤ addr → denies (.aperture n valid dev addr mask))) ∧
      (∀ ls : List Nat, n < 0xFFF → ls.length ≤ 16 → (∀ l ∈ ls, l < 16) → ls.Nodup →
        does (.peerlinks n ls) { s with linkSets := aset s.linkSets n ls }) ∧
      (∀ base size trust, n < 1024 → base % 4096 = 0 → base + 4096 * size ≤ 2 ^ 52 → k ≤ 64 →
        does (.inbound n base size k trust) { s with
          windows := aset s.windows n { base := base, size := size, fn := k, trust := trust } }) ∧
      (n < 1024 →
        (∀ wrapped, match Config.unwrap wrapped with
          | some key => Reaches (exec (.keyload n wrapped) s) fun t => t.answer = 0 ∧
              ahas t.keys n = true ∧ aget 0 t.keys n = key ∧ t.mem = s.mem ∧ t.ctxs = s.ctxs
          | none => denies (.keyload n wrapped)) ∧
        Reaches (exec (.keyclear n) s) fun t => t.answer = 0 ∧ ahas t.keys n = false ∧ (∀ e ∈ t.tlb, e.key ≠ n) ∧
          (∀ p ∈ t.cores, ∀ l ∈ p.2.l1, (aget noKey t.tags l.line).map (·.1) ≠ some n) ∧
          ∀ p ∈ t.l2, (aget noKey t.tags p.2.line).map (·.1) ≠ some n) ∧
      (n < 8 → ((s.die n).state = .present →
          Reaches (exec (.memrelease n) s) fun t => t.answer = 0 ∧ t.ctxs = s.ctxs ∧ (∀ l, t.stored l = s.stored l) ∧
            t.die n = { s.die n with memHeld := false, overflow := false, log := [] } ∧
            (∀ g ∈ (s.die n).log, t.granulePoison g = true) ∧
            ∀ l, (∀ g ∈ (s.die n).log, l / 64 ≠ g / 64) → t.granulePoison l = s.granulePoison l) ∧
        ((s.die n).state ≠ .present → denies (.memrelease n))) ∧
      (∀ image, n < 3 →
        if Config.imageVerifies n image = true ∧ s.secMin ≤ Config.imageVersion image then
          let bank := 1 - aget 0 s.banks n
          does (.firmwareUpdate n image) { s with
            images := aset s.images (2 * n + bank) image, nextBanks := aset s.nextBanks n bank }
        else denies (.firmwareUpdate n image)) ∧
      does .pldmDiscovery { s with report := [0x00#8, 0x02#8, 0x05#8, 0x3F#8] } ∧
      (n < 11 → Reaches (exec (.sensorRead n) s) fun t => t.answer = 0 ∧ t.report.length = 8 ∧ SameBytes s t ∧
        t.ctxs = s.ctxs) ∧
      (1500 ≤ n → n ≤ 4200 → does (.powerCapSet n) { s with powerCap := n }) ∧
      (n < 1500 ∨ 4200 < n → denies (.powerCapSet n)) ∧
      (s.xdie = false → s.failed.contains .xdie = false →
        ((s.bankFor 1).isSome = true → Reaches (exec .xdieReady s) fun t => t.xdie = true ∧ t.ctxs = s.ctxs ∧
          aget 0 t.banks 1 = (s.bankFor 1).getD 0) ∧
        (s.bankFor 1 = none → Reaches (exec .xdieReady s) fun t => t.xdie = false ∧ .xdie ∈ t.failed))) ∧
    (n < 8 → (s.die n).state = .present → exec (.thermalThrottle n k) s = .next (s.setDie n { s.die n with throttle := k })) ∧
    (s.powered = false → exec .powerGood s = .next { s with powered := true }) ∧
    (s.powered = true → s.mgmt = false → s.failed.contains .mgmt = false →
      (s.bankGood 1 (s.bankDue 1) = true → s.bankGood 2 (s.bankDue 2) = true → Reaches (exec .mgmtReady s) fun t =>
        t = { s with mgmt := true, banks := t.banks, nextBanks := t.nextBanks } ∧
        aget 0 t.banks 1 = s.bankDue 1 ∧ aget 0 t.banks 2 = s.bankDue 2) ∧
      ((s.bankFor 1).isSome = true → (s.bankFor 2).isSome = true → Reaches (exec .mgmtReady s) fun t => t.mgmt = true) ∧
      (s.bankFor 1 = none ∨ s.bankFor 2 = none → Reaches (exec .mgmtReady s) fun t => t.mgmt = false ∧ .mgmt ∈ t.failed)) ∧
    ∀ u, s.awaited u = true → Reaches (exec (.readyTimeout u) s) fun t => u ∈ t.failed ∧ t.ctxs = s.ctxs ∧
      ∀ l, t.stored l = s.stored l

/-! ### Words and instructions (R32 to R43) -/

/-- R33 to R43: decoding and encoding agree. The word of every well-formed instruction decodes to that instruction, or,
for a row that shares its word with others, to the first of them, which an operand then selects; and every word that
decodes to an instruction is that instruction's word, and the instruction is well-formed. So no bit of a word is dropped,
no two instructions share a word, and a word with a nonzero zero field or a field out of its limits is no instruction. -/
def Obligations.DecodingAndEncodingAgree : Prop :=
  (∀ i w, WellFormed i = true → encode i = some w → decode w = .ok (primary i)) ∧
  ∀ w i, decode w = .ok i → encode i = some w ∧ WellFormed i = true ∧ primary i = i

/-- R33 to R43: words that the specification writes out decode to the instructions it says they are: one at least of
each of the formats, and words that are no instruction to the first cause of R43. -/
def Obligations.SpecifiedWordsDecode : Prop :=
  decode 0x00000003#32 = .ok (.addi 0 0 0) ∧ decode 0xFFFC3143#32 = .ok (.addi 5 6 0xFFFC) ∧
  decode 0x00073141#32 = .ok (.add 5 6 7) ∧ decode 0x31C44A05#32 = .ok (.bfx 8 9 4 7) ∧
  decode 0xC40329D0#32 = .ok (.ldD 7 5 3 64) ∧ decode 0xBF821251#32 = .ok (.stW 9 2 2 0x3F8) ∧
  decode 0x3FFC014C#32 = .ok (.bne 5 0 0x1FFC) ∧ decode 0x2A20314A#32 = .ok (.fcvt 5 6 1 0xA 0x2) ∧
  decode 0x01000214#32 = .ok (.crr 8 0x100) ∧ decode 0x00090015#32 = .ok (.fenceC 9) ∧
  decode 0x06405159#32 = .ok (.setvli 5 0x00A 0x064) ∧ decode 0x0318511A#32 = .ok (.vaddVV 4 5 6 3) ∧
  decode 0x00000F70#32 = .ok (.wop 1 15 0) ∧ decode 0x00000013#32 = .ok (.ldAcq 0 0 0 0) ∧
  decode 0x0000A556#32 = .ok (.launch 21 20) ∧ decode 0x2000B5F2#32 = .ok (.waitm 23 22 0) ∧
  decode 0x00000000#32 = .error .illZero ∧ decode 0xFFFFFFFF#32 = .error .illMajor

/-! ### The step (R54, R56, R91, R98) -/

/-- R32, R54, R56, R91, R98, R124: the step of a state whose agenda is empty is the issue slot of the running core, once the
late loads of its contexts are performed and each context was at its boundary, where a pre-emption stops a thread, an
eligible handler starts, or a wait that is over ends. The context picked runs the word fetched at its PC: where it decodes,
that instruction, of the row its operands select; a vector instruction that finds older ones in the queue is decoded into
it; a pending revocation is taken in its place where the word names a register that a squashed instruction was to write.
A word that decodes to none takes the trap of its cause. A fetch of a misaligned PC, of one that is not canonical, or of one in
the scratch window traps there. At firmware level the word is the four bytes at the PC. Then time passes.

The model's choices: that an empty agenda stands for the issue slot of the running core (log 1), that time passes by a free
number of cycles (log 3), that an instruction, or a fetch, whose way is held waits as a whole (log 52), and that where no
context is ready the oldest instruction of the first vector queue that can go on runs, or only time passes (log 71). -/
def Obligations.AStepRunsTheDecodedInstruction : Prop :=
  (∀ (s : State), s.agenda = [] →
    let core := coreOf s.cur
    let b := (s.landLoads core).boundaries core
    (b.pick core = none →
      let t := b.noteIdle core
      (∀ g e rest, (contextsOf core).find? t.queueRuns = some g → (t.ctx (t.queueTurn g)).vq = e :: rest →
        let x := { t with cur := t.queueTurn g }
        let y := x.setMe { x.me with vq := rest, reissue := some e, cut := none }
        step s = timed (y.orWait (exec e.instr y))) ∧
      ((∀ g ∈ contextsOf core, t.queueRuns g = false ∧ bufferedStores (t.ctx g).pend < 16) → step s = .next t.passTime)) ∧
    ∀ g, b.pick core = some g →
      let t := { (b.noteIssue core g) with cur := g }
      (∀ u w i, t.fetch = (u, .ok w) → decode w = .ok i →
        let queued := vectorMajor w && !(unqueued i) && (!u.me.vq.isEmpty || (isFill i && u.gatherRows.isSome))
        let v := u.passQueue
        (u.me.vq = [] → v = u) ∧
        (queued = false →
          (revokesAt u.me w = none → step s = timed (t.orWait (exec (refine i v) v)) ∧ encode (refine i v) = some w ∧
            primary (refine i v) = i) ∧
          ∀ p, revokesAt u.me w = some p → step s = timed (t.orWait (.next (v.takeRevoke p)))) ∧
        (queued = true → step s = timed (t.orWait (.next (match u.decodeQueued i with
          | .trapped v => v
          | .queued v e => v.setMe { v.me with vq := v.me.vq ++ [e] }))))) ∧
      (∀ u w x, t.fetch = (u, .ok w) → decode w = .error x →
        (u.me.revoke = none ∨ vectorMajor w = false → (w.extractLsb' 0 6).toNat ≠ 0x27 →
          step s = timed (t.orWait (exec (.illegalInstruction w x) u))) ∧
        ∀ p, u.me.revoke = some p → vectorMajor w = true → step s = timed (t.orWait (.next (u.takeRevoke p)))) ∧
      ∀ u k, t.fetch = (u, .error k) → step s = timed (t.orWait (.next (if k.cause = heldCause then u else u.trap k)))) ∧
  (∀ (s : State) (g : Nat),
    (s.runs g = false → s.boundary g = s) ∧
    (s.runs g = true →
      ((s.ctx g).stopsHere = true → s.boundary g = reached s (exec (.threadPreemptionStop g) s)) ∧
      ((s.ctx g).stopsHere = false →
        ((s.eligibleChan g).isSome = true → s.boundary g = reached s (exec (.handlerRun g) s)) ∧
        (s.eligibleChan g = none → (s.ctx g).wait = none → s.boundary g = s)))) ∧
  ∀ (s : State),
    let pc := s.me.pc
    let faults := fun (c : Nat) => s.fetch = (s, .error { cause := c, value := pc, epc := pc })
    (pc.toNat % 4 ≠ 0 → faults 0x080) ∧
    (pc.toNat % 4 = 0 → s.agent.level ≠ .firmware →
      (canonical pc.toNat = false → faults 0x081) ∧ (inWindow pc.toNat = true → faults 0x0E3)) ∧
    (pc.toNat % 4 = 0 → s.agent.level = .firmware →
      (2 ^ 52 ≤ pc.toNat ∨ deviceEnd ≤ pc.toNat ∧ pc.toNat < peerBase → faults 0x088) ∧
      (s.me.pend = [] → PlainBytes s pc.toNat 4 → ∃ l2,
        s.fetch = ({ s with l2 := l2 }, .ok (BitVec.ofNat 32 (leNat (storedBytes s pc.toNat 4))))))

/-- Every step keeps the byte stores in their canonical form, addresses rising and no byte listed that an unlisted one
reads as: so two memories that read alike are one. -/
def Obligations.EveryStepKeepsMemoryCanonical : Prop :=
  ∀ (s t : State), s.ok = true → step s = .next t → t.ok = true

/-- R44, R85, R102, R242, R272, R280, R331, R354, R358, R371, R373, R378, R379: right after reset nothing is powered or
ready, no thread is resident, every die, stack, engine and link is absent or down, and what the control registers of a die,
the channels, the queues, the counters and the quotas hold is as their tables say. The byte stores are in canonical
form. Every lane is free and none reserved. The model's choices: that a byte nothing has written reads 0 (log 4), clean, that
an unoccupied context's registers hold 0 (log 5), that vectors are masked (log 10), that no event stands on the agenda
(log 1), and that nothing is on its way and nothing cached (log 17). -/
def Obligations.WhatResetLeaves : Prop :=
  let s := State.reset
  s.ok = true ∧ s.powered = false ∧ s.mgmt = false ∧ s.xdie = false ∧ s.agenda = [] ∧ s.wires = [] ∧ s.puts = [] ∧
  (∀ g, (s.ctx g).live = false ∧ (s.ctx g).pc = 0 ∧ (s.ctx g).fstat = 0 ∧ (s.ctx g).cir = 0 ∧ (s.ctx g).vl = 0 ∧
    (s.ctx g).vtype = 0 ∧ (s.ctx g).vstart = 0 ∧ (s.ctx g).vec.lanes = [] ∧ ∀ r, (s.ctx g).raw r = (0, false)) ∧
  (∀ l, s.stored l = 0 ∧ s.granulePoison l = false) ∧
  (∀ n, (s.die n).state = .down ∧ (s.die n).stile = false ∧ (s.die n).vfsel = 0 ∧ (s.die n).prqaddr = 0 ∧
    (s.die n).prq = 0 ∧ (s.die n).prqstat = 0 ∧ (s.die n).errthr = 0x0000040000000010 ∧
    (∀ q, (s.queue n q).isOpen = false) ∧ (∀ c, aget 0 (s.die n).counters c = 0) ∧
    ∀ u, (aget {} (s.die n).engines u).ready = false) ∧
  s.crRead 0x930 = some 0 ∧ s.crRead 0x931 = some 0 ∧
  (∀ core ch, s.chan core ch = {}) ∧
  (∀ c f, aget 256 (s.cluster c).quotas f = 256 ∧ ∀ l, aget LaneState.free (s.cluster c).lanes l = .free) ∧
  (∀ c, s.unlisted c = 256 ∧ s.reservedIn c = 0) ∧
  (∀ f, (s.fnOf f).part = none ∧ (s.fnOf f).lid = 0 ∧ (s.fnOf f).lqueues = [] ∧ (s.fnOf f).msixMask = BitVec.allOnes 64) ∧
  (∀ n, ahas s.keys n = false) ∧ (∀ l, (s.euvex l).state = .down) ∧ (∀ k, aget false s.hbmStacks k = false) ∧ s.tlb = []
end

