-- ==== Sys2Proof/Laws/Table.lean ====
section
/-! SUPPORT. Reading back what was written into a sparse table, and the canonical form. -/

namespace Sys2Proof.Machine

@[simp] theorem aget_nil {α : Type} (d : α) (i : Nat) : aget d [] i = d := rfl

/-- Reading the key that was set gives the value. -/
@[simp] theorem aget_aset_self {α : Type} (d : α) (m : Assoc α) (i : Nat) (x : α) : aget d (aset m i x) i = x := by
  induction m with
  | nil => simp [aset, aget]
  | cons p m ih => obtain ⟨k, v⟩ := p; simp only [aset]; split_ifs with h h' <;> simp_all [aget]

/-- Setting a key leaves every other key as it was. -/
theorem aget_aset_ne {α : Type} (d : α) (m : Assoc α) {i j : Nat} (x : α) (h : j ≠ i) :
    aget d (aset m i x) j = aget d m j := by
  induction m with
  | nil => simp [aset, aget, h]
  | cons p m ih =>
    obtain ⟨k, v⟩ := p
    simp only [aset]
    split_ifs with h1 h2
    · subst h1; simp [aget, h]
    · simp [aget, h]
    · simp only [aget]; split_ifs <;> simp_all

/-- One law for both cases. -/
theorem aget_aset {α : Type} (d : α) (m : Assoc α) (i j : Nat) (x : α) :
    aget d (aset m i x) j = if j = i then x else aget d m j := by
  split_ifs with h
  · subst h; exact aget_aset_self ..
  · exact aget_aset_ne d m x h

/-- A second write of a key replaces the first. -/
@[simp] theorem aset_aset {α : Type} (m : Assoc α) (i : Nat) (x y : α) : aset (aset m i x) i y = aset m i y := by
  induction m with
  | nil => simp [aset]
  | cons p m ih =>
    obtain ⟨k, v⟩ := p
    by_cases h1 : i = k
    · simp [aset, h1]
    · by_cases h2 : i < k
      · simp [aset, h1, h2]
      · simp [aset, h1, h2, ih]

/-- Erasing a key reads as the default there and leaves every other key. -/
theorem aget_aerase {α : Type} (d : α) (m : Assoc α) (i j : Nat) :
    aget d (aerase m i) j = if j = i then d else aget d m j := by
  unfold aerase
  induction m with
  | nil => simp [aget]
  | cons p m ih =>
    obtain ⟨k, v⟩ := p
    rw [List.filter_cons]
    by_cases h : k = i
    · subst h
      by_cases hj : j = k
      · subst hj; simp_all
      · simp_all [aget]
    · by_cases hj : j = k
      · subst hj; simp [h, aget]
      · simp_all [aget]

/-- The write of a canonical table reads back as any write does. -/
theorem aget_aput {α : Type} [DecidableEq α] (d : α) (m : Assoc α) (i j : Nat) (x : α) :
    aget d (aput d m i x) j = if j = i then x else aget d m j := by
  unfold aput
  split_ifs with h h' h'
  · subst h; subst h'; simp [aget_aerase]
  · subst h; simp [aget_aerase, h']
  · subst h'; simp
  · simp [aget_aset, h']

@[simp] theorem aget_aput_self {α : Type} [DecidableEq α] (d : α) (m : Assoc α) (i : Nat) (x : α) :
    aget d (aput d m i x) i = x := by simp [aget_aput]

theorem aget_aput_ne {α : Type} [DecidableEq α] (d : α) (m : Assoc α) {i j : Nat} (x : α) (h : j ≠ i) :
    aget d (aput d m i x) j = aget d m j := by simp [aget_aput, h]

/-! ### The canonical form -/

/-- A lower first key is canonical too. -/
theorem wfFrom_mono {α : Type} [DecidableEq α] (d : α) {lo lo' : Nat} {m : Assoc α} (h : lo' ≤ lo)
    (hm : wfFrom d lo m = true) : wfFrom d lo' m = true := by
  cases m with
  | nil => rfl
  | cons p m => obtain ⟨k, v⟩ := p; simp only [wfFrom, Bool.and_eq_true, decide_eq_true_eq] at *; exact ⟨⟨by omega, hm.1.2⟩, hm.2⟩

/-- Keeping some of the entries keeps the form. -/
theorem wfFrom_filter {α : Type} [DecidableEq α] (d : α) (q : Nat × α → Bool) {lo : Nat} {m : Assoc α}
    (hm : wfFrom d lo m = true) : wfFrom d lo (m.filter q) = true := by
  induction m generalizing lo with
  | nil => rfl
  | cons p m ih =>
    obtain ⟨k, v⟩ := p
    simp only [wfFrom, Bool.and_eq_true, decide_eq_true_eq] at hm
    rw [List.filter_cons]
    split_ifs
    · simp only [wfFrom, Bool.and_eq_true, decide_eq_true_eq]; exact ⟨hm.1, ih hm.2⟩
    · exact ih (wfFrom_mono d (by omega) hm.2)

theorem wfFrom_aset {α : Type} [DecidableEq α] (d : α) {lo i : Nat} {x : α} {m : Assoc α} (hx : x ≠ d) (hi : lo ≤ i)
    (hm : wfFrom d lo m = true) : wfFrom d lo (aset m i x) = true := by
  induction m generalizing lo with
  | nil => simp [aset, wfFrom, hx, hi]
  | cons p m ih =>
    obtain ⟨k, v⟩ := p
    simp only [wfFrom, Bool.and_eq_true, decide_eq_true_eq] at hm
    simp only [aset]
    split_ifs with h h'
    · subst h; simp only [wfFrom, Bool.and_eq_true, decide_eq_true_eq]; exact ⟨⟨hm.1.1, by simp [hx]⟩, hm.2⟩
    · simp only [wfFrom, Bool.and_eq_true, decide_eq_true_eq]
      exact ⟨⟨hi, by simp [hx]⟩, ⟨⟨by omega, hm.1.2⟩, hm.2⟩⟩
    · simp only [wfFrom, Bool.and_eq_true, decide_eq_true_eq]
      exact ⟨hm.1, ih (by omega) hm.2⟩

/-- A write keeps the canonical form. -/
theorem wfFrom_aput {α : Type} [DecidableEq α] (d : α) {i : Nat} {x : α} {m : Assoc α}
    (hm : wfFrom d 0 m = true) : wfFrom d 0 (aput d m i x) = true := by
  unfold aput
  split_ifs with h
  · exact wfFrom_filter d _ hm
  · exact wfFrom_aset d h (Nat.zero_le i) hm

end Sys2Proof.Machine
end

