-- ==== Sys2Proof/Laws/State.lean ====
section
/-! SUPPORT. One lemma for each field and each update of the state and of a context, so that no proof unfolds a record. -/

namespace Sys2Proof.Machine

/-! ### setCtx -/

@[simp] theorem State.setCtx_agenda (s : State) (g : Nat) (c : Ctx) : (s.setCtx g c).agenda = s.agenda := rfl
@[simp] theorem State.setCtx_cur (s : State) (g : Nat) (c : Ctx) : (s.setCtx g c).cur = s.cur := rfl
@[simp] theorem State.setCtx_freeCount (s : State) (g : Nat) (c : Ctx) : (s.setCtx g c).freeCount = s.freeCount := rfl
@[simp] theorem State.setCtx_serial (s : State) (g : Nat) (c : Ctx) : (s.setCtx g c).serial = s.serial := rfl
@[simp] theorem State.setCtx_clock (s : State) (g : Nat) (c : Ctx) : (s.setCtx g c).clock = s.clock := rfl
@[simp] theorem State.setCtx_answer (s : State) (g : Nat) (c : Ctx) : (s.setCtx g c).answer = s.answer := rfl
@[simp] theorem State.setCtx_report (s : State) (g : Nat) (c : Ctx) : (s.setCtx g c).report = s.report := rfl
@[simp] theorem State.setCtx_viewer (s : State) (g : Nat) (c : Ctx) : (s.setCtx g c).viewer = s.viewer := rfl
@[simp] theorem State.setCtx_blocked (s : State) (g : Nat) (c : Ctx) : (s.setCtx g c).blocked = s.blocked := rfl
@[simp] theorem State.setCtx_l2 (s : State) (g : Nat) (c : Ctx) : (s.setCtx g c).l2 = s.l2 := rfl
@[simp] theorem State.setCtx_walks (s : State) (g : Nat) (c : Ctx) : (s.setCtx g c).walks = s.walks := rfl
@[simp] theorem State.setCtx_mgmtBusy (s : State) (g : Nat) (c : Ctx) : (s.setCtx g c).mgmtBusy = s.mgmtBusy := rfl
@[simp] theorem State.setCtx_aer (s : State) (g : Nat) (c : Ctx) : (s.setCtx g c).aer = s.aer := rfl
@[simp] theorem State.setCtx_ats (s : State) (g : Nat) (c : Ctx) : (s.setCtx g c).ats = s.ats := rfl
@[simp] theorem State.setCtx_cores (s : State) (g : Nat) (c : Ctx) : (s.setCtx g c).cores = s.cores := rfl
@[simp] theorem State.setCtx_clusters (s : State) (g : Nat) (c : Ctx) : (s.setCtx g c).clusters = s.clusters := rfl
@[simp] theorem State.setCtx_dies (s : State) (g : Nat) (c : Ctx) : (s.setCtx g c).dies = s.dies := rfl
@[simp] theorem State.setCtx_fns (s : State) (g : Nat) (c : Ctx) : (s.setCtx g c).fns = s.fns := rfl
@[simp] theorem State.setCtx_launches (s : State) (g : Nat) (c : Ctx) : (s.setCtx g c).launches = s.launches := rfl
@[simp] theorem State.setCtx_crews (s : State) (g : Nat) (c : Ctx) : (s.setCtx g c).crews = s.crews := rfl
@[simp] theorem State.setCtx_mem (s : State) (g : Nat) (c : Ctx) : (s.setCtx g c).mem = s.mem := rfl
@[simp] theorem State.setCtx_memPoison (s : State) (g : Nat) (c : Ctx) : (s.setCtx g c).memPoison = s.memPoison := rfl
@[simp] theorem State.setCtx_scratch (s : State) (g : Nat) (c : Ctx) : (s.setCtx g c).scratch = s.scratch := rfl
@[simp] theorem State.setCtx_scrPoison (s : State) (g : Nat) (c : Ctx) : (s.setCtx g c).scrPoison = s.scrPoison := rfl
@[simp] theorem State.setCtx_lineKey (s : State) (g : Nat) (c : Ctx) : (s.setCtx g c).lineKey = s.lineKey := rfl
@[simp] theorem State.setCtx_tags (s : State) (g : Nat) (c : Ctx) : (s.setCtx g c).tags = s.tags := rfl
@[simp] theorem State.setCtx_keys (s : State) (g : Nat) (c : Ctx) : (s.setCtx g c).keys = s.keys := rfl
@[simp] theorem State.setCtx_tlb (s : State) (g : Nat) (c : Ctx) : (s.setCtx g c).tlb = s.tlb := rfl
@[simp] theorem State.setCtx_apertures (s : State) (g : Nat) (c : Ctx) : (s.setCtx g c).apertures = s.apertures := rfl
@[simp] theorem State.setCtx_windows (s : State) (g : Nat) (c : Ctx) : (s.setCtx g c).windows = s.windows := rfl
@[simp] theorem State.setCtx_linkSets (s : State) (g : Nat) (c : Ctx) : (s.setCtx g c).linkSets = s.linkSets := rfl
@[simp] theorem State.setCtx_device (s : State) (g : Nat) (c : Ctx) : (s.setCtx g c).device = s.device := rfl
@[simp] theorem State.setCtx_links (s : State) (g : Nat) (c : Ctx) : (s.setCtx g c).links = s.links := rfl
@[simp] theorem State.setCtx_hostLinks (s : State) (g : Nat) (c : Ctx) : (s.setCtx g c).hostLinks = s.hostLinks := rfl
@[simp] theorem State.setCtx_hbmStacks (s : State) (g : Nat) (c : Ctx) : (s.setCtx g c).hbmStacks = s.hbmStacks := rfl
@[simp] theorem State.setCtx_wires (s : State) (g : Nat) (c : Ctx) : (s.setCtx g c).wires = s.wires := rfl
@[simp] theorem State.setCtx_puts (s : State) (g : Nat) (c : Ctx) : (s.setCtx g c).puts = s.puts := rfl
@[simp] theorem State.setCtx_forwards (s : State) (g : Nat) (c : Ctx) : (s.setCtx g c).forwards = s.forwards := rfl
@[simp] theorem State.setCtx_moves (s : State) (g : Nat) (c : Ctx) : (s.setCtx g c).moves = s.moves := rfl
@[simp] theorem State.setCtx_powered (s : State) (g : Nat) (c : Ctx) : (s.setCtx g c).powered = s.powered := rfl
@[simp] theorem State.setCtx_mgmt (s : State) (g : Nat) (c : Ctx) : (s.setCtx g c).mgmt = s.mgmt := rfl
@[simp] theorem State.setCtx_xdie (s : State) (g : Nat) (c : Ctx) : (s.setCtx g c).xdie = s.xdie := rfl
@[simp] theorem State.setCtx_failed (s : State) (g : Nat) (c : Ctx) : (s.setCtx g c).failed = s.failed := rfl
@[simp] theorem State.setCtx_banks (s : State) (g : Nat) (c : Ctx) : (s.setCtx g c).banks = s.banks := rfl
@[simp] theorem State.setCtx_nextBanks (s : State) (g : Nat) (c : Ctx) : (s.setCtx g c).nextBanks = s.nextBanks := rfl
@[simp] theorem State.setCtx_images (s : State) (g : Nat) (c : Ctx) : (s.setCtx g c).images = s.images := rfl
@[simp] theorem State.setCtx_secMin (s : State) (g : Nat) (c : Ctx) : (s.setCtx g c).secMin = s.secMin := rfl
@[simp] theorem State.setCtx_powerCap (s : State) (g : Nat) (c : Ctx) : (s.setCtx g c).powerCap = s.powerCap := rfl

/-! ### setMe -/

@[simp] theorem State.setMe_agenda (s : State) (c : Ctx) : (s.setMe c).agenda = s.agenda := rfl
@[simp] theorem State.setMe_cur (s : State) (c : Ctx) : (s.setMe c).cur = s.cur := rfl
@[simp] theorem State.setMe_freeCount (s : State) (c : Ctx) : (s.setMe c).freeCount = s.freeCount := rfl
@[simp] theorem State.setMe_serial (s : State) (c : Ctx) : (s.setMe c).serial = s.serial := rfl
@[simp] theorem State.setMe_clock (s : State) (c : Ctx) : (s.setMe c).clock = s.clock := rfl
@[simp] theorem State.setMe_answer (s : State) (c : Ctx) : (s.setMe c).answer = s.answer := rfl
@[simp] theorem State.setMe_report (s : State) (c : Ctx) : (s.setMe c).report = s.report := rfl
@[simp] theorem State.setMe_viewer (s : State) (c : Ctx) : (s.setMe c).viewer = s.viewer := rfl
@[simp] theorem State.setMe_blocked (s : State) (c : Ctx) : (s.setMe c).blocked = s.blocked := rfl
@[simp] theorem State.setMe_l2 (s : State) (c : Ctx) : (s.setMe c).l2 = s.l2 := rfl
@[simp] theorem State.setMe_walks (s : State) (c : Ctx) : (s.setMe c).walks = s.walks := rfl
@[simp] theorem State.setMe_mgmtBusy (s : State) (c : Ctx) : (s.setMe c).mgmtBusy = s.mgmtBusy := rfl
@[simp] theorem State.setMe_aer (s : State) (c : Ctx) : (s.setMe c).aer = s.aer := rfl
@[simp] theorem State.setMe_ats (s : State) (c : Ctx) : (s.setMe c).ats = s.ats := rfl
@[simp] theorem State.setMe_cores (s : State) (c : Ctx) : (s.setMe c).cores = s.cores := rfl
@[simp] theorem State.setMe_clusters (s : State) (c : Ctx) : (s.setMe c).clusters = s.clusters := rfl
@[simp] theorem State.setMe_dies (s : State) (c : Ctx) : (s.setMe c).dies = s.dies := rfl
@[simp] theorem State.setMe_fns (s : State) (c : Ctx) : (s.setMe c).fns = s.fns := rfl
@[simp] theorem State.setMe_launches (s : State) (c : Ctx) : (s.setMe c).launches = s.launches := rfl
@[simp] theorem State.setMe_crews (s : State) (c : Ctx) : (s.setMe c).crews = s.crews := rfl
@[simp] theorem State.setMe_mem (s : State) (c : Ctx) : (s.setMe c).mem = s.mem := rfl
@[simp] theorem State.setMe_memPoison (s : State) (c : Ctx) : (s.setMe c).memPoison = s.memPoison := rfl
@[simp] theorem State.setMe_scratch (s : State) (c : Ctx) : (s.setMe c).scratch = s.scratch := rfl
@[simp] theorem State.setMe_scrPoison (s : State) (c : Ctx) : (s.setMe c).scrPoison = s.scrPoison := rfl
@[simp] theorem State.setMe_lineKey (s : State) (c : Ctx) : (s.setMe c).lineKey = s.lineKey := rfl
@[simp] theorem State.setMe_tags (s : State) (c : Ctx) : (s.setMe c).tags = s.tags := rfl
@[simp] theorem State.setMe_keys (s : State) (c : Ctx) : (s.setMe c).keys = s.keys := rfl
@[simp] theorem State.setMe_tlb (s : State) (c : Ctx) : (s.setMe c).tlb = s.tlb := rfl
@[simp] theorem State.setMe_apertures (s : State) (c : Ctx) : (s.setMe c).apertures = s.apertures := rfl
@[simp] theorem State.setMe_windows (s : State) (c : Ctx) : (s.setMe c).windows = s.windows := rfl
@[simp] theorem State.setMe_linkSets (s : State) (c : Ctx) : (s.setMe c).linkSets = s.linkSets := rfl
@[simp] theorem State.setMe_device (s : State) (c : Ctx) : (s.setMe c).device = s.device := rfl
@[simp] theorem State.setMe_links (s : State) (c : Ctx) : (s.setMe c).links = s.links := rfl
@[simp] theorem State.setMe_hostLinks (s : State) (c : Ctx) : (s.setMe c).hostLinks = s.hostLinks := rfl
@[simp] theorem State.setMe_hbmStacks (s : State) (c : Ctx) : (s.setMe c).hbmStacks = s.hbmStacks := rfl
@[simp] theorem State.setMe_wires (s : State) (c : Ctx) : (s.setMe c).wires = s.wires := rfl
@[simp] theorem State.setMe_puts (s : State) (c : Ctx) : (s.setMe c).puts = s.puts := rfl
@[simp] theorem State.setMe_forwards (s : State) (c : Ctx) : (s.setMe c).forwards = s.forwards := rfl
@[simp] theorem State.setMe_moves (s : State) (c : Ctx) : (s.setMe c).moves = s.moves := rfl
@[simp] theorem State.setMe_powered (s : State) (c : Ctx) : (s.setMe c).powered = s.powered := rfl
@[simp] theorem State.setMe_mgmt (s : State) (c : Ctx) : (s.setMe c).mgmt = s.mgmt := rfl
@[simp] theorem State.setMe_xdie (s : State) (c : Ctx) : (s.setMe c).xdie = s.xdie := rfl
@[simp] theorem State.setMe_failed (s : State) (c : Ctx) : (s.setMe c).failed = s.failed := rfl
@[simp] theorem State.setMe_banks (s : State) (c : Ctx) : (s.setMe c).banks = s.banks := rfl
@[simp] theorem State.setMe_nextBanks (s : State) (c : Ctx) : (s.setMe c).nextBanks = s.nextBanks := rfl
@[simp] theorem State.setMe_images (s : State) (c : Ctx) : (s.setMe c).images = s.images := rfl
@[simp] theorem State.setMe_secMin (s : State) (c : Ctx) : (s.setMe c).secMin = s.secMin := rfl
@[simp] theorem State.setMe_powerCap (s : State) (c : Ctx) : (s.setMe c).powerCap = s.powerCap := rfl

/-! ### setCore -/

@[simp] theorem State.setCore_agenda (s : State) (n : Nat) (x : Core) : (s.setCore n x).agenda = s.agenda := rfl
@[simp] theorem State.setCore_cur (s : State) (n : Nat) (x : Core) : (s.setCore n x).cur = s.cur := rfl
@[simp] theorem State.setCore_freeCount (s : State) (n : Nat) (x : Core) : (s.setCore n x).freeCount = s.freeCount := rfl
@[simp] theorem State.setCore_serial (s : State) (n : Nat) (x : Core) : (s.setCore n x).serial = s.serial := rfl
@[simp] theorem State.setCore_clock (s : State) (n : Nat) (x : Core) : (s.setCore n x).clock = s.clock := rfl
@[simp] theorem State.setCore_answer (s : State) (n : Nat) (x : Core) : (s.setCore n x).answer = s.answer := rfl
@[simp] theorem State.setCore_report (s : State) (n : Nat) (x : Core) : (s.setCore n x).report = s.report := rfl
@[simp] theorem State.setCore_viewer (s : State) (n : Nat) (x : Core) : (s.setCore n x).viewer = s.viewer := rfl
@[simp] theorem State.setCore_blocked (s : State) (n : Nat) (x : Core) : (s.setCore n x).blocked = s.blocked := rfl
@[simp] theorem State.setCore_l2 (s : State) (n : Nat) (x : Core) : (s.setCore n x).l2 = s.l2 := rfl
@[simp] theorem State.setCore_walks (s : State) (n : Nat) (x : Core) : (s.setCore n x).walks = s.walks := rfl
@[simp] theorem State.setCore_mgmtBusy (s : State) (n : Nat) (x : Core) : (s.setCore n x).mgmtBusy = s.mgmtBusy := rfl
@[simp] theorem State.setCore_aer (s : State) (n : Nat) (x : Core) : (s.setCore n x).aer = s.aer := rfl
@[simp] theorem State.setCore_ats (s : State) (n : Nat) (x : Core) : (s.setCore n x).ats = s.ats := rfl
@[simp] theorem State.setCore_ctxs (s : State) (n : Nat) (x : Core) : (s.setCore n x).ctxs = s.ctxs := rfl
@[simp] theorem State.setCore_clusters (s : State) (n : Nat) (x : Core) : (s.setCore n x).clusters = s.clusters := rfl
@[simp] theorem State.setCore_dies (s : State) (n : Nat) (x : Core) : (s.setCore n x).dies = s.dies := rfl
@[simp] theorem State.setCore_fns (s : State) (n : Nat) (x : Core) : (s.setCore n x).fns = s.fns := rfl
@[simp] theorem State.setCore_launches (s : State) (n : Nat) (x : Core) : (s.setCore n x).launches = s.launches := rfl
@[simp] theorem State.setCore_crews (s : State) (n : Nat) (x : Core) : (s.setCore n x).crews = s.crews := rfl
@[simp] theorem State.setCore_mem (s : State) (n : Nat) (x : Core) : (s.setCore n x).mem = s.mem := rfl
@[simp] theorem State.setCore_memPoison (s : State) (n : Nat) (x : Core) : (s.setCore n x).memPoison = s.memPoison := rfl
@[simp] theorem State.setCore_scratch (s : State) (n : Nat) (x : Core) : (s.setCore n x).scratch = s.scratch := rfl
@[simp] theorem State.setCore_scrPoison (s : State) (n : Nat) (x : Core) : (s.setCore n x).scrPoison = s.scrPoison := rfl
@[simp] theorem State.setCore_lineKey (s : State) (n : Nat) (x : Core) : (s.setCore n x).lineKey = s.lineKey := rfl
@[simp] theorem State.setCore_tags (s : State) (n : Nat) (x : Core) : (s.setCore n x).tags = s.tags := rfl
@[simp] theorem State.setCore_keys (s : State) (n : Nat) (x : Core) : (s.setCore n x).keys = s.keys := rfl
@[simp] theorem State.setCore_tlb (s : State) (n : Nat) (x : Core) : (s.setCore n x).tlb = s.tlb := rfl
@[simp] theorem State.setCore_apertures (s : State) (n : Nat) (x : Core) : (s.setCore n x).apertures = s.apertures := rfl
@[simp] theorem State.setCore_windows (s : State) (n : Nat) (x : Core) : (s.setCore n x).windows = s.windows := rfl
@[simp] theorem State.setCore_linkSets (s : State) (n : Nat) (x : Core) : (s.setCore n x).linkSets = s.linkSets := rfl
@[simp] theorem State.setCore_device (s : State) (n : Nat) (x : Core) : (s.setCore n x).device = s.device := rfl
@[simp] theorem State.setCore_links (s : State) (n : Nat) (x : Core) : (s.setCore n x).links = s.links := rfl
@[simp] theorem State.setCore_hostLinks (s : State) (n : Nat) (x : Core) : (s.setCore n x).hostLinks = s.hostLinks := rfl
@[simp] theorem State.setCore_hbmStacks (s : State) (n : Nat) (x : Core) : (s.setCore n x).hbmStacks = s.hbmStacks := rfl
@[simp] theorem State.setCore_wires (s : State) (n : Nat) (x : Core) : (s.setCore n x).wires = s.wires := rfl
@[simp] theorem State.setCore_puts (s : State) (n : Nat) (x : Core) : (s.setCore n x).puts = s.puts := rfl
@[simp] theorem State.setCore_forwards (s : State) (n : Nat) (x : Core) : (s.setCore n x).forwards = s.forwards := rfl
@[simp] theorem State.setCore_moves (s : State) (n : Nat) (x : Core) : (s.setCore n x).moves = s.moves := rfl
@[simp] theorem State.setCore_powered (s : State) (n : Nat) (x : Core) : (s.setCore n x).powered = s.powered := rfl
@[simp] theorem State.setCore_mgmt (s : State) (n : Nat) (x : Core) : (s.setCore n x).mgmt = s.mgmt := rfl
@[simp] theorem State.setCore_xdie (s : State) (n : Nat) (x : Core) : (s.setCore n x).xdie = s.xdie := rfl
@[simp] theorem State.setCore_failed (s : State) (n : Nat) (x : Core) : (s.setCore n x).failed = s.failed := rfl
@[simp] theorem State.setCore_banks (s : State) (n : Nat) (x : Core) : (s.setCore n x).banks = s.banks := rfl
@[simp] theorem State.setCore_nextBanks (s : State) (n : Nat) (x : Core) : (s.setCore n x).nextBanks = s.nextBanks := rfl
@[simp] theorem State.setCore_images (s : State) (n : Nat) (x : Core) : (s.setCore n x).images = s.images := rfl
@[simp] theorem State.setCore_secMin (s : State) (n : Nat) (x : Core) : (s.setCore n x).secMin = s.secMin := rfl
@[simp] theorem State.setCore_powerCap (s : State) (n : Nat) (x : Core) : (s.setCore n x).powerCap = s.powerCap := rfl

/-! ### setCluster -/

@[simp] theorem State.setCluster_agenda (s : State) (n : Nat) (x : Cluster) : (s.setCluster n x).agenda = s.agenda := rfl
@[simp] theorem State.setCluster_cur (s : State) (n : Nat) (x : Cluster) : (s.setCluster n x).cur = s.cur := rfl
@[simp] theorem State.setCluster_freeCount (s : State) (n : Nat) (x : Cluster) : (s.setCluster n x).freeCount = s.freeCount := rfl
@[simp] theorem State.setCluster_serial (s : State) (n : Nat) (x : Cluster) : (s.setCluster n x).serial = s.serial := rfl
@[simp] theorem State.setCluster_clock (s : State) (n : Nat) (x : Cluster) : (s.setCluster n x).clock = s.clock := rfl
@[simp] theorem State.setCluster_answer (s : State) (n : Nat) (x : Cluster) : (s.setCluster n x).answer = s.answer := rfl
@[simp] theorem State.setCluster_report (s : State) (n : Nat) (x : Cluster) : (s.setCluster n x).report = s.report := rfl
@[simp] theorem State.setCluster_viewer (s : State) (n : Nat) (x : Cluster) : (s.setCluster n x).viewer = s.viewer := rfl
@[simp] theorem State.setCluster_blocked (s : State) (n : Nat) (x : Cluster) : (s.setCluster n x).blocked = s.blocked := rfl
@[simp] theorem State.setCluster_l2 (s : State) (n : Nat) (x : Cluster) : (s.setCluster n x).l2 = s.l2 := rfl
@[simp] theorem State.setCluster_walks (s : State) (n : Nat) (x : Cluster) : (s.setCluster n x).walks = s.walks := rfl
@[simp] theorem State.setCluster_mgmtBusy (s : State) (n : Nat) (x : Cluster) : (s.setCluster n x).mgmtBusy = s.mgmtBusy := rfl
@[simp] theorem State.setCluster_aer (s : State) (n : Nat) (x : Cluster) : (s.setCluster n x).aer = s.aer := rfl
@[simp] theorem State.setCluster_ats (s : State) (n : Nat) (x : Cluster) : (s.setCluster n x).ats = s.ats := rfl
@[simp] theorem State.setCluster_ctxs (s : State) (n : Nat) (x : Cluster) : (s.setCluster n x).ctxs = s.ctxs := rfl
@[simp] theorem State.setCluster_cores (s : State) (n : Nat) (x : Cluster) : (s.setCluster n x).cores = s.cores := rfl
@[simp] theorem State.setCluster_dies (s : State) (n : Nat) (x : Cluster) : (s.setCluster n x).dies = s.dies := rfl
@[simp] theorem State.setCluster_fns (s : State) (n : Nat) (x : Cluster) : (s.setCluster n x).fns = s.fns := rfl
@[simp] theorem State.setCluster_launches (s : State) (n : Nat) (x : Cluster) : (s.setCluster n x).launches = s.launches := rfl
@[simp] theorem State.setCluster_crews (s : State) (n : Nat) (x : Cluster) : (s.setCluster n x).crews = s.crews := rfl
@[simp] theorem State.setCluster_mem (s : State) (n : Nat) (x : Cluster) : (s.setCluster n x).mem = s.mem := rfl
@[simp] theorem State.setCluster_memPoison (s : State) (n : Nat) (x : Cluster) : (s.setCluster n x).memPoison = s.memPoison := rfl
@[simp] theorem State.setCluster_scratch (s : State) (n : Nat) (x : Cluster) : (s.setCluster n x).scratch = s.scratch := rfl
@[simp] theorem State.setCluster_scrPoison (s : State) (n : Nat) (x : Cluster) : (s.setCluster n x).scrPoison = s.scrPoison := rfl
@[simp] theorem State.setCluster_lineKey (s : State) (n : Nat) (x : Cluster) : (s.setCluster n x).lineKey = s.lineKey := rfl
@[simp] theorem State.setCluster_tags (s : State) (n : Nat) (x : Cluster) : (s.setCluster n x).tags = s.tags := rfl
@[simp] theorem State.setCluster_keys (s : State) (n : Nat) (x : Cluster) : (s.setCluster n x).keys = s.keys := rfl
@[simp] theorem State.setCluster_tlb (s : State) (n : Nat) (x : Cluster) : (s.setCluster n x).tlb = s.tlb := rfl
@[simp] theorem State.setCluster_apertures (s : State) (n : Nat) (x : Cluster) : (s.setCluster n x).apertures = s.apertures := rfl
@[simp] theorem State.setCluster_windows (s : State) (n : Nat) (x : Cluster) : (s.setCluster n x).windows = s.windows := rfl
@[simp] theorem State.setCluster_linkSets (s : State) (n : Nat) (x : Cluster) : (s.setCluster n x).linkSets = s.linkSets := rfl
@[simp] theorem State.setCluster_device (s : State) (n : Nat) (x : Cluster) : (s.setCluster n x).device = s.device := rfl
@[simp] theorem State.setCluster_links (s : State) (n : Nat) (x : Cluster) : (s.setCluster n x).links = s.links := rfl
@[simp] theorem State.setCluster_hostLinks (s : State) (n : Nat) (x : Cluster) : (s.setCluster n x).hostLinks = s.hostLinks := rfl
@[simp] theorem State.setCluster_hbmStacks (s : State) (n : Nat) (x : Cluster) : (s.setCluster n x).hbmStacks = s.hbmStacks := rfl
@[simp] theorem State.setCluster_wires (s : State) (n : Nat) (x : Cluster) : (s.setCluster n x).wires = s.wires := rfl
@[simp] theorem State.setCluster_puts (s : State) (n : Nat) (x : Cluster) : (s.setCluster n x).puts = s.puts := rfl
@[simp] theorem State.setCluster_forwards (s : State) (n : Nat) (x : Cluster) : (s.setCluster n x).forwards = s.forwards := rfl
@[simp] theorem State.setCluster_moves (s : State) (n : Nat) (x : Cluster) : (s.setCluster n x).moves = s.moves := rfl
@[simp] theorem State.setCluster_powered (s : State) (n : Nat) (x : Cluster) : (s.setCluster n x).powered = s.powered := rfl
@[simp] theorem State.setCluster_mgmt (s : State) (n : Nat) (x : Cluster) : (s.setCluster n x).mgmt = s.mgmt := rfl
@[simp] theorem State.setCluster_xdie (s : State) (n : Nat) (x : Cluster) : (s.setCluster n x).xdie = s.xdie := rfl
@[simp] theorem State.setCluster_failed (s : State) (n : Nat) (x : Cluster) : (s.setCluster n x).failed = s.failed := rfl
@[simp] theorem State.setCluster_banks (s : State) (n : Nat) (x : Cluster) : (s.setCluster n x).banks = s.banks := rfl
@[simp] theorem State.setCluster_nextBanks (s : State) (n : Nat) (x : Cluster) : (s.setCluster n x).nextBanks = s.nextBanks := rfl
@[simp] theorem State.setCluster_images (s : State) (n : Nat) (x : Cluster) : (s.setCluster n x).images = s.images := rfl
@[simp] theorem State.setCluster_secMin (s : State) (n : Nat) (x : Cluster) : (s.setCluster n x).secMin = s.secMin := rfl
@[simp] theorem State.setCluster_powerCap (s : State) (n : Nat) (x : Cluster) : (s.setCluster n x).powerCap = s.powerCap := rfl

/-! ### setDie -/

@[simp] theorem State.setDie_agenda (s : State) (n : Nat) (x : Die) : (s.setDie n x).agenda = s.agenda := rfl
@[simp] theorem State.setDie_cur (s : State) (n : Nat) (x : Die) : (s.setDie n x).cur = s.cur := rfl
@[simp] theorem State.setDie_freeCount (s : State) (n : Nat) (x : Die) : (s.setDie n x).freeCount = s.freeCount := rfl
@[simp] theorem State.setDie_serial (s : State) (n : Nat) (x : Die) : (s.setDie n x).serial = s.serial := rfl
@[simp] theorem State.setDie_clock (s : State) (n : Nat) (x : Die) : (s.setDie n x).clock = s.clock := rfl
@[simp] theorem State.setDie_answer (s : State) (n : Nat) (x : Die) : (s.setDie n x).answer = s.answer := rfl
@[simp] theorem State.setDie_report (s : State) (n : Nat) (x : Die) : (s.setDie n x).report = s.report := rfl
@[simp] theorem State.setDie_viewer (s : State) (n : Nat) (x : Die) : (s.setDie n x).viewer = s.viewer := rfl
@[simp] theorem State.setDie_blocked (s : State) (n : Nat) (x : Die) : (s.setDie n x).blocked = s.blocked := rfl
@[simp] theorem State.setDie_l2 (s : State) (n : Nat) (x : Die) : (s.setDie n x).l2 = s.l2 := rfl
@[simp] theorem State.setDie_walks (s : State) (n : Nat) (x : Die) : (s.setDie n x).walks = s.walks := rfl
@[simp] theorem State.setDie_mgmtBusy (s : State) (n : Nat) (x : Die) : (s.setDie n x).mgmtBusy = s.mgmtBusy := rfl
@[simp] theorem State.setDie_aer (s : State) (n : Nat) (x : Die) : (s.setDie n x).aer = s.aer := rfl
@[simp] theorem State.setDie_ats (s : State) (n : Nat) (x : Die) : (s.setDie n x).ats = s.ats := rfl
@[simp] theorem State.setDie_ctxs (s : State) (n : Nat) (x : Die) : (s.setDie n x).ctxs = s.ctxs := rfl
@[simp] theorem State.setDie_cores (s : State) (n : Nat) (x : Die) : (s.setDie n x).cores = s.cores := rfl
@[simp] theorem State.setDie_clusters (s : State) (n : Nat) (x : Die) : (s.setDie n x).clusters = s.clusters := rfl
@[simp] theorem State.setDie_fns (s : State) (n : Nat) (x : Die) : (s.setDie n x).fns = s.fns := rfl
@[simp] theorem State.setDie_launches (s : State) (n : Nat) (x : Die) : (s.setDie n x).launches = s.launches := rfl
@[simp] theorem State.setDie_crews (s : State) (n : Nat) (x : Die) : (s.setDie n x).crews = s.crews := rfl
@[simp] theorem State.setDie_mem (s : State) (n : Nat) (x : Die) : (s.setDie n x).mem = s.mem := rfl
@[simp] theorem State.setDie_memPoison (s : State) (n : Nat) (x : Die) : (s.setDie n x).memPoison = s.memPoison := rfl
@[simp] theorem State.setDie_scratch (s : State) (n : Nat) (x : Die) : (s.setDie n x).scratch = s.scratch := rfl
@[simp] theorem State.setDie_scrPoison (s : State) (n : Nat) (x : Die) : (s.setDie n x).scrPoison = s.scrPoison := rfl
@[simp] theorem State.setDie_lineKey (s : State) (n : Nat) (x : Die) : (s.setDie n x).lineKey = s.lineKey := rfl
@[simp] theorem State.setDie_tags (s : State) (n : Nat) (x : Die) : (s.setDie n x).tags = s.tags := rfl
@[simp] theorem State.setDie_keys (s : State) (n : Nat) (x : Die) : (s.setDie n x).keys = s.keys := rfl
@[simp] theorem State.setDie_tlb (s : State) (n : Nat) (x : Die) : (s.setDie n x).tlb = s.tlb := rfl
@[simp] theorem State.setDie_apertures (s : State) (n : Nat) (x : Die) : (s.setDie n x).apertures = s.apertures := rfl
@[simp] theorem State.setDie_windows (s : State) (n : Nat) (x : Die) : (s.setDie n x).windows = s.windows := rfl
@[simp] theorem State.setDie_linkSets (s : State) (n : Nat) (x : Die) : (s.setDie n x).linkSets = s.linkSets := rfl
@[simp] theorem State.setDie_device (s : State) (n : Nat) (x : Die) : (s.setDie n x).device = s.device := rfl
@[simp] theorem State.setDie_links (s : State) (n : Nat) (x : Die) : (s.setDie n x).links = s.links := rfl
@[simp] theorem State.setDie_hostLinks (s : State) (n : Nat) (x : Die) : (s.setDie n x).hostLinks = s.hostLinks := rfl
@[simp] theorem State.setDie_hbmStacks (s : State) (n : Nat) (x : Die) : (s.setDie n x).hbmStacks = s.hbmStacks := rfl
@[simp] theorem State.setDie_wires (s : State) (n : Nat) (x : Die) : (s.setDie n x).wires = s.wires := rfl
@[simp] theorem State.setDie_puts (s : State) (n : Nat) (x : Die) : (s.setDie n x).puts = s.puts := rfl
@[simp] theorem State.setDie_forwards (s : State) (n : Nat) (x : Die) : (s.setDie n x).forwards = s.forwards := rfl
@[simp] theorem State.setDie_moves (s : State) (n : Nat) (x : Die) : (s.setDie n x).moves = s.moves := rfl
@[simp] theorem State.setDie_powered (s : State) (n : Nat) (x : Die) : (s.setDie n x).powered = s.powered := rfl
@[simp] theorem State.setDie_mgmt (s : State) (n : Nat) (x : Die) : (s.setDie n x).mgmt = s.mgmt := rfl
@[simp] theorem State.setDie_xdie (s : State) (n : Nat) (x : Die) : (s.setDie n x).xdie = s.xdie := rfl
@[simp] theorem State.setDie_failed (s : State) (n : Nat) (x : Die) : (s.setDie n x).failed = s.failed := rfl
@[simp] theorem State.setDie_banks (s : State) (n : Nat) (x : Die) : (s.setDie n x).banks = s.banks := rfl
@[simp] theorem State.setDie_nextBanks (s : State) (n : Nat) (x : Die) : (s.setDie n x).nextBanks = s.nextBanks := rfl
@[simp] theorem State.setDie_images (s : State) (n : Nat) (x : Die) : (s.setDie n x).images = s.images := rfl
@[simp] theorem State.setDie_secMin (s : State) (n : Nat) (x : Die) : (s.setDie n x).secMin = s.secMin := rfl
@[simp] theorem State.setDie_powerCap (s : State) (n : Nat) (x : Die) : (s.setDie n x).powerCap = s.powerCap := rfl

/-! ### setFn -/

@[simp] theorem State.setFn_agenda (s : State) (n : Nat) (x : Fn) : (s.setFn n x).agenda = s.agenda := rfl
@[simp] theorem State.setFn_cur (s : State) (n : Nat) (x : Fn) : (s.setFn n x).cur = s.cur := rfl
@[simp] theorem State.setFn_freeCount (s : State) (n : Nat) (x : Fn) : (s.setFn n x).freeCount = s.freeCount := rfl
@[simp] theorem State.setFn_serial (s : State) (n : Nat) (x : Fn) : (s.setFn n x).serial = s.serial := rfl
@[simp] theorem State.setFn_clock (s : State) (n : Nat) (x : Fn) : (s.setFn n x).clock = s.clock := rfl
@[simp] theorem State.setFn_answer (s : State) (n : Nat) (x : Fn) : (s.setFn n x).answer = s.answer := rfl
@[simp] theorem State.setFn_report (s : State) (n : Nat) (x : Fn) : (s.setFn n x).report = s.report := rfl
@[simp] theorem State.setFn_viewer (s : State) (n : Nat) (x : Fn) : (s.setFn n x).viewer = s.viewer := rfl
@[simp] theorem State.setFn_blocked (s : State) (n : Nat) (x : Fn) : (s.setFn n x).blocked = s.blocked := rfl
@[simp] theorem State.setFn_l2 (s : State) (n : Nat) (x : Fn) : (s.setFn n x).l2 = s.l2 := rfl
@[simp] theorem State.setFn_walks (s : State) (n : Nat) (x : Fn) : (s.setFn n x).walks = s.walks := rfl
@[simp] theorem State.setFn_mgmtBusy (s : State) (n : Nat) (x : Fn) : (s.setFn n x).mgmtBusy = s.mgmtBusy := rfl
@[simp] theorem State.setFn_aer (s : State) (n : Nat) (x : Fn) : (s.setFn n x).aer = s.aer := rfl
@[simp] theorem State.setFn_ats (s : State) (n : Nat) (x : Fn) : (s.setFn n x).ats = s.ats := rfl
@[simp] theorem State.setFn_ctxs (s : State) (n : Nat) (x : Fn) : (s.setFn n x).ctxs = s.ctxs := rfl
@[simp] theorem State.setFn_cores (s : State) (n : Nat) (x : Fn) : (s.setFn n x).cores = s.cores := rfl
@[simp] theorem State.setFn_clusters (s : State) (n : Nat) (x : Fn) : (s.setFn n x).clusters = s.clusters := rfl
@[simp] theorem State.setFn_dies (s : State) (n : Nat) (x : Fn) : (s.setFn n x).dies = s.dies := rfl
@[simp] theorem State.setFn_launches (s : State) (n : Nat) (x : Fn) : (s.setFn n x).launches = s.launches := rfl
@[simp] theorem State.setFn_crews (s : State) (n : Nat) (x : Fn) : (s.setFn n x).crews = s.crews := rfl
@[simp] theorem State.setFn_mem (s : State) (n : Nat) (x : Fn) : (s.setFn n x).mem = s.mem := rfl
@[simp] theorem State.setFn_memPoison (s : State) (n : Nat) (x : Fn) : (s.setFn n x).memPoison = s.memPoison := rfl
@[simp] theorem State.setFn_scratch (s : State) (n : Nat) (x : Fn) : (s.setFn n x).scratch = s.scratch := rfl
@[simp] theorem State.setFn_scrPoison (s : State) (n : Nat) (x : Fn) : (s.setFn n x).scrPoison = s.scrPoison := rfl
@[simp] theorem State.setFn_lineKey (s : State) (n : Nat) (x : Fn) : (s.setFn n x).lineKey = s.lineKey := rfl
@[simp] theorem State.setFn_tags (s : State) (n : Nat) (x : Fn) : (s.setFn n x).tags = s.tags := rfl
@[simp] theorem State.setFn_keys (s : State) (n : Nat) (x : Fn) : (s.setFn n x).keys = s.keys := rfl
@[simp] theorem State.setFn_tlb (s : State) (n : Nat) (x : Fn) : (s.setFn n x).tlb = s.tlb := rfl
@[simp] theorem State.setFn_apertures (s : State) (n : Nat) (x : Fn) : (s.setFn n x).apertures = s.apertures := rfl
@[simp] theorem State.setFn_windows (s : State) (n : Nat) (x : Fn) : (s.setFn n x).windows = s.windows := rfl
@[simp] theorem State.setFn_linkSets (s : State) (n : Nat) (x : Fn) : (s.setFn n x).linkSets = s.linkSets := rfl
@[simp] theorem State.setFn_device (s : State) (n : Nat) (x : Fn) : (s.setFn n x).device = s.device := rfl
@[simp] theorem State.setFn_links (s : State) (n : Nat) (x : Fn) : (s.setFn n x).links = s.links := rfl
@[simp] theorem State.setFn_hostLinks (s : State) (n : Nat) (x : Fn) : (s.setFn n x).hostLinks = s.hostLinks := rfl
@[simp] theorem State.setFn_hbmStacks (s : State) (n : Nat) (x : Fn) : (s.setFn n x).hbmStacks = s.hbmStacks := rfl
@[simp] theorem State.setFn_wires (s : State) (n : Nat) (x : Fn) : (s.setFn n x).wires = s.wires := rfl
@[simp] theorem State.setFn_puts (s : State) (n : Nat) (x : Fn) : (s.setFn n x).puts = s.puts := rfl
@[simp] theorem State.setFn_forwards (s : State) (n : Nat) (x : Fn) : (s.setFn n x).forwards = s.forwards := rfl
@[simp] theorem State.setFn_moves (s : State) (n : Nat) (x : Fn) : (s.setFn n x).moves = s.moves := rfl
@[simp] theorem State.setFn_powered (s : State) (n : Nat) (x : Fn) : (s.setFn n x).powered = s.powered := rfl
@[simp] theorem State.setFn_mgmt (s : State) (n : Nat) (x : Fn) : (s.setFn n x).mgmt = s.mgmt := rfl
@[simp] theorem State.setFn_xdie (s : State) (n : Nat) (x : Fn) : (s.setFn n x).xdie = s.xdie := rfl
@[simp] theorem State.setFn_failed (s : State) (n : Nat) (x : Fn) : (s.setFn n x).failed = s.failed := rfl
@[simp] theorem State.setFn_banks (s : State) (n : Nat) (x : Fn) : (s.setFn n x).banks = s.banks := rfl
@[simp] theorem State.setFn_nextBanks (s : State) (n : Nat) (x : Fn) : (s.setFn n x).nextBanks = s.nextBanks := rfl
@[simp] theorem State.setFn_images (s : State) (n : Nat) (x : Fn) : (s.setFn n x).images = s.images := rfl
@[simp] theorem State.setFn_secMin (s : State) (n : Nat) (x : Fn) : (s.setFn n x).secMin = s.secMin := rfl
@[simp] theorem State.setFn_powerCap (s : State) (n : Nat) (x : Fn) : (s.setFn n x).powerCap = s.powerCap := rfl

/-! ### setChan -/

@[simp] theorem State.setChan_agenda (s : State) (n ch : Nat) (x : Channel) : (s.setChan n ch x).agenda = s.agenda := rfl
@[simp] theorem State.setChan_cur (s : State) (n ch : Nat) (x : Channel) : (s.setChan n ch x).cur = s.cur := rfl
@[simp] theorem State.setChan_freeCount (s : State) (n ch : Nat) (x : Channel) : (s.setChan n ch x).freeCount = s.freeCount := rfl
@[simp] theorem State.setChan_serial (s : State) (n ch : Nat) (x : Channel) : (s.setChan n ch x).serial = s.serial := rfl
@[simp] theorem State.setChan_clock (s : State) (n ch : Nat) (x : Channel) : (s.setChan n ch x).clock = s.clock := rfl
@[simp] theorem State.setChan_answer (s : State) (n ch : Nat) (x : Channel) : (s.setChan n ch x).answer = s.answer := rfl
@[simp] theorem State.setChan_report (s : State) (n ch : Nat) (x : Channel) : (s.setChan n ch x).report = s.report := rfl
@[simp] theorem State.setChan_viewer (s : State) (n ch : Nat) (x : Channel) : (s.setChan n ch x).viewer = s.viewer := rfl
@[simp] theorem State.setChan_blocked (s : State) (n ch : Nat) (x : Channel) : (s.setChan n ch x).blocked = s.blocked := rfl
@[simp] theorem State.setChan_l2 (s : State) (n ch : Nat) (x : Channel) : (s.setChan n ch x).l2 = s.l2 := rfl
@[simp] theorem State.setChan_walks (s : State) (n ch : Nat) (x : Channel) : (s.setChan n ch x).walks = s.walks := rfl
@[simp] theorem State.setChan_mgmtBusy (s : State) (n ch : Nat) (x : Channel) : (s.setChan n ch x).mgmtBusy = s.mgmtBusy := rfl
@[simp] theorem State.setChan_aer (s : State) (n ch : Nat) (x : Channel) : (s.setChan n ch x).aer = s.aer := rfl
@[simp] theorem State.setChan_ats (s : State) (n ch : Nat) (x : Channel) : (s.setChan n ch x).ats = s.ats := rfl
@[simp] theorem State.setChan_ctxs (s : State) (n ch : Nat) (x : Channel) : (s.setChan n ch x).ctxs = s.ctxs := rfl
@[simp] theorem State.setChan_clusters (s : State) (n ch : Nat) (x : Channel) : (s.setChan n ch x).clusters = s.clusters := rfl
@[simp] theorem State.setChan_dies (s : State) (n ch : Nat) (x : Channel) : (s.setChan n ch x).dies = s.dies := rfl
@[simp] theorem State.setChan_fns (s : State) (n ch : Nat) (x : Channel) : (s.setChan n ch x).fns = s.fns := rfl
@[simp] theorem State.setChan_launches (s : State) (n ch : Nat) (x : Channel) : (s.setChan n ch x).launches = s.launches := rfl
@[simp] theorem State.setChan_crews (s : State) (n ch : Nat) (x : Channel) : (s.setChan n ch x).crews = s.crews := rfl
@[simp] theorem State.setChan_mem (s : State) (n ch : Nat) (x : Channel) : (s.setChan n ch x).mem = s.mem := rfl
@[simp] theorem State.setChan_memPoison (s : State) (n ch : Nat) (x : Channel) : (s.setChan n ch x).memPoison = s.memPoison := rfl
@[simp] theorem State.setChan_scratch (s : State) (n ch : Nat) (x : Channel) : (s.setChan n ch x).scratch = s.scratch := rfl
@[simp] theorem State.setChan_scrPoison (s : State) (n ch : Nat) (x : Channel) : (s.setChan n ch x).scrPoison = s.scrPoison := rfl
@[simp] theorem State.setChan_lineKey (s : State) (n ch : Nat) (x : Channel) : (s.setChan n ch x).lineKey = s.lineKey := rfl
@[simp] theorem State.setChan_tags (s : State) (n ch : Nat) (x : Channel) : (s.setChan n ch x).tags = s.tags := rfl
@[simp] theorem State.setChan_keys (s : State) (n ch : Nat) (x : Channel) : (s.setChan n ch x).keys = s.keys := rfl
@[simp] theorem State.setChan_tlb (s : State) (n ch : Nat) (x : Channel) : (s.setChan n ch x).tlb = s.tlb := rfl
@[simp] theorem State.setChan_apertures (s : State) (n ch : Nat) (x : Channel) : (s.setChan n ch x).apertures = s.apertures := rfl
@[simp] theorem State.setChan_windows (s : State) (n ch : Nat) (x : Channel) : (s.setChan n ch x).windows = s.windows := rfl
@[simp] theorem State.setChan_linkSets (s : State) (n ch : Nat) (x : Channel) : (s.setChan n ch x).linkSets = s.linkSets := rfl
@[simp] theorem State.setChan_device (s : State) (n ch : Nat) (x : Channel) : (s.setChan n ch x).device = s.device := rfl
@[simp] theorem State.setChan_links (s : State) (n ch : Nat) (x : Channel) : (s.setChan n ch x).links = s.links := rfl
@[simp] theorem State.setChan_hostLinks (s : State) (n ch : Nat) (x : Channel) : (s.setChan n ch x).hostLinks = s.hostLinks := rfl
@[simp] theorem State.setChan_hbmStacks (s : State) (n ch : Nat) (x : Channel) : (s.setChan n ch x).hbmStacks = s.hbmStacks := rfl
@[simp] theorem State.setChan_wires (s : State) (n ch : Nat) (x : Channel) : (s.setChan n ch x).wires = s.wires := rfl
@[simp] theorem State.setChan_puts (s : State) (n ch : Nat) (x : Channel) : (s.setChan n ch x).puts = s.puts := rfl
@[simp] theorem State.setChan_forwards (s : State) (n ch : Nat) (x : Channel) : (s.setChan n ch x).forwards = s.forwards := rfl
@[simp] theorem State.setChan_moves (s : State) (n ch : Nat) (x : Channel) : (s.setChan n ch x).moves = s.moves := rfl
@[simp] theorem State.setChan_powered (s : State) (n ch : Nat) (x : Channel) : (s.setChan n ch x).powered = s.powered := rfl
@[simp] theorem State.setChan_mgmt (s : State) (n ch : Nat) (x : Channel) : (s.setChan n ch x).mgmt = s.mgmt := rfl
@[simp] theorem State.setChan_xdie (s : State) (n ch : Nat) (x : Channel) : (s.setChan n ch x).xdie = s.xdie := rfl
@[simp] theorem State.setChan_failed (s : State) (n ch : Nat) (x : Channel) : (s.setChan n ch x).failed = s.failed := rfl
@[simp] theorem State.setChan_banks (s : State) (n ch : Nat) (x : Channel) : (s.setChan n ch x).banks = s.banks := rfl
@[simp] theorem State.setChan_nextBanks (s : State) (n ch : Nat) (x : Channel) : (s.setChan n ch x).nextBanks = s.nextBanks := rfl
@[simp] theorem State.setChan_images (s : State) (n ch : Nat) (x : Channel) : (s.setChan n ch x).images = s.images := rfl
@[simp] theorem State.setChan_secMin (s : State) (n ch : Nat) (x : Channel) : (s.setChan n ch x).secMin = s.secMin := rfl
@[simp] theorem State.setChan_powerCap (s : State) (n ch : Nat) (x : Channel) : (s.setChan n ch x).powerCap = s.powerCap := rfl

/-! ### setSlot -/

@[simp] theorem State.setSlot_agenda (s : State) (n i : Nat) (x : DirSlot) : (s.setSlot n i x).agenda = s.agenda := rfl
@[simp] theorem State.setSlot_cur (s : State) (n i : Nat) (x : DirSlot) : (s.setSlot n i x).cur = s.cur := rfl
@[simp] theorem State.setSlot_freeCount (s : State) (n i : Nat) (x : DirSlot) : (s.setSlot n i x).freeCount = s.freeCount := rfl
@[simp] theorem State.setSlot_serial (s : State) (n i : Nat) (x : DirSlot) : (s.setSlot n i x).serial = s.serial := rfl
@[simp] theorem State.setSlot_clock (s : State) (n i : Nat) (x : DirSlot) : (s.setSlot n i x).clock = s.clock := rfl
@[simp] theorem State.setSlot_answer (s : State) (n i : Nat) (x : DirSlot) : (s.setSlot n i x).answer = s.answer := rfl
@[simp] theorem State.setSlot_report (s : State) (n i : Nat) (x : DirSlot) : (s.setSlot n i x).report = s.report := rfl
@[simp] theorem State.setSlot_viewer (s : State) (n i : Nat) (x : DirSlot) : (s.setSlot n i x).viewer = s.viewer := rfl
@[simp] theorem State.setSlot_blocked (s : State) (n i : Nat) (x : DirSlot) : (s.setSlot n i x).blocked = s.blocked := rfl
@[simp] theorem State.setSlot_l2 (s : State) (n i : Nat) (x : DirSlot) : (s.setSlot n i x).l2 = s.l2 := rfl
@[simp] theorem State.setSlot_walks (s : State) (n i : Nat) (x : DirSlot) : (s.setSlot n i x).walks = s.walks := rfl
@[simp] theorem State.setSlot_mgmtBusy (s : State) (n i : Nat) (x : DirSlot) : (s.setSlot n i x).mgmtBusy = s.mgmtBusy := rfl
@[simp] theorem State.setSlot_aer (s : State) (n i : Nat) (x : DirSlot) : (s.setSlot n i x).aer = s.aer := rfl
@[simp] theorem State.setSlot_ats (s : State) (n i : Nat) (x : DirSlot) : (s.setSlot n i x).ats = s.ats := rfl
@[simp] theorem State.setSlot_ctxs (s : State) (n i : Nat) (x : DirSlot) : (s.setSlot n i x).ctxs = s.ctxs := rfl
@[simp] theorem State.setSlot_clusters (s : State) (n i : Nat) (x : DirSlot) : (s.setSlot n i x).clusters = s.clusters := rfl
@[simp] theorem State.setSlot_dies (s : State) (n i : Nat) (x : DirSlot) : (s.setSlot n i x).dies = s.dies := rfl
@[simp] theorem State.setSlot_fns (s : State) (n i : Nat) (x : DirSlot) : (s.setSlot n i x).fns = s.fns := rfl
@[simp] theorem State.setSlot_launches (s : State) (n i : Nat) (x : DirSlot) : (s.setSlot n i x).launches = s.launches := rfl
@[simp] theorem State.setSlot_crews (s : State) (n i : Nat) (x : DirSlot) : (s.setSlot n i x).crews = s.crews := rfl
@[simp] theorem State.setSlot_mem (s : State) (n i : Nat) (x : DirSlot) : (s.setSlot n i x).mem = s.mem := rfl
@[simp] theorem State.setSlot_memPoison (s : State) (n i : Nat) (x : DirSlot) : (s.setSlot n i x).memPoison = s.memPoison := rfl
@[simp] theorem State.setSlot_scratch (s : State) (n i : Nat) (x : DirSlot) : (s.setSlot n i x).scratch = s.scratch := rfl
@[simp] theorem State.setSlot_scrPoison (s : State) (n i : Nat) (x : DirSlot) : (s.setSlot n i x).scrPoison = s.scrPoison := rfl
@[simp] theorem State.setSlot_lineKey (s : State) (n i : Nat) (x : DirSlot) : (s.setSlot n i x).lineKey = s.lineKey := rfl
@[simp] theorem State.setSlot_tags (s : State) (n i : Nat) (x : DirSlot) : (s.setSlot n i x).tags = s.tags := rfl
@[simp] theorem State.setSlot_keys (s : State) (n i : Nat) (x : DirSlot) : (s.setSlot n i x).keys = s.keys := rfl
@[simp] theorem State.setSlot_tlb (s : State) (n i : Nat) (x : DirSlot) : (s.setSlot n i x).tlb = s.tlb := rfl
@[simp] theorem State.setSlot_apertures (s : State) (n i : Nat) (x : DirSlot) : (s.setSlot n i x).apertures = s.apertures := rfl
@[simp] theorem State.setSlot_windows (s : State) (n i : Nat) (x : DirSlot) : (s.setSlot n i x).windows = s.windows := rfl
@[simp] theorem State.setSlot_linkSets (s : State) (n i : Nat) (x : DirSlot) : (s.setSlot n i x).linkSets = s.linkSets := rfl
@[simp] theorem State.setSlot_device (s : State) (n i : Nat) (x : DirSlot) : (s.setSlot n i x).device = s.device := rfl
@[simp] theorem State.setSlot_links (s : State) (n i : Nat) (x : DirSlot) : (s.setSlot n i x).links = s.links := rfl
@[simp] theorem State.setSlot_hostLinks (s : State) (n i : Nat) (x : DirSlot) : (s.setSlot n i x).hostLinks = s.hostLinks := rfl
@[simp] theorem State.setSlot_hbmStacks (s : State) (n i : Nat) (x : DirSlot) : (s.setSlot n i x).hbmStacks = s.hbmStacks := rfl
@[simp] theorem State.setSlot_wires (s : State) (n i : Nat) (x : DirSlot) : (s.setSlot n i x).wires = s.wires := rfl
@[simp] theorem State.setSlot_puts (s : State) (n i : Nat) (x : DirSlot) : (s.setSlot n i x).puts = s.puts := rfl
@[simp] theorem State.setSlot_forwards (s : State) (n i : Nat) (x : DirSlot) : (s.setSlot n i x).forwards = s.forwards := rfl
@[simp] theorem State.setSlot_moves (s : State) (n i : Nat) (x : DirSlot) : (s.setSlot n i x).moves = s.moves := rfl
@[simp] theorem State.setSlot_powered (s : State) (n i : Nat) (x : DirSlot) : (s.setSlot n i x).powered = s.powered := rfl
@[simp] theorem State.setSlot_mgmt (s : State) (n i : Nat) (x : DirSlot) : (s.setSlot n i x).mgmt = s.mgmt := rfl
@[simp] theorem State.setSlot_xdie (s : State) (n i : Nat) (x : DirSlot) : (s.setSlot n i x).xdie = s.xdie := rfl
@[simp] theorem State.setSlot_failed (s : State) (n i : Nat) (x : DirSlot) : (s.setSlot n i x).failed = s.failed := rfl
@[simp] theorem State.setSlot_banks (s : State) (n i : Nat) (x : DirSlot) : (s.setSlot n i x).banks = s.banks := rfl
@[simp] theorem State.setSlot_nextBanks (s : State) (n i : Nat) (x : DirSlot) : (s.setSlot n i x).nextBanks = s.nextBanks := rfl
@[simp] theorem State.setSlot_images (s : State) (n i : Nat) (x : DirSlot) : (s.setSlot n i x).images = s.images := rfl
@[simp] theorem State.setSlot_secMin (s : State) (n i : Nat) (x : DirSlot) : (s.setSlot n i x).secMin = s.secMin := rfl
@[simp] theorem State.setSlot_powerCap (s : State) (n i : Nat) (x : DirSlot) : (s.setSlot n i x).powerCap = s.powerCap := rfl

/-! ### setQueue -/

@[simp] theorem State.setQueue_agenda (s : State) (d q : Nat) (x : Queue) : (s.setQueue d q x).agenda = s.agenda := rfl
@[simp] theorem State.setQueue_cur (s : State) (d q : Nat) (x : Queue) : (s.setQueue d q x).cur = s.cur := rfl
@[simp] theorem State.setQueue_freeCount (s : State) (d q : Nat) (x : Queue) : (s.setQueue d q x).freeCount = s.freeCount := rfl
@[simp] theorem State.setQueue_serial (s : State) (d q : Nat) (x : Queue) : (s.setQueue d q x).serial = s.serial := rfl
@[simp] theorem State.setQueue_clock (s : State) (d q : Nat) (x : Queue) : (s.setQueue d q x).clock = s.clock := rfl
@[simp] theorem State.setQueue_answer (s : State) (d q : Nat) (x : Queue) : (s.setQueue d q x).answer = s.answer := rfl
@[simp] theorem State.setQueue_report (s : State) (d q : Nat) (x : Queue) : (s.setQueue d q x).report = s.report := rfl
@[simp] theorem State.setQueue_viewer (s : State) (d q : Nat) (x : Queue) : (s.setQueue d q x).viewer = s.viewer := rfl
@[simp] theorem State.setQueue_blocked (s : State) (d q : Nat) (x : Queue) : (s.setQueue d q x).blocked = s.blocked := rfl
@[simp] theorem State.setQueue_l2 (s : State) (d q : Nat) (x : Queue) : (s.setQueue d q x).l2 = s.l2 := rfl
@[simp] theorem State.setQueue_walks (s : State) (d q : Nat) (x : Queue) : (s.setQueue d q x).walks = s.walks := rfl
@[simp] theorem State.setQueue_mgmtBusy (s : State) (d q : Nat) (x : Queue) : (s.setQueue d q x).mgmtBusy = s.mgmtBusy := rfl
@[simp] theorem State.setQueue_aer (s : State) (d q : Nat) (x : Queue) : (s.setQueue d q x).aer = s.aer := rfl
@[simp] theorem State.setQueue_ats (s : State) (d q : Nat) (x : Queue) : (s.setQueue d q x).ats = s.ats := rfl
@[simp] theorem State.setQueue_ctxs (s : State) (d q : Nat) (x : Queue) : (s.setQueue d q x).ctxs = s.ctxs := rfl
@[simp] theorem State.setQueue_cores (s : State) (d q : Nat) (x : Queue) : (s.setQueue d q x).cores = s.cores := rfl
@[simp] theorem State.setQueue_clusters (s : State) (d q : Nat) (x : Queue) : (s.setQueue d q x).clusters = s.clusters := rfl
@[simp] theorem State.setQueue_fns (s : State) (d q : Nat) (x : Queue) : (s.setQueue d q x).fns = s.fns := rfl
@[simp] theorem State.setQueue_launches (s : State) (d q : Nat) (x : Queue) : (s.setQueue d q x).launches = s.launches := rfl
@[simp] theorem State.setQueue_crews (s : State) (d q : Nat) (x : Queue) : (s.setQueue d q x).crews = s.crews := rfl
@[simp] theorem State.setQueue_mem (s : State) (d q : Nat) (x : Queue) : (s.setQueue d q x).mem = s.mem := rfl
@[simp] theorem State.setQueue_memPoison (s : State) (d q : Nat) (x : Queue) : (s.setQueue d q x).memPoison = s.memPoison := rfl
@[simp] theorem State.setQueue_scratch (s : State) (d q : Nat) (x : Queue) : (s.setQueue d q x).scratch = s.scratch := rfl
@[simp] theorem State.setQueue_scrPoison (s : State) (d q : Nat) (x : Queue) : (s.setQueue d q x).scrPoison = s.scrPoison := rfl
@[simp] theorem State.setQueue_lineKey (s : State) (d q : Nat) (x : Queue) : (s.setQueue d q x).lineKey = s.lineKey := rfl
@[simp] theorem State.setQueue_tags (s : State) (d q : Nat) (x : Queue) : (s.setQueue d q x).tags = s.tags := rfl
@[simp] theorem State.setQueue_keys (s : State) (d q : Nat) (x : Queue) : (s.setQueue d q x).keys = s.keys := rfl
@[simp] theorem State.setQueue_tlb (s : State) (d q : Nat) (x : Queue) : (s.setQueue d q x).tlb = s.tlb := rfl
@[simp] theorem State.setQueue_apertures (s : State) (d q : Nat) (x : Queue) : (s.setQueue d q x).apertures = s.apertures := rfl
@[simp] theorem State.setQueue_windows (s : State) (d q : Nat) (x : Queue) : (s.setQueue d q x).windows = s.windows := rfl
@[simp] theorem State.setQueue_linkSets (s : State) (d q : Nat) (x : Queue) : (s.setQueue d q x).linkSets = s.linkSets := rfl
@[simp] theorem State.setQueue_device (s : State) (d q : Nat) (x : Queue) : (s.setQueue d q x).device = s.device := rfl
@[simp] theorem State.setQueue_links (s : State) (d q : Nat) (x : Queue) : (s.setQueue d q x).links = s.links := rfl
@[simp] theorem State.setQueue_hostLinks (s : State) (d q : Nat) (x : Queue) : (s.setQueue d q x).hostLinks = s.hostLinks := rfl
@[simp] theorem State.setQueue_hbmStacks (s : State) (d q : Nat) (x : Queue) : (s.setQueue d q x).hbmStacks = s.hbmStacks := rfl
@[simp] theorem State.setQueue_wires (s : State) (d q : Nat) (x : Queue) : (s.setQueue d q x).wires = s.wires := rfl
@[simp] theorem State.setQueue_puts (s : State) (d q : Nat) (x : Queue) : (s.setQueue d q x).puts = s.puts := rfl
@[simp] theorem State.setQueue_forwards (s : State) (d q : Nat) (x : Queue) : (s.setQueue d q x).forwards = s.forwards := rfl
@[simp] theorem State.setQueue_moves (s : State) (d q : Nat) (x : Queue) : (s.setQueue d q x).moves = s.moves := rfl
@[simp] theorem State.setQueue_powered (s : State) (d q : Nat) (x : Queue) : (s.setQueue d q x).powered = s.powered := rfl
@[simp] theorem State.setQueue_mgmt (s : State) (d q : Nat) (x : Queue) : (s.setQueue d q x).mgmt = s.mgmt := rfl
@[simp] theorem State.setQueue_xdie (s : State) (d q : Nat) (x : Queue) : (s.setQueue d q x).xdie = s.xdie := rfl
@[simp] theorem State.setQueue_failed (s : State) (d q : Nat) (x : Queue) : (s.setQueue d q x).failed = s.failed := rfl
@[simp] theorem State.setQueue_banks (s : State) (d q : Nat) (x : Queue) : (s.setQueue d q x).banks = s.banks := rfl
@[simp] theorem State.setQueue_nextBanks (s : State) (d q : Nat) (x : Queue) : (s.setQueue d q x).nextBanks = s.nextBanks := rfl
@[simp] theorem State.setQueue_images (s : State) (d q : Nat) (x : Queue) : (s.setQueue d q x).images = s.images := rfl
@[simp] theorem State.setQueue_secMin (s : State) (d q : Nat) (x : Queue) : (s.setQueue d q x).secMin = s.secMin := rfl
@[simp] theorem State.setQueue_powerCap (s : State) (d q : Nat) (x : Queue) : (s.setQueue d q x).powerCap = s.powerCap := rfl

/-! ### count -/

@[simp] theorem State.count_agenda (s : State) (f : Nat) (u : Usage → Usage) : (s.count f u).agenda = s.agenda := rfl
@[simp] theorem State.count_cur (s : State) (f : Nat) (u : Usage → Usage) : (s.count f u).cur = s.cur := rfl
@[simp] theorem State.count_freeCount (s : State) (f : Nat) (u : Usage → Usage) : (s.count f u).freeCount = s.freeCount := rfl
@[simp] theorem State.count_serial (s : State) (f : Nat) (u : Usage → Usage) : (s.count f u).serial = s.serial := rfl
@[simp] theorem State.count_clock (s : State) (f : Nat) (u : Usage → Usage) : (s.count f u).clock = s.clock := rfl
@[simp] theorem State.count_answer (s : State) (f : Nat) (u : Usage → Usage) : (s.count f u).answer = s.answer := rfl
@[simp] theorem State.count_report (s : State) (f : Nat) (u : Usage → Usage) : (s.count f u).report = s.report := rfl
@[simp] theorem State.count_viewer (s : State) (f : Nat) (u : Usage → Usage) : (s.count f u).viewer = s.viewer := rfl
@[simp] theorem State.count_blocked (s : State) (f : Nat) (u : Usage → Usage) : (s.count f u).blocked = s.blocked := rfl
@[simp] theorem State.count_l2 (s : State) (f : Nat) (u : Usage → Usage) : (s.count f u).l2 = s.l2 := rfl
@[simp] theorem State.count_walks (s : State) (f : Nat) (u : Usage → Usage) : (s.count f u).walks = s.walks := rfl
@[simp] theorem State.count_mgmtBusy (s : State) (f : Nat) (u : Usage → Usage) : (s.count f u).mgmtBusy = s.mgmtBusy := rfl
@[simp] theorem State.count_aer (s : State) (f : Nat) (u : Usage → Usage) : (s.count f u).aer = s.aer := rfl
@[simp] theorem State.count_ats (s : State) (f : Nat) (u : Usage → Usage) : (s.count f u).ats = s.ats := rfl
@[simp] theorem State.count_ctxs (s : State) (f : Nat) (u : Usage → Usage) : (s.count f u).ctxs = s.ctxs := rfl
@[simp] theorem State.count_cores (s : State) (f : Nat) (u : Usage → Usage) : (s.count f u).cores = s.cores := rfl
@[simp] theorem State.count_clusters (s : State) (f : Nat) (u : Usage → Usage) : (s.count f u).clusters = s.clusters := rfl
@[simp] theorem State.count_dies (s : State) (f : Nat) (u : Usage → Usage) : (s.count f u).dies = s.dies := rfl
@[simp] theorem State.count_launches (s : State) (f : Nat) (u : Usage → Usage) : (s.count f u).launches = s.launches := rfl
@[simp] theorem State.count_crews (s : State) (f : Nat) (u : Usage → Usage) : (s.count f u).crews = s.crews := rfl
@[simp] theorem State.count_mem (s : State) (f : Nat) (u : Usage → Usage) : (s.count f u).mem = s.mem := rfl
@[simp] theorem State.count_memPoison (s : State) (f : Nat) (u : Usage → Usage) : (s.count f u).memPoison = s.memPoison := rfl
@[simp] theorem State.count_scratch (s : State) (f : Nat) (u : Usage → Usage) : (s.count f u).scratch = s.scratch := rfl
@[simp] theorem State.count_scrPoison (s : State) (f : Nat) (u : Usage → Usage) : (s.count f u).scrPoison = s.scrPoison := rfl
@[simp] theorem State.count_lineKey (s : State) (f : Nat) (u : Usage → Usage) : (s.count f u).lineKey = s.lineKey := rfl
@[simp] theorem State.count_tags (s : State) (f : Nat) (u : Usage → Usage) : (s.count f u).tags = s.tags := rfl
@[simp] theorem State.count_keys (s : State) (f : Nat) (u : Usage → Usage) : (s.count f u).keys = s.keys := rfl
@[simp] theorem State.count_tlb (s : State) (f : Nat) (u : Usage → Usage) : (s.count f u).tlb = s.tlb := rfl
@[simp] theorem State.count_apertures (s : State) (f : Nat) (u : Usage → Usage) : (s.count f u).apertures = s.apertures := rfl
@[simp] theorem State.count_windows (s : State) (f : Nat) (u : Usage → Usage) : (s.count f u).windows = s.windows := rfl
@[simp] theorem State.count_linkSets (s : State) (f : Nat) (u : Usage → Usage) : (s.count f u).linkSets = s.linkSets := rfl
@[simp] theorem State.count_device (s : State) (f : Nat) (u : Usage → Usage) : (s.count f u).device = s.device := rfl
@[simp] theorem State.count_links (s : State) (f : Nat) (u : Usage → Usage) : (s.count f u).links = s.links := rfl
@[simp] theorem State.count_hostLinks (s : State) (f : Nat) (u : Usage → Usage) : (s.count f u).hostLinks = s.hostLinks := rfl
@[simp] theorem State.count_hbmStacks (s : State) (f : Nat) (u : Usage → Usage) : (s.count f u).hbmStacks = s.hbmStacks := rfl
@[simp] theorem State.count_wires (s : State) (f : Nat) (u : Usage → Usage) : (s.count f u).wires = s.wires := rfl
@[simp] theorem State.count_puts (s : State) (f : Nat) (u : Usage → Usage) : (s.count f u).puts = s.puts := rfl
@[simp] theorem State.count_forwards (s : State) (f : Nat) (u : Usage → Usage) : (s.count f u).forwards = s.forwards := rfl
@[simp] theorem State.count_moves (s : State) (f : Nat) (u : Usage → Usage) : (s.count f u).moves = s.moves := rfl
@[simp] theorem State.count_powered (s : State) (f : Nat) (u : Usage → Usage) : (s.count f u).powered = s.powered := rfl
@[simp] theorem State.count_mgmt (s : State) (f : Nat) (u : Usage → Usage) : (s.count f u).mgmt = s.mgmt := rfl
@[simp] theorem State.count_xdie (s : State) (f : Nat) (u : Usage → Usage) : (s.count f u).xdie = s.xdie := rfl
@[simp] theorem State.count_failed (s : State) (f : Nat) (u : Usage → Usage) : (s.count f u).failed = s.failed := rfl
@[simp] theorem State.count_banks (s : State) (f : Nat) (u : Usage → Usage) : (s.count f u).banks = s.banks := rfl
@[simp] theorem State.count_nextBanks (s : State) (f : Nat) (u : Usage → Usage) : (s.count f u).nextBanks = s.nextBanks := rfl
@[simp] theorem State.count_images (s : State) (f : Nat) (u : Usage → Usage) : (s.count f u).images = s.images := rfl
@[simp] theorem State.count_secMin (s : State) (f : Nat) (u : Usage → Usage) : (s.count f u).secMin = s.secMin := rfl
@[simp] theorem State.count_powerCap (s : State) (f : Nat) (u : Usage → Usage) : (s.count f u).powerCap = s.powerCap := rfl

/-! ### tick -/

@[simp] theorem State.tick_agenda (s : State) : (s.tick).agenda = s.agenda := rfl
@[simp] theorem State.tick_cur (s : State) : (s.tick).cur = s.cur := rfl
@[simp] theorem State.tick_serial (s : State) : (s.tick).serial = s.serial := rfl
@[simp] theorem State.tick_clock (s : State) : (s.tick).clock = s.clock := rfl
@[simp] theorem State.tick_answer (s : State) : (s.tick).answer = s.answer := rfl
@[simp] theorem State.tick_report (s : State) : (s.tick).report = s.report := rfl
@[simp] theorem State.tick_viewer (s : State) : (s.tick).viewer = s.viewer := rfl
@[simp] theorem State.tick_blocked (s : State) : (s.tick).blocked = s.blocked := rfl
@[simp] theorem State.tick_l2 (s : State) : (s.tick).l2 = s.l2 := rfl
@[simp] theorem State.tick_walks (s : State) : (s.tick).walks = s.walks := rfl
@[simp] theorem State.tick_mgmtBusy (s : State) : (s.tick).mgmtBusy = s.mgmtBusy := rfl
@[simp] theorem State.tick_aer (s : State) : (s.tick).aer = s.aer := rfl
@[simp] theorem State.tick_ats (s : State) : (s.tick).ats = s.ats := rfl
@[simp] theorem State.tick_ctxs (s : State) : (s.tick).ctxs = s.ctxs := rfl
@[simp] theorem State.tick_cores (s : State) : (s.tick).cores = s.cores := rfl
@[simp] theorem State.tick_clusters (s : State) : (s.tick).clusters = s.clusters := rfl
@[simp] theorem State.tick_dies (s : State) : (s.tick).dies = s.dies := rfl
@[simp] theorem State.tick_fns (s : State) : (s.tick).fns = s.fns := rfl
@[simp] theorem State.tick_launches (s : State) : (s.tick).launches = s.launches := rfl
@[simp] theorem State.tick_crews (s : State) : (s.tick).crews = s.crews := rfl
@[simp] theorem State.tick_mem (s : State) : (s.tick).mem = s.mem := rfl
@[simp] theorem State.tick_memPoison (s : State) : (s.tick).memPoison = s.memPoison := rfl
@[simp] theorem State.tick_scratch (s : State) : (s.tick).scratch = s.scratch := rfl
@[simp] theorem State.tick_scrPoison (s : State) : (s.tick).scrPoison = s.scrPoison := rfl
@[simp] theorem State.tick_lineKey (s : State) : (s.tick).lineKey = s.lineKey := rfl
@[simp] theorem State.tick_tags (s : State) : (s.tick).tags = s.tags := rfl
@[simp] theorem State.tick_keys (s : State) : (s.tick).keys = s.keys := rfl
@[simp] theorem State.tick_tlb (s : State) : (s.tick).tlb = s.tlb := rfl
@[simp] theorem State.tick_apertures (s : State) : (s.tick).apertures = s.apertures := rfl
@[simp] theorem State.tick_windows (s : State) : (s.tick).windows = s.windows := rfl
@[simp] theorem State.tick_linkSets (s : State) : (s.tick).linkSets = s.linkSets := rfl
@[simp] theorem State.tick_device (s : State) : (s.tick).device = s.device := rfl
@[simp] theorem State.tick_links (s : State) : (s.tick).links = s.links := rfl
@[simp] theorem State.tick_hostLinks (s : State) : (s.tick).hostLinks = s.hostLinks := rfl
@[simp] theorem State.tick_hbmStacks (s : State) : (s.tick).hbmStacks = s.hbmStacks := rfl
@[simp] theorem State.tick_wires (s : State) : (s.tick).wires = s.wires := rfl
@[simp] theorem State.tick_puts (s : State) : (s.tick).puts = s.puts := rfl
@[simp] theorem State.tick_forwards (s : State) : (s.tick).forwards = s.forwards := rfl
@[simp] theorem State.tick_moves (s : State) : (s.tick).moves = s.moves := rfl
@[simp] theorem State.tick_powered (s : State) : (s.tick).powered = s.powered := rfl
@[simp] theorem State.tick_mgmt (s : State) : (s.tick).mgmt = s.mgmt := rfl
@[simp] theorem State.tick_xdie (s : State) : (s.tick).xdie = s.xdie := rfl
@[simp] theorem State.tick_failed (s : State) : (s.tick).failed = s.failed := rfl
@[simp] theorem State.tick_banks (s : State) : (s.tick).banks = s.banks := rfl
@[simp] theorem State.tick_nextBanks (s : State) : (s.tick).nextBanks = s.nextBanks := rfl
@[simp] theorem State.tick_images (s : State) : (s.tick).images = s.images := rfl
@[simp] theorem State.tick_secMin (s : State) : (s.tick).secMin = s.secMin := rfl
@[simp] theorem State.tick_powerCap (s : State) : (s.tick).powerCap = s.powerCap := rfl

/-! ### setReg -/

@[simp] theorem Ctx.setReg_live (c : Ctx) (d : BitVec 5) (v : Word) (p : Bool) : (c.setReg d v p).live = c.live := by unfold Ctx.setReg; split <;> rfl
@[simp] theorem Ctx.setReg_pc (c : Ctx) (d : BitVec 5) (v : Word) (p : Bool) : (c.setReg d v p).pc = c.pc := by unfold Ctx.setReg; split <;> rfl
@[simp] theorem Ctx.setReg_fstat (c : Ctx) (d : BitVec 5) (v : Word) (p : Bool) : (c.setReg d v p).fstat = c.fstat := by unfold Ctx.setReg; split <;> rfl
@[simp] theorem Ctx.setReg_vstart (c : Ctx) (d : BitVec 5) (v : Word) (p : Bool) : (c.setReg d v p).vstart = c.vstart := by unfold Ctx.setReg; split <;> rfl
@[simp] theorem Ctx.setReg_vstat (c : Ctx) (d : BitVec 5) (v : Word) (p : Bool) : (c.setReg d v p).vstat = c.vstat := by unfold Ctx.setReg; split <;> rfl
@[simp] theorem Ctx.setReg_vspill (c : Ctx) (d : BitVec 5) (v : Word) (p : Bool) : (c.setReg d v p).vspill = c.vspill := by unfold Ctx.setReg; split <;> rfl
@[simp] theorem Ctx.setReg_fmta (c : Ctx) (d : BitVec 5) (v : Word) (p : Bool) : (c.setReg d v p).fmta = c.fmta := by unfold Ctx.setReg; split <;> rfl
@[simp] theorem Ctx.setReg_fmtb (c : Ctx) (d : BitVec 5) (v : Word) (p : Bool) : (c.setReg d v p).fmtb = c.fmtb := by unfold Ctx.setReg; split <;> rfl
@[simp] theorem Ctx.setReg_scla (c : Ctx) (d : BitVec 5) (v : Word) (p : Bool) : (c.setReg d v p).scla = c.scla := by unfold Ctx.setReg; split <;> rfl
@[simp] theorem Ctx.setReg_sclb (c : Ctx) (d : BitVec 5) (v : Word) (p : Bool) : (c.setReg d v p).sclb = c.sclb := by unfold Ctx.setReg; split <;> rfl
@[simp] theorem Ctx.setReg_vl (c : Ctx) (d : BitVec 5) (v : Word) (p : Bool) : (c.setReg d v p).vl = c.vl := by unfold Ctx.setReg; split <;> rfl
@[simp] theorem Ctx.setReg_vtype (c : Ctx) (d : BitVec 5) (v : Word) (p : Bool) : (c.setReg d v p).vtype = c.vtype := by unfold Ctx.setReg; split <;> rfl
@[simp] theorem Ctx.setReg_cir (c : Ctx) (d : BitVec 5) (v : Word) (p : Bool) : (c.setReg d v p).cir = c.cir := by unfold Ctx.setReg; split <;> rfl
@[simp] theorem Ctx.setReg_lanecyc (c : Ctx) (d : BitVec 5) (v : Word) (p : Bool) : (c.setReg d v p).lanecyc = c.lanecyc := by unfold Ctx.setReg; split <;> rfl
@[simp] theorem Ctx.setReg_ncode (c : Ctx) (d : BitVec 5) (v : Word) (p : Bool) : (c.setReg d v p).ncode = c.ncode := by unfold Ctx.setReg; split <;> rfl
@[simp] theorem Ctx.setReg_pncode (c : Ctx) (d : BitVec 5) (v : Word) (p : Bool) : (c.setReg d v p).pncode = c.pncode := by unfold Ctx.setReg; split <;> rfl
@[simp] theorem Ctx.setReg_tl (c : Ctx) (d : BitVec 5) (v : Word) (p : Bool) : (c.setReg d v p).tl = c.tl := by unfold Ctx.setReg; split <;> rfl
@[simp] theorem Ctx.setReg_ptl (c : Ctx) (d : BitVec 5) (v : Word) (p : Bool) : (c.setReg d v p).ptl = c.ptl := by unfold Ctx.setReg; split <;> rfl
@[simp] theorem Ctx.setReg_dtype (c : Ctx) (d : BitVec 5) (v : Word) (p : Bool) : (c.setReg d v p).dtype = c.dtype := by unfold Ctx.setReg; split <;> rfl
@[simp] theorem Ctx.setReg_dcode (c : Ctx) (d : BitVec 5) (v : Word) (p : Bool) : (c.setReg d v p).dcode = c.dcode := by unfold Ctx.setReg; split <;> rfl
@[simp] theorem Ctx.setReg_level (c : Ctx) (d : BitVec 5) (v : Word) (p : Bool) : (c.setReg d v p).level = c.level := by unfold Ctx.setReg; split <;> rfl
@[simp] theorem Ctx.setReg_uepc (c : Ctx) (d : BitVec 5) (v : Word) (p : Bool) : (c.setReg d v p).uepc = c.uepc := by unfold Ctx.setReg; split <;> rfl
@[simp] theorem Ctx.setReg_uip (c : Ctx) (d : BitVec 5) (v : Word) (p : Bool) : (c.setReg d v p).uip = c.uip := by unfold Ctx.setReg; split <;> rfl
@[simp] theorem Ctx.setReg_sup (c : Ctx) (d : BitVec 5) (v : Word) (p : Bool) : (c.setReg d v p).sup = c.sup := by unfold Ctx.setReg; split <;> rfl
@[simp] theorem Ctx.setReg_firm (c : Ctx) (d : BitVec 5) (v : Word) (p : Bool) : (c.setReg d v p).firm = c.firm := by unfold Ctx.setReg; split <;> rfl
@[simp] theorem Ctx.setReg_resume (c : Ctx) (d : BitVec 5) (v : Word) (p : Bool) : (c.setReg d v p).resume = c.resume := by unfold Ctx.setReg; split <;> rfl
@[simp] theorem Ctx.setReg_vq (c : Ctx) (d : BitVec 5) (v : Word) (p : Bool) : (c.setReg d v p).vq = c.vq := by unfold Ctx.setReg; split <;> rfl
@[simp] theorem Ctx.setReg_replay (c : Ctx) (d : BitVec 5) (v : Word) (p : Bool) : (c.setReg d v p).replay = c.replay := by unfold Ctx.setReg; split <;> rfl
@[simp] theorem Ctx.setReg_reissue (c : Ctx) (d : BitVec 5) (v : Word) (p : Bool) : (c.setReg d v p).reissue = c.reissue := by unfold Ctx.setReg; split <;> rfl
@[simp] theorem Ctx.setReg_history (c : Ctx) (d : BitVec 5) (v : Word) (p : Bool) : (c.setReg d v p).history = c.history := by unfold Ctx.setReg; split <;> rfl
@[simp] theorem Ctx.setReg_cut (c : Ctx) (d : BitVec 5) (v : Word) (p : Bool) : (c.setReg d v p).cut = c.cut := by unfold Ctx.setReg; split <;> rfl
@[simp] theorem Ctx.setReg_mismatch (c : Ctx) (d : BitVec 5) (v : Word) (p : Bool) : (c.setReg d v p).mismatch = c.mismatch := by unfold Ctx.setReg; split <;> rfl
@[simp] theorem Ctx.setReg_revoke (c : Ctx) (d : BitVec 5) (v : Word) (p : Bool) : (c.setReg d v p).revoke = c.revoke := by unfold Ctx.setReg; split <;> rfl
@[simp] theorem Ctx.setReg_vec (c : Ctx) (d : BitVec 5) (v : Word) (p : Bool) : (c.setReg d v p).vec = c.vec := by unfold Ctx.setReg; split <;> rfl
@[simp] theorem Ctx.setReg_laneMin (c : Ctx) (d : BitVec 5) (v : Word) (p : Bool) : (c.setReg d v p).laneMin = c.laneMin := by unfold Ctx.setReg; split <;> rfl
@[simp] theorem Ctx.setReg_gres (c : Ctx) (d : BitVec 5) (v : Word) (p : Bool) : (c.setReg d v p).gres = c.gres := by unfold Ctx.setReg; split <;> rfl
@[simp] theorem Ctx.setReg_laneMax (c : Ctx) (d : BitVec 5) (v : Word) (p : Bool) : (c.setReg d v p).laneMax = c.laneMax := by unfold Ctx.setReg; split <;> rfl
@[simp] theorem Ctx.setReg_short (c : Ctx) (d : BitVec 5) (v : Word) (p : Bool) : (c.setReg d v p).short = c.short := by unfold Ctx.setReg; split <;> rfl
@[simp] theorem Ctx.setReg_waiting (c : Ctx) (d : BitVec 5) (v : Word) (p : Bool) : (c.setReg d v p).waiting = c.waiting := by unfold Ctx.setReg; split <;> rfl
@[simp] theorem Ctx.setReg_prio (c : Ctx) (d : BitVec 5) (v : Word) (p : Bool) : (c.setReg d v p).prio = c.prio := by unfold Ctx.setReg; split <;> rfl
@[simp] theorem Ctx.setReg_iprio (c : Ctx) (d : BitVec 5) (v : Word) (p : Bool) : (c.setReg d v p).iprio = c.iprio := by unfold Ctx.setReg; split <;> rfl
@[simp] theorem Ctx.setReg_w (c : Ctx) (d : BitVec 5) (v : Word) (p : Bool) : (c.setReg d v p).w = c.w := by unfold Ctx.setReg; split <;> rfl
@[simp] theorem Ctx.setReg_wake (c : Ctx) (d : BitVec 5) (v : Word) (p : Bool) : (c.setReg d v p).wake = c.wake := by unfold Ctx.setReg; split <;> rfl
@[simp] theorem Ctx.setReg_yielded (c : Ctx) (d : BitVec 5) (v : Word) (p : Bool) : (c.setReg d v p).yielded = c.yielded := by unfold Ctx.setReg; split <;> rfl
@[simp] theorem Ctx.setReg_wait (c : Ctx) (d : BitVec 5) (v : Word) (p : Bool) : (c.setReg d v p).wait = c.wait := by unfold Ctx.setReg; split <;> rfl
@[simp] theorem Ctx.setReg_handlers (c : Ctx) (d : BitVec 5) (v : Word) (p : Bool) : (c.setReg d v p).handlers = c.handlers := by unfold Ctx.setReg; split <;> rfl
@[simp] theorem Ctx.setReg_task (c : Ctx) (d : BitVec 5) (v : Word) (p : Bool) : (c.setReg d v p).task = c.task := by unfold Ctx.setReg; split <;> rfl
@[simp] theorem Ctx.setReg_handed (c : Ctx) (d : BitVec 5) (v : Word) (p : Bool) : (c.setReg d v p).handed = c.handed := by unfold Ctx.setReg; split <;> rfl
@[simp] theorem Ctx.setReg_serves (c : Ctx) (d : BitVec 5) (v : Word) (p : Bool) : (c.setReg d v p).serves = c.serves := by unfold Ctx.setReg; split <;> rfl
@[simp] theorem Ctx.setReg_crew (c : Ctx) (d : BitVec 5) (v : Word) (p : Bool) : (c.setReg d v p).crew = c.crew := by unfold Ctx.setReg; split <;> rfl
@[simp] theorem Ctx.setReg_tidx (c : Ctx) (d : BitVec 5) (v : Word) (p : Bool) : (c.setReg d v p).tidx = c.tidx := by unfold Ctx.setReg; split <;> rfl
@[simp] theorem Ctx.setReg_fn (c : Ctx) (d : BitVec 5) (v : Word) (p : Bool) : (c.setReg d v p).fn = c.fn := by unfold Ctx.setReg; split <;> rfl
@[simp] theorem Ctx.setReg_pend (c : Ctx) (d : BitVec 5) (v : Word) (p : Bool) : (c.setReg d v p).pend = c.pend := by unfold Ctx.setReg; split <;> rfl
@[simp] theorem Ctx.setReg_preempt (c : Ctx) (d : BitVec 5) (v : Word) (p : Bool) : (c.setReg d v p).preempt = c.preempt := by unfold Ctx.setReg; split <;> rfl
@[simp] theorem Ctx.setReg_svHold (c : Ctx) (d : BitVec 5) (v : Word) (p : Bool) : (c.setReg d v p).svHold = c.svHold := by unfold Ctx.setReg; split <;> rfl
@[simp] theorem Ctx.setReg_pointers (c : Ctx) (d : BitVec 5) (v : Word) (p : Bool) : (c.setReg d v p).pointers = c.pointers := by unfold Ctx.setReg; split <;> rfl

/-! ### consume -/

@[simp] theorem Ctx.consume_live (c : Ctx) (p : Bool) : (c.consume p).live = c.live := by cases p <;> rfl
@[simp] theorem Ctx.consume_pc (c : Ctx) (p : Bool) : (c.consume p).pc = c.pc := by cases p <;> rfl
@[simp] theorem Ctx.consume_regs (c : Ctx) (p : Bool) : (c.consume p).regs = c.regs := by cases p <;> rfl
@[simp] theorem Ctx.consume_poison (c : Ctx) (p : Bool) : (c.consume p).poison = c.poison := by cases p <;> rfl
@[simp] theorem Ctx.consume_fstat (c : Ctx) (p : Bool) : (c.consume p).fstat = c.fstat := by cases p <;> rfl
@[simp] theorem Ctx.consume_vstart (c : Ctx) (p : Bool) : (c.consume p).vstart = c.vstart := by cases p <;> rfl
@[simp] theorem Ctx.consume_vstat (c : Ctx) (p : Bool) : (c.consume p).vstat = c.vstat := by cases p <;> rfl
@[simp] theorem Ctx.consume_vspill (c : Ctx) (p : Bool) : (c.consume p).vspill = c.vspill := by cases p <;> rfl
@[simp] theorem Ctx.consume_fmta (c : Ctx) (p : Bool) : (c.consume p).fmta = c.fmta := by cases p <;> rfl
@[simp] theorem Ctx.consume_fmtb (c : Ctx) (p : Bool) : (c.consume p).fmtb = c.fmtb := by cases p <;> rfl
@[simp] theorem Ctx.consume_scla (c : Ctx) (p : Bool) : (c.consume p).scla = c.scla := by cases p <;> rfl
@[simp] theorem Ctx.consume_sclb (c : Ctx) (p : Bool) : (c.consume p).sclb = c.sclb := by cases p <;> rfl
@[simp] theorem Ctx.consume_vl (c : Ctx) (p : Bool) : (c.consume p).vl = c.vl := by cases p <;> rfl
@[simp] theorem Ctx.consume_vtype (c : Ctx) (p : Bool) : (c.consume p).vtype = c.vtype := by cases p <;> rfl
@[simp] theorem Ctx.consume_lanecyc (c : Ctx) (p : Bool) : (c.consume p).lanecyc = c.lanecyc := by cases p <;> rfl
@[simp] theorem Ctx.consume_ncode (c : Ctx) (p : Bool) : (c.consume p).ncode = c.ncode := by cases p <;> rfl
@[simp] theorem Ctx.consume_pncode (c : Ctx) (p : Bool) : (c.consume p).pncode = c.pncode := by cases p <;> rfl
@[simp] theorem Ctx.consume_tl (c : Ctx) (p : Bool) : (c.consume p).tl = c.tl := by cases p <;> rfl
@[simp] theorem Ctx.consume_ptl (c : Ctx) (p : Bool) : (c.consume p).ptl = c.ptl := by cases p <;> rfl
@[simp] theorem Ctx.consume_dtype (c : Ctx) (p : Bool) : (c.consume p).dtype = c.dtype := by cases p <;> rfl
@[simp] theorem Ctx.consume_dcode (c : Ctx) (p : Bool) : (c.consume p).dcode = c.dcode := by cases p <;> rfl
@[simp] theorem Ctx.consume_level (c : Ctx) (p : Bool) : (c.consume p).level = c.level := by cases p <;> rfl
@[simp] theorem Ctx.consume_uepc (c : Ctx) (p : Bool) : (c.consume p).uepc = c.uepc := by cases p <;> rfl
@[simp] theorem Ctx.consume_uip (c : Ctx) (p : Bool) : (c.consume p).uip = c.uip := by cases p <;> rfl
@[simp] theorem Ctx.consume_sup (c : Ctx) (p : Bool) : (c.consume p).sup = c.sup := by cases p <;> rfl
@[simp] theorem Ctx.consume_firm (c : Ctx) (p : Bool) : (c.consume p).firm = c.firm := by cases p <;> rfl
@[simp] theorem Ctx.consume_resume (c : Ctx) (p : Bool) : (c.consume p).resume = c.resume := by cases p <;> rfl
@[simp] theorem Ctx.consume_vq (c : Ctx) (p : Bool) : (c.consume p).vq = c.vq := by cases p <;> rfl
@[simp] theorem Ctx.consume_replay (c : Ctx) (p : Bool) : (c.consume p).replay = c.replay := by cases p <;> rfl
@[simp] theorem Ctx.consume_reissue (c : Ctx) (p : Bool) : (c.consume p).reissue = c.reissue := by cases p <;> rfl
@[simp] theorem Ctx.consume_history (c : Ctx) (p : Bool) : (c.consume p).history = c.history := by cases p <;> rfl
@[simp] theorem Ctx.consume_cut (c : Ctx) (p : Bool) : (c.consume p).cut = c.cut := by cases p <;> rfl
@[simp] theorem Ctx.consume_mismatch (c : Ctx) (p : Bool) : (c.consume p).mismatch = c.mismatch := by cases p <;> rfl
@[simp] theorem Ctx.consume_revoke (c : Ctx) (p : Bool) : (c.consume p).revoke = c.revoke := by cases p <;> rfl
@[simp] theorem Ctx.consume_vec (c : Ctx) (p : Bool) : (c.consume p).vec = c.vec := by cases p <;> rfl
@[simp] theorem Ctx.consume_laneMin (c : Ctx) (p : Bool) : (c.consume p).laneMin = c.laneMin := by cases p <;> rfl
@[simp] theorem Ctx.consume_gres (c : Ctx) (p : Bool) : (c.consume p).gres = c.gres := by cases p <;> rfl
@[simp] theorem Ctx.consume_laneMax (c : Ctx) (p : Bool) : (c.consume p).laneMax = c.laneMax := by cases p <;> rfl
@[simp] theorem Ctx.consume_short (c : Ctx) (p : Bool) : (c.consume p).short = c.short := by cases p <;> rfl
@[simp] theorem Ctx.consume_waiting (c : Ctx) (p : Bool) : (c.consume p).waiting = c.waiting := by cases p <;> rfl
@[simp] theorem Ctx.consume_prio (c : Ctx) (p : Bool) : (c.consume p).prio = c.prio := by cases p <;> rfl
@[simp] theorem Ctx.consume_iprio (c : Ctx) (p : Bool) : (c.consume p).iprio = c.iprio := by cases p <;> rfl
@[simp] theorem Ctx.consume_w (c : Ctx) (p : Bool) : (c.consume p).w = c.w := by cases p <;> rfl
@[simp] theorem Ctx.consume_wake (c : Ctx) (p : Bool) : (c.consume p).wake = c.wake := by cases p <;> rfl
@[simp] theorem Ctx.consume_yielded (c : Ctx) (p : Bool) : (c.consume p).yielded = c.yielded := by cases p <;> rfl
@[simp] theorem Ctx.consume_wait (c : Ctx) (p : Bool) : (c.consume p).wait = c.wait := by cases p <;> rfl
@[simp] theorem Ctx.consume_handlers (c : Ctx) (p : Bool) : (c.consume p).handlers = c.handlers := by cases p <;> rfl
@[simp] theorem Ctx.consume_task (c : Ctx) (p : Bool) : (c.consume p).task = c.task := by cases p <;> rfl
@[simp] theorem Ctx.consume_handed (c : Ctx) (p : Bool) : (c.consume p).handed = c.handed := by cases p <;> rfl
@[simp] theorem Ctx.consume_serves (c : Ctx) (p : Bool) : (c.consume p).serves = c.serves := by cases p <;> rfl
@[simp] theorem Ctx.consume_crew (c : Ctx) (p : Bool) : (c.consume p).crew = c.crew := by cases p <;> rfl
@[simp] theorem Ctx.consume_tidx (c : Ctx) (p : Bool) : (c.consume p).tidx = c.tidx := by cases p <;> rfl
@[simp] theorem Ctx.consume_fn (c : Ctx) (p : Bool) : (c.consume p).fn = c.fn := by cases p <;> rfl
@[simp] theorem Ctx.consume_pend (c : Ctx) (p : Bool) : (c.consume p).pend = c.pend := by cases p <;> rfl
@[simp] theorem Ctx.consume_preempt (c : Ctx) (p : Bool) : (c.consume p).preempt = c.preempt := by cases p <;> rfl
@[simp] theorem Ctx.consume_svHold (c : Ctx) (p : Bool) : (c.consume p).svHold = c.svHold := by cases p <;> rfl
@[simp] theorem Ctx.consume_pointers (c : Ctx) (p : Bool) : (c.consume p).pointers = c.pointers := by cases p <;> rfl

/-! ### advance -/

@[simp] theorem Ctx.advance_live (c : Ctx) : (c.advance).live = c.live := rfl
@[simp] theorem Ctx.advance_regs (c : Ctx) : (c.advance).regs = c.regs := rfl
@[simp] theorem Ctx.advance_poison (c : Ctx) : (c.advance).poison = c.poison := rfl
@[simp] theorem Ctx.advance_fstat (c : Ctx) : (c.advance).fstat = c.fstat := rfl
@[simp] theorem Ctx.advance_vstart (c : Ctx) : (c.advance).vstart = c.vstart := rfl
@[simp] theorem Ctx.advance_vstat (c : Ctx) : (c.advance).vstat = c.vstat := rfl
@[simp] theorem Ctx.advance_vspill (c : Ctx) : (c.advance).vspill = c.vspill := rfl
@[simp] theorem Ctx.advance_fmta (c : Ctx) : (c.advance).fmta = c.fmta := rfl
@[simp] theorem Ctx.advance_fmtb (c : Ctx) : (c.advance).fmtb = c.fmtb := rfl
@[simp] theorem Ctx.advance_scla (c : Ctx) : (c.advance).scla = c.scla := rfl
@[simp] theorem Ctx.advance_sclb (c : Ctx) : (c.advance).sclb = c.sclb := rfl
@[simp] theorem Ctx.advance_vl (c : Ctx) : (c.advance).vl = c.vl := rfl
@[simp] theorem Ctx.advance_vtype (c : Ctx) : (c.advance).vtype = c.vtype := rfl
@[simp] theorem Ctx.advance_cir (c : Ctx) : (c.advance).cir = c.cir := rfl
@[simp] theorem Ctx.advance_lanecyc (c : Ctx) : (c.advance).lanecyc = c.lanecyc := rfl
@[simp] theorem Ctx.advance_ncode (c : Ctx) : (c.advance).ncode = c.ncode := rfl
@[simp] theorem Ctx.advance_pncode (c : Ctx) : (c.advance).pncode = c.pncode := rfl
@[simp] theorem Ctx.advance_tl (c : Ctx) : (c.advance).tl = c.tl := rfl
@[simp] theorem Ctx.advance_ptl (c : Ctx) : (c.advance).ptl = c.ptl := rfl
@[simp] theorem Ctx.advance_dtype (c : Ctx) : (c.advance).dtype = c.dtype := rfl
@[simp] theorem Ctx.advance_dcode (c : Ctx) : (c.advance).dcode = c.dcode := rfl
@[simp] theorem Ctx.advance_level (c : Ctx) : (c.advance).level = c.level := rfl
@[simp] theorem Ctx.advance_uepc (c : Ctx) : (c.advance).uepc = c.uepc := rfl
@[simp] theorem Ctx.advance_uip (c : Ctx) : (c.advance).uip = c.uip := rfl
@[simp] theorem Ctx.advance_sup (c : Ctx) : (c.advance).sup = c.sup := rfl
@[simp] theorem Ctx.advance_firm (c : Ctx) : (c.advance).firm = c.firm := rfl
@[simp] theorem Ctx.advance_resume (c : Ctx) : (c.advance).resume = c.resume := rfl
@[simp] theorem Ctx.advance_vq (c : Ctx) : (c.advance).vq = c.vq := rfl
@[simp] theorem Ctx.advance_replay (c : Ctx) : (c.advance).replay = c.replay := rfl
@[simp] theorem Ctx.advance_history (c : Ctx) : (c.advance).history = c.history := rfl
@[simp] theorem Ctx.advance_mismatch (c : Ctx) : (c.advance).mismatch = c.mismatch := rfl
@[simp] theorem Ctx.advance_revoke (c : Ctx) : (c.advance).revoke = c.revoke := rfl
@[simp] theorem Ctx.advance_vec (c : Ctx) : (c.advance).vec = c.vec := rfl
@[simp] theorem Ctx.advance_laneMin (c : Ctx) : (c.advance).laneMin = c.laneMin := rfl
@[simp] theorem Ctx.advance_gres (c : Ctx) : (c.advance).gres = c.gres := rfl
@[simp] theorem Ctx.advance_laneMax (c : Ctx) : (c.advance).laneMax = c.laneMax := rfl
@[simp] theorem Ctx.advance_short (c : Ctx) : (c.advance).short = c.short := rfl
@[simp] theorem Ctx.advance_waiting (c : Ctx) : (c.advance).waiting = c.waiting := rfl
@[simp] theorem Ctx.advance_prio (c : Ctx) : (c.advance).prio = c.prio := rfl
@[simp] theorem Ctx.advance_iprio (c : Ctx) : (c.advance).iprio = c.iprio := rfl
@[simp] theorem Ctx.advance_w (c : Ctx) : (c.advance).w = c.w := rfl
@[simp] theorem Ctx.advance_wake (c : Ctx) : (c.advance).wake = c.wake := rfl
@[simp] theorem Ctx.advance_yielded (c : Ctx) : (c.advance).yielded = c.yielded := rfl
@[simp] theorem Ctx.advance_handlers (c : Ctx) : (c.advance).handlers = c.handlers := rfl
@[simp] theorem Ctx.advance_task (c : Ctx) : (c.advance).task = c.task := rfl
@[simp] theorem Ctx.advance_handed (c : Ctx) : (c.advance).handed = c.handed := rfl
@[simp] theorem Ctx.advance_serves (c : Ctx) : (c.advance).serves = c.serves := rfl
@[simp] theorem Ctx.advance_crew (c : Ctx) : (c.advance).crew = c.crew := rfl
@[simp] theorem Ctx.advance_tidx (c : Ctx) : (c.advance).tidx = c.tidx := rfl
@[simp] theorem Ctx.advance_fn (c : Ctx) : (c.advance).fn = c.fn := rfl
@[simp] theorem Ctx.advance_pend (c : Ctx) : (c.advance).pend = c.pend := rfl
@[simp] theorem Ctx.advance_preempt (c : Ctx) : (c.advance).preempt = c.preempt := rfl
@[simp] theorem Ctx.advance_svHold (c : Ctx) : (c.advance).svHold = c.svHold := rfl
@[simp] theorem Ctx.advance_pointers (c : Ctx) : (c.advance).pointers = c.pointers := rfl

/-! ### raise -/

@[simp] theorem Ctx.raise_live (c : Ctx) (f : Flags) : (c.raise f).live = c.live := rfl
@[simp] theorem Ctx.raise_pc (c : Ctx) (f : Flags) : (c.raise f).pc = c.pc := rfl
@[simp] theorem Ctx.raise_regs (c : Ctx) (f : Flags) : (c.raise f).regs = c.regs := rfl
@[simp] theorem Ctx.raise_poison (c : Ctx) (f : Flags) : (c.raise f).poison = c.poison := rfl
@[simp] theorem Ctx.raise_vstart (c : Ctx) (f : Flags) : (c.raise f).vstart = c.vstart := rfl
@[simp] theorem Ctx.raise_vstat (c : Ctx) (f : Flags) : (c.raise f).vstat = c.vstat := rfl
@[simp] theorem Ctx.raise_vspill (c : Ctx) (f : Flags) : (c.raise f).vspill = c.vspill := rfl
@[simp] theorem Ctx.raise_fmta (c : Ctx) (f : Flags) : (c.raise f).fmta = c.fmta := rfl
@[simp] theorem Ctx.raise_fmtb (c : Ctx) (f : Flags) : (c.raise f).fmtb = c.fmtb := rfl
@[simp] theorem Ctx.raise_scla (c : Ctx) (f : Flags) : (c.raise f).scla = c.scla := rfl
@[simp] theorem Ctx.raise_sclb (c : Ctx) (f : Flags) : (c.raise f).sclb = c.sclb := rfl
@[simp] theorem Ctx.raise_vl (c : Ctx) (f : Flags) : (c.raise f).vl = c.vl := rfl
@[simp] theorem Ctx.raise_vtype (c : Ctx) (f : Flags) : (c.raise f).vtype = c.vtype := rfl
@[simp] theorem Ctx.raise_cir (c : Ctx) (f : Flags) : (c.raise f).cir = c.cir := rfl
@[simp] theorem Ctx.raise_lanecyc (c : Ctx) (f : Flags) : (c.raise f).lanecyc = c.lanecyc := rfl
@[simp] theorem Ctx.raise_ncode (c : Ctx) (f : Flags) : (c.raise f).ncode = c.ncode := rfl
@[simp] theorem Ctx.raise_pncode (c : Ctx) (f : Flags) : (c.raise f).pncode = c.pncode := rfl
@[simp] theorem Ctx.raise_tl (c : Ctx) (f : Flags) : (c.raise f).tl = c.tl := rfl
@[simp] theorem Ctx.raise_ptl (c : Ctx) (f : Flags) : (c.raise f).ptl = c.ptl := rfl
@[simp] theorem Ctx.raise_dtype (c : Ctx) (f : Flags) : (c.raise f).dtype = c.dtype := rfl
@[simp] theorem Ctx.raise_dcode (c : Ctx) (f : Flags) : (c.raise f).dcode = c.dcode := rfl
@[simp] theorem Ctx.raise_level (c : Ctx) (f : Flags) : (c.raise f).level = c.level := rfl
@[simp] theorem Ctx.raise_uepc (c : Ctx) (f : Flags) : (c.raise f).uepc = c.uepc := rfl
@[simp] theorem Ctx.raise_uip (c : Ctx) (f : Flags) : (c.raise f).uip = c.uip := rfl
@[simp] theorem Ctx.raise_sup (c : Ctx) (f : Flags) : (c.raise f).sup = c.sup := rfl
@[simp] theorem Ctx.raise_firm (c : Ctx) (f : Flags) : (c.raise f).firm = c.firm := rfl
@[simp] theorem Ctx.raise_resume (c : Ctx) (f : Flags) : (c.raise f).resume = c.resume := rfl
@[simp] theorem Ctx.raise_vq (c : Ctx) (f : Flags) : (c.raise f).vq = c.vq := rfl
@[simp] theorem Ctx.raise_replay (c : Ctx) (f : Flags) : (c.raise f).replay = c.replay := rfl
@[simp] theorem Ctx.raise_reissue (c : Ctx) (f : Flags) : (c.raise f).reissue = c.reissue := rfl
@[simp] theorem Ctx.raise_history (c : Ctx) (f : Flags) : (c.raise f).history = c.history := rfl
@[simp] theorem Ctx.raise_cut (c : Ctx) (f : Flags) : (c.raise f).cut = c.cut := rfl
@[simp] theorem Ctx.raise_mismatch (c : Ctx) (f : Flags) : (c.raise f).mismatch = c.mismatch := rfl
@[simp] theorem Ctx.raise_revoke (c : Ctx) (f : Flags) : (c.raise f).revoke = c.revoke := rfl
@[simp] theorem Ctx.raise_vec (c : Ctx) (f : Flags) : (c.raise f).vec = c.vec := rfl
@[simp] theorem Ctx.raise_laneMin (c : Ctx) (f : Flags) : (c.raise f).laneMin = c.laneMin := rfl
@[simp] theorem Ctx.raise_gres (c : Ctx) (f : Flags) : (c.raise f).gres = c.gres := rfl
@[simp] theorem Ctx.raise_laneMax (c : Ctx) (f : Flags) : (c.raise f).laneMax = c.laneMax := rfl
@[simp] theorem Ctx.raise_short (c : Ctx) (f : Flags) : (c.raise f).short = c.short := rfl
@[simp] theorem Ctx.raise_waiting (c : Ctx) (f : Flags) : (c.raise f).waiting = c.waiting := rfl
@[simp] theorem Ctx.raise_prio (c : Ctx) (f : Flags) : (c.raise f).prio = c.prio := rfl
@[simp] theorem Ctx.raise_iprio (c : Ctx) (f : Flags) : (c.raise f).iprio = c.iprio := rfl
@[simp] theorem Ctx.raise_w (c : Ctx) (f : Flags) : (c.raise f).w = c.w := rfl
@[simp] theorem Ctx.raise_wake (c : Ctx) (f : Flags) : (c.raise f).wake = c.wake := rfl
@[simp] theorem Ctx.raise_yielded (c : Ctx) (f : Flags) : (c.raise f).yielded = c.yielded := rfl
@[simp] theorem Ctx.raise_wait (c : Ctx) (f : Flags) : (c.raise f).wait = c.wait := rfl
@[simp] theorem Ctx.raise_handlers (c : Ctx) (f : Flags) : (c.raise f).handlers = c.handlers := rfl
@[simp] theorem Ctx.raise_task (c : Ctx) (f : Flags) : (c.raise f).task = c.task := rfl
@[simp] theorem Ctx.raise_handed (c : Ctx) (f : Flags) : (c.raise f).handed = c.handed := rfl
@[simp] theorem Ctx.raise_serves (c : Ctx) (f : Flags) : (c.raise f).serves = c.serves := rfl
@[simp] theorem Ctx.raise_crew (c : Ctx) (f : Flags) : (c.raise f).crew = c.crew := rfl
@[simp] theorem Ctx.raise_tidx (c : Ctx) (f : Flags) : (c.raise f).tidx = c.tidx := rfl
@[simp] theorem Ctx.raise_fn (c : Ctx) (f : Flags) : (c.raise f).fn = c.fn := rfl
@[simp] theorem Ctx.raise_pend (c : Ctx) (f : Flags) : (c.raise f).pend = c.pend := rfl
@[simp] theorem Ctx.raise_preempt (c : Ctx) (f : Flags) : (c.raise f).preempt = c.preempt := rfl
@[simp] theorem Ctx.raise_svHold (c : Ctx) (f : Flags) : (c.raise f).svHold = c.svHold := rfl
@[simp] theorem Ctx.raise_pointers (c : Ctx) (f : Flags) : (c.raise f).pointers = c.pointers := rfl

/-! ### Reading back -/

/-- A context reads as it was set; every other is unchanged. -/
theorem State.ctx_setCtx (s : State) (g h : Nat) (c : Ctx) : (s.setCtx g c).ctx h = if h = g then c else s.ctx h := by
  simp [State.setCtx, State.ctx, aget_aset]

@[simp] theorem State.ctx_setCtx_self (s : State) (g : Nat) (c : Ctx) : (s.setCtx g c).ctx g = c := by
  simp [State.ctx_setCtx]

theorem State.ctx_setCtx_ne (s : State) {g h : Nat} (c : Ctx) (hne : h ≠ g) : (s.setCtx g c).ctx h = s.ctx h := by
  simp [State.ctx_setCtx, hne]

@[simp] theorem State.me_setMe (s : State) (c : Ctx) : (s.setMe c).me = c := by
  simp [State.setMe, State.me]

theorem State.ctx_setMe_ne (s : State) {h : Nat} (c : Ctx) (hne : h ≠ s.cur) : (s.setMe c).ctx h = s.ctx h := by
  simp [State.setMe, State.ctx_setCtx, hne]

@[simp] theorem State.core_setCore_self (s : State) (n : Nat) (x : Core) : (s.setCore n x).core n = x := by
  simp [State.setCore, State.core]

theorem State.core_setCore_ne (s : State) {n m : Nat} (x : Core) (h : m ≠ n) : (s.setCore n x).core m = s.core m := by
  simp [State.setCore, State.core, aget_aset, h]

@[simp] theorem State.cluster_setCluster_self (s : State) (n : Nat) (x : Cluster) :
    (s.setCluster n x).cluster n = x := by
  simp [State.setCluster, State.cluster]

theorem State.cluster_setCluster_ne (s : State) {n m : Nat} (x : Cluster) (h : m ≠ n) :
    (s.setCluster n x).cluster m = s.cluster m := by
  simp [State.setCluster, State.cluster, aget_aset, h]

@[simp] theorem State.die_setDie_self (s : State) (n : Nat) (x : Die) : (s.setDie n x).die n = x := by
  simp [State.setDie, State.die]

theorem State.die_setDie_ne (s : State) {n m : Nat} (x : Die) (h : m ≠ n) : (s.setDie n x).die m = s.die m := by
  simp [State.setDie, State.die, aget_aset, h]

@[simp] theorem State.fnOf_setFn_self (s : State) (n : Nat) (x : Fn) : (s.setFn n x).fnOf n = x := by
  simp [State.setFn, State.fnOf]

theorem State.fnOf_setFn_ne (s : State) {n m : Nat} (x : Fn) (h : m ≠ n) : (s.setFn n x).fnOf m = s.fnOf m := by
  simp [State.setFn, State.fnOf, aget_aset, h]

@[simp] theorem State.chan_setChan_self (s : State) (n ch : Nat) (x : Channel) : (s.setChan n ch x).chan n ch = x := by
  simp [State.setChan, State.chan]

@[simp] theorem State.slot_setSlot_self (s : State) (n i : Nat) (x : DirSlot) : (s.setSlot n i x).slot n i = x := by
  simp [State.setSlot, State.slot]

@[simp] theorem State.queue_setQueue_self (s : State) (d q : Nat) (x : Queue) : (s.setQueue d q x).queue d q = x := by
  simp [State.setQueue, State.queue]

/-! ### The fields that the updates of a context write -/

@[simp] theorem Ctx.advance_reissue (c : Ctx) : c.advance.reissue = none := rfl
@[simp] theorem Ctx.advance_wait (c : Ctx) : c.advance.wait = none := rfl
@[simp] theorem Ctx.advance_cut (c : Ctx) : c.advance.cut = none := rfl

/-- An instruction that runs from the PC moves it to the next word. -/
theorem Ctx.advance_pc (c : Ctx) (h : c.reissue = none) : c.advance.pc = c.pc + 4 := by simp [Ctx.advance, h]

@[simp] theorem Ctx.raise_fstat (c : Ctx) (f : Flags) : (c.raise f).fstat = c.fstat ||| f.zeroExtend 64 := rfl

@[simp] theorem Ctx.consume_false (c : Ctx) : c.consume false = c := rfl

end Sys2Proof.Machine
end

