-- ==== Sys2Proof/Laws/Scalar.lean ====
section
/-! SUPPORT. What the shared ends of scalar instructions do: writing a register, moving the PC, jumping, taking a trap. -/

namespace Sys2Proof.Machine

/-! ### Scalar registers -/

/-- A register of the poison word after one bit was set or cleared. -/
theorem poison_bit (w : BitVec 32) (d r : BitVec 5) (p : Bool) :
    (if p then w ||| BitVec.twoPow 32 d.toNat else w &&& ~~~(BitVec.twoPow 32 d.toNat)).getLsbD r.toNat =
      if r = d then p else w.getLsbD r.toNat := by
  have hr : r.toNat < 32 := r.isLt
  by_cases h : r = d
  · subst h; cases p <;> simp [hr]
  · have hn : r.toNat ≠ d.toNat := fun e => h (BitVec.eq_of_toNat_eq e)
    cases p <;> simp [h, hn, hr]

/-- A register reads as it was written; s0 and every other register as before (R44, R53). -/
theorem Ctx.raw_setReg (c : Ctx) (d r : BitVec 5) (v : Word) (p : Bool) :
    (c.setReg d v p).raw r = if r = d ∧ d ≠ 0 then (v, p) else c.raw r := by
  unfold Ctx.setReg
  by_cases hd : d = 0
  · rw [if_pos hd, if_neg (fun h => h.2 hd)]
  · rw [if_neg hd]
    unfold Ctx.raw
    dsimp only
    by_cases hr : r = 0
    · rw [if_pos hr, if_pos hr, if_neg (fun e : r = d ∧ d ≠ 0 => hd (e.1 ▸ hr))]
    · rw [if_neg hr, if_neg hr, poison_bit]
      by_cases h : r = d
      · subst h; rw [if_pos rfl, if_pos ⟨rfl, hd⟩, aget_aput_self]
      · have hn : r.toNat ≠ d.toNat := fun e => h (BitVec.eq_of_toNat_eq e)
        rw [if_neg h, if_neg (fun e => h e.1), aget_aput_ne _ _ _ hn]

@[simp] theorem Ctx.raw_consume (c : Ctx) (p : Bool) (r : BitVec 5) : (c.consume p).raw r = c.raw r := by
  simp [Ctx.raw]

@[simp] theorem Ctx.raw_advance (c : Ctx) (r : BitVec 5) : c.advance.raw r = c.raw r := rfl

@[simp] theorem Ctx.raw_raise (c : Ctx) (f : Flags) (r : BitVec 5) : (c.raise f).raw r = c.raw r := rfl

/-- CIR after consumption (R339, R341). -/
theorem Ctx.consume_cir (c : Ctx) (p : Bool) : (c.consume p).cir = cirAfter p c.cir := by
  cases p <;> rfl

/-- Outside a reissue an operand is the register itself. -/
theorem Ctx.operand_raw (c : Ctx) (h : c.reissue = none) (r : BitVec 5) : c.operand r = c.raw r := by
  simp [Ctx.operand, h]

/-! ### The running context replaced -/

/-- Replacing the running context changes nothing else. -/
theorem onlyMe_setMe (s : State) (c : Ctx) : OnlyMe s (s.setMe c) :=
  ⟨rfl, fun _ h => State.ctx_setMe_ne s c h⟩

theorem OnlyMe.refl (s : State) : OnlyMe s s := ⟨rfl, fun _ _ => rfl⟩

theorem OnlyMe.cur {s t : State} (h : OnlyMe s t) : t.cur = s.cur := by rw [h.1]

theorem OnlyMe.trans {s t u : State} (h : OnlyMe s t) (k : OnlyMe t u) : OnlyMe s u := by
  refine ⟨?_, fun g hg => ?_⟩
  · rw [k.1, h.1]
  · rw [k.2 g (by rw [h.cur]; exact hg), h.2 g hg]

/-- Where only the running context differs, memory is as before. -/
theorem OnlyMe.sameBytes {s t : State} (h : OnlyMe s t) : SameBytes s t := by
  constructor <;> intro l <;> rw [h.1] <;> rfl

/-! ### The ends of scalar instructions -/

@[simp] theorem or_noFlags (w : Word) : w ||| (noFlags : Flags).zeroExtend 64 = w := by simp [noFlags]

/-- Setting the PC and ending, over a register written. -/
theorem wroteAt_setMe (s : State) (d : BitVec 5) (v : Word) (p c : Bool) (f : Flags) (pc : Word) :
    WroteAt s (s.setMe { ((s.me.raise f).setReg d v p).consume c with
      pc := pc, reissue := none, wait := none, cut := none }) d v p c f pc := by
  refine ⟨onlyMe_setMe _ _, fun r => ?_, ?_⟩
  · have h := Ctx.raw_setReg (s.me.raise f) d r v p
    simp only [State.me_setMe]
    rw [show ∀ x : Ctx, Ctx.raw { x with pc := pc, reissue := none, wait := none, cut := none } r = x.raw r from
      fun _ => rfl, Ctx.raw_consume, h, Ctx.raw_raise]
  · simp only [State.me_setMe]
    unfold Ctx.setReg
    by_cases hd : d = 0
    · rw [if_pos hd]; cases c <;> rfl
    · rw [if_neg hd]; cases c <;> rfl

/-- The end of an instruction that writes one register. -/
theorem retire_wroteOne (s : State) (d : BitVec 5) (v : Word) (p c : Bool) (h : s.me.reissue = none) :
    WroteOne s (s.retire d v p c) d v p c := by
  have := wroteAt_setMe s d v p c noFlags (s.me.pc + 4)
  rw [show s.me.raise noFlags = s.me by simp [Ctx.raise]] at this
  simpa [WroteOne, State.retire, Ctx.advance, h] using this

/-- The end of a scalar floating-point instruction. -/
theorem retireF_wroteAt (s : State) (d : BitVec 5) (r : Nat × Flags) (p : Bool) (h : s.me.reissue = none) :
    WroteAt s (s.retireF d r p) d (BitVec.ofNat 64 r.1) p p r.2 (s.me.pc + 4) := by
  have := wroteAt_setMe s d (BitVec.ofNat 64 r.1) p p r.2 (s.me.pc + 4)
  have e : s.retireF d r p = s.setMe { ((s.me.raise r.2).setReg d (BitVec.ofNat 64 r.1) p).consume p with
      pc := s.me.pc + 4, reissue := none, wait := none, cut := none } := by
    simp only [State.retireF, State.retire, State.me_setMe, Ctx.advance]
    have hr : (((s.me.raise r.2).setReg d (BitVec.ofNat 64 r.1) p).consume p).reissue = none := by simp [h]
    simp only [hr]
    simp [State.setMe, State.setCtx, aset_aset]
  rw [e]; exact this

/-- The end of an instruction that writes no register. -/
theorem advance_movedTo (s : State) (h : s.me.reissue = none) : MovedTo s s.advance (s.me.pc + 4) :=
  ⟨onlyMe_setMe _ _, by simp [State.advance, Ctx.advance, h]⟩

theorem jump_movedTo (s : State) (pc : Word) : MovedTo s (s.jump pc) pc := ⟨onlyMe_setMe _ _, by simp [State.jump]⟩

/-- A link written with a jump. -/
theorem link_wroteAt (s : State) (d : BitVec 5) (v pc : Word) : WroteAt s (s.link d v pc) d v false false noFlags pc := by
  have := wroteAt_setMe s d v false false noFlags pc
  rw [show s.me.raise noFlags = s.me by simp [Ctx.raise]] at this
  have e : s.link d v pc = s.setMe { (s.me.setReg d v false).consume false with
      pc := pc, reissue := none, wait := none, cut := none } := by
    simp [State.link, State.jump, State.setMe, State.setCtx, aset_aset, State.me, State.ctx]
  rw [e]; exact this

end Sys2Proof.Machine
end

