-- ==== Sys2Proof/Laws/Traps.lean ====
section
/-! SUPPORT. What writing an error record and taking a trap do. -/

namespace Sys2Proof.Machine

/-! ### Error records (R345, R346) -/

/-- A record changes the error queues of its die, and sends at most a notice. -/
theorem pushRecord_eq (s : State) (d key : Nat) (r : Record) (w : BitVec 512) :
    ∃ x ws n, s.pushRecord d key r w =
        { s.setDie d { s.die d with errors := x } with wires := ws, serial := n } := by
  unfold State.pushRecord
  dsimp only
  split
  · exact ⟨_, s.wires, s.serial, rfl⟩
  · split
    · exact ⟨_, _, _, rfl⟩
    · exact ⟨_, s.wires, s.serial, rfl⟩

/-- The host's copy of a record changes what is carried to the host alone (R367). -/
theorem carryAer_eq (s : State) (w : BitVec 512) : ∃ a, s.carryAer w = { s with aer := a } := by
  unfold State.carryAer
  split
  · exact ⟨_, rfl⟩
  · exact ⟨s.aer, rfl⟩

/-- A record changes the error queues of its die alone, sends at most notices, and goes to the host. -/
theorem record_eq (s : State) (d : Nat) (r : Record) :
    ∃ x ws n a, s.record d r =
      { s.setDie d { s.die d with errors := x } with wires := ws, serial := n, aer := a } := by
  unfold State.record
  dsimp only
  obtain ⟨a, ha⟩ := carryAer_eq s (r.word (s.cycle d))
  rw [ha]
  obtain ⟨x, ws, n, h⟩ := pushRecord_eq { s with aer := a } d firmQueue r (r.word (s.cycle d))
  split
  · obtain ⟨x', ws', n', h'⟩ := pushRecord_eq
      (State.pushRecord { s with aer := a } d firmQueue r (r.word (s.cycle d))) d r.vf r (r.word (s.cycle d))
    rw [h'] at *
    rw [h]
    refine ⟨x', ws', n', a, ?_⟩
    simp [State.setDie, State.die]
  · exact ⟨x, ws, n, a, h⟩

/-- A record leaves every context. -/
@[simp] theorem record_ctxs (s : State) (d : Nat) (r : Record) : (s.record d r).ctxs = s.ctxs := by
  obtain ⟨x, ws, n, a, h⟩ := record_eq s d r; rw [h]; rfl

@[simp] theorem record_cur (s : State) (d : Nat) (r : Record) : (s.record d r).cur = s.cur := by
  obtain ⟨x, ws, n, a, h⟩ := record_eq s d r; rw [h]; rfl

@[simp] theorem record_ctx (s : State) (d : Nat) (r : Record) (g : Nat) : (s.record d r).ctx g = s.ctx g := by
  simp [State.ctx]

@[simp] theorem record_me (s : State) (d : Nat) (r : Record) : (s.record d r).me = s.me := by
  simp [State.me]

/-- A record leaves every byte and every poison mark. -/
theorem record_sameBytes (s : State) (d : Nat) (r : Record) : SameBytes s (s.record d r) := by
  obtain ⟨x, ws, n, a, h⟩ := record_eq s d r
  rw [h]
  refine ⟨fun _ => rfl, fun l => ?_⟩
  have hl : State.lostHome { s.setDie d { s.die d with errors := x } with wires := ws, serial := n, aer := a } l =
      s.lostHome l := by
    unfold State.lostHome
    congr 1
    by_cases e : homeDie l = d
    · subst e; simp [State.setDie, State.die]
    · simp [State.setDie, State.die, aget_aset, e]
  unfold State.granulePoison
  rw [hl]
  rfl

/-! ### Traps (R310, R315) -/

@[simp] theorem Ctx.trapSet_setTrapSet (c : Ctx) (l : Level) (t : TrapSet) : (c.setTrapSet l t).trapSet l = t := by
  cases l <;> rfl

/-- Entry into a level leaves every register. -/
@[simp] theorem Ctx.raw_enter (c : Ctx) (l : Level) (t : TrapInfo) (r : BitVec 5) : (c.enter l t).raw r = c.raw r := by
  cases l <;> rfl

@[simp] theorem Ctx.enter_level (c : Ctx) (l : Level) (t : TrapInfo) : (c.enter l t).level = l := by
  cases l <;> rfl

/-- What entry into a level saves (R315). -/
theorem Ctx.enter_regs (c : Ctx) (l : Level) (t : TrapInfo) :
    ((c.enter l t).trapSet l).regs =
      { cause := BitVec.ofNat 10 t.cause, val := t.value, epc := (t.epc >>> 2) <<< 2, telem := t.telem,
        ppl := BitVec.ofNat 2 c.level.code, vside := t.vside, depth := (c.trapSet l).regs.depth + 1,
        gpa := if l = .firmware then t.gpa else 0 } := by
  cases l <;> rfl

theorem Ctx.enter_pc (c : Ctx) (l : Level) (t : TrapInfo) :
    (c.enter l t).pc = trapVector (c.trapSet l).vec t.cause := by
  cases l <;> rfl

@[simp] theorem Ctx.enter_cir (c : Ctx) (l : Level) (t : TrapInfo) : (c.enter l t).cir = c.cir := by
  cases l <;> rfl

/-- A trap with room at its target level enters it, and changes nothing but the running context. -/
theorem trap_eq (s : State) (t : TrapInfo)
    (h : (s.me.trapSet (targetLevel t.cause s.me.level)).regs.depth ≠ 2) :
    s.trap t = s.setMe (s.me.enter (targetLevel t.cause s.me.level) t) := by
  unfold State.trap
  exact if_pos (bne_iff_ne.2 h)

/-- The level that takes a cause with the supervisor as its natural level. -/
theorem targetLevel_sup (c : Nat) (l : Level) (h : naturalLevel c l = .supervisor) :
    targetLevel c l = if l = .firmware then .firmware else .supervisor := by
  cases l <;> simp [targetLevel, h, Level.code]

end Sys2Proof.Machine
end

