-- ==== Sys2Proof/Laws/Memory.lean ====
section
/-! SUPPORT. What the memory operations do: a byte reads as it was stored, every other byte as before, and every
operation keeps the byte stores in their canonical form. -/

namespace Sys2Proof.Machine

/-! ### One byte, and a run of bytes -/

theorem stored_storeByte (s : State) (a l : Nat) (b : Byte) :
    (s.storeByte a b).stored l = if l = a then b else s.stored l := by
  unfold State.storeByte State.stored
  by_cases ha : a < scratchBase
  · rw [if_pos ha]
    dsimp only
    by_cases hl : l < scratchBase
    · rw [if_pos hl, if_pos hl, aget_aput]
    · rw [if_neg hl, if_neg hl, if_neg (by omega)]
  · rw [if_neg ha]
    dsimp only
    by_cases hl : l < scratchBase
    · rw [if_pos hl, if_pos hl, if_neg (by omega)]
    · rw [if_neg hl, if_neg hl, aget_aput]
      by_cases h : l = a
      · subst h; simp
      · rw [if_neg h, if_neg (fun e => h (by omega))]

theorem storeByte_dies (s : State) (a : Nat) (b : Byte) : (s.storeByte a b).dies = s.dies := by
  unfold State.storeByte; split <;> rfl

theorem storeByte_memPoison (s : State) (a : Nat) (b : Byte) : (s.storeByte a b).memPoison = s.memPoison := by
  unfold State.storeByte; split <;> rfl

theorem storeByte_scrPoison (s : State) (a : Nat) (b : Byte) : (s.storeByte a b).scrPoison = s.scrPoison := by
  unfold State.storeByte; split <;> rfl

theorem storeByte_ctxs (s : State) (a : Nat) (b : Byte) : (s.storeByte a b).ctxs = s.ctxs := by
  unfold State.storeByte; split <;> rfl

/-- Storing a byte changes no poison. -/
theorem granulePoison_storeByte (s : State) (a l : Nat) (b : Byte) :
    (s.storeByte a b).granulePoison l = s.granulePoison l := by
  simp only [State.granulePoison, State.lostHome, State.die, storeByte_dies, storeByte_memPoison, storeByte_scrPoison]

/-- Bytes read as they were stored, every other byte as before. -/
theorem stored_storeBytes (s : State) (a : Nat) (bs : List Byte) (l : Nat) :
    (s.storeBytes a bs).stored l = if a ≤ l ∧ l < a + bs.length then (bs[l - a]?).getD 0 else s.stored l := by
  induction bs generalizing s a with
  | nil => simp [State.storeBytes]
  | cons b bs ih =>
    rw [State.storeBytes, ih, stored_storeByte]
    by_cases h : l = a
    · subst h; simp
    · by_cases h' : a + 1 ≤ l ∧ l < a + 1 + bs.length
      · rw [if_pos h', if_pos ⟨by omega, by simp only [List.length_cons]; omega⟩]
        have : l - a = (l - (a + 1)) + 1 := by omega
        rw [this, List.getElem?_cons_succ]
      · rw [if_neg h', if_neg h, if_neg (by simp only [List.length_cons]; omega)]

/-- So a run of bytes stored is the run stored. -/
theorem storeBytes_storedAt (s : State) (a : Nat) (bs : List Byte) : StoredAt s (s.storeBytes a bs) a bs :=
  fun l => stored_storeBytes s a bs l

/-! ### The canonical form -/

/-- Same byte stores, same form. -/
theorem ok_congr {s t : State} (hm : t.mem = s.mem) (hs : t.scratch = s.scratch) : t.ok = s.ok := by
  simp [State.ok, hm, hs]

theorem storeByte_ok {s : State} (h : s.ok = true) (a : Nat) (b : Byte) : (s.storeByte a b).ok = true := by
  simp only [State.ok, Bool.and_eq_true] at *
  unfold State.storeByte
  split
  · exact ⟨wfFrom_aput 0 h.1, h.2⟩
  · exact ⟨h.1, wfFrom_aput 0 h.2⟩

theorem storeBytes_ok {s : State} (h : s.ok = true) (a : Nat) (bs : List Byte) : (s.storeBytes a bs).ok = true := by
  induction bs generalizing s a with
  | nil => exact h
  | cons b bs ih => exact ih (storeByte_ok h a b) _

theorem setPoison_ok {s : State} (a : Nat) (p : Bool) : (s.setPoison a p).ok = s.ok := by
  unfold State.setPoison; split <;> exact ok_congr rfl rfl

/-- A fold of operations that keep the form keeps it. -/
theorem foldl_ok {α : Type} (f : State → α → State) (hf : ∀ s a, s.ok = true → (f s a).ok = true) (l : List α) :
    ∀ {s : State}, s.ok = true → (l.foldl f s).ok = true := by
  induction l with
  | nil => exact fun h => h
  | cons a l ih => exact fun h => ih (hf _ a h)

theorem retag_ok {s : State} (h : s.ok = true) (a : Nat) (k : Key) : (s.retag a k).ok = true := by
  unfold State.retag
  dsimp only
  repeat' split
  all_goals first | exact h | exact (ok_congr rfl rfl).trans (storeBytes_ok h _ _)

theorem record_ok (s : State) (d : Nat) (r : Record) : (s.record d r).ok = s.ok := by
  obtain ⟨x, ws, n, a, h⟩ := record_eq s d r
  rw [h]
  exact ok_congr rfl rfl

theorem storeGranule_ok {s : State} (h : s.ok = true) (a : Nat) (bs : List Byte) (p : Bool) (k : Key) (g : Nat) :
    (s.storeGranule a bs p k g).ok = true := by
  have hs := storeBytes_ok (retag_ok h g k) (sliceFor a bs g).1 (sliceFor a bs g).2
  unfold State.storeGranule
  dsimp only
  repeat' split
  all_goals first
    | exact h
    | exact (record_ok _ _ _).trans h
    | exact (setPoison_ok _ _).trans h
    | exact (setPoison_ok _ _).trans hs
    | exact hs

/-- A store that is performed keeps the form (R219). -/
theorem storeLoc_ok {s : State} (h : s.ok = true) (a : Nat) (bs : List Byte) (p : Bool) (k : Key) :
    (s.storeLoc a bs p k).ok = true := foldl_ok _ (fun _ _ ht => storeGranule_ok ht _ _ _ _ _) _ h

/-! ### Pending stores, loads and walks -/

theorem touchL2_ok (s : State) (d a : Nat) (w : Bool) : (s.touchL2 d a w).ok = s.ok := by
  unfold State.touchL2
  dsimp only
  repeat' split
  all_goals rfl

theorem dropCopies_ok (s : State) (a : Nat) (c : Option Nat) : (s.dropCopies a c).ok = s.ok := by
  unfold State.dropCopies; split <;> rfl

theorem passL2_ok (s : State) (d a : Nat) : (s.passL2 d a).ok = s.ok := by
  unfold State.passL2
  dsimp only
  refine (touchL2_ok _ _ _ _).trans ?_
  split
  · rfl
  · exact touchL2_ok _ _ _ _

/-- A fold of operations that leave the form leaves it. -/
theorem foldl_ok_eq {α : Type} (f : State → α → State) (hf : ∀ s a, (f s a).ok = s.ok) (l : List α) (s : State) :
    (l.foldl f s).ok = s.ok := by
  induction l generalizing s with
  | nil => rfl
  | cons a l ih => exact (ih _).trans (hf s a)

theorem writeBack_ok (s : State) (ls : List L1Line) : (s.writeBack ls).ok = s.ok :=
  foldl_ok_eq _ (fun _ _ => touchL2_ok _ _ _ _) _ _

theorem touchL1_ok (s : State) (c a : Nat) (w : Bool) : (s.touchL1 c a w).ok = s.ok := by
  unfold State.touchL1
  dsimp only
  repeat' split
  all_goals first
    | rfl
    | exact ok_congr rfl rfl
    | exact (ok_congr rfl rfl).trans ((writeBack_ok _ _).trans (touchL2_ok _ _ _ _))
    | exact (ok_congr rfl rfl).trans ((writeBack_ok _ _).trans (passL2_ok _ _ _))

theorem touchLines_ok (s : State) (c a n : Nat) (w : Bool) : (s.touchLines c a n w).ok = s.ok :=
  foldl_ok_eq _ (fun _ _ => touchL1_ok _ _ _ _) _ _

theorem passLines_ok (s : State) (d a n : Nat) : (s.passLines d a n).ok = s.ok :=
  foldl_ok_eq _ (fun _ _ => passL2_ok _ _ _) _ _

theorem noteAbsent_ok (s : State) (a : Nat) : (s.noteAbsent a).ok = s.ok := by
  unfold State.noteAbsent; split
  · exact record_ok _ _ _
  · rfl

theorem noteRefused_ok (s : State) (a : Nat) : (s.noteRefused a).ok = s.ok := by
  unfold State.noteRefused; split
  · exact record_ok _ _ _
  · rfl

theorem noteDead_ok (s : State) (p : Place) : (s.noteDead p).ok = s.ok := by
  unfold State.noteDead; split
  · exact record_ok _ _ _
  · rfl

theorem noteRead_ok (s : State) (p : Place) : (s.noteRead p).ok = s.ok := by
  unfold State.noteRead; split
  · exact record_ok _ _ _
  · exact (noteRefused_ok _ _).trans (noteAbsent_ok _ _)

theorem passLinkFor_ok (s : State) (g : Nat) (p : Path) (c a : Nat) : (s.passLinkFor g p c a).ok = s.ok := by
  unfold State.passLinkFor State.passLink State.useAts
  dsimp only
  repeat' split
  all_goals rfl

theorem unload_ok (s : State) (g : Nat) (p : Pending) : (s.unload g p).ok = s.ok := by
  unfold State.unload
  dsimp only
  split <;> rfl

theorem enterLine_ok (s : State) (a : Nat) (k : Key) : (s.enterLine a k).ok = s.ok := by
  unfold State.enterLine
  dsimp only
  repeat' split
  · rfl
  · rfl
  · rfl
  · exact Eq.trans (b := (s.dropCopies a none).ok) rfl (dropCopies_ok _ _ _)

theorem enterLines_ok (s : State) (a n : Nat) (k : Key) : (s.enterLines a n k).ok = s.ok :=
  foldl_ok_eq _ (fun _ _ => enterLine_ok _ _ _) _ _

theorem writeHome_ok {s : State} (h : s.ok = true) (a : Nat) (bs : List Byte) (p : Bool) (k : Key) :
    (s.writeHome a bs p k).ok = true :=
  (foldl_ok_eq _ (fun _ _ => (touchL2_ok _ _ _ _).trans (dropCopies_ok _ _ _)) _ _).trans
    (storeLoc_ok ((enterLines_ok _ _ _ _).trans h) _ _ _ _)

theorem performHere_ok {s : State} (h : s.ok = true) (g : Nat) (p : Pending) : (s.performHere g p).ok = true := by
  have hl : ((s.passLinkFor g p.path p.cls p.loc).unload g p).ok = true :=
    (unload_ok _ _ _).trans ((passLinkFor_ok _ _ _ _ _).trans h)
  have hs : ∀ t : State, t.ok = true → (t.performOne p).ok = true := fun t ht => storeLoc_ok ht _ _ _ _
  unfold State.performHere
  dsimp only
  split
  · refine (ok_congr rfl rfl).trans (?_ : State.ok (if _ then _ else _) = true)
    split
    · exact (touchLines_ok _ _ _ _ _).trans ((enterLines_ok _ _ _ _).trans ((noteRead_ok _ _).trans hl))
    · exact (enterLines_ok _ _ _ _).trans ((noteRead_ok _ _).trans hl)
  · split
    · exact (touchLines_ok _ _ _ _ _).trans (hs _
        ((foldl_ok_eq _ (fun _ _ => dropCopies_ok _ _ _) _ _).trans ((enterLines_ok _ _ _ _).trans ((noteRefused_ok _ _).trans hl))))
    · exact (foldl_ok_eq _ (fun _ _ => touchL2_ok _ _ _ _) _ _).trans (hs _
        ((foldl_ok_eq _ (fun _ _ => dropCopies_ok _ _ _) _ _).trans ((enterLines_ok _ _ _ _).trans ((noteRefused_ok _ _).trans hl))))

theorem performFor_ok {s : State} (h : s.ok = true) (g : Nat) (p : Pending) : (s.performFor g p).ok = true :=
  (ok_congr rfl rfl).trans (performHere_ok (s := { s.block _ with viewer := some (dieOf g) }) ((ok_congr rfl rfl).trans h) g p)

theorem performList_ok {s : State} (h : s.ok = true) (g : Nat) (ps : List Pending) : (s.performList g ps).ok = true := by
  induction ps generalizing s with
  | nil => exact h
  | cons p ps ih => exact ih (performFor_ok h g p)

theorem drain_ok {s : State} (h : s.ok = true) (g : Nat) (q : Pending → Bool) : (s.drain g q).ok = true := by
  unfold State.drain
  dsimp only
  split
  · apply performList_ok; exact h
  · exact h

theorem mayPerform_ok {s t : State} (h : s.ok = true) {g k : Nat} (ht : s.mayPerform g k = some t) : t.ok = true := by
  unfold State.mayPerform at ht
  dsimp only at ht
  split at ht
  · cases ht
  · split at ht
    · cases ht
    · cases ht; apply performFor_ok; exact h

theorem makeRoom_ok {s : State} (h : s.ok = true) (g : Nat) : (s.makeRoom g).ok = true := by
  unfold State.makeRoom
  repeat' split
  all_goals first | exact h | exact drain_ok h _ _

theorem storeParts_ok {s : State} (h : s.ok = true) (g : Nat) (path : Path) (cls : Nat) (ps : List Part)
    (bs : List Byte) (p : Bool) : (s.storeParts g path cls ps bs p).ok = true := by
  unfold State.storeParts
  dsimp only
  refine (ok_congr rfl rfl).trans (?_ : State.ok (List.foldl _ _ _) = true)
  refine foldl_ok _ (fun t x ht => (noteDead_ok t x.place).trans ht) ps ?_
  split
  · exact makeRoom_ok h g
  · exact h

theorem loadPart_ok {s : State} (h : s.ok = true) (g : Nat) (path : Path) (cls : Nat) (x : Part) :
    (s.loadPart g path cls x).1.ok = true := by
  have hd : ∀ q, ((s.drain g q).noteRead x.place).ok = true := fun q => (noteRead_ok _ _).trans (drain_ok h g q)
  unfold State.loadPart
  dsimp only
  repeat' split
  all_goals
    try refine (touchLines_ok _ _ _ _ _).trans ?_
    try refine (passLines_ok _ _ _ _).trans ?_
    try refine (enterLines_ok _ _ _ _).trans ?_
    try refine (passLinkFor_ok _ _ _ _ _).trans ?_
    exact hd _

theorem loadParts_ok {s : State} (h : s.ok = true) (g : Nat) (path : Path) (cls : Nat) (ps : List Part) :
    (s.loadParts g path cls ps).1.ok = true := by
  induction ps generalizing s with
  | nil => exact h
  | cons x ps ih => exact ih (loadPart_ok h _ _ _ _)

theorem orEntry_ok {s : State} (h : s.ok = true) (l : Leaf) (b : Nat) : (s.orEntry l b).ok = true := by
  unfold State.orEntry
  dsimp only
  split
  · exact h
  · exact writeHome_ok h _ _ _ _

theorem setAD_ok {s : State} (h : s.ok = true) (k : AccKind) (x : Walked) : (s.setAD k x).ok = true := by
  have hf := foldl_ok (fun (s : State) l => s.orEntry l 0x40) (fun t l ht => orEntry_ok ht l _) x.used h
  unfold State.setAD
  dsimp only
  refine orEntry_ok (orEntry_ok ?_ _ _) _ _
  split
  · exact hf
  · split
    · exact orEntry_ok hf _ _
    · exact hf

theorem translate_ok {s : State} (h : s.ok = true) (fn : Nat) (l : Level) (k : AccKind) (a : Nat) :
    (s.translate fn l k a).1.ok = true := by
  have hw : ∀ x, (s.setAD k x).ok = true := fun x => setAD_ok h k x
  unfold State.translate
  repeat' split
  all_goals first | exact h | exact (ok_congr rfl rfl).trans (hw _)

theorem page_ok {s : State} (h : s.ok = true) (ag : Agent) (k : AccKind) (a : Nat) : (s.page ag k a).1.ok = true := by
  have ht := translate_ok h ag.fn ag.level k a
  unfold State.page
  repeat' split
  all_goals first | exact h | exact ht | (next e => rw [e] at ht; exact ht)

theorem lookup_ok {s : State} (h : s.ok = true) (ag : Agent) (k : AccKind) (ps : List (Nat × Nat)) :
    (s.lookup ag k ps).1.ok = true := by
  induction ps generalizing s with
  | nil => exact h
  | cons x ps ih =>
    have hp := page_ok h ag k x.1
    unfold State.lookup
    split
    · next t e he => rw [he] at hp; exact ih hp
    · next t e he => rw [he] at hp; exact ih hp

/-- An access resolved, or a fault, keeps the form (R204). -/
theorem resolve_ok {s : State} (h : s.ok = true) (ag : Agent) (k : AccKind) (a n : Nat) : (s.resolve ag k a n).1.ok = true := by
  have hl := lookup_ok h ag k (partsOf a n)
  unfold State.resolve
  split
  · exact h
  · split
    · next t _ e => rw [e] at hl; exact hl
    · exact h

theorem beforeWalk_ok {s : State} (h : s.ok = true) (g : Nat) (ag : Agent) (k : AccKind) (a n : Nat) :
    (s.beforeWalk g ag k a n).ok = true := by
  unfold State.beforeWalk
  repeat' split
  all_goals first | exact h | exact drain_ok h _ _

/-- A load of a thread keeps the form (R203). -/
theorem load_ok {s : State} (h : s.ok = true) (g : Nat) (ag : Agent) (k : AccKind) (path : Path) (cls a n : Nat) :
    (s.load g ag k path cls a n).1.ok = true := by
  have hr := resolve_ok (beforeWalk_ok h g ag k a n) ag k a n
  unfold State.load
  split
  · exact h
  · next e => rw [e] at hr; exact loadParts_ok hr _ _ _ _

/-- A store of a thread keeps the form (R203). -/
theorem store_ok {s : State} (h : s.ok = true) (g : Nat) (ag : Agent) (k : AccKind) (path : Path) (cls a : Nat)
    (bs : List Byte) (p : Bool) : (s.store g ag k path cls a bs p).1.ok = true := by
  have hr := resolve_ok (beforeWalk_ok h g ag k a bs.length) ag k a bs.length
  unfold State.store
  split
  · exact h
  · next e => rw [e] at hr; exact storeParts_ok hr _ _ _ _ _ _

theorem atomicRead_ok {s : State} (h : s.ok = true) (g cls : Nat) (p : Place) (n : Nat) :
    (s.atomicRead g cls p n).1.ok = true := (enterLines_ok _ _ _ _).trans ((noteRead_ok _ _).trans (drain_ok h _ _))

/-- Reset memory lists nothing, so it is in the form. -/
theorem reset_ok : State.reset.ok = true := by decide

end Sys2Proof.Machine
end

