-- ==== Sys2Proof/Laws/PerInstr.lean ====
section
/-! SUPPORT. A statement made of every instruction as syntax, one lemma per constructor: rows that share a word share it
with the row it decodes to, with the same checks. -/

namespace Sys2Proof.Laws.Primary

/-- A row and the first row of its word have one word, and keep to the same limits; the first row is its own. -/
def Statement (i : Instr) : Prop :=
  encode (primary i) = encode i ∧ primary (primary i) = primary i ∧ WellFormed (primary i) = WellFormed i

theorem add (d : BitVec 5) (a : BitVec 5) (b : BitVec 5) : Statement (.add d a b) := ⟨rfl, rfl, rfl⟩
theorem sub (d : BitVec 5) (a : BitVec 5) (b : BitVec 5) : Statement (.sub d a b) := ⟨rfl, rfl, rfl⟩
theorem and (d : BitVec 5) (a : BitVec 5) (b : BitVec 5) : Statement (.and d a b) := ⟨rfl, rfl, rfl⟩
theorem or (d : BitVec 5) (a : BitVec 5) (b : BitVec 5) : Statement (.or d a b) := ⟨rfl, rfl, rfl⟩
theorem xor (d : BitVec 5) (a : BitVec 5) (b : BitVec 5) : Statement (.xor d a b) := ⟨rfl, rfl, rfl⟩
theorem sll (d : BitVec 5) (a : BitVec 5) (b : BitVec 5) : Statement (.sll d a b) := ⟨rfl, rfl, rfl⟩
theorem srl (d : BitVec 5) (a : BitVec 5) (b : BitVec 5) : Statement (.srl d a b) := ⟨rfl, rfl, rfl⟩
theorem sra (d : BitVec 5) (a : BitVec 5) (b : BitVec 5) : Statement (.sra d a b) := ⟨rfl, rfl, rfl⟩
theorem slt (d : BitVec 5) (a : BitVec 5) (b : BitVec 5) : Statement (.slt d a b) := ⟨rfl, rfl, rfl⟩
theorem sltu (d : BitVec 5) (a : BitVec 5) (b : BitVec 5) : Statement (.sltu d a b) := ⟨rfl, rfl, rfl⟩
theorem min (d : BitVec 5) (a : BitVec 5) (b : BitVec 5) : Statement (.min d a b) := ⟨rfl, rfl, rfl⟩
theorem max (d : BitVec 5) (a : BitVec 5) (b : BitVec 5) : Statement (.max d a b) := ⟨rfl, rfl, rfl⟩
theorem minu (d : BitVec 5) (a : BitVec 5) (b : BitVec 5) : Statement (.minu d a b) := ⟨rfl, rfl, rfl⟩
theorem maxu (d : BitVec 5) (a : BitVec 5) (b : BitVec 5) : Statement (.maxu d a b) := ⟨rfl, rfl, rfl⟩
theorem clz (d : BitVec 5) (a : BitVec 5) : Statement (.clz d a) := ⟨rfl, rfl, rfl⟩
theorem ctz (d : BitVec 5) (a : BitVec 5) : Statement (.ctz d a) := ⟨rfl, rfl, rfl⟩
theorem popc (d : BitVec 5) (a : BitVec 5) : Statement (.popc d a) := ⟨rfl, rfl, rfl⟩
theorem mul (d : BitVec 5) (a : BitVec 5) (b : BitVec 5) : Statement (.mul d a b) := ⟨rfl, rfl, rfl⟩
theorem mulh (d : BitVec 5) (a : BitVec 5) (b : BitVec 5) : Statement (.mulh d a b) := ⟨rfl, rfl, rfl⟩
theorem mulhu (d : BitVec 5) (a : BitVec 5) (b : BitVec 5) : Statement (.mulhu d a b) := ⟨rfl, rfl, rfl⟩
theorem div (d : BitVec 5) (a : BitVec 5) (b : BitVec 5) : Statement (.div d a b) := ⟨rfl, rfl, rfl⟩
theorem divu (d : BitVec 5) (a : BitVec 5) (b : BitVec 5) : Statement (.divu d a b) := ⟨rfl, rfl, rfl⟩
theorem rem (d : BitVec 5) (a : BitVec 5) (b : BitVec 5) : Statement (.rem d a b) := ⟨rfl, rfl, rfl⟩
theorem remu (d : BitVec 5) (a : BitVec 5) (b : BitVec 5) : Statement (.remu d a b) := ⟨rfl, rfl, rfl⟩
theorem sel (d : BitVec 5) (a : BitVec 5) (b : BitVec 5) (e : BitVec 5) : Statement (.sel d a b e) := ⟨rfl, rfl, rfl⟩
theorem addi (d : BitVec 5) (a : BitVec 5) (imm : BitVec 16) : Statement (.addi d a imm) := ⟨rfl, rfl, rfl⟩
theorem andi (d : BitVec 5) (a : BitVec 5) (imm : BitVec 14) : Statement (.andi d a imm) := ⟨rfl, rfl, rfl⟩
theorem ori (d : BitVec 5) (a : BitVec 5) (imm : BitVec 14) : Statement (.ori d a imm) := ⟨rfl, rfl, rfl⟩
theorem xori (d : BitVec 5) (a : BitVec 5) (imm : BitVec 14) : Statement (.xori d a imm) := ⟨rfl, rfl, rfl⟩
theorem slti (d : BitVec 5) (a : BitVec 5) (imm : BitVec 14) : Statement (.slti d a imm) := ⟨rfl, rfl, rfl⟩
theorem slli (d : BitVec 5) (a : BitVec 5) (h : BitVec 6) : Statement (.slli d a h) := ⟨rfl, rfl, rfl⟩
theorem srli (d : BitVec 5) (a : BitVec 5) (h : BitVec 6) : Statement (.srli d a h) := ⟨rfl, rfl, rfl⟩
theorem srai (d : BitVec 5) (a : BitVec 5) (h : BitVec 6) : Statement (.srai d a h) := ⟨rfl, rfl, rfl⟩
theorem bfx (d : BitVec 5) (a : BitVec 5) (p : BitVec 6) (l : BitVec 6) : Statement (.bfx d a p l) := ⟨rfl, rfl, rfl⟩
theorem bfi (d : BitVec 5) (a : BitVec 5) (p : BitVec 6) (l : BitVec 6) : Statement (.bfi d a p l) := ⟨rfl, rfl, rfl⟩
theorem lih (d : BitVec 5) (imm : BitVec 21) : Statement (.lih d imm) := ⟨rfl, rfl, rfl⟩
theorem addpc (d : BitVec 5) (imm : BitVec 21) : Statement (.addpc d imm) := ⟨rfl, rfl, rfl⟩
theorem fadd (d : BitVec 5) (a : BitVec 5) (b : BitVec 5) (r : BitVec 3) (t : BitVec 2) : Statement (.fadd d a b r t) := ⟨rfl, rfl, rfl⟩
theorem fsub (d : BitVec 5) (a : BitVec 5) (b : BitVec 5) (r : BitVec 3) (t : BitVec 2) : Statement (.fsub d a b r t) := ⟨rfl, rfl, rfl⟩
theorem fmul (d : BitVec 5) (a : BitVec 5) (b : BitVec 5) (r : BitVec 3) (t : BitVec 2) : Statement (.fmul d a b r t) := ⟨rfl, rfl, rfl⟩
theorem fdiv (d : BitVec 5) (a : BitVec 5) (b : BitVec 5) (r : BitVec 3) (t : BitVec 2) : Statement (.fdiv d a b r t) := ⟨rfl, rfl, rfl⟩
theorem fsqrt (d : BitVec 5) (a : BitVec 5) (r : BitVec 3) (t : BitVec 2) : Statement (.fsqrt d a r t) := ⟨rfl, rfl, rfl⟩
theorem fmin (d : BitVec 5) (a : BitVec 5) (b : BitVec 5) (t : BitVec 2) : Statement (.fmin d a b t) := ⟨rfl, rfl, rfl⟩
theorem fmax (d : BitVec 5) (a : BitVec 5) (b : BitVec 5) (t : BitVec 2) : Statement (.fmax d a b t) := ⟨rfl, rfl, rfl⟩
theorem feq (d : BitVec 5) (a : BitVec 5) (b : BitVec 5) (t : BitVec 2) : Statement (.feq d a b t) := ⟨rfl, rfl, rfl⟩
theorem flt (d : BitVec 5) (a : BitVec 5) (b : BitVec 5) (t : BitVec 2) : Statement (.flt d a b t) := ⟨rfl, rfl, rfl⟩
theorem fle (d : BitVec 5) (a : BitVec 5) (b : BitVec 5) (t : BitVec 2) : Statement (.fle d a b t) := ⟨rfl, rfl, rfl⟩
theorem fma (d : BitVec 5) (a : BitVec 5) (b : BitVec 5) (e : BitVec 5) (r : BitVec 3) (t : BitVec 2) : Statement (.fma d a b e r t) := ⟨rfl, rfl, rfl⟩
theorem fcvt (d : BitVec 5) (a : BitVec 5) (r : BitVec 3) (sx : BitVec 4) (t : BitVec 4) : Statement (.fcvt d a r sx t) := ⟨rfl, rfl, rfl⟩
theorem beq (a : BitVec 5) (b : BitVec 5) (o : BitVec 13) : Statement (.beq a b o) := ⟨rfl, rfl, rfl⟩
theorem bne (a : BitVec 5) (b : BitVec 5) (o : BitVec 13) : Statement (.bne a b o) := ⟨rfl, rfl, rfl⟩
theorem blt (a : BitVec 5) (b : BitVec 5) (o : BitVec 13) : Statement (.blt a b o) := ⟨rfl, rfl, rfl⟩
theorem bge (a : BitVec 5) (b : BitVec 5) (o : BitVec 13) : Statement (.bge a b o) := ⟨rfl, rfl, rfl⟩
theorem bltu (a : BitVec 5) (b : BitVec 5) (o : BitVec 13) : Statement (.bltu a b o) := ⟨rfl, rfl, rfl⟩
theorem bgeu (a : BitVec 5) (b : BitVec 5) (o : BitVec 13) : Statement (.bgeu a b o) := ⟨rfl, rfl, rfl⟩
theorem jal (d : BitVec 5) (o : BitVec 21) : Statement (.jal d o) := ⟨rfl, rfl, rfl⟩
theorem jalr (d : BitVec 5) (a : BitVec 5) (imm : BitVec 16) : Statement (.jalr d a imm) := ⟨rfl, rfl, rfl⟩
theorem jtab (d : BitVec 5) (a : BitVec 5) (n : BitVec 16) : Statement (.jtab d a n) := ⟨rfl, rfl, rfl⟩
theorem ldB (d : BitVec 5) (a : BitVec 5) (c : BitVec 4) (imm : BitVec 10) : Statement (.ldB d a c imm) := ⟨rfl, rfl, rfl⟩
theorem ldH (d : BitVec 5) (a : BitVec 5) (c : BitVec 4) (imm : BitVec 10) : Statement (.ldH d a c imm) := ⟨rfl, rfl, rfl⟩
theorem ldW (d : BitVec 5) (a : BitVec 5) (c : BitVec 4) (imm : BitVec 10) : Statement (.ldW d a c imm) := ⟨rfl, rfl, rfl⟩
theorem ldD (d : BitVec 5) (a : BitVec 5) (c : BitVec 4) (imm : BitVec 10) : Statement (.ldD d a c imm) := ⟨rfl, rfl, rfl⟩
theorem stB (d : BitVec 5) (a : BitVec 5) (c : BitVec 4) (imm : BitVec 10) : Statement (.stB d a c imm) := ⟨rfl, rfl, rfl⟩
theorem stH (d : BitVec 5) (a : BitVec 5) (c : BitVec 4) (imm : BitVec 10) : Statement (.stH d a c imm) := ⟨rfl, rfl, rfl⟩
theorem stW (d : BitVec 5) (a : BitVec 5) (c : BitVec 4) (imm : BitVec 10) : Statement (.stW d a c imm) := ⟨rfl, rfl, rfl⟩
theorem stD (d : BitVec 5) (a : BitVec 5) (c : BitVec 4) (imm : BitVec 10) : Statement (.stD d a c imm) := ⟨rfl, rfl, rfl⟩
theorem ldBu (d : BitVec 5) (a : BitVec 5) (c : BitVec 4) (imm : BitVec 10) : Statement (.ldBu d a c imm) := ⟨rfl, rfl, rfl⟩
theorem ldHu (d : BitVec 5) (a : BitVec 5) (c : BitVec 4) (imm : BitVec 10) : Statement (.ldHu d a c imm) := ⟨rfl, rfl, rfl⟩
theorem ldWu (d : BitVec 5) (a : BitVec 5) (c : BitVec 4) (imm : BitVec 10) : Statement (.ldWu d a c imm) := ⟨rfl, rfl, rfl⟩
theorem pref (l : BitVec 5) (a : BitVec 5) (imm : BitVec 10) : Statement (.pref l a imm) := ⟨rfl, rfl, rfl⟩
theorem ldAcq (d : BitVec 5) (a : BitVec 5) (sx : BitVec 2) (c : BitVec 4) : Statement (.ldAcq d a sx c) := ⟨rfl, rfl, rfl⟩
theorem stRel (d : BitVec 5) (a : BitVec 5) (sx : BitVec 2) (c : BitVec 4) : Statement (.stRel d a sx c) := ⟨rfl, rfl, rfl⟩
theorem amoaddW (d : BitVec 5) (a : BitVec 5) (b : BitVec 5) (c : BitVec 4) : Statement (.amoaddW d a b c) := ⟨rfl, rfl, rfl⟩
theorem amoaddD (d : BitVec 5) (a : BitVec 5) (b : BitVec 5) (c : BitVec 4) : Statement (.amoaddD d a b c) := ⟨rfl, rfl, rfl⟩
theorem amominW (d : BitVec 5) (a : BitVec 5) (b : BitVec 5) (c : BitVec 4) : Statement (.amominW d a b c) := ⟨rfl, rfl, rfl⟩
theorem amominD (d : BitVec 5) (a : BitVec 5) (b : BitVec 5) (c : BitVec 4) : Statement (.amominD d a b c) := ⟨rfl, rfl, rfl⟩
theorem amomaxW (d : BitVec 5) (a : BitVec 5) (b : BitVec 5) (c : BitVec 4) : Statement (.amomaxW d a b c) := ⟨rfl, rfl, rfl⟩
theorem amomaxD (d : BitVec 5) (a : BitVec 5) (b : BitVec 5) (c : BitVec 4) : Statement (.amomaxD d a b c) := ⟨rfl, rfl, rfl⟩
theorem amoandW (d : BitVec 5) (a : BitVec 5) (b : BitVec 5) (c : BitVec 4) : Statement (.amoandW d a b c) := ⟨rfl, rfl, rfl⟩
theorem amoandD (d : BitVec 5) (a : BitVec 5) (b : BitVec 5) (c : BitVec 4) : Statement (.amoandD d a b c) := ⟨rfl, rfl, rfl⟩
theorem amoorW (d : BitVec 5) (a : BitVec 5) (b : BitVec 5) (c : BitVec 4) : Statement (.amoorW d a b c) := ⟨rfl, rfl, rfl⟩
theorem amoorD (d : BitVec 5) (a : BitVec 5) (b : BitVec 5) (c : BitVec 4) : Statement (.amoorD d a b c) := ⟨rfl, rfl, rfl⟩
theorem amoxorW (d : BitVec 5) (a : BitVec 5) (b : BitVec 5) (c : BitVec 4) : Statement (.amoxorW d a b c) := ⟨rfl, rfl, rfl⟩
theorem amoxorD (d : BitVec 5) (a : BitVec 5) (b : BitVec 5) (c : BitVec 4) : Statement (.amoxorD d a b c) := ⟨rfl, rfl, rfl⟩
theorem amoswpW (d : BitVec 5) (a : BitVec 5) (b : BitVec 5) (c : BitVec 4) : Statement (.amoswpW d a b c) := ⟨rfl, rfl, rfl⟩
theorem amoswpD (d : BitVec 5) (a : BitVec 5) (b : BitVec 5) (c : BitVec 4) : Statement (.amoswpD d a b c) := ⟨rfl, rfl, rfl⟩
theorem amocasW (d : BitVec 5) (a : BitVec 5) (b : BitVec 5) (c : BitVec 4) : Statement (.amocasW d a b c) := ⟨rfl, rfl, rfl⟩
theorem amocasD (d : BitVec 5) (a : BitVec 5) (b : BitVec 5) (c : BitVec 4) : Statement (.amocasD d a b c) := ⟨rfl, rfl, rfl⟩
theorem cflush (a : BitVec 5) (c : BitVec 4) : Statement (.cflush a c) := ⟨rfl, rfl, rfl⟩
theorem cinv (a : BitVec 5) (c : BitVec 4) : Statement (.cinv a c) := ⟨rfl, rfl, rfl⟩
theorem crr (d : BitVec 5) (r : BitVec 12) : Statement (.crr d r) := ⟨rfl, rfl, rfl⟩
theorem crw (a : BitVec 5) (r : BitVec 12) : Statement (.crw a r) := ⟨rfl, rfl, rfl⟩
theorem crs (d : BitVec 5) (a : BitVec 5) (r : BitVec 12) : Statement (.crs d a r) := ⟨rfl, rfl, rfl⟩
theorem crc (d : BitVec 5) (a : BitVec 5) (r : BitVec 12) : Statement (.crc d a r) := ⟨rfl, rfl, rfl⟩
theorem fenceC (k : BitVec 16) : Statement (.fenceC k) := ⟨rfl, rfl, rfl⟩
theorem fenceP (p : BitVec 6) : Statement (.fenceP p) := ⟨rfl, rfl, rfl⟩
theorem fenceSv (k : BitVec 6) : Statement (.fenceSv k) := ⟨rfl, rfl, rfl⟩
theorem trap (imm : BitVec 16) : Statement (.trap imm) := ⟨rfl, rfl, rfl⟩
theorem preempt : Statement (.preempt) := ⟨rfl, rfl, rfl⟩
theorem resume : Statement (.resume) := ⟨rfl, rfl, rfl⟩
theorem setvec : Statement (.setvec) := ⟨rfl, rfl, rfl⟩
theorem attest : Statement (.attest) := ⟨rfl, rfl, rfl⟩
theorem eret : Statement (.eret) := ⟨rfl, rfl, rfl⟩
theorem yield : Statement (.yield) := ⟨rfl, rfl, rfl⟩
theorem exit : Statement (.exit) := ⟨rfl, rfl, rfl⟩
theorem launch (d : BitVec 5) (a : BitVec 5) : Statement (.launch d a) := ⟨rfl, rfl, rfl⟩
theorem cbar (d : BitVec 5) (a : BitVec 5) : Statement (.cbar d a) := ⟨rfl, rfl, rfl⟩
theorem prio (d : BitVec 5) (a : BitVec 5) : Statement (.prio d a) := ⟨rfl, rfl, rfl⟩
theorem tsleep (d : BitVec 5) (a : BitVec 5) : Statement (.tsleep d a) := ⟨rfl, rfl, rfl⟩
theorem twake (d : BitVec 5) (a : BitVec 5) : Statement (.twake d a) := ⟨rfl, rfl, rfl⟩
theorem setvl (d : BitVec 5) (a : BitVec 5) (v : BitVec 9) : Statement (.setvl d a v) := ⟨rfl, rfl, rfl⟩
theorem vdecl (n : BitVec 2) : Statement (.vdecl n) := ⟨rfl, rfl, rfl⟩
theorem vgive : Statement (.vgive) := ⟨rfl, rfl, rfl⟩
theorem vsave : Statement (.vsave) := ⟨rfl, rfl, rfl⟩
theorem vrefill (d : BitVec 5) : Statement (.vrefill d) := ⟨rfl, rfl, rfl⟩
theorem vgeom (d : BitVec 5) (a : BitVec 5) : Statement (.vgeom d a) := ⟨rfl, rfl, rfl⟩
theorem setvli (d : BitVec 5) (v : BitVec 9) (l : BitVec 12) : Statement (.setvli d v l) := ⟨rfl, rfl, rfl⟩
theorem vaddVV (d : BitVec 6) (a : BitVec 6) (b : BitVec 6) (m : BitVec 4) : Statement (.vaddVV d a b m) := ⟨rfl, rfl, rfl⟩
theorem vsubVV (d : BitVec 6) (a : BitVec 6) (b : BitVec 6) (m : BitVec 4) : Statement (.vsubVV d a b m) := ⟨rfl, rfl, rfl⟩
theorem vmulVV (d : BitVec 6) (a : BitVec 6) (b : BitVec 6) (m : BitVec 4) : Statement (.vmulVV d a b m) := ⟨rfl, rfl, rfl⟩
theorem vmulhVV (d : BitVec 6) (a : BitVec 6) (b : BitVec 6) (m : BitVec 4) : Statement (.vmulhVV d a b m) := ⟨rfl, rfl, rfl⟩
theorem vminVV (d : BitVec 6) (a : BitVec 6) (b : BitVec 6) (m : BitVec 4) : Statement (.vminVV d a b m) := ⟨rfl, rfl, rfl⟩
theorem vmaxVV (d : BitVec 6) (a : BitVec 6) (b : BitVec 6) (m : BitVec 4) : Statement (.vmaxVV d a b m) := ⟨rfl, rfl, rfl⟩
theorem vandVV (d : BitVec 6) (a : BitVec 6) (b : BitVec 6) (m : BitVec 4) : Statement (.vandVV d a b m) := ⟨rfl, rfl, rfl⟩
theorem vorVV (d : BitVec 6) (a : BitVec 6) (b : BitVec 6) (m : BitVec 4) : Statement (.vorVV d a b m) := ⟨rfl, rfl, rfl⟩
theorem vxorVV (d : BitVec 6) (a : BitVec 6) (b : BitVec 6) (m : BitVec 4) : Statement (.vxorVV d a b m) := ⟨rfl, rfl, rfl⟩
theorem vsllVV (d : BitVec 6) (a : BitVec 6) (b : BitVec 6) (m : BitVec 4) : Statement (.vsllVV d a b m) := ⟨rfl, rfl, rfl⟩
theorem vsrlVV (d : BitVec 6) (a : BitVec 6) (b : BitVec 6) (m : BitVec 4) : Statement (.vsrlVV d a b m) := ⟨rfl, rfl, rfl⟩
theorem vsraVV (d : BitVec 6) (a : BitVec 6) (b : BitVec 6) (m : BitVec 4) : Statement (.vsraVV d a b m) := ⟨rfl, rfl, rfl⟩
theorem vaddsVV (d : BitVec 6) (a : BitVec 6) (b : BitVec 6) (m : BitVec 4) : Statement (.vaddsVV d a b m) := ⟨rfl, rfl, rfl⟩
theorem vsubsVV (d : BitVec 6) (a : BitVec 6) (b : BitVec 6) (m : BitVec 4) : Statement (.vsubsVV d a b m) := ⟨rfl, rfl, rfl⟩
theorem vaddVS (d : BitVec 6) (a : BitVec 6) (b : BitVec 5) (m : BitVec 4) : Statement (.vaddVS d a b m) := ⟨rfl, rfl, rfl⟩
theorem vsubVS (d : BitVec 6) (a : BitVec 6) (b : BitVec 5) (m : BitVec 4) : Statement (.vsubVS d a b m) := ⟨rfl, rfl, rfl⟩
theorem vmulVS (d : BitVec 6) (a : BitVec 6) (b : BitVec 5) (m : BitVec 4) : Statement (.vmulVS d a b m) := ⟨rfl, rfl, rfl⟩
theorem vmulhVS (d : BitVec 6) (a : BitVec 6) (b : BitVec 5) (m : BitVec 4) : Statement (.vmulhVS d a b m) := ⟨rfl, rfl, rfl⟩
theorem vminVS (d : BitVec 6) (a : BitVec 6) (b : BitVec 5) (m : BitVec 4) : Statement (.vminVS d a b m) := ⟨rfl, rfl, rfl⟩
theorem vmaxVS (d : BitVec 6) (a : BitVec 6) (b : BitVec 5) (m : BitVec 4) : Statement (.vmaxVS d a b m) := ⟨rfl, rfl, rfl⟩
theorem vandVS (d : BitVec 6) (a : BitVec 6) (b : BitVec 5) (m : BitVec 4) : Statement (.vandVS d a b m) := ⟨rfl, rfl, rfl⟩
theorem vorVS (d : BitVec 6) (a : BitVec 6) (b : BitVec 5) (m : BitVec 4) : Statement (.vorVS d a b m) := ⟨rfl, rfl, rfl⟩
theorem vxorVS (d : BitVec 6) (a : BitVec 6) (b : BitVec 5) (m : BitVec 4) : Statement (.vxorVS d a b m) := ⟨rfl, rfl, rfl⟩
theorem vsllVS (d : BitVec 6) (a : BitVec 6) (b : BitVec 5) (m : BitVec 4) : Statement (.vsllVS d a b m) := ⟨rfl, rfl, rfl⟩
theorem vsrlVS (d : BitVec 6) (a : BitVec 6) (b : BitVec 5) (m : BitVec 4) : Statement (.vsrlVS d a b m) := ⟨rfl, rfl, rfl⟩
theorem vsraVS (d : BitVec 6) (a : BitVec 6) (b : BitVec 5) (m : BitVec 4) : Statement (.vsraVS d a b m) := ⟨rfl, rfl, rfl⟩
theorem vaddsVS (d : BitVec 6) (a : BitVec 6) (b : BitVec 5) (m : BitVec 4) : Statement (.vaddsVS d a b m) := ⟨rfl, rfl, rfl⟩
theorem vsubsVS (d : BitVec 6) (a : BitVec 6) (b : BitVec 5) (m : BitVec 4) : Statement (.vsubsVS d a b m) := ⟨rfl, rfl, rfl⟩
theorem vwadd (d : BitVec 6) (a : BitVec 6) (b : BitVec 6) (m : BitVec 4) : Statement (.vwadd d a b m) := ⟨rfl, rfl, rfl⟩
theorem vwmacc (d : BitVec 6) (a : BitVec 6) (b : BitVec 6) (m : BitVec 4) : Statement (.vwmacc d a b m) := ⟨rfl, rfl, rfl⟩
theorem vwmaccu (d : BitVec 6) (a : BitVec 6) (b : BitVec 6) (m : BitVec 4) : Statement (.vwmaccu d a b m) := ⟨rfl, rfl, rfl⟩
theorem vnclip (d : BitVec 6) (a : BitVec 6) (b : BitVec 6) (m : BitVec 4) : Statement (.vnclip d a b m) := ⟨rfl, rfl, rfl⟩
theorem vfaddVV (d : BitVec 6) (a : BitVec 6) (b : BitVec 6) (m : BitVec 4) : Statement (.vfaddVV d a b m) := ⟨rfl, rfl, rfl⟩
theorem vfsubVV (d : BitVec 6) (a : BitVec 6) (b : BitVec 6) (m : BitVec 4) : Statement (.vfsubVV d a b m) := ⟨rfl, rfl, rfl⟩
theorem vfmulVV (d : BitVec 6) (a : BitVec 6) (b : BitVec 6) (m : BitVec 4) : Statement (.vfmulVV d a b m) := ⟨rfl, rfl, rfl⟩
theorem vfmaVV (d : BitVec 6) (a : BitVec 6) (b : BitVec 6) (m : BitVec 4) : Statement (.vfmaVV d a b m) := ⟨rfl, rfl, rfl⟩
theorem vfmsVV (d : BitVec 6) (a : BitVec 6) (b : BitVec 6) (m : BitVec 4) : Statement (.vfmsVV d a b m) := ⟨rfl, rfl, rfl⟩
theorem vfnmaVV (d : BitVec 6) (a : BitVec 6) (b : BitVec 6) (m : BitVec 4) : Statement (.vfnmaVV d a b m) := ⟨rfl, rfl, rfl⟩
theorem vfdivVV (d : BitVec 6) (a : BitVec 6) (b : BitVec 6) (m : BitVec 4) : Statement (.vfdivVV d a b m) := ⟨rfl, rfl, rfl⟩
theorem vfminVV (d : BitVec 6) (a : BitVec 6) (b : BitVec 6) (m : BitVec 4) : Statement (.vfminVV d a b m) := ⟨rfl, rfl, rfl⟩
theorem vfmaxVV (d : BitVec 6) (a : BitVec 6) (b : BitVec 6) (m : BitVec 4) : Statement (.vfmaxVV d a b m) := ⟨rfl, rfl, rfl⟩
theorem vfaddVS (d : BitVec 6) (a : BitVec 6) (b : BitVec 5) (m : BitVec 4) : Statement (.vfaddVS d a b m) := ⟨rfl, rfl, rfl⟩
theorem vfsubVS (d : BitVec 6) (a : BitVec 6) (b : BitVec 5) (m : BitVec 4) : Statement (.vfsubVS d a b m) := ⟨rfl, rfl, rfl⟩
theorem vfmulVS (d : BitVec 6) (a : BitVec 6) (b : BitVec 5) (m : BitVec 4) : Statement (.vfmulVS d a b m) := ⟨rfl, rfl, rfl⟩
theorem vfmaVS (d : BitVec 6) (a : BitVec 6) (b : BitVec 5) (m : BitVec 4) : Statement (.vfmaVS d a b m) := ⟨rfl, rfl, rfl⟩
theorem vfmsVS (d : BitVec 6) (a : BitVec 6) (b : BitVec 5) (m : BitVec 4) : Statement (.vfmsVS d a b m) := ⟨rfl, rfl, rfl⟩
theorem vfnmaVS (d : BitVec 6) (a : BitVec 6) (b : BitVec 5) (m : BitVec 4) : Statement (.vfnmaVS d a b m) := ⟨rfl, rfl, rfl⟩
theorem vfdivVS (d : BitVec 6) (a : BitVec 6) (b : BitVec 5) (m : BitVec 4) : Statement (.vfdivVS d a b m) := ⟨rfl, rfl, rfl⟩
theorem vfminVS (d : BitVec 6) (a : BitVec 6) (b : BitVec 5) (m : BitVec 4) : Statement (.vfminVS d a b m) := ⟨rfl, rfl, rfl⟩
theorem vfmaxVS (d : BitVec 6) (a : BitVec 6) (b : BitVec 5) (m : BitVec 4) : Statement (.vfmaxVS d a b m) := ⟨rfl, rfl, rfl⟩
theorem vfsqrt (d : BitVec 6) (a : BitVec 6) (m : BitVec 4) : Statement (.vfsqrt d a m) := ⟨rfl, rfl, rfl⟩
theorem vfrsq (d : BitVec 6) (a : BitVec 6) (m : BitVec 4) : Statement (.vfrsq d a m) := ⟨rfl, rfl, rfl⟩
theorem vfrec (d : BitVec 6) (a : BitVec 6) (m : BitVec 4) : Statement (.vfrec d a m) := ⟨rfl, rfl, rfl⟩
theorem vfexp2 (d : BitVec 6) (a : BitVec 6) (m : BitVec 4) : Statement (.vfexp2 d a m) := ⟨rfl, rfl, rfl⟩
theorem vflog2 (d : BitVec 6) (a : BitVec 6) (m : BitVec 4) : Statement (.vflog2 d a m) := ⟨rfl, rfl, rfl⟩
theorem vfsin (d : BitVec 6) (a : BitVec 6) (m : BitVec 4) : Statement (.vfsin d a m) := ⟨rfl, rfl, rfl⟩
theorem vfcos (d : BitVec 6) (a : BitVec 6) (m : BitVec 4) : Statement (.vfcos d a m) := ⟨rfl, rfl, rfl⟩
theorem vcvt (d : BitVec 6) (a : BitVec 6) (m : BitVec 4) (sx : BitVec 4) : Statement (.vcvt d a m sx) := ⟨rfl, rfl, rfl⟩
theorem vmv (d : BitVec 6) (a : BitVec 6) (m : BitVec 4) : Statement (.vmv d a m) := ⟨rfl, rfl, rfl⟩
theorem vbcast (d : BitVec 6) (b : BitVec 5) (m : BitVec 4) : Statement (.vbcast d b m) := ⟨rfl, rfl, rfl⟩
theorem vidx (d : BitVec 6) (m : BitVec 4) : Statement (.vidx d m) := ⟨rfl, rfl, rfl⟩
theorem vcmpEqVV (d : BitVec 4) (a : BitVec 6) (b : BitVec 6) (m : BitVec 4) : Statement (.vcmpEqVV d a b m) := ⟨rfl, rfl, rfl⟩
theorem vcmpNeVV (d : BitVec 4) (a : BitVec 6) (b : BitVec 6) (m : BitVec 4) : Statement (.vcmpNeVV d a b m) := ⟨rfl, rfl, rfl⟩
theorem vcmpLtVV (d : BitVec 4) (a : BitVec 6) (b : BitVec 6) (m : BitVec 4) : Statement (.vcmpLtVV d a b m) := ⟨rfl, rfl, rfl⟩
theorem vcmpLeVV (d : BitVec 4) (a : BitVec 6) (b : BitVec 6) (m : BitVec 4) : Statement (.vcmpLeVV d a b m) := ⟨rfl, rfl, rfl⟩
theorem vcmpGtVV (d : BitVec 4) (a : BitVec 6) (b : BitVec 6) (m : BitVec 4) : Statement (.vcmpGtVV d a b m) := ⟨rfl, rfl, rfl⟩
theorem vcmpGeVV (d : BitVec 4) (a : BitVec 6) (b : BitVec 6) (m : BitVec 4) : Statement (.vcmpGeVV d a b m) := ⟨rfl, rfl, rfl⟩
theorem vcmpEqVS (d : BitVec 4) (a : BitVec 6) (b : BitVec 5) (m : BitVec 4) : Statement (.vcmpEqVS d a b m) := ⟨rfl, rfl, rfl⟩
theorem vcmpNeVS (d : BitVec 4) (a : BitVec 6) (b : BitVec 5) (m : BitVec 4) : Statement (.vcmpNeVS d a b m) := ⟨rfl, rfl, rfl⟩
theorem vcmpLtVS (d : BitVec 4) (a : BitVec 6) (b : BitVec 5) (m : BitVec 4) : Statement (.vcmpLtVS d a b m) := ⟨rfl, rfl, rfl⟩
theorem vcmpLeVS (d : BitVec 4) (a : BitVec 6) (b : BitVec 5) (m : BitVec 4) : Statement (.vcmpLeVS d a b m) := ⟨rfl, rfl, rfl⟩
theorem vcmpGtVS (d : BitVec 4) (a : BitVec 6) (b : BitVec 5) (m : BitVec 4) : Statement (.vcmpGtVS d a b m) := ⟨rfl, rfl, rfl⟩
theorem vcmpGeVS (d : BitVec 4) (a : BitVec 6) (b : BitVec 5) (m : BitVec 4) : Statement (.vcmpGeVS d a b m) := ⟨rfl, rfl, rfl⟩
theorem vfcmpEq (d : BitVec 4) (a : BitVec 6) (b : BitVec 6) (m : BitVec 4) : Statement (.vfcmpEq d a b m) := ⟨rfl, rfl, rfl⟩
theorem vfcmpNe (d : BitVec 4) (a : BitVec 6) (b : BitVec 6) (m : BitVec 4) : Statement (.vfcmpNe d a b m) := ⟨rfl, rfl, rfl⟩
theorem vfcmpLt (d : BitVec 4) (a : BitVec 6) (b : BitVec 6) (m : BitVec 4) : Statement (.vfcmpLt d a b m) := ⟨rfl, rfl, rfl⟩
theorem vfcmpLe (d : BitVec 4) (a : BitVec 6) (b : BitVec 6) (m : BitVec 4) : Statement (.vfcmpLe d a b m) := ⟨rfl, rfl, rfl⟩
theorem vrsum (d : BitVec 5) (a : BitVec 6) (b : BitVec 5) (m : BitVec 4) : Statement (.vrsum d a b m) := ⟨rfl, rfl, rfl⟩
theorem vrmax (d : BitVec 5) (a : BitVec 6) (b : BitVec 5) (m : BitVec 4) : Statement (.vrmax d a b m) := ⟨rfl, rfl, rfl⟩
theorem vrmin (d : BitVec 5) (a : BitVec 6) (b : BitVec 5) (m : BitVec 4) : Statement (.vrmin d a b m) := ⟨rfl, rfl, rfl⟩
theorem vfrsum (d : BitVec 5) (a : BitVec 6) (b : BitVec 5) (m : BitVec 4) : Statement (.vfrsum d a b m) := ⟨rfl, rfl, rfl⟩
theorem vfrmax (d : BitVec 5) (a : BitVec 6) (b : BitVec 5) (m : BitVec 4) : Statement (.vfrmax d a b m) := ⟨rfl, rfl, rfl⟩
theorem mand (d : BitVec 4) (a : BitVec 4) (b : BitVec 4) : Statement (.mand d a b) := ⟨rfl, rfl, rfl⟩
theorem mor (d : BitVec 4) (a : BitVec 4) (b : BitVec 4) : Statement (.mor d a b) := ⟨rfl, rfl, rfl⟩
theorem mxor (d : BitVec 4) (a : BitVec 4) (b : BitVec 4) : Statement (.mxor d a b) := ⟨rfl, rfl, rfl⟩
theorem mnot (d : BitVec 4) (a : BitVec 4) : Statement (.mnot d a) := ⟨rfl, rfl, rfl⟩
theorem mset (d : BitVec 4) : Statement (.mset d) := ⟨rfl, rfl, rfl⟩
theorem mclr (d : BitVec 4) : Statement (.mclr d) := ⟨rfl, rfl, rfl⟩
theorem mcnt (d : BitVec 5) (a : BitVec 4) : Statement (.mcnt d a) := ⟨rfl, rfl, rfl⟩
theorem many (d : BitVec 5) (a : BitVec 4) : Statement (.many d a) := ⟨rfl, rfl, rfl⟩
theorem mfirst (d : BitVec 5) (a : BitVec 4) : Statement (.mfirst d a) := ⟨rfl, rfl, rfl⟩
theorem vmaxix (d : BitVec 5) (a : BitVec 6) (b : BitVec 5) (m : BitVec 4) : Statement (.vmaxix d a b m) := ⟨rfl, rfl, rfl⟩
theorem vcprs (d : BitVec 6) (a : BitVec 6) (b : BitVec 5) (m : BitVec 4) : Statement (.vcprs d a b m) := ⟨rfl, rfl, rfl⟩
theorem vexpd (d : BitVec 6) (a : BitVec 6) (m : BitVec 4) : Statement (.vexpd d a m) := ⟨rfl, rfl, rfl⟩
theorem vperm (d : BitVec 6) (a : BitVec 6) (b : BitVec 6) (m : BitVec 4) : Statement (.vperm d a b m) := ⟨rfl, rfl, rfl⟩
theorem vpush (d : BitVec 6) (a : BitVec 6) (b : BitVec 6) (m : BitVec 4) : Statement (.vpush d a b m) := ⟨rfl, rfl, rfl⟩
theorem vslup (d : BitVec 6) (a : BitVec 6) (b : BitVec 5) (m : BitVec 4) : Statement (.vslup d a b m) := ⟨rfl, rfl, rfl⟩
theorem vsldn (d : BitVec 6) (a : BitVec 6) (b : BitVec 5) (m : BitVec 4) : Statement (.vsldn d a b m) := ⟨rfl, rfl, rfl⟩
theorem vrot (d : BitVec 6) (a : BitVec 6) (b : BitVec 5) (m : BitVec 4) : Statement (.vrot d a b m) := ⟨rfl, rfl, rfl⟩
theorem vgrpt2 (d : BitVec 6) (a : BitVec 6) (b : BitVec 5) (m : BitVec 4) : Statement (.vgrpt2 d a b m) := ⟨rfl, rfl, rfl⟩
theorem vgrpmsk (d : BitVec 4) (a : BitVec 4) (b : BitVec 5) (m : BitVec 4) : Statement (.vgrpmsk d a b m) := ⟨rfl, rfl, rfl⟩
theorem vnofm (d : BitVec 6) (a : BitVec 6) (b : BitVec 5) (m : BitVec 4) : Statement (.vnofm d a b m) := ⟨rfl, rfl, rfl⟩
theorem vld (d : BitVec 6) (a : BitVec 5) (c : BitVec 4) (m : BitVec 4) : Statement (.vld d a c m) := ⟨rfl, rfl, rfl⟩
theorem vldff (d : BitVec 6) (a : BitVec 5) (c : BitVec 4) (m : BitVec 4) : Statement (.vldff d a c m) := ⟨rfl, rfl, rfl⟩
theorem vldp (d : BitVec 6) (a : BitVec 5) (c : BitVec 4) (m : BitVec 4) (p : BitVec 3) : Statement (.vldp d a c m p) := ⟨rfl, rfl, rfl⟩
theorem vlds (d : BitVec 6) (a : BitVec 5) (c : BitVec 4) (m : BitVec 4) (sx : BitVec 5) : Statement (.vlds d a c m sx) := ⟨rfl, rfl, rfl⟩
theorem vldx (d : BitVec 6) (a : BitVec 5) (c : BitVec 4) (m : BitVec 4) (x : BitVec 6) : Statement (.vldx d a c m x) := ⟨rfl, rfl, rfl⟩
theorem vst (d : BitVec 6) (a : BitVec 5) (c : BitVec 4) (m : BitVec 4) : Statement (.vst d a c m) := ⟨rfl, rfl, rfl⟩
theorem vsts (d : BitVec 6) (a : BitVec 5) (c : BitVec 4) (m : BitVec 4) (sx : BitVec 5) : Statement (.vsts d a c m sx) := ⟨rfl, rfl, rfl⟩
theorem vstx (d : BitVec 6) (a : BitVec 5) (c : BitVec 4) (m : BitVec 4) (x : BitVec 6) : Statement (.vstx d a c m x) := ⟨rfl, rfl, rfl⟩
theorem vstxadd (d : BitVec 6) (a : BitVec 5) (c : BitVec 4) (m : BitVec 4) (x : BitVec 6) : Statement (.vstxadd d a c m x) := ⟨rfl, rfl, rfl⟩
theorem wform (g : BitVec 4) : Statement (.wform g) := ⟨rfl, rfl, rfl⟩
theorem wsplit : Statement (.wsplit) := ⟨rfl, rfl, rfl⟩
theorem wzero (w : BitVec 2) : Statement (.wzero w) := ⟨rfl, rfl, rfl⟩
theorem wdrain (w : BitVec 2) (d : BitVec 6) (sx : BitVec 1) : Statement (.wdrain w d sx) := ⟨rfl, rfl, rfl⟩
theorem wfmt (a : BitVec 5) (b : BitVec 5) : Statement (.wfmt a b) := ⟨rfl, rfl, rfl⟩
theorem wgath (a : BitVec 6) (b : BitVec 5) (m : BitVec 4) : Statement (.wgath a b m) := ⟨rfl, rfl, rfl⟩
theorem wldb (a : BitVec 5) (b : BitVec 5) : Statement (.wldb a b) := ⟨rfl, rfl, rfl⟩
theorem wop (w : BitVec 2) (k : BitVec 6) (t : BitVec 4) : Statement (.wop w k t) := ⟨rfl, rfl, rfl⟩
theorem wops (w : BitVec 2) (k : BitVec 6) (t : BitVec 4) : Statement (.wops w k t) := ⟨rfl, rfl, rfl⟩
theorem wbp (w : BitVec 2) (k : BitVec 6) (p : BitVec 4) : Statement (.wbp w k p) := ⟨rfl, rfl, rfl⟩
theorem wopv (w : BitVec 2) (a : BitVec 6) (b : BitVec 6) (m : BitVec 4) (t : BitVec 4) : Statement (.wopv w a b m t) := ⟨rfl, rfl, rfl⟩
theorem send (d : BitVec 5) (a : BitVec 5) (b : BitVec 5) (c : BitVec 4) : Statement (.send d a b c) := ⟨rfl, rfl, rfl⟩
theorem sendP (a : BitVec 5) (b : BitVec 5) (c : BitVec 4) : Statement (.sendP a b c) := ⟨rfl, rfl, rfl⟩
theorem mpop (d : BitVec 5) (a : BitVec 5) (b : BitVec 5) (c : BitVec 4) : Statement (.mpop d a b c) := ⟨rfl, rfl, rfl⟩
theorem mret : Statement (.mret) := ⟨rfl, rfl, rfl⟩
theorem waitm (d : BitVec 5) (a : BitVec 5) (b : BitVec 5) : Statement (.waitm d a b) := ⟨rfl, rfl, rfl⟩
theorem eng (d : BitVec 5) (a : BitVec 5) (b : BitVec 5) (c : BitVec 4) : Statement (.eng d a b c) := ⟨rfl, rfl, rfl⟩
theorem put (d : BitVec 5) (a : BitVec 5) (b : BitVec 5) (e : BitVec 5) (c : BitVec 4) : Statement (.put d a b e c) := ⟨rfl, rfl, rfl⟩
theorem putm (d : BitVec 5) (a : BitVec 5) (b : BitVec 5) (e : BitVec 5) (c : BitVec 4) : Statement (.putm d a b e c) := ⟨rfl, rfl, rfl⟩
theorem chbind (d : BitVec 5) (a : BitVec 5) (b : BitVec 5) : Statement (.chbind d a b) := ⟨rfl, rfl, rfl⟩
theorem chen (d : BitVec 5) (a : BitVec 5) : Statement (.chen d a) := ⟨rfl, rfl, rfl⟩
theorem chdis (d : BitVec 5) (a : BitVec 5) : Statement (.chdis d a) := ⟨rfl, rfl, rfl⟩
theorem chpendRead (d : BitVec 5) (a : BitVec 5) (b : BitVec 5) : Statement (.chpendRead d a b) := ⟨rfl, rfl, rfl⟩
theorem chpendSet (d : BitVec 5) (a : BitVec 5) (b : BitVec 5) : Statement (.chpendSet d a b) := ⟨rfl, rfl, rfl⟩
theorem chpendClear (d : BitVec 5) (a : BitVec 5) (b : BitVec 5) : Statement (.chpendClear d a b) := ⟨rfl, rfl, rfl⟩
theorem binit (a : BitVec 5) (b : BitVec 5) (c : BitVec 4) : Statement (.binit a b c) := ⟨rfl, rfl, rfl⟩
theorem barr (d : BitVec 5) (a : BitVec 5) (b : BitVec 5) (c : BitVec 4) : Statement (.barr d a b c) := ⟨rfl, rfl, rfl⟩
theorem bexp (d : BitVec 5) (a : BitVec 5) (b : BitVec 5) (c : BitVec 4) : Statement (.bexp d a b c) := ⟨rfl, rfl, rfl⟩
theorem bwait (d : BitVec 5) (a : BitVec 5) (b : BitVec 5) (c : BitVec 4) : Statement (.bwait d a b c) := ⟨rfl, rfl, rfl⟩
theorem bqry (d : BitVec 5) (a : BitVec 5) (b : BitVec 5) (c : BitVec 4) : Statement (.bqry d a b c) := ⟨rfl, rfl, rfl⟩
theorem tqpush (d : BitVec 5) (a : BitVec 5) (b : BitVec 5) (c : BitVec 4) : Statement (.tqpush d a b c) := ⟨rfl, rfl, rfl⟩
theorem queueOpen (d : BitVec 5) (a : BitVec 5) (b : BitVec 5) (c : BitVec 4) : Statement (.queueOpen d a b c) := ⟨rfl, rfl, rfl⟩
theorem queueClose (d : BitVec 5) (a : BitVec 5) (b : BitVec 5) (c : BitVec 4) : Statement (.queueClose d a b c) := ⟨rfl, rfl, rfl⟩
theorem queueResume (d : BitVec 5) (a : BitVec 5) (b : BitVec 5) (c : BitVec 4) : Statement (.queueResume d a b c) := ⟨rfl, rfl, rfl⟩
theorem queuePurge (d : BitVec 5) (a : BitVec 5) (b : BitVec 5) (c : BitVec 4) : Statement (.queuePurge d a b c) := ⟨rfl, rfl, rfl⟩
theorem tget (d : BitVec 5) (a : BitVec 5) (b : BitVec 5) (c : BitVec 4) : Statement (.tget d a b c) := ⟨rfl, rfl, rfl⟩
theorem tdone (d : BitVec 5) (c : BitVec 4) : Statement (.tdone d c) := ⟨rfl, rfl, rfl⟩
theorem tdepRead (d : BitVec 5) (a : BitVec 5) (b : BitVec 5) (c : BitVec 4) : Statement (.tdepRead d a b c) := ⟨rfl, rfl, rfl⟩
theorem tdepAdd (d : BitVec 5) (a : BitVec 5) (b : BitVec 5) (c : BitVec 4) : Statement (.tdepAdd d a b c) := ⟨rfl, rfl, rfl⟩
theorem tdepSet (d : BitVec 5) (a : BitVec 5) (b : BitVec 5) (c : BitVec 4) : Statement (.tdepSet d a b c) := ⟨rfl, rfl, rfl⟩
theorem tileq (d : BitVec 5) (a : BitVec 5) (b : BitVec 5) (c : BitVec 4) : Statement (.tileq d a b c) := ⟨rfl, rfl, rfl⟩
theorem xdisp (d : BitVec 5) (a : BitVec 5) (b : BitVec 5) (e : BitVec 5) (c : BitVec 4) : Statement (.xdisp d a b e c) := ⟨rfl, rfl, rfl⟩
theorem xcomb (d : BitVec 5) (a : BitVec 5) (b : BitVec 5) (e : BitVec 5) (c : BitVec 4) : Statement (.xcomb d a b e c) := ⟨rfl, rfl, rfl⟩
theorem dreg (d : BitVec 5) (a : BitVec 5) : Statement (.dreg d a) := ⟨rfl, rfl, rfl⟩
theorem ddel (d : BitVec 5) (a : BitVec 5) : Statement (.ddel d a) := ⟨rfl, rfl, rfl⟩
theorem dmove (d : BitVec 5) (a : BitVec 5) (b : BitVec 5) : Statement (.dmove d a b) := ⟨rfl, rfl, rfl⟩
theorem solicit (d : BitVec 5) (a : BitVec 5) (b : BitVec 5) (o : BitVec 3) : Statement (.solicit d a b o) := ⟨rfl, rfl, rfl⟩
theorem reply (d : BitVec 5) (a : BitVec 5) (b : BitVec 5) : Statement (.reply d a b) := ⟨rfl, rfl, rfl⟩
theorem cwait (d : BitVec 5) (a : BitVec 5) (b : BitVec 5) : Statement (.cwait d a b) := ⟨rfl, rfl, rfl⟩
theorem cresResult (d : BitVec 5) (a : BitVec 5) (b : BitVec 5) : Statement (.cresResult d a b) := ⟨rfl, rfl, rfl⟩
theorem cresStatus (d : BitVec 5) (a : BitVec 5) (b : BitVec 5) : Statement (.cresStatus d a b) := ⟨rfl, rfl, rfl⟩
theorem cresFree (d : BitVec 5) (a : BitVec 5) (b : BitVec 5) : Statement (.cresFree d a b) := ⟨rfl, rfl, rfl⟩
theorem cresAbandon (d : BitVec 5) (a : BitVec 5) (b : BitVec 5) : Statement (.cresAbandon d a b) := ⟨rfl, rfl, rfl⟩
theorem tlbinvVa (d : BitVec 5) (a : BitVec 5) (b : BitVec 5) : Statement (.tlbinvVa d a b) := ⟨rfl, rfl, rfl⟩
theorem tlbinvAll (d : BitVec 5) (a : BitVec 5) (b : BitVec 5) : Statement (.tlbinvAll d a b) := ⟨rfl, rfl, rfl⟩
theorem tlbinvRoot (d : BitVec 5) (a : BitVec 5) (b : BitVec 5) : Statement (.tlbinvRoot d a b) := ⟨rfl, rfl, rfl⟩
theorem tlbinvGpa (d : BitVec 5) (a : BitVec 5) (b : BitVec 5) : Statement (.tlbinvGpa d a b) := ⟨rfl, rfl, rfl⟩
theorem tlbinvVfall (d : BitVec 5) (a : BitVec 5) (b : BitVec 5) : Statement (.tlbinvVfall d a b) := ⟨rfl, rfl, rfl⟩
theorem chkerr (d : BitVec 5) (a : BitVec 5) : Statement (.chkerr d a) := ⟨rfl, rfl, rfl⟩
theorem errqPop (d : BitVec 5) (a : BitVec 5) (b : BitVec 5) : Statement (.errqPop d a b) := ⟨rfl, rfl, rfl⟩
theorem errqNotice (d : BitVec 5) (a : BitVec 5) (b : BitVec 5) : Statement (.errqNotice d a b) := ⟨rfl, rfl, rfl⟩
theorem poisonMark (a : BitVec 5) (b : BitVec 5) : Statement (.poisonMark a b) := ⟨rfl, rfl, rfl⟩
theorem poisonClear (a : BitVec 5) (b : BitVec 5) : Statement (.poisonClear a b) := ⟨rfl, rfl, rfl⟩
theorem illegalInstruction (w : BitVec 32) (cause : IllCause) : Statement (.illegalInstruction w cause) := ⟨rfl, rfl, rfl⟩
theorem handlerRun (g : Nat) : Statement (.handlerRun g) := ⟨rfl, rfl, rfl⟩
theorem messageArrival (k : Nat) : Statement (.messageArrival k) := ⟨rfl, rfl, rfl⟩
theorem bounce (k : Nat) : Statement (.bounce k) := ⟨rfl, rfl, rfl⟩
theorem remoteStatusTimeout (g : Nat) : Statement (.remoteStatusTimeout g) := ⟨rfl, rfl, rfl⟩
theorem deviceMessageRetry (k : Nat) : Statement (.deviceMessageRetry k) := ⟨rfl, rfl, rfl⟩
theorem deviceMessageDrop (k : Nat) : Statement (.deviceMessageDrop k) := ⟨rfl, rfl, rfl⟩
theorem waitmTimeout (g : Nat) : Statement (.waitmTimeout g) := ⟨rfl, rfl, rfl⟩
theorem bwaitTimeout (g : Nat) : Statement (.bwaitTimeout g) := ⟨rfl, rfl, rfl⟩
theorem tsleepTimeout (g : Nat) : Statement (.tsleepTimeout g) := ⟨rfl, rfl, rfl⟩
theorem tgetTimeout (g : Nat) : Statement (.tgetTimeout g) := ⟨rfl, rfl, rfl⟩
theorem cwaitTimeout (g : Nat) : Statement (.cwaitTimeout g) := ⟨rfl, rfl, rfl⟩
theorem launchPortWrite (f : Nat) (off : Nat) (data : List Byte) : Statement (.launchPortWrite f off data) := ⟨rfl, rfl, rfl⟩
theorem portstatRead (f : Nat) : Statement (.portstatRead f) := ⟨rfl, rfl, rfl⟩
theorem crewPlacement (die : Nat) (f : Nat) : Statement (.crewPlacement die f) := ⟨rfl, rfl, rfl⟩
theorem launchHeadAging (f : Nat) (lvl : Nat) : Statement (.launchHeadAging f lvl) := ⟨rfl, rfl, rfl⟩
theorem launchCompletion (f : Nat) (lid : Nat) : Statement (.launchCompletion f lid) := ⟨rfl, rfl, rfl⟩
theorem threadPreemptionStop (g : Nat) : Statement (.threadPreemptionStop g) := ⟨rfl, rfl, rfl⟩
theorem preemptDeferTimeout (g : Nat) : Statement (.preemptDeferTimeout g) := ⟨rfl, rfl, rfl⟩
theorem crewSave (die : Nat) : Statement (.crewSave die) := ⟨rfl, rfl, rfl⟩
theorem prqPreempt (die : Nat) (v : Word) : Statement (.prqPreempt die v) := ⟨rfl, rfl, rfl⟩
theorem prqResume (die : Nat) (v : Word) : Statement (.prqResume die v) := ⟨rfl, rfl, rfl⟩
theorem crewMove (c : Nat) (cl : Nat) : Statement (.crewMove c cl) := ⟨rfl, rfl, rfl⟩
theorem vftvecWrite (die : Nat) (v : Word) : Statement (.vftvecWrite die v) := ⟨rfl, rfl, rfl⟩
theorem registerWrite (g : Nat) (r : BitVec 12) (v : Word) : Statement (.registerWrite g r v) := ⟨rfl, rfl, rfl⟩
theorem starvationRevocation (g : Nat) : Statement (.starvationRevocation g) := ⟨rfl, rfl, rfl⟩
theorem starvationVictimPick (g : Nat) : Statement (.starvationVictimPick g) := ⟨rfl, rfl, rfl⟩
theorem earmarkLapse (g : Nat) : Statement (.earmarkLapse g) := ⟨rfl, rfl, rfl⟩
theorem forcedRevocation (g : Nat) (cause : Nat) : Statement (.forcedRevocation g cause) := ⟨rfl, rfl, rfl⟩
theorem laneDrainComplete (cl : Nat) (lane : Nat) : Statement (.laneDrainComplete cl lane) := ⟨rfl, rfl, rfl⟩
theorem engCopy (die : Nat) (u : Nat) : Statement (.engCopy die u) := ⟨rfl, rfl, rfl⟩
theorem engCopy2d (die : Nat) (u : Nat) : Statement (.engCopy2d die u) := ⟨rfl, rfl, rfl⟩
theorem engFill (die : Nat) (u : Nat) : Statement (.engFill die u) := ⟨rfl, rfl, rfl⟩
theorem engPlanepack (die : Nat) (u : Nat) : Statement (.engPlanepack die u) := ⟨rfl, rfl, rfl⟩
theorem engMigrate (die : Nat) (u : Nat) : Statement (.engMigrate die u) := ⟨rfl, rfl, rfl⟩
theorem engUnassignedOpcode (die : Nat) (u : Nat) : Statement (.engUnassignedOpcode die u) := ⟨rfl, rfl, rfl⟩
theorem engineReply (die : Nat) (u : Nat) : Statement (.engineReply die u) := ⟨rfl, rfl, rfl⟩
theorem engineReset (die : Nat) (u : Nat) : Statement (.engineReset die u) := ⟨rfl, rfl, rfl⟩
theorem putDeliveryComplete (k : Nat) : Statement (.putDeliveryComplete k) := ⟨rfl, rfl, rfl⟩
theorem taskDispatch (die : Nat) (q : Nat) : Statement (.taskDispatch die q) := ⟨rfl, rfl, rfl⟩
theorem ringRefill (die : Nat) (q : Nat) : Statement (.ringRefill die q) := ⟨rfl, rfl, rfl⟩
theorem censusVisit (die : Nat) (cid : Nat) (core : Nat) : Statement (.censusVisit die cid core) := ⟨rfl, rfl, rfl⟩
theorem censusForward (k : Nat) : Statement (.censusForward k) := ⟨rfl, rfl, rfl⟩
theorem dmoveInstall (k : Nat) : Statement (.dmoveInstall k) := ⟨rfl, rfl, rfl⟩
theorem stubFree (core : Nat) (slot : Nat) : Statement (.stubFree core slot) := ⟨rfl, rfl, rfl⟩
theorem censusComplete (die : Nat) (cid : Nat) : Statement (.censusComplete die cid) := ⟨rfl, rfl, rfl⟩
theorem pageWalk (g : Nat) (va : Word) (acc : AccKind) : Statement (.pageWalk g va acc) := ⟨rfl, rfl, rfl⟩
theorem checkMismatch (g : Nat) (lane : Nat) : Statement (.checkMismatch g lane) := ⟨rfl, rfl, rfl⟩
theorem parityRepair (g : Nat) (lane : Nat) (row : Nat) : Statement (.parityRepair g lane row) := ⟨rfl, rfl, rfl⟩
theorem uncorrectableError (h : ErrHolder) : Statement (.uncorrectableError h) := ⟨rfl, rfl, rfl⟩
theorem correctedError (die : Nat) (arr : Nat) (dom : Nat) : Statement (.correctedError die arr dom) := ⟨rfl, rfl, rfl⟩
theorem errthrWindowEnd (die : Nat) (arr : Nat) : Statement (.errthrWindowEnd die arr) := ⟨rfl, rfl, rfl⟩
theorem ctxLost (g : Nat) : Statement (.ctxLost g) := ⟨rfl, rfl, rfl⟩
theorem vfReset (f : Nat) : Statement (.vfReset f) := ⟨rfl, rfl, rfl⟩
theorem vfResetEnd (f : Nat) : Statement (.vfResetEnd f) := ⟨rfl, rfl, rfl⟩
theorem dieReset (die : Nat) : Statement (.dieReset die) := ⟨rfl, rfl, rfl⟩
theorem dieHeartbeatLoss (die : Nat) : Statement (.dieHeartbeatLoss die) := ⟨rfl, rfl, rfl⟩
theorem dieRequestTimeout (die : Nat) : Statement (.dieRequestTimeout die) := ⟨rfl, rfl, rfl⟩
theorem stileFlit (die : Nat) (flit : Flit) : Statement (.stileFlit die flit) := ⟨rfl, rfl, rfl⟩
theorem dieReady (die : Nat) : Statement (.dieReady die) := ⟨rfl, rfl, rfl⟩
theorem islandReset (die : Nat) : Statement (.islandReset die) := ⟨rfl, rfl, rfl⟩
theorem islandFailed (die : Nat) : Statement (.islandFailed die) := ⟨rfl, rfl, rfl⟩
theorem linkRetry (l : Nat) : Statement (.linkRetry l) := ⟨rfl, rfl, rfl⟩
theorem linkReset (l : Nat) : Statement (.linkReset l) := ⟨rfl, rfl, rfl⟩
theorem linkRetrainEnd (l : Nat) (up : Bool) : Statement (.linkRetrainEnd l up) := ⟨rfl, rfl, rfl⟩
theorem peerInboundAccess (acc : PeerAccess) : Statement (.peerInboundAccess acc) := ⟨rfl, rfl, rfl⟩
theorem hostInterruptMessage (k : Nat) : Statement (.hostInterruptMessage k) := ⟨rfl, rfl, rfl⟩
theorem atsInvalidation (x : Nat) (f : Nat) (va : Word) : Statement (.atsInvalidation x f va) := ⟨rfl, rfl, rfl⟩
theorem partition (f : Nat) (x0 : Nat) (y0 : Nat) (w : Nat) (h : Nat) : Statement (.partition f x0 y0 w h) := ⟨rfl, rfl, rfl⟩
theorem quota (f : Nat) (cl : Nat) (lanes : Nat) : Statement (.quota f cl lanes) := ⟨rfl, rfl, rfl⟩
theorem hbmshare (f : Nat) (stack : Nat) (weight : Nat) : Statement (.hbmshare f stack weight) := ⟨rfl, rfl, rfl⟩
theorem s2root (f : Nat) (root : Nat) : Statement (.s2root f root) := ⟨rfl, rfl, rfl⟩
theorem qassign (f : Nat) (die : Nat) (q0 : Nat) (qn : Nat) (c0 : Nat) (cn : Nat) : Statement (.qassign f die q0 qn c0 cn) := ⟨rfl, rfl, rfl⟩
theorem aperture (idx : Nat) (valid : Bool) (dev : Nat) (addr : Nat) (mask : BitVec 65) : Statement (.aperture idx valid dev addr mask) := ⟨rfl, rfl, rfl⟩
theorem peerlinks (peer : Nat) (links : List Nat) : Statement (.peerlinks peer links) := ⟨rfl, rfl, rfl⟩
theorem inbound (idx : Nat) (base : Nat) (size : Nat) (f : Nat) (trust : List Nat) : Statement (.inbound idx base size f trust) := ⟨rfl, rfl, rfl⟩
theorem keyload (slot : Nat) (wrapped : BitVec 576) : Statement (.keyload slot wrapped) := ⟨rfl, rfl, rfl⟩
theorem keyclear (slot : Nat) : Statement (.keyclear slot) := ⟨rfl, rfl, rfl⟩
theorem memrelease (die : Nat) : Statement (.memrelease die) := ⟨rfl, rfl, rfl⟩
theorem counters (f : Nat) : Statement (.counters f) := ⟨rfl, rfl, rfl⟩
theorem attestReport (f : Nat) (nonce : BitVec 512) : Statement (.attestReport f nonce) := ⟨rfl, rfl, rfl⟩
theorem firmwareUpdate (kind : Nat) (image : List Byte) : Statement (.firmwareUpdate kind image) := ⟨rfl, rfl, rfl⟩
theorem pldmDiscovery : Statement (.pldmDiscovery) := ⟨rfl, rfl, rfl⟩
theorem sensorRead (id : Nat) : Statement (.sensorRead id) := ⟨rfl, rfl, rfl⟩
theorem powerCapSet (watts : Nat) : Statement (.powerCapSet watts) := ⟨rfl, rfl, rfl⟩
theorem powerGood : Statement (.powerGood) := ⟨rfl, rfl, rfl⟩
theorem mgmtReady : Statement (.mgmtReady) := ⟨rfl, rfl, rfl⟩
theorem xdieReady : Statement (.xdieReady) := ⟨rfl, rfl, rfl⟩
theorem stileReady (die : Nat) : Statement (.stileReady die) := ⟨rfl, rfl, rfl⟩
theorem hbmReady (stack : Nat) : Statement (.hbmReady stack) := ⟨rfl, rfl, rfl⟩
theorem engineReady (die : Nat) (u : Nat) : Statement (.engineReady die u) := ⟨rfl, rfl, rfl⟩
theorem euvexLinkUp (l : Nat) : Statement (.euvexLinkUp l) := ⟨rfl, rfl, rfl⟩
theorem hostLinkUp (x : Nat) : Statement (.hostLinkUp x) := ⟨rfl, rfl, rfl⟩
theorem readyTimeout (u : ReadyUnit) : Statement (.readyTimeout u) := ⟨rfl, rfl, rfl⟩
theorem thermalThrottle (die : Nat) (cycles : Nat) : Statement (.thermalThrottle die cycles) := ⟨rfl, rfl, rfl⟩
theorem thermalTrip (die : Nat) : Statement (.thermalTrip die) := ⟨rfl, rfl, rfl⟩
theorem hostLinkDown (x : Nat) : Statement (.hostLinkDown x) := ⟨rfl, rfl, rfl⟩
theorem msixVectorUnmask (f : Nat) (v : Nat) : Statement (.msixVectorUnmask f v) := ⟨rfl, rfl, rfl⟩
theorem diePowerOff (die : Nat) : Statement (.diePowerOff die) := ⟨rfl, rfl, rfl⟩
theorem diePowerLoss (die : Nat) : Statement (.diePowerLoss die) := ⟨rfl, rfl, rfl⟩
theorem tagWalkTimeout (die : Nat) : Statement (.tagWalkTimeout die) := ⟨rfl, rfl, rfl⟩
theorem undervoltOffsetRestore (die : Nat) (dom : Nat) (off : Nat) : Statement (.undervoltOffsetRestore die dom off) := ⟨rfl, rfl, rfl⟩

end Sys2Proof.Laws.Primary
end

