-- ==== Sys2Proof/Tests/Slice0.lean ====
section
/-! SUPPORT. Tests: words of the specification decoded, ill-formed terms refused, single steps with results worked out
from the rules, and for every statement with premises a state and operands that meet them together. -/

namespace Sys2Proof.Tests

open Sys2Proof Sys2Proof.Machine

set_option Elab.async false

/-! ### Small states -/

/-- A thread with a few registers: s1 an address of device memory, s2 8, s3 another address, s4 a page. -/
def thread (l : Level) : Ctx :=
  { live := true, level := l, pc := 0x1000, regs := [(1, 0x10000), (2, 8), (3, 0x20000), (4, 0x30000), (5, 1)],
    firm := { vec := 0x8000 }, sup := { vec := 0x4000 } }

/-- One thread in context 0, C-die 0 present with both stacks. -/
def one (c : Ctx) : State :=
  { ctxs := [(0, c)], dies := [(0, { state := .present, stile := true })], hbmStacks := [(0, true), (1, true)] }

/-- A firmware thread; eight bytes stand at 0x10000. -/
def fw : State :=
  { one (thread .firmware) with mem := [(0x10000, 1), (0x10001, 2), (0x10002, 3), (0x10003, 4), (0x10007, 0x80)] }

/-- The same thread at user and at supervisor level. -/
def us : State := one (thread .user)
def sv : State := one (thread .supervisor)

/-- A pair is its second part with some first part. -/
theorem pair_of_snd {α β : Type} {x : α × β} {y : β} (h : x.2 = y) : ∃ u, x = (u, y) := ⟨x.1, by rw [← h]⟩

/-- An access gave a result. -/
def gave {σ ε α : Type} [DecidableEq α] (x : σ × Except ε α) (y : α) : Bool :=
  match x.2 with
  | .ok z => decide (z = y)
  | .error _ => false

/-- An access that gave a result gave it with some state. -/
theorem of_gave {σ ε α : Type} [DecidableEq α] {x : σ × Except ε α} {y : α} (h : gave x y = true) :
    ∃ u, x = (u, .ok y) := by
  obtain ⟨u, r⟩ := x
  cases r with
  | error e => cases h
  | ok z => exact ⟨u, by rw [of_decide_eq_true h]⟩

/-- Where C-die 0 and both its stacks are reached, and nothing is held, poisoned or under a key, its memory is plain. -/
theorem plain_of_view {s : State} {a n : Nat} (h0 : s.homeAbsent 0 = false) (h1 : s.homeAbsent 4096 = false)
    (hw : (s.dies.all fun p => p.2.walkOwned.isEmpty) = true) (hr : s.routeHeld s.viewDie 0 = false)
    (hl : (s.die 0).lostMemory = false) (hp : s.memPoison = []) (hk : s.lineKey = []) (ht : s.tags = [])
    (h : a + n ≤ 96 * 2 ^ 30) : PlainBytes s a n := by
  intro i hi
  have hdie : homeDie (a + i) = 0 := Nat.div_eq_of_lt (by omega)
  have h2 : a + i < deviceEnd := by unfold deviceEnd; omega
  have h3 : a + i < scratchBase := by unfold scratchBase; omega
  refine ⟨h2, ?_, ?_, ?_, by rw [hk]; rfl, by rw [ht]; rfl⟩
  · have hst : homeStack (a + i) = homeStack 0 ∨ homeStack (a + i) = homeStack 4096 := by
      have e0 : homeStack 0 = 0 := by decide +kernel
      have e1 : homeStack 4096 = 1 := by decide +kernel
      rw [e0, e1]
      unfold homeStack
      rw [hdie]
      omega
    have d0 : homeDie 0 = 0 := by decide +kernel
    have d1 : homeDie 4096 = 0 := by decide +kernel
    unfold State.homeAbsent State.homeServes at *
    rw [d0] at h0
    rw [d1] at h1
    rw [hdie]
    rcases hst with e | e <;> rw [e] <;> assumption
  · have hd : s.deviceAt (a + i) = none := by
      unfold State.deviceAt inPeer
      have h4 : a + i < peerBase := by unfold peerBase; omega
      rw [if_neg]
      simp only [Bool.and_eq_true, decide_eq_true_eq, not_and]
      omega
    have ha : s.awaitsWalk (a + i) = false := by
      unfold State.awaitsWalk
      refine List.any_eq_false.mpr fun p hq => ?_
      have := List.all_eq_true.mp hw p hq
      simp only [List.isEmpty_iff] at this
      simp [this]
    unfold State.heldAt State.heldFrom
    simp [hd, ha, hdie, hr]
  · unfold State.granulePoison State.lostHome
    rw [if_pos h3, hdie, hl, hp]
    simp [aget]

/-- In a state like these the first 96 GiB are plain. -/
theorem plain_of {s : State} {a n : Nat} (hd : s.dies = (one (thread .user)).dies) (hs : s.hbmStacks = (one (thread .user)).hbmStacks)
    (hp : s.memPoison = []) (hk : s.lineKey = []) (ht : s.tags = []) (hv : s.viewer = none) (hc : s.cur = 0)
    (h : a + n ≤ 96 * 2 ^ 30) : PlainBytes s a n := by
  refine plain_of_view ?_ ?_ ?_ ?_ ?_ hp hk ht h <;>
    simp only [State.homeAbsent, State.homeServes, State.viewDie, State.routeOpen, State.routeHeld, State.die, hd, hs, hv, hc] <;>
    decide +kernel

/-! ### Premises that states meet: scalar instructions -/

theorem witness_scalar_integer : fw.me.reissue = none ∧ intResult fw (.bfi 3 2 63 0) = some (3, 0x20000, false) := by
  decide +kernel

theorem witness_scalar_float : fw.me.reissue = none ∧ (floatResult fw (.fcvt 3 2 7 0xA 0x2)).isSome = true := by
  decide +kernel

theorem witness_nan : (decodeFloat 10 0x7FC00000).isNan = true := by decide +kernel

theorem witness_numbers : decodeFloat 10 0x3F800000 = .fin false 0x800000 (-23) ∧
    decodeFloat 10 0x80000000 = .fin true 0 (-149) := by decide +kernel

theorem witness_branch : us.me.reissue = none ∧ branchOf us (.beq 1 1 0x1FFF) = some (1, 1, 0x1FFF, true) ∧
    branchOf us (.bltu 1 2 1) = some (1, 2, 1, false) ∧ us.rp 1 = false ∧ us.rp 2 = false := by decide +kernel

/-- Index equal to the entries, and one below them, with the entry after the JTAB read. -/
theorem witness_jtab : us.me.reissue = none ∧ fw.rp 2 = false ∧ (8#16).toNat ≤ (fw.rv 2).toNat ∧
    (fw.rv 2).toNat < (9#16).toNat ∧
    ∃ u bytes, fw.load fw.cur fw.agent .load .scalar 15 (fw.me.pc + 4 + 4 * fw.rv 2).toNat 4 = (u, .ok (bytes, false)) := by
  obtain ⟨u, h⟩ := of_gave (x := fw.load fw.cur fw.agent .load .scalar 15 (fw.me.pc + 4 + 4 * fw.rv 2).toNat 4)
    (y := ([0, 0, 0, 0], false)) (by decide +kernel)
  and_intros <;> first | decide +kernel | exact ⟨u, _, h⟩

theorem witness_load : fw.me.reissue = none ∧ (loadForm (.ldD 6 1 15 0)).isSome = true ∧ fw.rp 1 = false ∧
    fw.me.level = .firmware ∧ fw.me.pend = [] ∧ PlainBytes fw (fw.rv 1 + BitVec.ofInt 64 (0#10).toInt).toNat 8 ∧
    ∃ u, fw.load fw.cur fw.agent .load .scalar 15 (fw.ea 1 0).toNat 8 = (u, .ok ([1, 2, 3, 4, 0, 0, 0, 0x80], false)) := by
  and_intros <;> first | decide +kernel | exact of_gave (by decide +kernel)

theorem witness_store : fw.me.reissue = none ∧ (storeForm (.stD 2 1 0 1)).isSome = true ∧ fw.rp 1 = false ∧
    fw.rp 2 = false ∧ fw.me.level = .firmware ∧ fw.me.pend = [] ∧ PlainBytes fw (fw.ea 1 1).toNat 8 ∧
    ∃ u, fw.store fw.cur fw.agent .store .scalar 0 (fw.ea 1 1).toNat (leBytes 8 (fw.rv 2).toNat) (fw.rp 2) = (u, .ok ()) := by
  and_intros <;> first | decide +kernel | exact of_gave (by decide +kernel)

theorem witness_atomic : fw.me.reissue = none ∧ (amoForm (.amocasD 3 1 2 4)).isSome = true ∧ fw.rp 1 = false ∧
    fw.rp 2 = false ∧ fw.rp 3 = false ∧ fw.me.level = .firmware ∧ fw.me.pend = [] ∧ (fw.rv 1).toNat % 8 = 0 ∧
    PlainBytes fw (fw.rv 1).toNat 8 := by decide +kernel

/-- A thread whose s1 is poisoned, and one whose s2 is. -/
def pz (n : BitVec 32) : State := one { thread .user with poison := n }

theorem witness_poisoned_control : (pz 2).me.reissue = none ∧
    ((pz 2).me.trapSet (if (pz 2).me.level = .firmware then .firmware else .supervisor)).regs.depth ≠ 2 ∧
    (branchOf (pz 2) (.bne 1 2 0)).isSome = true ∧ (pz 2).rp 1 = true ∧ (branchOf (pz 4) (.bne 1 2 0)).isSome = true ∧
    (pz 4).rp 1 = false ∧ (pz 4).rp 2 = true := by decide +kernel

theorem witness_misaligned : (∃ d b c f, amoForm (.amoaddW 3 5 2 0) = some (d, 5, b, c, 4, f)) ∧
    us.me.reissue = none ∧ us.rp 5 = false ∧ (us.rv 5).toNat % 4 ≠ 0 ∧ (us.rv 5).toNat % 8 ≠ 0 ∧
    (us.me.trapSet .supervisor).regs.depth ≠ 2 ∧ ¬us.me.level = .firmware :=
  ⟨⟨_, _, _, _, rfl⟩, by decide +kernel⟩

theorem witness_ordered : fw.me.reissue = none ∧ fw.me.level = .firmware ∧ fw.me.pend = [] ∧ fw.rp 1 = false ∧
    PlainBytes fw (fw.rv 1).toNat 1 ∧ (fw.rv 1).toNat % 8 = 0 ∧ PlainBytes fw (fw.rv 1).toNat 8 ∧ fw.rp 2 = false ∧
    fw.me.revoke = none := by decide +kernel

/-! ### Control registers, traps, returns -/

/-- The highest user, supervisor and firmware numbers that may be read at each level. -/
theorem witness_cr_read : fw.me.reissue = none ∧ fw.me.revoke = none ∧ (0x931 / 1024 ≤ fw.me.level.code) ∧
    (fw.crRead 0x931).isSome = true ∧ (fw.crRead 0x912).isSome = true ∧ (0x500 / 1024 ≤ sv.me.level.code) ∧
    (sv.crRead 0x500).isSome = true ∧ (0x109 / 1024 ≤ us.me.level.code) ∧ (us.crRead 0x109).isSome = true := by
  decide +kernel

theorem witness_cr_write : us.me.reissue = none ∧ us.me.revoke = none ∧ (0x007 / 1024 ≤ us.me.level.code) ∧
    0x007 / 256 % 2 = 0 ∧ us.crRead 0x007 = some 0 ∧ us.rp 2 = false := by decide +kernel

/-- FRM codes 4 and 5, a TELEM with every bit, PPL at and above its level, THRESH and WINDOW. -/
theorem witness_cr_fields : fw.crRead 0x000 = some 0 ∧ storedField 0x000 0 0x43F = some 0x43F ∧
    storedField 0x000 0 0x53F = some 0x3F ∧ fw.crRead 0x404 = some 0 ∧ storedField 0x404 0 1 = some 1 ∧
    storedField 0x404 0 2 = some 0 ∧ storedField 0x804 0 2 = some 2 ∧ storedField 0x804 0 3 = some 0 ∧
    storedField 0x405 0 0xFFFFFFFF = some 0xFE03FFFF ∧ fw.crRead 0x820 = some 0x0000040000000010 ∧
    storedField 0x820 0x10 0xFFFFFFFFFFFF = some 0xFFFF0000FFFF ∧ fw.me.live = true := by decide +kernel

theorem witness_cr_checks : us.me.reissue = none ∧ (us.me.trapSet .supervisor).regs.depth ≠ 2 ∧
    (encode (.crr 3 0x400)).isSome = true ∧ 0x400 / 1024 ≠ 3 ∧ us.me.level.code < 0x400 / 1024 ∧
    ¬(0x3FF / 1024 ≠ 3 ∧ us.me.level.code < 0x3FF / 1024) ∧ us.crRead 0x3FF = none ∧
    ¬(0xC00 / 1024 ≠ 3 ∧ us.me.level.code < 0xC00 / 1024) ∧ us.crRead 0xC00 = none ∧
    ¬(0x109 / 1024 ≠ 3 ∧ us.me.level.code < 0x109 / 1024) ∧ us.crRead 0x109 ≠ none ∧
    (∀ d, Instr.crw 3 0x109 ≠ .crr d 0x109) ∧ 0x109 / 256 % 2 = 1 := by
  decide +kernel

/-- A user thread that met two traps at supervisor level. -/
def deep : State := one { thread .user with sup := { regs := { depth := 2 } } }

theorem witness_trap : us.me.reissue = none ∧ (us.me.trapSet (trapInsnLevel us.me.level)).regs.depth ≠ 2 ∧
    (us.me.trapSet .supervisor).regs.depth ≠ 2 ∧ deep.me.reissue = none ∧ deep.me.level = .user ∧
    deep.me.sup.regs.depth = 2 ∧ deep.me.firm.regs.depth ≠ 2 := by decide +kernel

/-- A firmware handler with one trap, and with two, in progress; a user handler. -/
def handler (n : BitVec 2) : State := one { thread .firmware with firm := { regs := { depth := n, ppl := 3 } } }
def userHandler : State := one { thread .user with uip := true, uepc := 0x2000 }

theorem witness_eret : (handler 1).me.reissue = none ∧ (handler 1).me.revoke = none ∧ (handler 1).me.level = .firmware ∧
    Level.firmware ≠ .user ∧ ((handler 1).me.trapSet .firmware).regs.depth ≠ 0 ∧
    ((handler 2).me.trapSet .firmware).regs.depth ≠ 0 ∧ userHandler.me.level = .user ∧ userHandler.me.uip = true ∧
    (handler 0).me.level ≠ .user ∧ ((handler 0).me.trapSet (handler 0).me.level).regs.depth = 0 ∧
    us.me.level = .user ∧ us.me.uip = false ∧ (us.me.trapSet .supervisor).regs.depth ≠ 2 := by decide +kernel

theorem witness_fences : us.me.reissue = none ∧ us.me.revoke = none ∧ (8#6).getLsbD 3 = true ∧ (16#6).getLsbD 4 = true := by
  decide +kernel

theorem witness_trap_eret : us.me.reissue = none ∧ us.me.wait = none ∧ us.me.cut = none ∧ us.me.level = .user ∧
    us.me.sup.regs.depth = 0 ∧ us.me.revoke = none ∧ us.me.replay = [] ∧ us.me.pc.toNat % 4 = 0 := by decide +kernel

/-! ### Services, crews -/

/-- Function 0 with cluster 0 and an address space: the first GiB mapped to itself with every permission, by tables at
0x100000 (stage 1) and 0x200000 (stage 2), under key slot 0. -/
def mapped (c : Ctx) : State :=
  { one c with
    fns := [(0, { part := some { x0 := 0, y0 := 0, w := 1, h := 1 }, s1root := some 0x100000, s2root := some 0x200000 })]
    keys := [(0, 1)]
    mem := [(0x100000, 1), (0x100002, 0x22), (0x200000, 1), (0x200002, 0x21), (0x210000, 0xDF), (0x220000, 0xFF)] }

/-- A supervisor thread of crew 7, with s3 naming its own core and context, and s4 a page. -/
def crewed : State :=
  { mapped { thread .supervisor with crew := some 7, regs := [(4, 0x30000)] } with
    crews := [(7, { fn := 0, lid := 0, cidx := 0, cluster := 0, threads := [0], cores := [0] })] }

def crewedIn : State := crewed.setDie 0 { crewed.die 0 with prqaddr := 0x30000 }

/-- The same with s3 naming a core that its function does not have, and with the port of the die at work. -/
def crewedFar : State := crewed.setMe { crewed.me with regs := [(3, 2047), (4, 0x30000)] }
def crewedBusy : State :=
  crewed.setDie 0 { crewed.die 0 with prqWork := some { resume := false, crew := 7, area := 0x30000, start := 0 } }

theorem witness_services : crewed.me.reissue = none ∧ crewed.me.level = .supervisor ∧
    crewed.me.firm.regs.depth.toNat < 2 ∧ crewed.me.wait = none ∧
    crewedFar.coreById crewedFar.me.fn ((crewedFar.rv 3).toNat % 2048) = none ∧ crewedFar.me.wait = none ∧
    crewedBusy.coreById crewedBusy.me.fn ((crewedBusy.rv 3).toNat % 2048) = some 0 ∧
    (crewedBusy.die (0 / 256)).prqWork ≠ none ∧ (crewedBusy.die (dieOf crewedBusy.cur)).prqWork ≠ none ∧
    (one { thread .supervisor with wait := some (.service 0) }).me.wait = some (.service 0) ∧ (7 : Nat) < 8 ∧
    (one { thread .supervisor with wait := some (.answered 2) }).me.wait = some (.answered 2) := by decide +kernel

theorem witness_preempt : crewed.me.reissue = none ∧ crewed.me.level = .supervisor ∧
    crewed.me.firm.regs.depth.toNat < 2 ∧ crewed.coreById crewed.me.fn ((crewed.rv 3).toNat % 2048) = some 0 ∧
    (crewed.die 0).prqWork = none ∧ crewed.crewAt (4 * 0 + (crewed.rv 3).toNat / 2048 % 4) = some 7 ∧
    (∃ c, crewed.crewOf 7 = some c ∧ c.fn = crewed.me.fn) ∧
    (crewedIn.resolve (saveAgent 0) .spill 0x30000 (areaSize 1 1 0)).2.toOption.isSome = true := by
  decide +kernel

/-- A supervisor thread of function 0 whose crew 9 is saved in the page s4 names; its launch asks for more lanes than a
cluster has. -/
def saved : State :=
  let s := mapped { thread .supervisor with regs := [(3, 0x40000), (4, 0x30000)] }
  let k : Crew := { fn := 0, lid := 0, cidx := 0, cluster := 0, threads := [4], cores := [1], saved := true }
  { s with mem := (0x3000E, 1) :: s.mem, launches := [(0, { record := BitVec.allOnes 512 })], crews := [(9, k)] }

def savedIn : State := saved.setDie 0 { saved.die 0 with prqaddr := 0x30000 }

theorem witness_resume : saved.me.reissue = none ∧ saved.me.level = .supervisor ∧ saved.me.firm.regs.depth.toNat < 2 ∧
    (saved.die 0).prqWork = none ∧ (savedIn.savedAt 0 0x30000).2.toOption.map (·.1) = some 9 ∧
    ((savedIn.savedAt 0 0x30000).2.toOption.map fun x => ((savedIn.savedAt 0 0x30000).1.tryResume 0
      { resume := true, crew := 9, area := 0x30000, start := 0 } none
      ((savedIn.savedAt 0 0x30000).1.resumeDie 0 x.2)).isNone) = some true := by
  decide +kernel

def attestAgent : Agent := { saved.agent with level := .supervisor, stalls := false }

def attestRead : State := (saved.load saved.cur attestAgent .load .scalar 15 0x40000 64).1

theorem witness_attest : (saved.rv 3).toNat % 64 = 0 ∧ (saved.rv 4).toNat % 64 = 0 ∧
    gave (saved.load saved.cur attestAgent .load .scalar 15 (saved.rv 3).toNat 64) (List.replicate 64 0, false) = true ∧
    gave (attestRead.store saved.cur attestAgent .store .scalar 15 (saved.rv 4).toNat
      (attestRead.reportOf saved.me.fn (BitVec.ofNat 512 (leNat (List.replicate 64 0)))) false) () = true := by
  decide +kernel

/-! ### YIELD to LAUNCH -/

/-- A thread of a crew of two on one core; both hold the crew number 7, and the second stands in context 1. -/
def pair_ (c : Ctx) : State :=
  let k : Crew := { fn := 0, lid := 0, cidx := 0, cluster := 0, threads := [0, 1], cores := [0], arrivals := [[], [1], [], []] }
  let s := mapped { c with crew := some 7 }
  { s with ctxs := [(0, { c with crew := some 7 }), (1, { c with crew := some 7, tidx := 1 })], crews := [(7, k)] }

def asleep : State := one { thread .user with wait := some (.tsleep 5) }

/-- A thread inside a handler run. -/
def inRun (l : Level) : State :=
  one { thread l with handlers := [{ pc := 0x1000, level := .user, prio := 2, chan := 5, wait := none, handed := none }] }

/-- TWAKE of the other thread, of the thread itself, and of no thread of the crew. -/
theorem witness_yield_prio_sleep : us.me.reissue = none ∧ us.rp 2 = false ∧ us.me.revoke = none ∧
    us.me.wait = none ∧ us.me.handlers = [] ∧ us.me.wake = false ∧ us.me.crew.bind us.crewOf = none ∧
    (one { thread .user with wake := true }).me.wake = true ∧ asleep.me.wait = some (.tsleep 5) ∧ asleep.me.live = true ∧
    asleep.me.wake = false ∧ (5 : Nat) ≠ 0 ∧ (inRun .user).me.handlers ≠ [] ∧
    ((inRun .user).me.trapSet .supervisor).regs.depth ≠ 2 ∧ ((inRun .firmware).me.trapSet .firmware).regs.depth ≠ 2 ∧
    (pair_ (thread .user)).me.crew = some 7 ∧
    ∃ c, (pair_ (thread .user)).crewOf 7 = some c ∧ (∀ r : BitVec 5, r = 5 ∨ r = 0 →
      c.exited.contains ((pair_ (thread .user)).rv r).toNat = false ∧
      c.threads[((pair_ (thread .user)).rv r).toNat]? = some (1 - (1 - r.toNat))) ∧
      c.threads.length ≤ ((pair_ (thread .user)).rv 2).toNat := by
  and_intros
  on_goal 17 =>
    refine ⟨_, rfl, ?_, by decide +kernel⟩
    rintro r (rfl | rfl) <;> decide +kernel
  all_goals decide +kernel

/-- Barrier 1, where the other thread has arrived, and barrier 0, the first to arrive. -/
theorem witness_cbar : let s := pair_ (thread .user)
    s.me.reissue = none ∧ s.me.revoke = none ∧ s.me.pend = [] ∧ s.me.wait = none ∧ s.me.handlers = [] ∧ s.rp 5 = false ∧
    (s.rv 5).toNat ≤ 3 ∧ (s.rv 0).toNat ≤ 3 ∧ s.me.crew = some 7 ∧
    ∃ c, s.crewOf 7 = some c ∧ c.arrivals[(s.rv 5).toNat]? = some [1] ∧ [1].length + 1 = c.live.length ∧
      c.arrivals[(s.rv 0).toNat]? = some [] ∧ ([] : List Nat).length + 1 ≠ c.live.length := by
  intro s
  decide +kernel

/-- A user thread whose s1 names a record of one crew of one thread without lanes. -/
def launcher : State :=
  let s := mapped (thread .user)
  { s with mem := (0x10010, 1) :: s.mem }

def launchRead : State × Except AccFault (List Byte × Bool) :=
  ((launcher.drainAll launcher.cur).flushMsg launcher.cur fun _ => true).load launcher.cur launcher.agent .load .scalar 15
    (launcher.rv 1).toNat 64

def oneCrew : BitVec 512 := BitVec.ofNat 512 (2 ^ 128)

theorem witness_launch : launcher.me.reissue = none ∧ launcher.me.revoke = none ∧ launcher.me.wait = none ∧
    launcher.rp 1 = false ∧ (launcher.rv 1).toNat % 64 = 0 ∧ gave launchRead (leBytes 64 (2 ^ 128), false) = true ∧
    BitVec.ofNat 512 (leNat (leBytes 64 (2 ^ 128))) = oneCrew ∧ launchRead.1.launchCheck 0 oneCrew = 0 ∧
    (launchRead.1.dieById 0 0).any launchRead.1.wayHeld = false ∧
    launchRead.1.reaches 0 (dieOf launchRead.1.cur) ((launchRead.1.dieById 0 0).getD 0) = true ∧
    launchRead.1.submitWaits 0 oneCrew = false ∧
    (launchRead.1.appendEntry (launchQueue 0 (recLevel oneCrew)) (recWords oneCrew) launchRead.1.me.level
      (launchRead.1.fnOf 0).lid).2 = 0 := by decide +kernel

/-! ### Channels and messages -/

/-- A supervisor thread of function 0 that names channel 63 with s1; the channel is bound, with one message. -/
def boxed (lv : Level) (x : Channel) : State :=
  let s := mapped { thread lv with regs := [(1, 63), (2, 2), (3, 0x4000000000000000)] }
  { s with cores := [(0, { chans := [(63, x)] })] }

def bound1 : Channel := { binding := 0x4000000000000000, fifo := [{ payload := 5, tag := 7 }] }

def boxS : State := boxed .supervisor bound1
def boxU : State := boxed .user {}

theorem witness_channels : boxS.me.reissue = none ∧ boxS.me.wait = none ∧ boxS.rp 1 = false ∧ boxS.rp 3 = false ∧
    ChannelReady boxS 63 ∧ (boxS.rv 1).toNat = 63 ∧ ChannelReady boxU 63 ∧ goodBinding (boxU.rv 3) boxU.me.level = true ∧
    bindCtx (boxU.rv 3) = boxU.cur % 4 ∧ bindBound bound1.binding = true ∧ bindBound (boxU.chan 0 63).binding = false ∧
    boxS.rv 0 = 0 ∧ us.rv 5 = 1 ∧ boxS.rv 2 = 2 ∧ (boxS.chan 0 63).fifo ≠ [] ∧ (boxU.chan 0 63).fifo = [] := by
  decide +kernel

/-- CHPEND with operand 1 on channel 1. -/
theorem witness_chpend_set : us.me.reissue = none ∧ us.me.wait = none ∧ us.rp 5 = false ∧ ChannelReady us 1 ∧
    (us.rv 5).toNat = 1 ∧ us.rv 5 = 1 := by decide +kernel

theorem witness_mpop : (boxS.chan (coreOf boxS.cur) (boxS.rv 1).toNat).fifo = { payload := 5, tag := 7 } :: [] ∧
    (boxU.chan (coreOf boxU.cur) (boxU.rv 1).toNat).fifo = [] := by decide +kernel

/-- A user thread whose s2 names core 1, channel 3 of its partition; engine 2 of its die is ready. -/
def sender (to_ : Word) : State :=
  let s := mapped { thread .user with regs := [(2, to_)] }
  let e : Engine := { ready := true }
  s.setDie 0 { s.die 0 with engines := [(2, e)] }

theorem witness_sends : (sender 67).me.reissue = none ∧ (sender 67).me.wait = none ∧ (sender 67).rp 2 = false ∧
    wellFormedEndpoint ((sender 67).rv 2).toNat = true ∧ (sender 67).ownMsgs (sender 67).cur (fun _ => true) = [] ∧
    (sender 67).target 0 67 = .core 1 3 ∧ (sender 67).reaches 0 0 (1 / 256) = true ∧
    (sender 67).strays 0 (some (sender 67).cur) (1 / 16) = false ∧ (sender 67).routeHeld 0 (1 / 256) = false ∧
    ((sender 67).chan 1 3).held = false ∧ ((sender 67).chan 1 3).fifo.length < 8 := by decide +kernel

theorem witness_eng : wellFormedEndpoint ((sender 0x20080).rv 2).toNat = true ∧
    (sender 0x20080).target 0 0x20080 = .engine 0 2 ∧ (sender 0x20080).reaches 0 0 0 = true ∧
    (sender 0x20080).payloadPoison 4 = false ∧ (sender 0x20080).member 0 (clusterOf (sender 0x20080).cur) = true ∧
    (sender 0x20080).routeHeld 0 0 = false ∧
    ((aget ({} : Engine) ((sender 0x20080).die 0).engines 2).inbox.filter fun k => k.fn == 0).length < 16 ∧ (aget ({} : Engine) ((sender 0x20080).die 0).engines 2).ready = true ∧
    (aget ({} : Engine) ((sender 0x20080).die 0).engines 2).inbox.length < 64 := by decide +kernel

theorem witness_full_fifo : 8 ≤ ((boxed .user { fifo := List.replicate 8 { payload := 0, tag := 0 } }).chan 0 63).fifo.length := by
  decide +kernel

def ringing : State :=
  boxed .user { binding := 0x6800000000000400, pend := true, fifo := [{ payload := 5, tag := 7 }] }

theorem witness_handler : ringing.eligibleChan 0 = some 63 ∧ 0 = ringing.cur := by decide +kernel

/-! ### PUT, barrier objects -/

/-- Crew 7 has its regions on cores 0 and 1, one granule each; channel 3 of core 1 is bound to its thread there; s2
describes 64 bytes for the last of the region's offsets. -/
def putting (b : Word) : State :=
  let c : Ctx := { thread .user with crew := some 7, regs := [(1, 0x10000), (2, b)] }
  let k : Crew := { fn := 0, lid := 0, cidx := 0, cluster := 0, threads := [0, 4], cores := [0, 1], granules := 1 }
  let s := mapped c
  let x : Channel := { binding := 0x4000000000000000 }
  { s with ctxs := [(0, c), (4, { c with tidx := 1 })], crews := [(7, k)], cores := [(0, { roles := [(3, .scratch 7 0)], chans := [(3, x)] }), (1, { roles := [(4, .scratch 7 0)], chans := [(3, x)] })] }

def putWord : Word := BitVec.ofNat 64 (63 + 4080 * 2 ^ 12 + 3 * 2 ^ 30 + 1 * 2 ^ 36)
def putmWord : Word := BitVec.ofNat 64 (63 + 3 * 2 ^ 30 + 3 * 2 ^ 47)

def putSource (s : State) : State × Except AccFault (List Part) :=
  (s.beforeWalk s.cur s.agent .load (s.rv 1).toNat (putLen (s.rv 2))).resolve s.agent .load (s.rv 1).toNat (putLen (s.rv 2))

def sourcePart : Part := { va := 0x10000, len := 64, place := { loc := 0x10000, key := some (0, 1) } }

theorem witness_put : (putting putWord).me.reissue = none ∧ (putting putWord).rp 1 = false ∧ (putting putWord).rp 2 = false ∧
    (putting putWord).rp 0 = false ∧ (putting putWord).rv 0 = 0 ∧
    (putting putWord).ownMsgs (putting putWord).cur (fun _ => true) = [] ∧ putLen putWord = 64 ∧
    gave (putSource (putting putWord)) [sourcePart] = true ∧ (putting putWord).putHeld 0 [putCore putWord] = false ∧
    ((putting putmWord).putHeld 0 (putCores true putmWord)) = false ∧ GoodBarrier 0 ∧
    ((putSource (putting putWord)).1.loadParts (putSource (putting putWord)).1.cur .msg 0 [sourcePart]).2 =
      (List.replicate 64 0, false) ∧
    goodPut false putWord = true ∧
    ((putSource (putting putWord)).1.loadParts (putSource (putting putWord)).1.cur .msg 0 [sourcePart]).1.putStatus 0
      (putCore putWord) (putChan putWord) (putOffset putWord) 64 = (0, some (1, 7)) ∧
    gave (putSource (putting putmWord)) [sourcePart] = true ∧ goodPut true putmWord = true := by
  and_intros <;> decide +kernel

/-- The same at firmware level, with barriers in the destination's region (s3) and in device memory (s4). -/
def puttingF (b : Word) : State :=
  let s := putting b
  s.setMe { s.me with level := .firmware, regs := [(1, 0x10000), (2, b), (3, 0xFFFFFFFF01000010), (4, 0x20000)] }

theorem witness_put_firmware : let s := puttingF putWord
    s.me.reissue = none ∧ s.rp 1 = false ∧ s.rp 2 = false ∧ (∀ r : BitVec 5, r = 0 ∨ r = 3 ∨ r = 4 →
      s.rp r = false ∧ GoodBarrier (s.rv r)) ∧ s.me.level = .firmware ∧ s.me.pend = [] ∧
    s.ownMsgs s.cur (fun _ => true) = [] ∧ PlainBytes s (s.rv 1).toNat (putLen putWord) ∧
    inWindow (s.rv 3).toNat = true ∧ inWindow (s.rv 4).toNat = false ∧ PlainBytes s (s.rv 4).toNat 16 ∧
    s.putHeld s.me.fn [putCore putWord] = false ∧
    s.putStatus s.me.fn (putCore putWord) (putChan putWord) (putOffset putWord) (putLen putWord) = (0, some (1, 7)) ∧
    (puttingF putmWord).putHeld 0 (putCores true putmWord) = false := by
  intro s
  repeat' with_reducible apply And.intro
  on_goal 4 => rintro r (rfl | rfl | rfl) <;> decide +kernel
  all_goals decide +kernel

theorem witness_put_barrier :
    (putSource (putting putWord)).1.putBarrierAt ((putting putWord).rv 0) = ((putSource (putting putWord)).1, .ok .none) := rfl

theorem witness_barriers : fw.me.reissue = none ∧ fw.me.revoke = none ∧ fw.me.wait = none ∧ fw.rp 3 = false ∧
    fw.rp 5 = false ∧ fw.me.level = .firmware ∧ fw.me.pend = [] ∧ (fw.rv 3).toNat % 16 = 0 ∧
    PlainBytes fw (fw.rv 3).toNat 16 ∧ 1 ≤ (fw.rv 5).toNat ∧ (fw.rv 5).toNat ≤ 65535 := by decide +kernel

/-- A barrier object at 0x20000, and s5 the operand 1: fresh, past phase 0 with phase 1 in force, overrun. -/
def barred (x : Nat) : State := fw.storeBytes 0x20000 (leBytes 16 x)

theorem witness_barrier_objects : ∀ x, x = 1 ∨ x = 1 + 2 ^ 32 ∨ x = 1 + 2 ^ 36 →
    (barred x).rp 3 = false ∧ PlainBytes (barred x) ((barred x).rv 3).toNat 16 ∧
    BarObj.of (leNat (storedBytes (barred x) 0x20000 16)) = BarObj.of x := by
  rintro x (rfl | rfl | rfl) <;> decide +kernel

theorem witness_barrier_phases : BarObj.of 1 = some ⟨1, 0, 0, false, false, 0⟩ ∧
    BarObj.of (1 + 2 ^ 32) = some ⟨1, 0, 1, false, false, 0⟩ ∧ BarObj.of (1 + 2 ^ 36) = some ⟨1, 0, 0, true, false, 0⟩ ∧
    1 ≤ (fw.rv 5).toNat ∧ (fw.rv 5).toNat ≤ 65535 ∧ (fw.rv 5).toNat ≤ 1 ∧ 0 + (fw.rv 5).toNat < 2 ^ 48 ∧
    0 ≠ (fw.rv 5).toNat % 16 ∧ 1 = (fw.rv 5).toNat % 16 := by decide +kernel

/-! ### Vectors -/

def legalB (i : Instr) (type count : Nat) : Bool :=
  match vecSpec i type with
  | some x => x.cause count == 0
  | none => false

theorem legal_of {i : Instr} {type count : Nat} (h : legalB i type count = true) : Legal i type count := by
  unfold legalB at h
  split at h
  · next x e => exact ⟨x, e, by simpa using h⟩
  · cases h

def runsB (s : State) (i : Instr) : Bool :=
  s.me.cut.isNone && legalB i s.me.vt (regCount s.me.ncode.toNat) &&
  ((match s.me.reissue with | some e => decide (e.after = 0) | none => false) ||
    s.me.reissue.isNone && s.me.revoke.isNone && decide (s.me.svHold &&& awaits i = 0) && legalB i s.me.dcodeType (regCount s.me.dcode.toNat) &&
      match vecSpec i s.me.dcodeType with
      | some x => x.control.all fun r => !(s.rp r)
      | none => true)

theorem runs_of {s : State} {i : Instr} (h : runsB s i = true) : VectorRuns s i := by
  simp only [runsB, Bool.and_eq_true, Bool.or_eq_true, Option.isNone_iff_eq_none] at h
  refine ⟨h.1.1, legal_of h.1.2, ?_⟩
  rcases h.2 with h2 | h2
  · refine .inl ?_
    cases hr : s.me.reissue with
    | none => rw [hr] at h2; cases h2
    | some e => exact ⟨e, rfl, by rw [hr] at h2; simpa using h2⟩
  · refine .inr ⟨h2.1.1.1.1, h2.1.1.1.2, by simpa using h2.1.1.2, legal_of h2.1.2, fun x hx r hc => ?_⟩
    have h3 := h2.2
    rw [hx] at h3
    simpa using List.all_eq_true.mp h3 r hc

/-- A thread with lanes under a type code, VL 4, at firmware level: registers v1 to v3 hold small numbers in their first
elements, and s1 to s5 are as before. -/
def vecWith (t : Nat) (lanes : List Nat) (v : VecState) : State :=
  let c : Ctx := { thread .firmware with vec := { v with lanes := lanes }, vl := 4, vtype := BitVec.ofNat 64 t, dtype := BitVec.ofNat 64 t, laneMax := 4, vspill := 0x40000 }
  let s := one c
  { s with clusters := [(0, { lanes := lanes.map fun l => (l, .granted 0) })] }

def vec1 (t : Nat) : State :=
  vecWith t [3, 5] { rows := [(8, 0x00000004000000030000000200000001), (16, 0x00000002000000020000000100000001), (24, 0x00000004000000080000000400000000)], masks := [(256, 5)] }

/-- The same instruction, out of the vector queue. -/
def queued (s : State) (i : Instr) : State := s.setMe { s.me with reissue := some { addr := 0x1000, instr := i } }

theorem witness_vector_integer : VectorRuns (vec1 2) (.vaddVV 3 1 2 0) ∧ (vec1 2).me.len ≤ (vec1 2).me.geo.vlmax ∧
    (∃ f, intElements (vec1 2) (.vaddVV 3 1 2 0) = some (3, 1, 0, f)) ∧
    VectorRuns (queued (vec1 1) (.vwmaccu 4 1 2 1)) (.vwmaccu 4 1 2 1) ∧
    (∃ f, intElements (queued (vec1 1) (.vwmaccu 4 1 2 1)) (.vwmaccu 4 1 2 1) = some (4, 2, 1, f)) ∧
    (queued (vec1 1) (.vwmaccu 4 1 2 1)).me.len ≤ (queued (vec1 1) (.vwmaccu 4 1 2 1)).me.geo.vlmax := by
  repeat' with_reducible apply And.intro
  all_goals first | decide +kernel | exact runs_of (by decide +kernel) | exact ⟨_, rfl⟩

theorem witness_vector_float : VectorRuns (vec1 10) (.vfmaVV 3 1 2 1) ∧ (vec1 10).me.len ≤ (vec1 10).me.geo.vlmax ∧
    (∃ f, floatElements (vec1 10) (.vfmaVV 3 1 2 1) = some (3, 1, f)) ∧ VectorRuns (vec1 10) (.vcvt 3 1 0 2) ∧
    ∃ f, floatElements (vec1 10) (.vcvt 3 1 0 2) = some (3, 0, f) := by
  repeat' with_reducible apply And.intro
  all_goals first | decide +kernel | exact runs_of (by decide +kernel) | exact ⟨_, rfl⟩

theorem witness_masks : VectorRuns (vec1 2) (.vcmpLtVV 2 1 2 1) ∧ (vec1 2).me.len ≤ 131072 ∧
    (∃ f, maskElements (vec1 2) (.vcmpLtVV 2 1 2 1) = some (2, 1, f)) ∧ VectorRuns (vec1 2) (.mnot 15 1) ∧
    (∃ f, maskElements (vec1 2) (.mnot 15 1) = some (15, 0, f)) ∧ VectorRuns (vec1 2) (.vgrpmsk 2 1 2 0) ∧
    ∃ f, maskElements (vec1 2) (.vgrpmsk 2 1 2 0) = some (2, 0, f) := by
  repeat' with_reducible apply And.intro
  all_goals first | decide +kernel | exact runs_of (by decide +kernel) | exact ⟨_, rfl⟩

theorem witness_reductions : VectorRuns (vec1 2) (.vrsum 3 1 2 1) ∧
    (∃ op, reduction (vec1 2) (.vrsum 3 1 2 1) = some (3, 1, 2, 1, op)) ∧ VectorRuns (vec1 2) (.mcnt 3 1) ∧
    VectorRuns (vec1 2) (.many 3 1) ∧ VectorRuns (vec1 2) (.mfirst 0 15) := by
  repeat' with_reducible apply And.intro
  all_goals first | exact runs_of (by decide +kernel) | exact ⟨_, rfl⟩

/-- With an active element, and with none (mask 2 is clear). -/
theorem witness_lane_crossing : VectorRuns (vec1 2) (.vperm 3 1 2 1) ∧ (vec1 2).me.len ≤ (vec1 2).me.geo.vlmax ∧
    (∃ f fl, movedElements (vec1 2) (.vperm 3 1 2 1) = some (3, 32, f, fl)) ∧ VectorRuns (vec1 2) (.vcprs 3 1 5 1) ∧
    VectorRuns (vec1 2) (.vpush 3 1 2 1) ∧ VectorRuns (vec1 2) (.vmaxix 3 1 5 1) ∧ (vec1 2).me.len ≤ 131072 ∧
    best (vec1 2).me.vt ((activeOf (vec1 2).me 1).map fun e => (e, ((vec1 2).me.vec.elem (vec1 2).me.geo 32 1 e).1)) =
      some (2, 3) ∧
    best (vec1 2).me.vt ((activeOf (vec1 2).me 2).map fun e => (e, ((vec1 2).me.vec.elem (vec1 2).me.geo 32 1 e).1)) = none := by
  repeat' with_reducible apply And.intro
  all_goals first | decide +kernel | exact runs_of (by decide +kernel) | exact ⟨_, _, rfl⟩

/-- Loads, stores (a stride of 8 from 0x10000, and distinct indexes), VSTXADD at words, VLDP of two planes. -/
theorem witness_vector_memory : VectorRuns (vec1 2) (.vld 3 1 0 1) ∧ (vec1 2).me.len ≤ (vec1 2).me.geo.vlmax ∧
    (vec1 2).agent.level = .firmware ∧ (vec1 2).me.pend = [] ∧ Unpoisoned (vec1 2).me ∧
    (∃ f, laneAccess (vec1 2) (.vld 3 1 0 1) = some (3, 1, f) ∧ ∀ e ∈ activeOf (vec1 2).me 1, PlainBytes (vec1 2) (f e) 4) ∧
    VectorRuns (vec1 2) (.vsts 1 1 0 0 2) ∧
    (∃ f, laneAccess (vec1 2) (.vsts 1 1 0 0 2) = some (1, 0, f) ∧ ∀ e ∈ activeOf (vec1 2).me 0, PlainBytes (vec1 2) (f e) 4) ∧
    VectorRuns (vec1 2) (.vstx 1 1 0 1 3) ∧
    (∃ f, laneAccess (vec1 2) (.vstx 1 1 0 1 3) = some (1, 1, f) ∧ (∀ e ∈ activeOf (vec1 2).me 1, PlainBytes (vec1 2) (f e) 4) ∧
      (∀ e ∈ activeOf (vec1 2).me 1, ∀ q ∈ activeOf (vec1 2).me 1, f e = f q ∨ f e + 4 ≤ f q ∨ f q + 4 ≤ f e)) ∧
    VectorRuns (vec1 2) (.vstxadd 1 1 0 0 3) ∧
    ∃ f, laneAccess (vec1 2) (.vstxadd 1 1 0 0 3) = some (1, 0, f) ∧ (∀ e ∈ activeOf (vec1 2).me 0, PlainBytes (vec1 2) (f e) 4) ∧
      ∀ e ∈ activeOf (vec1 2).me 0, f e % 4 = 0 := by
  repeat' with_reducible apply And.intro
  all_goals first | decide +kernel | exact runs_of (by decide +kernel) | exact ⟨_, rfl, by decide +kernel⟩

/-- FMTB of a bit-plane operand of two planes, of which both are read. -/
def planes : State := (vec1 0).setMe { (vec1 0).me with fmtb := BitVec.ofNat 64 (5 + 1 * 2 ^ 4 + 1 * 2 ^ 7 + 2 ^ 31 + 2 ^ 44) }

theorem witness_vldp : VectorRuns planes (.vldp 3 1 0 1 1) ∧ planes.me.len ≤ planes.me.geo.vlmax ∧
    badFmtB planes.me.fmtb = false ∧ (Fmt.of planes.me.fmtb).ty = 5 ∧ (1#3).toNat + 1 ≤ (Fmt.of planes.me.fmtb).p ∧
    ∀ e ∈ activeOf planes.me 1, ∀ j, j < 2 →
      PlainBytes planes (((planes.rv 1).toNat + (Fmt.of planes.me.fmtb).psb * j + e / 8) % 2 ^ 64) 1 := by
  repeat' with_reducible apply And.intro
  all_goals first | decide +kernel | exact runs_of (by decide +kernel)

/-! ### Weaves -/

/-- A crew's thread with one lane that is a weave of side 1, one tile declared, FP32 elements, latches filled; the crew's
region is granule 3 of its core; s1 is its first window address. FMTA and FMTB name one row of one BF16 operand. -/
def woven (t fa fb : Nat) : State :=
  let v : VecState := { side := 1, rows := [(8, 0x00000004000000030000000200000001)], valid := [(0, 64), (1, 64), (2, 64), (3, 64)] }
  let s := vecWith t [3] v
  let c : Ctx := { s.me with crew := some 7, tl := 1, ptl := 1, fmta := BitVec.ofNat 64 fa, fmtb := BitVec.ofNat 64 fb, regs := [(1, 0xFFFFFFFF01000000), (2, 8)], scla := 0xFFFFFFFF01000000, sclb := 0xFFFFFFFF01000010 }
  let s := s.setMe c
  { s with cores := [(0, { roles := [(3, .scratch 7 0)] })] }

def w0 : State := woven 10 (2 ^ 31) (2 ^ 31)

/-- The same under UINT32, the type of the indexes. -/
def wIdx : State := woven 6 (2 ^ 31) (2 ^ 31)

/-- One sparse block of a BF16 operand; and one plane of a bit-plane operand. -/
def wSparse : State := woven 10 (2 ^ 31) (2 ^ 31 + 31 * 2 ^ 24 + 1 * 2 ^ 10)
def wPlane : State := woven 10 (2 ^ 31) (2 ^ 31 + 5 + 1 * 2 ^ 7)

theorem witness_weaves : VectorRuns w0 (.wform 0) ∧ ((0#4).toNat + 1) * ((0#4).toNat + 1) ≤ w0.me.lanes ∧
    VectorRuns w0 .wsplit ∧ w0.me.vec.side ≠ 0 ∧ VectorRuns (vec1 2) .wsplit ∧ (vec1 2).me.vec.side = 0 ∧
    VectorRuns w0 (.wzero 0) ∧ (0#2).toNat < w0.me.tl.toNat ∧ VectorRuns w0 (.wfmt 1 2) := by
  repeat' with_reducible apply And.intro
  all_goals first | decide +kernel | exact runs_of (by decide +kernel)

theorem witness_tiles : VectorRuns w0 (.wop 0 63 0) ∧ (tileWords w0 (.wop 0 63 0)).isSome = true ∧
    VectorRuns wSparse (.wops 0 31 0) ∧ (tileWords wSparse (.wops 0 31 0)).isSome = true ∧
    VectorRuns wPlane (.wbp 0 0 0) ∧ (tileWords wPlane (.wbp 0 0 0)).isSome = true ∧
    VectorRuns w0 (.wopv 0 1 1 0 0) ∧ (tileWords w0 (.wopv 0 1 1 0 0)).isSome = true := by
  repeat' with_reducible apply And.intro
  all_goals first | decide +kernel | exact runs_of (by decide +kernel)

/-- The only live position of WGATH, row and column of WLDB, its only plane byte, and the two scales of WDRAIN.S, lie in
the region. -/
theorem witness_fills : VectorRuns wIdx (.wgath 7 1 0) ∧ wIdx.me.vec.side ≤ 16 ∧ wIdx.me.reissue = none ∧ wIdx.me.pend = [] ∧
    badFmtA wIdx.me.fmta = false ∧ min (Fmt.of wIdx.me.fmta).nv 16 = 1 ∧ (Fmt.of wIdx.me.fmta).kc = 1 ∧
    (wIdx.me.vec.elem wIdx.me.geo 32 7 0).2 = false ∧ (wIdx.me.vec.selects 0 0).2 = false ∧
    GatherBytes wIdx (((wIdx.rv 1).toNat + (wIdx.me.vec.elem wIdx.me.geo 32 7 0).1 + 0 * 2) % 2 ^ 64) 2 (scratchLoc 0 3 0) ∧
    w0.me.vec.side ≤ 16 ∧ w0.me.pend = [] ∧ VectorRuns w0 (.wldb 1 2) ∧ badFmtB w0.me.fmtb = false ∧ (Fmt.of w0.me.fmtb).ty ≠ 5 ∧ (Fmt.of w0.me.fmtb).spar = 0 ∧
    (Fmt.of w0.me.fmtb).kc = 1 ∧ min (Fmt.of w0.me.fmtb).nv 16 = 1 ∧
    GatherBytes w0 (BitVec.ofInt 64 ((w0.rv 1).toNat + 0 * (w0.rv 2).toInt + 0 * 2)).toNat 2 (scratchLoc 0 3 0) ∧
    VectorRuns wPlane (.wldb 1 2) ∧ badFmtB wPlane.me.fmtb = false ∧ (Fmt.of wPlane.me.fmtb).ty = 5 ∧
    (Fmt.of wPlane.me.fmtb).kc = 1 ∧ (Fmt.of wPlane.me.fmtb).pl = 1 ∧
    GatherBytes wPlane (BitVec.ofInt 64 ((wPlane.rv 1).toNat + 0 * 0 + (0 * (wPlane.rv 2).toInt + 0) / 8)).toNat 1
      (scratchLoc 0 3 0) := by
  repeat' with_reducible apply And.intro
  all_goals first | decide +kernel | exact runs_of (by decide +kernel)

theorem witness_drain : VectorRuns w0 (.wdrain 0 5 0) ∧ VectorRuns w0 (.wdrain 0 5 1) ∧ (0#2).toNat < w0.me.tl.toNat ∧
    w0.me.len ≤ w0.me.geo.vlmax ∧ w0.me.vw = 32 ∧
    (5#6).toNat + (16 + w0.me.geo.vlmax / 16 - 1) / (w0.me.geo.vlmax / 16) ≤ w0.me.geo.n ∧
    badFmtA w0.me.fmta = false ∧ badFmtB w0.me.fmtb = false ∧ min (Fmt.of w0.me.fmta).nv 16 = 1 ∧
    min (Fmt.of w0.me.fmtb).nv 16 = 1 ∧
    GatherBytes w0 ((w0.me.scla.toNat + 2 * (Fmt.of w0.me.fmta).sstr * 0) % 2 ^ 64) 2 (scratchLoc 0 3 0) ∧
    GatherBytes w0 ((w0.me.sclb.toNat + 2 * (Fmt.of w0.me.fmtb).sstr * 0) % 2 ^ 64) 2 (scratchLoc 0 3 16) := by
  repeat' with_reducible apply And.intro
  all_goals first | decide +kernel | exact runs_of (by decide +kernel)

/-! ### Lanes and spill areas -/

theorem witness_lanes : fw.me.reissue = none ∧ fw.me.revoke = none ∧ fw.me.cut = none ∧ fw.rp 2 = false ∧
    (fw.rv 5).toNat ≤ 4 ∧ (∃ a, Instr.setvl 3 2 10 = .setvl 3 a 10 ∧ fw.rp a = false ∧ (fw.rv a).toNat = 8) ∧
    (∃ l, Instr.setvli 3 10 0 = .setvli 3 10 l ∧ l.toNat = 0) ∧
    (64 - 16 * fw.me.ptl.toNat) / (8 * 2 ^ fw.me.pncode.toNat) ≠ 0 := by
  repeat' with_reducible apply And.intro
  on_goal 6 => exact ⟨2, rfl, by decide +kernel, by decide +kernel⟩
  on_goal 6 => exact ⟨0, rfl, rfl⟩
  all_goals decide +kernel

/-- A declaration of 8 registers and 4 tiles leaves no row; a SETVL and a VGIVE out of the queue. -/
theorem witness_lanes_queued : let s := fw.setMe { fw.me with ptl := 4 }
    let q := queued fw (.setvl 3 2 10)
    s.me.reissue = none ∧ s.me.revoke = none ∧ (64 - 16 * s.me.ptl.toNat) / (8 * 2 ^ s.me.pncode.toNat) = 0 ∧
    (s.me.trapSet .firmware).regs.depth ≠ 2 ∧ q.me.reissue = some { addr := 0x1000, instr := .setvl 3 2 10 } ∧
    ({ addr := 0x1000, instr := .setvl 3 2 10 } : VqEntry).after = 0 ∧ (q.rv 2).toNat = 8 ∧
    (64 - 16 * ({ addr := 0x1000, instr := .setvl 3 2 10 } : VqEntry).tiles.toNat) /
      (8 * 2 ^ ({ addr := 0x1000, instr := .setvl 3 2 10 } : VqEntry).ncode.toNat) ≠ 0 := by
  decide +kernel

/-- A thread with a lane whose spill area at 0x40000 holds nothing; and one whose area holds state of one lane under 8
registers, at type code 10. -/
def spilled : State :=
  let s := vec1 10
  { s with mem := [(0x40010, 10), (0x40012, 1), (0x40016, 1)] }

theorem witness_spill : VectorRuns (vec1 10) .vsave ∧ (vec1 10).agent.level = .firmware ∧ (vec1 10).me.pend = [] ∧
    Unpoisoned (vec1 10).me ∧ (vec1 10).me.vec.latchPoison = [] ∧ (vec1 10).me.lanes ≤ 256 ∧
    PlainBytes (vec1 10) (vec1 10).me.vspill.toNat (64 + 64 * (vec1 10).me.spillLines.length) ∧
    ((vec1 10).stored (0x40000 + 22)).toNat = 0 ∧ (spilled.stored (0x40000 + 22)).toNat = 1 ∧
    VectorRuns spilled .vsave ∧ (spilled.stored (0x40000 + 20)).toNat = 0 ∧ spilled.me.vspill.toNat = 0x40000 ∧
    PlainBytes (vec1 10) 0x40000 64 ∧ PlainBytes spilled 0x40000 (64 + 8 * (1 * 8 * 64) + 16 * ((16 * 1 * 8 + 511) / 512 * 64)) := by
  repeat' with_reducible apply And.intro
  all_goals first | decide +kernel | exact runs_of (by decide +kernel) | exact plain_of rfl rfl rfl rfl rfl rfl rfl (by decide +kernel)

/-! ### EXIT -/

/-- One of two threads of a crew; the only thread of its crew, whose launch stands. -/
def lastOne : State := { crewed with launches := [(launchKey 0 0, { record := 0, placed := 1 })] }

theorem witness_exit : (pair_ (thread .user)).me.pend = [] ∧ (pair_ (thread .user)).me.crew = some 7 ∧
    (∃ x, (pair_ (thread .user)).crewOf 7 = some x ∧ ∃ i ∈ x.live, i ≠ (pair_ (thread .user)).me.tidx) ∧
    lastOne.me.pend = [] ∧ lastOne.me.crew = some 7 ∧
    ∃ x, lastOne.crewOf 7 = some x ∧ (∀ i ∈ x.live, i = lastOne.me.tidx) ∧
      (launchKey x.fn x.lid, { record := 0, placed := 1 }) ∈ lastOne.launches := by
  repeat' with_reducible apply And.intro
  on_goal 3 => exact ⟨_, rfl, 1, by decide +kernel, by decide +kernel⟩
  on_goal 5 => exact ⟨_, rfl, by decide +kernel, by decide +kernel⟩
  all_goals decide +kernel

/-! ### Task queues -/

/-- Function 0 owns every queue and counter of C-die 0; a firmware thread with the given registers. -/
def owner (rs : List (Nat × Word)) (qs : List (Nat × Queue)) (m : List (Nat × Byte)) : State :=
  let s := mapped { thread .firmware with regs := rs }
  let x := s.fnOf 0
  let s := s.setFn 0 { x with assigned := [(0, { q0 := 0, qn := 256, c0 := 0, cn := 4096 })] }
  let s := s.setDie 0 { s.die 0 with queues := qs }
  { s with mem := m ++ s.mem }

def openQ : Queue := { isOpen := true }

/-- A descriptor at 0x10000: ring base 0, 2^12 bytes, no tiles. -/
def opener (act : Nat) (q : Queue) : State :=
  owner [(1, 0x10000), (2, BitVec.ofNat 64 (2 ^ 63 + act * 2 ^ 60 + 255))] [(255, q)] [(0x10008, 12)]

theorem witness_queue_open : Quiet (opener 0 openQ) ∧ (opener 0 openQ).rp 1 = false ∧ (opener 0 openQ).rp 2 = false ∧
    (opener 0 openQ).me.level = .firmware ∧ NamesQueue (opener 0 openQ) (((opener 0 openQ).rv 2).toNat % 2048) 0 255 ∧
    ((opener 0 openQ).rv 2).toNat = 2 ^ 63 + 0 * 2 ^ 60 + ((opener 0 openQ).rv 2).toNat % 2048 ∧
    PlainBytes (opener 0 openQ) 0x10000 64 ∧ goodDescriptor false (storedWords (opener 0 openQ) 0x10000 8) = true ∧
    ((opener 0 openQ).queue 0 255).isOpen = true ∧ ((opener 0 {}).queue 0 255).isOpen = false := by decide +kernel

theorem witness_queue_actions : Quiet (opener 3 openQ) ∧
    ((opener 1 openQ).rv 2).toNat = 2 ^ 63 + 1 * 2 ^ 60 + ((opener 1 openQ).rv 2).toNat % 2048 ∧
    ((opener 2 openQ).rv 2).toNat = 2 ^ 63 + 2 * 2 ^ 60 + ((opener 2 openQ).rv 2).toNat % 2048 ∧
    ((opener 3 openQ).rv 2).toNat = 2 ^ 63 + 3 * 2 ^ 60 + ((opener 3 openQ).rv 2).toNat % 2048 ∧
    NamesQueue (opener 1 openQ) (((opener 1 openQ).rv 2).toNat % 2048) 0 255 ∧
    NamesQueue (opener 3 openQ) (((opener 3 openQ).rv 2).toNat % 2048) 0 255 := by decide +kernel

/-- A tile queue with one record in its ring at 0x50000. -/
def ringQ : Queue := { isOpen := true, tile := true, ring := true, rbase := 0x50000, rlog2 := 12, used := 32 }
def ringed : State := opener 0 ringQ

theorem witness_refill : (ringed.queue 0 255).chip.length < 64 ∧ 0 < (ringed.queue 0 255).used ∧
    (ringed.queue 0 255).stopped = false ∧ (ringed.queue 0 255).isOpen = true ∧ (ringed.queue 0 255).tile = true ∧
    gave (ringed.ringRead (256 * 0 + 255) (ringed.queue 0 255).head 1) [(0, false)] = true ∧
    gave ((ringed.ringRead 255 0 1).1.ringRead (256 * 0 + 255) (ringed.queue 0 255).head 4)
      [(0, false), (0, false), (0, false), (0, false)] = true ∧
    ((ringed.ringRead 255 0 1).1.ringRead 255 0 4).1.queue 0 255 = ringed.queue 0 255 ∧
    (ringed.ringRead 255 0 1).1.queue 0 255 = ringed.queue 0 255 := by decide +kernel

/-- A task header with fields 0 and 15 at 0x10000, and a tile record of one row there. -/
def pusher (q : Queue) (m : List (Nat × Byte)) : State := owner [(1, 0x10000), (2, 255)] [(255, q)] m

theorem witness_push : let s := pusher openQ [(0x10000, 1), (0x10001, 0x80)]
    Quiet s ∧ NamesQueue s (s.rv 2).toNat 0 255 ∧ PlainBytes s 0x10000 136 ∧ (s.rv 1).toNat % 8 = 0 ∧
    leNat (storedBytes s 0x10000 8) = 0x8001 ∧ 0x8001 / 2 ^ 45 = 0 ∧ (0x8001 : Nat).testBit 16 = false ∧
    (0x8001 : Nat).testBit 29 = false ∧ (s.queue 0 255).tile = false ∧ (s.queue 0 255).isOpen = true ∧
    (s.queue 0 255).stopped = false ∧ (s.queue 0 255).chip.length < 64 ∧ (s.queue 0 255).used = 0 ∧
    ((pusher {} []).queue 0 255).isOpen = false := by
  intro s
  decide +kernel

theorem witness_tile_push : let s := pusher { openQ with tile := true } [(0x10002, 1)]
    Quiet s ∧ NamesQueue s (s.rv 2).toNat 0 255 ∧ PlainBytes s 0x10000 136 ∧ (s.rv 1).toNat % 32 = 0 ∧
    goodTile (storedWords s 0x10000 4) = true ∧ leNat (storedBytes s (0x10000 + 24) 8) / 2 ^ 15 % 2 = 0 ∧
    (s.queue 0 255).tile = true ∧ leNat (storedBytes s 0x10000 8) / 2 ^ 16 % 2 ^ 24 ≠ 0 := by
  intro s
  decide +kernel

theorem witness_dispatch : let s := pusher { openQ with waiters := [(0, 0)], chip := [{ words := [(1, false), (7, false)] }] } []
    (s.die 0).state = .present ∧ (s.queue 0 255).isOpen = true ∧ (∀ p ∈ (s.queue 0 255).parked, p.ready = false) ∧
    s.waiterOf (s.queue 0 255) = some (0, 0) ∧ (s.queue 0 255).stopped = false ∧ (s.queue 0 255).tile = false ∧
    0 = (s.ctx 0).handlers.length ∧ (s.queue 0 255).chip = { words := [(1, false), (7, false)] } :: [] ∧
    (1#64).toNat.testBit 16 = false := by
  intro s
  decide +kernel

/-- A thread that waits on queue 255 within a bound; one that was handed a task; one that runs a task that signals
counter 4095 of die 0. -/
def waiting (h : Option (TaskHold × List (Word × Bool))) : State :=
  let s := pusher openQ []
  s.setMe { s.me with wait := some (.tget 255 9), handed := h, regs := [(1, 255), (2, 0x10000)] }

def item (n : Nat) : TaskHold := { queue := 255, header := BitVec.ofNat 64 n }

theorem witness_get : (waiting none).me.reissue = none ∧ (waiting none).me.wait = some (.tget 255 9) ∧
    (waiting none).me.pend = [] ∧ (waiting none).me.handed = none ∧ (9 : Nat) ≠ 0 ∧ (waiting none).me.live = true ∧
    (waiting (some (item 0, List.replicate 17 (5, false)))).me.handed = some (item 0, List.replicate 17 (5, false)) ∧
    (item 0).queue = 255 ∧ (∀ w ∈ List.replicate 17 ((5 : Word), false), w.2 = false) ∧
    PlainBytes (waiting (some (item 0, List.replicate 17 (5, false)))) 0x10000 (8 * 17) := by
  repeat' with_reducible apply And.intro
  on_goal 9 => exact fun w h => by rw [List.eq_of_mem_replicate h]
  all_goals decide +kernel

def doing (n : Nat) : State :=
  let s := pusher openQ []
  s.setMe { s.me with task := some (item n) }

theorem witness_done : Quiet (doing 0) ∧ (doing 0).me.task = some (item 0) ∧ (item 0).tile = none ∧
    (item 0).header.toNat.testBit 29 = false ∧ Quiet (doing (2 ^ 29 + 4095 * 2 ^ 30)) ∧
    (item (2 ^ 29 + 4095 * 2 ^ 30)).header.toNat.testBit 29 = true ∧
    (doing (2 ^ 29 + 4095 * 2 ^ 30)).dieById 0 ((item (2 ^ 29 + 4095 * 2 ^ 30)).header.toNat / 2 ^ 42 % 8) = some 0 ∧
    (doing 0).reaches 0 0 0 = true ∧ (doing 0).wayHeld 0 = false := by decide +kernel

/-- The last counter of die 0, read, added to and set. -/
def counting (act : Nat) : State := owner [(1, 5), (2, BitVec.ofNat 64 (4095 + act * 2 ^ 16))] [] []

theorem witness_counters : ∀ act, act = 0 ∨ act = 1 ∨ act = 2 → Quiet (counting act) ∧ (counting act).rp 1 = false ∧
    (counting act).rp 2 = false ∧ (counting act).dieById 0 (((counting act).rv 2).toNat / 4096 % 8) = some 0 ∧
    ((counting act).rv 2).toNat % 4096 = 4095 ∧ (counting act).ownsCounter 0 0 4095 = true ∧
    (counting act).reaches 0 0 0 = true ∧ (counting act).wayHeld 0 = false ∧ ((counting act).rv 2).toNat / 2 ^ 15 = 2 * act := by
  rintro act (rfl | rfl | rfl) <;> decide +kernel

/-! ### Experts -/

/-- A table at 0x10000 of two experts, rows of 64 bytes, a drop list of one at 0x14000; the routes at 0x11000 name
experts 0 and 1; the source is at 0x12000. `n0`, `n1` and `nd` are the counts so far. -/
def experts (n0 n1 nd : Byte) : State :=
  owner [(1, 0x12000), (2, 0x10000), (3, 0x11000)] []
    [(0x10000, 2), (0x10004, 64), (0x10009, 0x40), (0x1000A, 1), (0x10010, 1), (0x10014, nd),
     (0x10042, 2), (0x1004A, 3), (0x10050, 1), (0x10054, n0), (0x10062, 4), (0x1006A, 5), (0x10070, 1), (0x10074, n1),
     (0x11004, 1), (0x1100A, 1)]

def routed (s : State) (r : Nat) : Nat := 0x10000 + 64 + 32 * leNat (storedBytes s (0x11000 + 8 + 2 * r) 2)

/-- The first choice has room; only the second has; neither has, with and without room on the drop list. -/
theorem witness_dispatch_table : Quiet (experts 0 0 0) ∧ (experts 0 0 0).rp 1 = false ∧ (experts 0 0 0).rp 2 = false ∧
    (experts 0 0 0).rp 3 = false ∧ ((experts 0 0 0).rv 2).toNat % 64 = 0 ∧ ((experts 0 0 0).rv 3).toNat % 64 = 0 ∧
    PlainBytes (experts 0 0 0) 0x10000 64 ∧ PlainBytes (experts 0 0 0) 0x11000 64 ∧
    PlainBytes (experts 0 0 0) 0x12000 (leNat (storedBytes (experts 0 0 0) 0x10004 4)) ∧
    goodTable (storedWords (experts 0 0 0) 0x10000 8) = true ∧ goodRoute (storedWords (experts 0 0 0) 0x11000 8) = true ∧
    leNat (storedBytes (experts 0 0 0) 0x11004 1) = 1 := by
  and_intros <;> decide +kernel

theorem witness_dispatch_rows :
    (∀ r ≤ 1, leNat (storedBytes (experts 0 0 0) (0x11000 + 8 + 2 * r) 2) < leNat (storedBytes (experts 0 0 0) 0x10000 4) ∧
      PlainBytes (experts 0 0 0) (routed (experts 0 0 0) r) 32 ∧
      goodEntry (storedWords (experts 0 0 0) (routed (experts 0 0 0) r) 4) = true) ∧
    (∀ q < 0, leNat (storedBytes (experts 0 0 0) (routed (experts 0 0 0) q + 16) 4) ≤
      leNat (storedBytes (experts 0 0 0) (routed (experts 0 0 0) q + 20) 4)) ∧
    leNat (storedBytes (experts 0 0 0) (routed (experts 0 0 0) 0 + 20) 4) <
      leNat (storedBytes (experts 0 0 0) (routed (experts 0 0 0) 0 + 16) 4) ∧
    PlainBytes (experts 0 0 0) (leNat (storedBytes (experts 0 0 0) (routed (experts 0 0 0) 0) 8) + 64 * 0) 64 ∧
    PlainBytes (experts 0 0 0) (leNat (storedBytes (experts 0 0 0) (routed (experts 0 0 0) 0 + 8) 8) + 16 * 0) 16 := by
  repeat' with_reducible apply And.intro
  all_goals decide +kernel

theorem witness_dispatch_full :
    (∀ q < 1, leNat (storedBytes (experts 1 0 0) (routed (experts 1 0 0) q + 16) 4) ≤
      leNat (storedBytes (experts 1 0 0) (routed (experts 1 0 0) q + 20) 4)) ∧
    leNat (storedBytes (experts 1 0 0) (routed (experts 1 0 0) 1 + 20) 4) <
      leNat (storedBytes (experts 1 0 0) (routed (experts 1 0 0) 1 + 16) 4) ∧
    (∀ r ≤ 1, leNat (storedBytes (experts 1 1 0) (routed (experts 1 1 0) r + 16) 4) ≤
      leNat (storedBytes (experts 1 1 0) (routed (experts 1 1 0) r + 20) 4)) ∧
    leNat (storedBytes (experts 1 1 0) 0x10014 4) < leNat (storedBytes (experts 1 1 0) 0x10010 4) ∧
    PlainBytes (experts 1 1 0) (leNat (storedBytes (experts 1 1 0) 0x10008 8) + 16 * 0) 16 ∧
    ¬leNat (storedBytes (experts 1 1 1) 0x10014 4) < leNat (storedBytes (experts 1 1 1) 0x10010 4) := by decide +kernel

/-- XCOMB of expert 0, whose one tag at 0x30000 names token 0, slot 0; the output is at 0x60000, two slots a token. -/
def combining (x : Word) : State :=
  owner [(1, x), (2, 0x10000), (3, 0x11000)] []
    [(0x10000, 2), (0x10004, 64), (0x1000A, 7), (0x10010, 1), (0x10014, 1), (0x10042, 2), (0x1004A, 3), (0x10050, 1), (0x10054, 1),
     (0x11002, 6), (0x11008, 2)]

theorem witness_combine : let s := combining 0
    Quiet s ∧ s.rp 1 = false ∧ s.rp 2 = false ∧ s.rp 3 = false ∧ PlainBytes s 0x10000 64 ∧ PlainBytes s 0x11000 32 ∧
    goodTable (storedWords s 0x10000 8) = true ∧ goodCombine (storedWords s 0x11000 4) = true ∧ (s.rv 1).toNat = 0 ∧
    0 < leNat (storedBytes s 0x10000 4) ∧ PlainBytes s 0x10040 32 ∧
    min (leNat (storedBytes s 0x10050 4)) (leNat (storedBytes s 0x10054 4)) = 1 ∧ PlainBytes s 0x30000 16 ∧
    leNat (storedBytes s 0x30008 1) < leNat (storedBytes s 0x11008 1) ∧ PlainBytes s 0x60000 64 ∧
    PlainBytes s 0x20000 64 := by
  intro s
  and_intros <;> decide +kernel

theorem witness_combine_drop : ((combining 0xFFFFFFFF).rv 1).toNat = 0xFFFFFFFF ∧ Quiet (combining 0xFFFFFFFF) ∧
    min (leNat (storedBytes (combining 0xFFFFFFFF) 0x10010 4)) (leNat (storedBytes (combining 0xFFFFFFFF) 0x10014 4)) = 1 ∧
    leNat (storedBytes (combining 0xFFFFFFFF) 0x10008 8) = 0x70000 ∧ PlainBytes (combining 0xFFFFFFFF) 0x70000 16 ∧
    PlainBytes (combining 0xFFFFFFFF) 0x60000 64 := by decide +kernel

/-! ### Directories and censuses -/

/-- A firmware thread of crew 7, whose region holds a granule on cores 0 and 1, where channel 5 is bound to it and to
another thread of the crew. -/
def rolls (rs : List (Nat × Word)) (dir : List (Nat × DirSlot)) (m : List (Nat × Byte)) : State :=
  let s := owner rs [] m
  let k : Crew := { fn := 0, lid := 0, cidx := 0, cluster := 0, threads := [0, 4], cores := [0, 1], granules := 1 }
  let c : Core := { roles := [(0, .scratch 7 0)], chans := [(5, { binding := 0x4000000000000000 })] }
  { s with ctxs := [(0, { s.me with crew := some 7 }), (4, { thread .user with crew := some 7 })], crews := [(7, k)],
           cores := [(0, { c with dir := dir }), (1, c)] }

/-- An entry of the first 64 bytes of the region, whose responder is channel 5. -/
def entry2 : DirSlot := { state := .valid, word2 := BitVec.ofNat 64 (64 * 2 ^ 20 + 5 * 2 ^ 40), crew := 7 }

/-- DREG of the descriptor at 0x10000. -/
def registering (dir : List (Nat × DirSlot)) : State :=
  rolls [(1, 0x10000)] dir [(0x10013, 4), (0x10015, 5)]

/-- A free slot 1 beside a used slot 0; every slot in use. -/
theorem witness_dreg : Quiet (registering [(0, entry2)]) ∧ (registering [(0, entry2)]).rp 1 = false ∧
    (registering [(0, entry2)]).me.level = .firmware ∧ ((registering [(0, entry2)]).rv 1).toNat % 32 = 0 ∧
    PlainBytes (registering [(0, entry2)]) 0x10000 32 ∧
    goodEntryDesc (storedWords (registering [(0, entry2)]) 0x10000 4) = true ∧
    (registering [(0, entry2)]).ownChannelCrew
      ((((storedWords (registering [(0, entry2)]) 0x10000 4)[2]?).getD 0).toNat / 2 ^ 40 % 64) = some 7 ∧
    ((registering [(0, entry2)]).crewOf 7).isSome = true ∧ ((registering [(0, entry2)]).core 0).hasRegion 7 = true ∧
    ((((storedWords (registering [(0, entry2)]) 0x10000 4)[2]?).getD 0).toNat % 2 ^ 20 +
      (((storedWords (registering [(0, entry2)]) 0x10000 4)[2]?).getD 0).toNat / 2 ^ 20 % 2 ^ 20 ≤ 16384 * 1) ∧
    ((registering [(0, entry2)]).slot 0 1).state = .free ∧
    (∀ j, j < 1 → ((registering [(0, entry2)]).slot 0 j).state ≠ .free) := by decide +kernel

theorem witness_dreg_full :
    ∀ i, i < 64 → ((registering ((List.range 64).map fun i => (i, entry2))).slot 0 i).state ≠ .free := by decide +kernel

/-- Slot 2 is an entry, slot 3 free, slot 4 a stub that waits for census 9, which has visited the core. -/
def slots : List (Nat × DirSlot) := [(2, entry2), (4, { state := .stub 66 0 [9] })]

theorem witness_ddel : (2#64).toNat < 64 ∧ ((rolls [] slots []).slot 0 2).state = .valid ∧
    ((rolls [] slots []).slot 0 3).state = .free ∧ ((rolls [] slots []).slot 0 4).state = .stub 66 0 [9] := by
  decide +kernel

/-- DMOVE of slot 2 to channel 5 of core 1, at offset 0. -/
def moving : State := rolls [(1, 2), (2, 69)] slots []

theorem witness_dmove : Quiet moving ∧ moving.rp 1 = false ∧ moving.rp 2 = false ∧ moving.me.level = .firmware ∧
    (moving.rv 1).toNat < 64 ∧ goodMove (moving.rv 2) = true ∧ (moving.slot 0 2).state = .valid ∧
    moving.coreById moving.me.fn ((moving.rv 2).toNat / 64 % 2048) = some 1 ∧
    moving.reaches moving.me.fn (dieOf moving.cur) (1 / 256) = true ∧ moving.wayHeld (1 / 256) = false ∧
    moving.routeHeld (dieOf moving.cur) (1 / 256) = false ∧ 1 ≠ coreOf moving.cur ∧
    (moving.regionOfChan 1 ((moving.rv 2).toNat % 64)).map (·.1) = some 7 ∧
    (moving.regionOfChan 1 ((moving.rv 2).toNat % 64)).map (·.2.granules) = some 1 ∧
    (moving.rv 2).toNat / 2 ^ 24 % 2 ^ 20 = 0 ∧ (moving.slot 0 2).word2.toNat / 2 ^ 20 % 2 ^ 20 = 64 ∧
    (moving.slot 1 0).state = .free ∧ moving.me.live = true ∧ (∀ p ∈ moving.moves, p.1 ≠ moving.serial) ∧
    (moving.slot 0 2).word2.toNat % 64 = 0 := by decide +kernel

theorem witness_dmove_apart : ∀ o p, o < 64 → moving.regionLoc 1 7 (0 + o) = some p →
    ∀ h, h < 64 → moving.regionLoc 0 7 (0 + h) ≠ some p ∧ (moving.regionLoc 1 7 (0 + h) = some p → h = o) := by
  have key : ∀ o < 64, ∀ h < 64, moving.regionLoc 0 7 (0 + h) ≠ moving.regionLoc 1 7 (0 + o) ∧
      (moving.regionLoc 1 7 (0 + h) = moving.regionLoc 1 7 (0 + o) → h = o) := by decide +kernel
  intro o p ho hp h hh
  rw [← hp]
  exact key o ho h hh

/-- A stub whose one census has passed. -/
def stubbed : State :=
  let s := rolls [] slots []
  s.setCore 0 { s.core 0 with seen := [9] }

theorem witness_stub : Quiet stubbed ∧ (stubbed.slot 0 4).state = .stub 66 0 [9] ∧
    (∀ k ∈ [9], k ∈ (stubbed.core 0).seen) := by decide +kernel

/-- A firmware thread on C-die 0 with censuses there; SOLICIT reads its descriptor, all zeros, at 0x10000. -/
def asking (b : Word) (cs : List (Nat × Census)) : State :=
  let s := rolls [(1, 0x10000), (2, b), (3, 2 ^ 32)] slots []
  { s.setDie 0 { s.die 0 with censuses := cs } with
    forwards := [(3, { census := 0, dest := 2, gen := 0 }), (4, { census := 0, dest := 2, gen := 1 })] }

/-- A census of this thread in progress, with these cores to visit and entries counted. -/
def running (v : List Nat) (fs : Nat) (es : List Counted) : Census :=
  { owner := 0, fn := 0, key := 0, mask := 0, arg := 0, nep := 0, notify := false, op := 0, scope := [0], toVisit := v,
    forwards := fs, counted := es }

theorem witness_solicit : Quiet (asking 0 []) ∧ (asking 0 []).rp 1 = false ∧ (asking 0 []).rp 2 = false ∧
    (asking 0 []).me.level = .firmware ∧ ((asking 0 []).rv 1).toNat % 32 = 0 ∧ PlainBytes (asking 0 []) 0x10000 32 ∧
    (asking 0 []).goodSolicit (storedWords (asking 0 []) 0x10000 4) = true ∧
    (asking 0 [(0, running [] 0 [])]).census (256 * 0 + 1) = none ∧
    (∀ j, j < 1 → (asking 0 [(0, running [] 0 [])]).census (256 * 0 + j) ≠ none) := by decide +kernel

theorem witness_solicit_full : ∀ i, i < 256 →
    (asking 0 ((List.range 256).map fun i => (i, running [] 0 []))).census (256 * 0 + i) ≠ none := by decide +kernel

/-- A visit of core 0; forwards to slot 2, one with its generation and one with another; a census with all answered. -/
theorem witness_visit : let s := asking 0 [(0, running [0] 2 [])]
    Quiet s ∧ (s.die 0).state = .present ∧ s.census (256 * 0 + 0) = some (running [0] 2 []) ∧
    (running [0] 2 []).done = false ∧ 0 ∈ (running [0] 2 []).toVisit ∧
    (∀ p ∈ s.forwards, p = (3, { census := 0, dest := 2, gen := 0 }) ∨ p.1 ≠ 3) ∧
    (∀ p ∈ s.forwards, p = (4, { census := 0, dest := 2, gen := 1 }) ∨ p.1 ≠ 4) ∧
    (s.slotAt 2).gen = 0 ∧ (s.slotAt 2).state = .valid ∧ ¬0 ∈ (s.slotAt 2).mset ∧ 2 / 64 / 256 = 0 ∧
    (running [] 0 [{ core := 0, slot := 2, null := true }]).toVisit = [] ∧
    (∀ e ∈ (running [] 0 [{ core := 0, slot := 2, null := true }]).counted, e.answer.isSome = true ∨ e.null = true) := by
  intro s
  decide +kernel

/-- REPLY for slot 2 of core 0, of a census in progress and of one that is done. -/
def replied (done : Bool) : State :=
  asking (BitVec.ofNat 64 (2 * 2 ^ 32)) [(0, { running [] 0 [{ core := 0, slot := 2 }] with done := done })]

theorem witness_reply : Quiet (replied false) ∧
    (replied false).coreById 0 (((replied false).rv 2).toNat / 2 ^ 38 % 2048) = some (coreOf (replied false).cur) ∧
    (replied false).dieById 0 (((replied false).rv 2).toNat / 2 ^ 16 % 8) = some 0 ∧
    ((replied false).rv 2).toNat % 256 = 0 ∧ ((replied false).rv 2).toNat / 2 ^ 32 % 64 = 2 ∧
    (((replied false).census 0).map fun c => (c.done, c.fn, c.counted)) = some (false, 0, [] ++ { core := 0, slot := 2 } :: []) ∧
    (((replied true).census 0).map fun c => (c.done, c.fn)) = some (true, 0) ∧
    aget 0 ((replied false).die 0).generations 0 = ((replied false).rv 2).toNat / 2 ^ 20 % 4096 ∧
    (replied false).wayHeld 0 = false := by decide +kernel

/-- A census that has not counted slot 2 yet; one that was answered early; one that was answered. -/
theorem witness_reply_early : let k := fun es xs => asking (BitVec.ofNat 64 (2 * 2 ^ 32)) [(0, { running [] 0 es with early := xs })]
    let x : Counted := { core := 0, slot := 2, answer := some (0, false) }
    (((k [] []).census 0).map fun c => (c.done, c.early, c.counted)) = some (false, [], []) ∧
    (((k [] [x]).census 0).map fun c => (c.done, c.early)) = some (false, [x]) ∧
    (((k [x] []).census 0).map fun c => (c.done, c.counted)) = some (false, [x]) ∧ x.core = coreOf 0 ∧
    x.answer.isSome = true := by
  intro k x
  decide +kernel

/-- CWAIT and CRES by s3, which holds the handle; the selector or bound stands in s2. -/
def ending (b : Word) (done : Bool) : State := asking b [(0, { running [] 0 [] with done := done })]

theorem witness_census_end : Quiet (ending 1 true) ∧ (ending 1 true).rp 3 = false ∧ (ending 1 true).rp 2 = false ∧
    (ending 1 true).rv 2 = 1 ∧ (ending 0 true).rv 2 = 0 ∧ (ending 2 true).rv 2 = 2 ∧ (ending 3 true).rv 2 = 3 ∧
    (ending 1 true).dieById 0 ((ending 1 true).idOfDie 0 0) = some 0 ∧ (ending 1 true).idOfDie 0 0 < 8 ∧
    aget 0 ((ending 1 true).die 0).generations 0 < 4096 ∧
    (ending 1 true).rv 3 = BitVec.ofNat 64
      (2 ^ 32 + aget 0 ((ending 1 true).die 0).generations 0 * 2 ^ 20 + (ending 1 true).idOfDie 0 0 * 2 ^ 16 + 0) ∧
    (((ending 1 true).census (256 * 0 + 0)).map fun c => (c.owner, c.done, c.poisoned)) = some ((ending 1 true).cur, true, false) ∧
    (((ending 1 false).census (256 * 0 + 0)).map fun c => (c.owner, c.done)) = some ((ending 1 true).cur, false) ∧
    (ending 1 false).me.live = true := by
  decide +kernel

/-! ### Translations, errors, poison -/

/-- No context of a listed state has an access pending. -/
theorem no_pend {m : List (Nat × Ctx)} (h : ∀ p ∈ m, p.2.pend = []) (g : Nat) : (aget {} m g).pend = [] := by
  induction m with
  | nil => rfl
  | cons p m ih =>
    obtain ⟨k, v⟩ := p
    simp only [aget]
    split
    · exact h (k, v) (by simp)
    · exact ih fun q hq => h q (by simp [hq])

/-- TLBINV's action word in s2, for a supervisor and for firmware. -/
def flushing (l : Level) (w : Word) : State := mapped { thread l with regs := [(1, 0x200000), (2, w)] }

theorem witness_tlbinv : (∀ g, ((flushing .supervisor 0).ctx g).pend = []) ∧
    Quiet (flushing .supervisor 0) ∧ (flushing .supervisor 0).rp 1 = false ∧ (flushing .supervisor 0).rp 2 = false ∧
    (flushing .supervisor 0).puts = [] ∧ (flushing .supervisor 0).me.level ≠ .user ∧
    (flushing .supervisor 1).rv 2 = 1 ∧ (flushing .firmware 4).rv 2 = 4 ∧ badTlbArg .supervisor 0x200000 0 = false ∧
    badTlbArg .supervisor 0x200000 1 = false ∧ badTlbArg .supervisor 0x200000 2 = false ∧
    badTlbArg .firmware 0x200000 3 = false ∧ badTlbArg .firmware 0x200000 4 = false :=
  ⟨no_pend (by decide +kernel), by decide +kernel⟩

/-- A page that the tables give, and one that they do not. -/
theorem witness_page_walk : let s := mapped (thread .user)
    let u := { s with viewer := some (dieOf 0) }
    (s.ctx 0).live = true ∧ (s.ctx 0).level ≠ .firmware ∧ canonical 0x30000 = true ∧ canonical (2 ^ 40) = true ∧
    inWindow 0x30000 = false ∧ inWindow (2 ^ 40) = false ∧ s.viewer = none ∧
    (∀ e ∈ s.tlb, e.covers (s.ctx 0).fn 0x30000 = false) ∧
    (u.walk (s.ctx 0).fn (s.ctx 0).level .load 0x30000).toOption.isSome = true ∧
    (u.walk (s.ctx 0).fn (s.ctx 0).level .load (2 ^ 40)).toOption.isSome = false := by
  intro s u
  decide +kernel

theorem witness_page_walk_entries : let s := { mapped (thread .user) with lineKey := [(0x4000, some (0, 1)), (0x8800, some (0, 1))] }
    let u := { s with viewer := some (dieOf 0) }
    ((u.walk (s.ctx 0).fn (s.ctx 0).level .load 0x30000).toOption.map fun x =>
      (x.leaf1 :: x.leaf2 :: x.used).all fun l => decide (l.entry < deviceEnd ∧ l.entry % 8 = 0 ∧
        u.homeAbsent l.entry = false ∧ aget noKey s.lineKey (l.entry / 64) = l.ekey ∧
        aget noKey s.tags (l.entry / 64) = noKey)) = some true := by
  intro s u
  decide +kernel

/-- ERRQ by a firmware thread; s2 holds the action, s1 its operand. -/
def noticing (rs : List (Nat × Word)) (q : List (BitVec 512)) : State :=
  let s := one { thread .firmware with regs := rs }
  s.setDie 0 { s.die 0 with errors := [(65, { records := q, lost := 3 })] }

theorem witness_errq : Quiet (noticing [(1, 0x10000)] []) ∧ (noticing [(1, 0x10000)] []).me.level ≠ .user ∧
    (noticing [(1, 0x10000)] []).rv 2 = 0 ∧ ((noticing [(1, 0x10000)] []).rv 1).toNat % 64 = 0 ∧
    (aget {} ((noticing [(1, 0x10000)] []).die 0).errors 65).records = [] ∧
    (aget {} ((noticing [(1, 0x10000)] []).die 0).errors 65).lost < 65536 ∧
    (aget {} ((noticing [(1, 0x10000)] [5, 6]).die 0).errors 65).records = 5 :: [6] ∧
    PlainBytes (noticing [(1, 0x10000)] [5, 6]) 0x10000 64 ∧
    (noticing [(1, 2 ^ 18 + 5), (2, 1)] []).rv 2 = 1 ∧ ((noticing [(1, 2 ^ 18 + 5), (2, 1)] []).rv 1).toNat < 2 ^ 19 := by
  decide +kernel

theorem witness_chkerr : Quiet us ∧ (us.rv 5).toNat < 2 ∧ us.rv 5 = 1 ∧ (us.rv 6).toNat < 2 ∧ us.rp 5 = false := by
  decide +kernel

theorem witness_poison : Quiet fw ∧ fw.rv 6 = 0 ∧ fw.rv 5 = 1 ∧ fw.me.level = .firmware ∧ (fw.rv 1).toNat + 8 ≤ deviceEnd ∧
    fw.homeAbsent ((fw.rv 1).toNat / 64 * 64) = false ∧ aget noKey fw.lineKey ((fw.rv 1).toNat / 64) = noKey ∧
    (∀ g, (fw.ctx g).pend = []) ∧ fw.puts = [] := by
  repeat' with_reducible apply And.intro
  all_goals first | decide +kernel | exact no_pend (by decide +kernel)

theorem witness_poison_ways : (∀ i, i < 8 → fw.heldAt ((fw.rv 1).toNat + i) = false) := by decide +kernel

/-! ### Events: messages, waits, deliveries, launches -/

/-- A message to channel 5 of core 0, from the thread of context 4 or from a device. -/
def toChannel (device retry : Bool) : Wire :=
  { src := 64, sender := if device then none else some 4, fn := 0, dest := 5, cls := 2, kind := 0, payload := 7,
    device := device, retry := retry }

/-- A message of serial number 3 on its way, with `n` messages in the FIFO. -/
def wired (w : Wire) (n : Nat) : State :=
  let s := rolls [] [] []
  let x : Channel := { binding := 0x4000000000000000, fifo := List.replicate n { payload := 0, tag := 0 } }
  { s.setChan 0 5 x with wires := [(3, w)], hostLinks := [(0, true)] }

theorem witness_message : ∀ device ∈ [true, false], ∀ n ∈ [0, 7, 8], (wired (toChannel device false) n).wireAt 3 = some (toChannel device false) ∧
    (wired (toChannel device false) n).target 0 5 = .core 0 5 ∧
    (wired (toChannel device false) n).reaches 0 ((wired (toChannel device false) n).wireDie (toChannel device false)) (0 / 256) = true ∧
    (wired (toChannel device false) n).routeHeld ((wired (toChannel device false) n).wireDie (toChannel device false)) (0 / 256) = false ∧
    ((wired (toChannel device false) n).chan 0 5).held = false ∧ ((wired (toChannel device false) n).chan 0 5).fifo.length = n ∧
    (toChannel device false).waits = false ∧ (toChannel device false).refused = none ∧
    (wired (toChannel device false) n).strays 0 (toChannel device false).sender (0 / 16) = false ∧
    (wired (toChannel device false) n).messageWaits 3 (toChannel device false) = false := by decide +kernel

/-- A message whose sender's cluster is none of the function's. -/
theorem witness_message_stray : let w := { toChannel false false with sender := some 64 }
    (wired w 0).wireAt 3 = some w ∧ (wired w 0).target 0 5 = .core 0 5 ∧ (wired w 0).strays 0 (some 64) (0 / 16) = true ∧
    (wired w 0).reaches 0 ((wired w 0).wireDie w) (0 / 256) = true ∧ (wired w 0).messageWaits 3 w = false ∧
    (wired w 0).routeHeld ((wired w 0).wireDie w) (0 / 256) = false := by
  intro w
  decide +kernel

theorem witness_message_retry : (wired (toChannel true true) 8).wireAt 3 = some (toChannel true true) ∧
    (toChannel true true).retry = true ∧ (toChannel true true).device = true ∧
    (wired (toChannel true true) 8).messageWaits 3 (toChannel true true) = false := by decide +kernel

/-- A message to host interrupt endpoint 3: bit 17, unit 0x83; one that was refused with FULL. -/
def toHost3 : Wire := { toChannel true false with dest := 2 ^ 17 + 0x83 * 64 }
def refusedOne : Wire := { toChannel false false with refused := some 1 }

theorem witness_host_message : (wired toHost3 0).wireAt 3 = some toHost3 ∧ (wired toHost3 0).target 0 toHost3.dest = .host 3 ∧
    (wired toHost3 0).hostUp 0 = true ∧ toHost3.waits = false ∧ toHost3.refused = none ∧ toHost3.retry = false ∧
    (wired toHost3 0).messageWaits 3 toHost3 = false ∧ ((wired toHost3 0).fnOf 0).nbase.toNat % 4096 = 0 := by decide +kernel

theorem witness_bounce : (wired refusedOne 0).wireAt 3 = some refusedOne ∧ refusedOne.refused = some 1 ∧
    refusedOne.sender = some 4 ∧ ((wired refusedOne 0).die (dieOf 4)).state = .present ∧
    ((wired refusedOne 0).chan (coreOf 4) 63).fifo.length < 8 := by decide +kernel

theorem witness_waits : (asleep.ctx 0).live = true ∧ (5 : Nat) ≠ 0 ∧
    ∀ w ∈ [Wait.waitm 3 5, Wait.bwait 0x10000 none 0 5, Wait.remoteStatus],
      (one { thread .user with wait := some w }).me.wait = some w := by decide +kernel

/-- A delivery of one granule to the region of crew 7 on core 1. -/
def putJob : PutJob :=
  { sender := 0, cls := 2, fn := 0, core := 1, crew := 7, offset := 0, bytes := List.replicate 64 9,
    poison := List.replicate 64 false }
def delivering : State := { rolls [] [] [] with puts := [(3, putJob)] }

theorem witness_delivery : delivering.putAt 3 = some putJob ∧ delivering.deliveryWaits 3 putJob = false ∧ delivering.routeHeld 0 1 = false ∧
    delivering.routeHeld (dieOf putJob.sender) (putJob.core / 256) = false ∧ putJob.barrier = .none ∧
    putJob.message = none ∧ (0 : Nat) < putJob.bytes.length ∧ (delivering.putLoc putJob 0).isSome = true ∧
    (delivering.putLoc putJob 0).map delivering.locAbsent = some false ∧
    (∀ h, h < 64 → delivering.putLoc putJob h = delivering.putLoc putJob 0 → h = 0) := by decide +kernel

/-- Function 0 with its host link up; the record `oneCrew` asks for one crew of one thread. -/
def ported : State := { mapped (thread .user) with hostLinks := [(0, true)] }

theorem witness_port : ported.hostUp 0 = true ∧ (ported.fnOf 0).resetting = false ∧ (ported.fnOf 64).resetting = false ∧
    ported.launchCheck 0 0 = 0x2C0 ∧ leNat (List.replicate 64 (0 : Byte)) = 0 ∧
    BitVec.ofNat 512 (leNat (leBytes 64 oneCrew.toNat)) = oneCrew ∧ ported.launchCheck 0 oneCrew = 0 ∧
    (ported.queueAt (launchQueue 0 (recLevel oneCrew))).stopped = false ∧
    (ported.queueAt (launchQueue 0 (recLevel oneCrew))).chip.length < 16 ∧
    (ported.queueAt (launchQueue 0 (recLevel oneCrew))).used = 0 ∧ recLevel oneCrew < 4 := by decide +kernel

/-- The record at the head of its launch queue. -/
def headed : State :=
  let e : QEntry := { words := recWords oneCrew, level := .supervisor, lid := 2 }
  let s := ported.setQueueAt (launchQueue 0 0) { isOpen := true, chip := [e] }
  { s with launches := [(launchKey 0 2, { record := oneCrew, level := .supervisor })] }

theorem witness_placement : headed.resumptions 0 = [] ∧ (∀ p, (headed.fnOf 0).part = some p → p.dies.takeWhile (· != 0) = []) ∧
    (headed.queueAt (launchQueue 0 0)).chip ≠ [] ∧ (headed.die 0).prqWork = none ∧
    headed.servedLevels 0 = [0] ∧ (headed.queueAt (launchQueue 0 0)).chip.length = 1 ∧
    (headed.launches.find? fun p => p.1 == launchKey 0 2).isSome = true ∧
    recOf (recWords oneCrew) = oneCrew ∧
    (headed.findCluster 0 0 (recThreads oneCrew) (recLaneMin oneCrew) (recGranules oneCrew)).isSome = true := by
  repeat' with_reducible apply And.intro
  on_goal 2 => rintro p h; cases h; decide +kernel
  all_goals decide +kernel

theorem witness_placement_nodup :
    headed.findCluster 0 0 (recThreads oneCrew) (recLaneMin oneCrew) (recGranules oneCrew) = some (0, [1]) ∧ [1].Nodup := by
  decide +kernel

/-- A launch whose one crew has completed, and one that asks for a message. -/
def completed (r : BitVec 512) : State :=
  { ported with launches := [(launchKey 0 2, { record := r, placed := 1, completed := 1 })] }

theorem witness_completion :
    ((completed oneCrew).launches.find? fun p => p.1 == launchKey 0 2) =
      some (launchKey 0 2, { record := oneCrew, placed := 1, completed := 1 }) ∧ 1 = recCrews oneCrew ∧
    field oneCrew 275 1 = 0 ∧ field oneCrew 274 1 = 0 ∧ recCrews (oneCrew ||| BitVec.twoPow 512 274) = 1 ∧
    field (oneCrew ||| BitVec.twoPow 512 274) 275 1 = 0 ∧ field (oneCrew ||| BitVec.twoPow 512 274) 274 1 = 1 := by
  decide +kernel

/-! ### Events: engines -/

/-- A command of opcode `opc` with these words, from a firmware thread, that wants a reply. -/
def order (opc len : Nat) (src dst aux : Word) (l : Level) : Command :=
  { word0 := BitVec.ofNat 64 (opc + 2 ^ 26 + len * 2 ^ 28), word1 := src, word2 := dst, word3 := aux, fn := 0, level := l,
    sender := 0 }

/-- Engine 1 of C-die 0 with one command in its inbox. -/
def manned (c : Command) : State :=
  let s := mapped (thread .user)
  s.setEngine ⟨0, 1⟩ { ready := true, inbox := [c], replies := [{ payload := 0, cls := 1, dest := 5, fn := 0 }] }

def eCopy : Command := order 0 64 0x10000 0x20000 0 .firmware
def eCopy2d : Command := order 1 16 0x10000 0x20000 (BitVec.ofNat 64 (64 + 2 ^ 24 * 32 + 2 ^ 48)) .firmware
def eFill : Command := order 2 24 5 0x20004 0 .firmware
def ePack : Command := order 3 513 0x10000 0x20000 7 .firmware

theorem witness_engine : ((manned eCopy).die 0).state = .present ∧ ((manned eCopy).engine ⟨0, 1⟩).next = some eCopy ∧
    ((manned eCopy).engine ⟨0, 1⟩).ready = true ∧ (manned eCopy).heldReplies ⟨0, 1⟩ < 16 ∧ (manned eCopy).viewer = none ∧
    eCopy.level = .firmware ∧ eCopy.poison = false ∧ eCopy.plain = true ∧ eCopy.opc = 0 ∧ eCopy.aux = 0 ∧
    overlaps eCopy.src eCopy.len eCopy.dst eCopy.len = false ∧
    PlainBytes { manned eCopy with viewer := some 0 } eCopy.src eCopy.len ∧
    PlainBytes { manned eCopy with viewer := some 0 } eCopy.dst eCopy.len ∧
    ((manned eCopy).engine ⟨0, 1⟩).replies ≠ [] := by decide +kernel

theorem witness_engine_rows : ((manned eCopy2d).engine ⟨0, 1⟩).next = some eCopy2d ∧ eCopy2d.plain = true ∧ eCopy2d.opc = 1 ∧
    eCopy2d.aux / 2 ^ 48 % 65536 + 1 = 2 ∧
    (∀ r < 2, PlainBytes { manned eCopy2d with viewer := some 0 }
      (eCopy2d.word1 + BitVec.ofNat 64 r * (BitVec.ofNat 24 (eCopy2d.aux / 2 ^ 24)).signExtend 64).toNat eCopy2d.len) ∧
    (∀ r < 2, PlainBytes { manned eCopy2d with viewer := some 0 }
      (eCopy2d.word2 + BitVec.ofNat 64 r * (BitVec.ofNat 24 eCopy2d.aux).signExtend 64).toNat eCopy2d.len) ∧
    (∀ r < 2, ∀ q < 2, overlaps
      (eCopy2d.word1 + BitVec.ofNat 64 r * (BitVec.ofNat 24 (eCopy2d.aux / 2 ^ 24)).signExtend 64).toNat eCopy2d.len
      (eCopy2d.word2 + BitVec.ofNat 64 q * (BitVec.ofNat 24 eCopy2d.aux).signExtend 64).toNat eCopy2d.len = false) := by
  and_intros <;> decide +kernel

theorem witness_engine_fill : ((manned eFill).engine ⟨0, 1⟩).next = some eFill ∧ eFill.opc = 2 ∧ eFill.aux = 0 ∧ eFill.plain = true ∧
    PlainBytes { manned eFill with viewer := some 0 } eFill.dst eFill.len := by decide +kernel

theorem witness_engine_pack : ((manned ePack).engine ⟨0, 1⟩).next = some ePack ∧ ePack.opc = 3 ∧ 2 ≤ ePack.aux % 8 + 1 ∧
    ePack.aux / 8 = 0 ∧ ePack.dst % 64 = 0 ∧ ePack.plain = true ∧
    overlaps ePack.src ePack.len ePack.dst ((ePack.aux % 8 + 1) * ((ePack.len + 511) / 512 * 64)) = false ∧
    PlainBytes { manned ePack with viewer := some 0 } ePack.src ePack.len ∧
    PlainBytes { manned ePack with viewer := some 0 } ePack.dst ((ePack.aux % 8 + 1) * ((ePack.len + 511) / 512 * 64)) := by
  and_intros
  on_goal 8 => apply plain_of_view
  on_goal 17 => apply plain_of_view
  all_goals decide +kernel

theorem witness_engine_other : ((manned (order 5 0 0 0 0 .user)).engine ⟨0, 1⟩).next = some (order 5 0 0 0 0 .user) ∧
    5 ≤ (order 5 0 0 0 0 .user).opc ∧ (order 4 0 0 0 0 .user).opc = 4 ∧ (order 4 0 0 0 0 .user).level = .user := by
  decide +kernel

/-- MIGRATE of the 4 KiB page at 0x30000, which has its own tables, to the frame at 0x40000000, which
stage 2 puts into host memory. -/
def eMigrate : Command := order 4 0 0x30000 0x40000000 0 .supervisor
def paged : State :=
  { manned eMigrate with
    mem := [(0x100000, 1), (0x100002, 0x22), (0x200000, 1), (0x200002, 0x21), (0x210000, 0xDF), (0x210008, 0xDF), (0x21000E, 8),
      (0x220000, 1), (0x220002, 0x23), (0x230000, 1), (0x230002, 0x24), (0x240180, 0xFF), (0x240182, 3)]
    hostLinks := [(0, true)] }
def migrating : State :=
  let x := paged.engine ⟨0, 1⟩
  { paged.setEngine ⟨0, 1⟩ { x with inbox := x.inbox.erase eMigrate, lastFn := 0 } with viewer := some 0 }

/-- Moving a line changes nothing. -/
def idle (s : State) (e : Seat) (f old new : Nat) : Bool :=
  match s.frameAt f old .load, s.frameAt f new .store with
  | .ok p, .ok q =>
    decide ((((s.markFrame f old false).markFrame f new true).noteEnginePoison e f
      [{ va := 0, len := 64, place := p }]).moveLine p q = s)
  | _, _ => false

/-- A move of lines none of which changes anything moves them all. -/
theorem moveLines_idle (s : State) (e : Seat) (f : Nat) (n old new : Nat)
    (h : ∀ k < n, idle s e f (old + 64 * k) (new + 64 * k) = true) : s.moveLines e f old new n = (s, 64 * n, none) := by
  induction n generalizing old new with
  | zero => rfl
  | succ n ih =>
    have h0 := h 0 (by omega)
    simp only [Nat.mul_zero, Nat.add_zero] at h0
    have hr := ih (old + 64) (new + 64) fun k hk => by
      have := h (k + 1) (by omega)
      rw [show old + 64 * (k + 1) = old + 64 + 64 * k by omega, show new + 64 * (k + 1) = new + 64 + 64 * k by omega] at this
      exact this
    unfold idle at h0
    unfold State.moveLines
    split at h0
    · rename_i p q hp hq
      rw [hp, hq]
      simp only []
      rw [of_decide_eq_true h0, hr]
      simp only [Prod.mk.injEq, true_and, and_true]
      omega
    · cases h0

theorem migrating_idle : ∀ k < 64, idle migrating ⟨0, 1⟩ 0 (0x30000 + 64 * k) (0x40000000 + 64 * k) = true := by decide +kernel

theorem witness_migrate_lines : migrating.moveLines ⟨0, 1⟩ 0 0x30000 0x40000000 64 = (migrating, 4096, none) :=
  moveLines_idle _ _ _ _ _ _ migrating_idle

theorem witness_migrate : (paged.engine ⟨0, 1⟩).next = some eMigrate ∧ eMigrate.opc = 4 ∧ eMigrate.level ≠ .user ∧
    eMigrate.plain = true ∧ eMigrate.len = 0 ∧ eMigrate.aux < 4 ∧ canonical eMigrate.src = true ∧ eMigrate.dst = 0x40000000 ∧
    eMigrate.dst % 2 ^ sizeOfCode eMigrate.aux = 0 ∧ (paged.fnOf 0).s1root = some 0x100000 ∧
    ((migrating.walk1 0 eMigrate.src 4 0x100000 {}).toOption.map fun x =>
      (x.1.size, x.1.entry, x.1.at eMigrate.src, x.1.entry % 8, migrating.homeAbsent x.1.entry, migrating.lostHome x.1.entry)) =
      some (12, 0x240180, 0x30000, 0, false, false) ∧
    ((migrating.walk1 0 eMigrate.src 4 0x100000 {}).toOption.map fun x => (x.2.leaves.head?.map (·.w)).getD true) =
      some true ∧
    (migrating.frameAt 0 eMigrate.dst .store).toOption.isSome = true ∧ eMigrate.poison = false := by
  and_intros <;> decide +kernel

theorem witness_engine_ready : let s := (manned eCopy).setDie 0 { (manned eCopy).die 0 with
      reported := true, engines := [(1, { discarded := [eCopy] })] }
    (s.die 0).reported = true ∧ (s.engine ⟨0, 1⟩).ready = false ∧ s.failed.contains (.engine 0 1) = false := by
  intro s
  decide +kernel

/-! ### Events: pre-emption and lanes -/

/-- A thread that was asked to stop, outside and inside a trap handler. -/
def asked (n : BitVec 2) : State := one { thread .supervisor with preempt := .asked, sup := { regs := { depth := n } } }

theorem witness_stop : (asked 0).me.live = true ∧ (asked 0).me.preempt = .asked ∧ (asked 0).me.holdsPreempt = false ∧
    (asked 0).me.inTrap = false ∧ (asked 1).me.holdsPreempt = false ∧ (asked 1).me.inTrap = true := by decide +kernel

theorem witness_stop_queue : (asked 0).me.vq = [] ∧ (asked 1).me.vq = [] ∧ (vec1 2).me.vec.lanes ≠ [] := by decide +kernel

/-- A PREEMPT and a RESUME of context 0 of core 0, written to PRQ of C-die 0. -/
theorem witness_prq : let s := { crewed.setDie 0 { crewed.die 0 with prqaddr := 0x30000 } with mgmt := true }
    s.mgmt = true ∧ s.mgmtBusy = false ∧ (s.die 0).state = .present ∧ (s.die 0).prqWork = none ∧ (2 ^ 63 : Word).toNat / 2 ^ 61 = 4 ∧
    (2 ^ 63 : Word).toNat / 256 % 8 = 0 ∧ (2 ^ 63 + 2 ^ 61 : Word).toNat / 2 ^ 61 = 5 ∧ s.crewAt 0 = some 7 ∧
    s.crewAt 4 = none ∧ ((s.crewOf 7).map (·.threads.length)) = some 1 := by
  intro s
  decide +kernel

def prqIn : State :=
  let s := { crewed.setDie 0 { crewed.die 0 with prqaddr := 0x30000 } with mgmt := true }
  s.setDie 0 { s.die 0 with prq := (2 ^ 63 : Word) &&& 0x6000000000001FFF#64 }

theorem witness_prq_area : (prqIn.resolve (saveAgent 0) .spill (prqIn.die 0).prqaddr.toNat (areaSize 1 1 0)).2.toOption.isSome = true ∧
    (prqIn.resolve (saveAgent 0) .spill (prqIn.die 0).prqaddr.toNat (areaSize 1 1 0)).1.ctxs = prqIn.ctxs ∧
    (prqIn.resolve (saveAgent 0) .spill (prqIn.die 0).prqaddr.toNat (areaSize 1 1 0)).1.clock = prqIn.clock := by
  decide +kernel

/-- The cached translation of the page that `mapped` gives function 0. -/
def page : TlbEntry :=
  { fn := 0, va := 0, bits := 30, pa := 0, gpa := 0, key := 0, r := true, w := true, x := true, u := true, d := true
    via := [(0, 30), (0, 30)] }

/-- The non-leaf entries that its walk used. -/
def pageWalks : List WalkEntry :=
  [{ fn := 0, stage := 1, level := 0, tag := 0, next := 0x210000, via := [] },
   { fn := 0, stage := 0, level := 0, tag := 0, next := 0x220000, via := [(0, 30)] }]

/-- The only thread of the crew has stopped. -/
def stoppedCrew : State :=
  let s := crewed.setMe { crewed.me with preempt := .stopped }
  let s := { s with tlb := [page], crews := [(7, { fn := 0, lid := 0, cidx := 0, cluster := 0, threads := [0] })] }
  s.setDie 0 { s.die 0 with prqWork := some { resume := false, crew := 7, area := 0x30000, start := 0 } }

theorem witness_crew_save : (stoppedCrew.die 0).prqWork = some { resume := false, crew := 7, area := 0x30000, start := 0 } ∧
    ((stoppedCrew.crewOf 7).map fun k => (k.live, k.threads)) = some ([0], [0]) ∧
    (stoppedCrew.ctx 0).preempt = .stopped ∧ (stoppedCrew.ctx 0).lanes = 0 ∧ (stoppedCrew.ctx 0).pend = [] ∧
    stoppedCrew.ownMsgs 0 (fun _ => true) = [] ∧ stoppedCrew.puts = [] := by decide +kernel

theorem witness_crew_image :
    ((stoppedCrew.crewOf 7).map fun k =>
      let u := stoppedCrew.seenFrom (k.cluster / 16) fun v => v.savePieces (saveAgent 0) (v.areaPieces k 7 0x30000)
      (u.2, decide (u.1.ctxs = stoppedCrew.ctxs), u.1.clock)) = some (true, true, 0) := by decide +kernel

/-- A crew of one thread that left context 1 and is saved at 0x30000, with the cores of its image. -/
def restingCrew (cores : List Nat) : Crew :=
  { fn := 0, lid := 0, cidx := 0, cluster := 0, threads := [1], cores := cores, saved := true, area := 0x30000, kept := [{}] }

/-- That crew, of a launch with this record, beside a supervisor thread in context 0. -/
def resting (r : BitVec 512) (k : Crew) : State :=
  let s := mapped { thread .supervisor with regs := [(4, 0x30000)] }
  { s.setDie 0 { s.die 0 with prqaddr := 0x30000 } with
    mgmt := true, tlb := [page], walks := pageWalks, mem := (0x3000E, 1) :: s.mem,
    launches := [(launchKey 0 0, { record := r, placed := 1 })], crews := [(9, k)] }

def resumeIn : State :=
  let s := resting oneCrew (restingCrew [])
  s.setDie 0 { s.die 0 with prq := 0x8000000000000000#64 ||| 0x2000000000000000#64 &&& 0x6000000000001FFF#64 }

/-- A crew whose image has no channels. -/
theorem witness_prq_resume : resumeIn.fnOfArea 0x30000 = some 0 ∧ (resumeIn.savedAt 0 0x30000).1 = resumeIn ∧
    (resumeIn.savedAt 0 0x30000).2.toOption = some (9, restingCrew []) ∧ resumeIn.crewOf 9 = some (restingCrew []) ∧
    resumeIn.resumePlace (restingCrew []) oneCrew none 0 = some (0, [1]) ∧
    resumeIn.areaHeld (restingCrew []) 0x30000 = false ∧ resumeIn.channelsLost (saveAgent 0) (restingCrew []) = false ∧
    (restingCrew []).live = [0] := by
  and_intros <;> decide +kernel

theorem witness_resume_record :
    recordLost ((resumeIn.resumeRegions 9 (restingCrew []) [1]).readRecord (saveAgent 0) (0x30000 + 256 + 2048 * 0)).2 = false := by
  decide +kernel

def mobile : BitVec 512 := oneCrew ||| BitVec.twoPow 512 189

/-- A crew with the channels of a core, whose launch lets it move, with the port's request of the scheduler. -/
def moveIn : State :=
  let s := resting mobile (restingCrew [0])
  s.setDie 0 { s.die 0 with prqaddr := BitVec.ofNat 64 0x30000, prq := 0x2000000000000000#64 }

theorem witness_crew_move : field mobile 189 1 = 1 ∧
    (resting mobile (restingCrew [0])).crewOf 9 = some (restingCrew [0]) ∧
    (moveIn.savedAt 0 0x30000).1 = moveIn ∧ (moveIn.savedAt 0 0x30000).2.toOption = some (9, restingCrew [0]) ∧
    moveIn.resumePlace (restingCrew [0]) mobile (some 0) (0 / 16) = some (0, [1]) ∧
    ((moveIn.fnOf 0).part.map (·.holds 0)) = some true := by
  and_intros <;> decide +kernel

theorem witness_move_channels : moveIn.channelsLost (saveAgent 0) (restingCrew [0]) = false := by decide +kernel

theorem witness_move_record :
    recordLost ((moveIn.resumeRegions 9 (restingCrew [0]) [1]).readRecord (saveAgent 0) (0x30000 + 256 + 2048 * 0)).2 = false := by
  decide +kernel

/-- A thread with lanes that a pre-emption asks for, and one with a quarantined lane. -/
theorem witness_revocation : let s := vec1 2
    let p := s.setMe { s.me with preempt := .asked }
    let q := s.setCluster 0 { s.cluster 0 with lanes := [(3, .quarantined), (5, .granted 0)] }
    s.me.live = true ∧ s.me.vec.lanes ≠ [] ∧ p.revocable 0 0 = true ∧ q.revocable 0 1 = true := by
  intro s p q
  decide +kernel

/-- Context 4 starves for a lane that context 0, of a lower own level, holds beyond its reservation. -/
def starved : State :=
  let s := vec1 2
  { s with ctxs := s.ctxs ++ [(4, { thread .user with short := 1, waiting := 65536, prio := 2 })] }

theorem witness_starvation : starved.victim 4 = some 0 ∧ starved.starving 4 = true ∧ starved.revocable 0 2 = true := by
  decide +kernel

theorem witness_lane_states : let s := vec1 2
    let s := s.setCluster 0 { s.cluster 0 with lanes := [(3, .granted 0), (5, .earmarked 4 0), (6, .draining 0 (some (4, 9))), (7, .draining 0 none)] }
    let s := { s with clock := 65536 }
    (∃ p ∈ (s.cluster (clusterOf 4)).lanes, ∃ n, p.2.mark = some (4, n) ∧ n + 65536 ≤ s.clock) ∧
    (∃ p ∈ (s.cluster (clusterOf 4)).lanes, ¬(∃ n, p.2.mark = some (4, n) ∧ n + 65536 ≤ s.clock) ∧ p.2 ≠ .free) ∧
    aget .free (s.cluster 0).lanes 6 = .draining 0 (some (4, 9)) ∧ aget .free (s.cluster 0).lanes 7 = .draining 0 none := by
  intro s t u
  refine ⟨⟨(5, .earmarked 4 0), by decide +kernel, 0, by decide +kernel⟩, ⟨(3, .granted 0), by decide +kernel, ?_, nofun⟩, ?_⟩
  · rintro ⟨n, h, -⟩
    cases h
  · decide +kernel

/-! ### Events: errors -/

/-- VADD.VV v3, v1, v2 is the oldest in the vector queue of the thread with lanes. -/
def vadd : VqEntry := { addr := 0x1000, instr := .vaddVV 3 1 2 0 }
def busy : State := (vec1 2).setMe { (vec1 2).me with vq := [vadd] }

theorem witness_check : (busy.ctx 0).live = true ∧ (busy.ctx 0).preempt ≠ .stopped ∧ (busy.die (dieOf 0)).state = .present ∧
    (busy.ctx 0).vq = vadd :: [] ∧ busy.comparesOn 0 3 = true ∧ (busy.ctx 0).mismatch < 7 ∧ (busy.cluster (clusterOf 0)).mismatches = [] := by
  decide +kernel

theorem witness_parity : 0 < (busy.ctx 0).lanes ∧ 16 < (busy.ctx 0).geo.rpr * (busy.ctx 0).geo.n ∧
    inGroups (registersOf vadd.instr (busy.ctx 0).vt).2 (16 / (busy.ctx 0).geo.rpr) = true := by decide +kernel

theorem witness_uncorrectable : (0x10000 : Nat) < deviceEnd ∧ busy.homeAbsent 0x10000 = false ∧ (0 : Nat) < arrayBytes ∧
    (busy.die (0 / 256)).state = .present ∧ (1 : BitVec 5) ≠ 0 ∧ 0 < (busy.ctx 0).lanes ∧ 512 * 0 < (busy.ctx 0).geo.vlmax ∧
    (woven 10 (2 ^ 31) (2 ^ 31)).me.vec.side ≠ 0 ∧ (woven 10 (2 ^ 31) (2 ^ 31)).me.live = true := by decide +kernel

/-- A line that an L2 holds; a message and a delivery on their way. -/
theorem witness_error_holders : let s := us.touchL2 0 0x10000 false
    s.l2Holds 0 0x10000 = true ∧ (s.die 0).state = .present ∧
    ({ wired (toChannel false false) 0 with serial := 4 } : State).wireAt 3 = some (toChannel false false) ∧
    ({ delivering with serial := 4 } : State).putAt 3 = some putJob ∧ 63 < putJob.bytes.length ∧
    putJob.poison.length = putJob.bytes.length ∧ (us.die 0).retired.contains 3 = false := by
  intro s
  decide +kernel

theorem witness_ctx_lost : busy.me.crew = none ∧ crewed.me.crew = some 7 ∧
    ((crewed.crewOf 7).map fun w => decide (0 ∈ w.threads)) = some true ∧ crewed.me.live = true ∧
    (crewed.die (dieOf 0)).state = .present := by decide +kernel

theorem witness_channel_error : ((boxS.chan 0 63).fifo[0]?).isSome = true ∧ (boxS.die (0 / 256)).state = .present := by
  decide +kernel

theorem witness_corrected : (us.die 0).state = .present ∧
    (aget {} (us.die 0).arrays 3).count + 1 < (us.die 0).errthr.toNat % 65536 := by decide +kernel

/-! ### Events: resets, links, management -/

/-- C-die 0 once a reset has begun, and once it has reported with one stack settled. -/
def away (reported : Bool) : State :=
  { one {} with dies := [(0, { state := .resetting, stile := true, reported := reported })], hbmStacks := [(0, reported)], mgmt := true }

theorem witness_die : (us.die 0).state = .present ∧ (us.die 0).islandBusy = false ∧ ((away false).die 0).state = .resetting ∧
    ((away false).die 0).reported = false ∧ ((away false).die 0).state ≠ .present ∧ ((away false).die 0).stile = true ∧
    ((away false).die 0).stileFailed = false ∧ ((away false).die 0).islandBusy = false ∧
    (away false).failed.contains (.cdie 0) = false ∧ ((away true).die 0).reported = true ∧ (away true).stackSettled 1 = false ∧
    (away true).stackSettled 0 = true := by decide +kernel

theorem witness_stile : ((away false).die 1).stile = false ∧ (away false).mgmt = true ∧
    (away false).failed.contains (.stile 1) = false ∧ (us.die 0).stile = true ∧ (us.die 0).islandBusy = false ∧
    (us.die 0).state ≠ .resetting ∧ (us.die 0).stileFailed = false := by decide +kernel

/-- Dies: one being reset, one marked failed, one whose tag walk goes on, one whose image banks both fail verification. -/
theorem witness_die_more : let w := (away false).setDie 0 { (away false).die 0 with walking := true, walkOwned := [0x10000] }
    let m := { away false with failed := [.cdie 0] }
    ((away false).die 0).state = .resetting ∧ m.failed.contains (.cdie 0) = true ∧ (m.die 0).islandBusy = false ∧
    (w.die 0).walking = true ∧ (w.die 0).reported = false ∧ ((away false).bankFor 0).isSome = true := by
  intro w m
  decide +kernel

theorem witness_banks (h : ∀ k b, Config.imageVerifies k b = false) :
    ({ images := [(0, []), (1, [])] } : State).bankFor 0 = none := by
  simp [State.bankFor, State.bankGood, State.bankDue, ahas, aget, h]

theorem witness_island : let s := us.setDie 0 { us.die 0 with stile := false, stileFailed := true }
    (s.die 0).stileFailed = true ∧ (s.die 0).islandBusy = false ∧ (s.die 0).state ≠ .resetting ∧
    (us.die 0).stileFailed = false ∧ (us.die 0).islandBusy = false := by
  intro s
  decide +kernel

theorem witness_flit : homeDie 0x10000 = 0 ∧ 0x10000 % 64 + 8 ≤ 64 ∧ us.viewer = none ∧
    PlainBytes { us with viewer := some 0 } 0x10000 1 ∧ PlainBytes { us with viewer := some 0 } 0x10000 8 := by decide +kernel

theorem witness_vf_reset : (crewed.fnOf 0).resetting = false := by decide +kernel

/-- Links: 0 and 3 up, 1 retraining, 2 down; a window of 2^12 bytes at 0x30000 for function 0, which device 7 may use. -/
def linked : State :=
  { mapped (thread .user) with
    links := [(0, { state := .up, retries := 15 }), (1, { state := .retrain }), (3, { state := .up })], mgmt := true,
    windows := [(0, { base := 0x30000, size := 1, fn := 0, trust := [7] })], lineKey := (List.range 1).map fun i => (0xC00 + i, some (0, 1)) }

theorem witness_links : (linked.euvex 0).state = .up ∧ 15 ≤ (linked.euvex 0).retries ∧ (linked.euvex 3).retries < 15 ∧
    linked.xdieOfLink 2 = true ∧ (linked.euvex 2).state = .down ∧ (linked.euvex 2).failed = 0 ∧
    linked.failed.contains (.link 2) = false ∧ (linked.euvex 1).state = .retrain ∧
    (linked.euvex 2).came = false ∧ (∃ k, k < 16 ∧ (linked.euvex k).state = .up) := by
  decide +kernel

theorem witness_inbound : linked.failed.contains (.link 2) = false ∧ (linked.windowFor 7 0x30000 8).map (·.fn) = some 0 ∧
    ((linked.stage2 0 0x30000).toOption.map fun l =>
      (l.at 0x30000, decide (0x30000 % 2 ^ l.bits + 8 ≤ 2 ^ l.bits), l.r, l.w, ahas linked.keys l.key,
        (List.range 8).all fun i => decide (l.at 0x30000 + i < deviceEnd ∧ linked.homeAbsent (l.at 0x30000 + i) = false ∧
          linked.granulePoison (l.at 0x30000 + i) = false ∧ aget (linked.slotKey l.key) linked.lineKey ((l.at 0x30000 + i) / 64) = linked.slotKey l.key ∧
          aget noKey linked.tags ((l.at 0x30000 + i) / 64) = noKey))) =
      some (0x30000, true, true, true, true, true) ∧
    linked.windowFor 8 0x30000 8 = none ∧ wellFormedEndpoint 5 = true ∧ (∀ p ∈ linked.windows, p.1 ≠ 1) := by decide +kernel

theorem witness_host_link : (if (0 : Nat) = 0 then linked.mgmt else linked.xdie) = true ∧ linked.failed.contains (.host 0) = false ∧
    aget false ported.hostLinks 0 = true ∧ ported.hostUp 0 = true := by decide +kernel

theorem witness_ats : ∀ p ∈ ported.ctxs, ∀ q ∈ ported.ctxs, p.1 = q.1 → p = q := by
  intro p hp q hq _
  simp only [ported, mapped, one, List.mem_singleton] at hp hq
  rw [hp, hq]

/-- Management is ready, and functions 0 and 1 have nothing in use. -/
def managed : State := { mapped {} with mgmt := true, ctxs := [] }

theorem witness_management : managed.mgmt = true ∧ managed.overlapsOther 1 { x0 := 1, y0 := 0, w := 1, h := 1 } = false ∧
    managed.inUse 1 = false ∧ managed.overlapsOther 1 { x0 := 0, y0 := 0, w := 1, h := 1 } = true ∧
    ((managed.die 0).queues.all fun q => !q.2.isOpen || q.2.fn == 1) = true ∧ [3, 4].Nodup ∧ (managed.die 0).state = .present ∧
    (managed.die 1).state ≠ .present ∧ managed.xdie = false ∧ managed.failed.contains .xdie = false ∧
    (65536 : Nat) % 65536 = 0 ∧ (4096 : Nat) % 65536 ≠ 0 := by decide +kernel

/-- The controller at work; a device number and a window out of their rows; an image below the minimum; a key loaded; a
die whose memory is held with a granule logged. -/
theorem witness_management_more : let s := { managed with mgmtBusy := true }
    let d := managed.setDie 0 { managed.die 0 with memHeld := true, log := [0x10000] }
    s.mgmt = true ∧ s.mgmtBusy = true ∧ managed.mgmtBusy = false ∧ (5000 : Nat) ≥ 4096 ∧
    4096 % 4096 = 0 ∧ 4096 + 4096 * 1 ≤ 2 ^ 52 ∧ managed.slotKey 0 = some (0, 1) ∧ (d.die 0).state = .present ∧
    (d.die 0).log = [0x10000] ∧ (d.ownsQueue 1 0 3 = false) ∧ (4200 : Nat) < 5000 := by
  intro s d
  decide +kernel

theorem witness_bring_up : State.reset.powered = false ∧ ({ State.reset with powered := true } : State).mgmt = false ∧
    ({ State.reset with powered := true } : State).failed.contains .mgmt = false ∧
    ({ State.reset with powered := true } : State).awaited .mgmt = true ∧ managed.awaited (.stile 1) = true := by decide +kernel

/-! ### Further clauses of the scalar statements -/

/-- A finite number of each float type at both ends, and an integer and a float source. -/
theorem witness_rounding : (8 : Nat) ≤ 8 ∧ (13 : Nat) ≤ 13 ∧ (7 : Nat) < 8 ∧ (0 : Nat) < 8 ∧
    (∃ n m e, decodeFloat 8 1 = .fin n m e) ∧ ∃ n m e, decodeFloat 13 1 = .fin n m e :=
  ⟨by decide, by decide, by decide, by decide, ⟨_, _, _, rfl⟩, ⟨_, _, _, rfl⟩⟩

/-- A read that gives poisoned bytes to a thread that can take the trap. -/
def poisoned (s : State) (x : State × Except AccFault (List Byte × Bool)) (n : Nat) : Bool :=
  gave x (List.replicate n 0, true) && decide (x.1.me.reissue = none) && decide (x.1.cur = s.cur) &&
    decide ((x.1.me.trapSet (trapLevel x.1)).regs.depth ≠ 2)

/-- A firmware thread with a poisoned granule at 0x40000, which s1 names. -/
def tainted (rs : List (Nat × Word)) : State :=
  { one { thread .firmware with regs := rs } with memPoison := [(0x40000 / 64, true)] }

theorem witness_control_uses : (controlUses (.stD 2 1 0 0)).find? (fun q => (pz 2).rp q) = some 1 ∧
    (controlUses (.put 3 1 2 4 0)).find? (fun q => (pz 16).rp q) = some 4 ∧
    (pz 2).me.revoke = none ∧ (pz 2).me.wait = none ∧
    (let s := one { thread .supervisor with poison := 4 }
     s.me.level ≠ .user ∧ [(1 : BitVec 5), 2].find? (fun q => s.rp q) = some 2 ∧ (s.me.trapSet (trapLevel s)).regs.depth ≠ 2) ∧
    (payloadRegs 4).find? (fun q => (pz 128).rp q) = some 7 ∧ (pz 128).rp 2 = false ∧
    wellFormedEndpoint ((pz 128).rv 2).toNat = true := by
  and_intros <;> decide +kernel

/-- A vector load with a poisoned address, and SETVL with a poisoned request, where the declaration just fits the rows. -/
theorem witness_control_vector : let s := (vec1 2).setMe { (vec1 2).me with poison := 2 }
    s.me.reissue = none ∧ s.me.revoke = none ∧ s.me.wait = none ∧ (s.me.trapSet (trapLevel s)).regs.depth ≠ 2 ∧
    (∃ x, vecSpec (.vld 3 1 0 1) s.me.dcodeType = some x ∧ x.cause (regCount s.me.dcode.toNat) = 0 ∧
      x.control.find? (fun q => s.rp q) = some 1) ∧
    8 * 2 ^ (3#2).toNat + 16 * (0#3).toNat ≤ 64 ∧ s.rp 1 = true := by
  intro s
  and_intros
  on_goal 5 => exact ⟨_, rfl, by decide +kernel, by decide +kernel⟩
  all_goals decide +kernel

/-- The entry of a JTAB, a launch record, a barrier object, a descriptor and a tile record, each read poisoned. -/
theorem witness_poisoned_sources :
    (let s := (tainted [(1, 0)]).setMe { (tainted [(1, 0)]).me with pc := 0x40000 - 4 }
     s.rp 1 = false ∧ (s.rv 1).toNat < (1#16).toNat ∧
       poisoned s (s.load s.cur s.agent .load .scalar 15 (s.me.pc + 4 + 4 * s.rv 1).toNat 4) 4 = true) ∧
    (let s := tainted [(1, 0x40000), (2, 255)]
     s.rp 1 = false ∧ s.rp 2 = false ∧ (s.rv 1).toNat % 64 = 0 ∧
       poisoned s (((s.drainAll s.cur).flushMsg s.cur fun _ => true).load s.cur s.agent .load .scalar 15 (s.rv 1).toNat 64) 64 =
         true ∧
       poisoned s (s.load s.cur s.agent .load .scalar 15 (s.rv 1).toNat 32) 32 = true) := by
  and_intros <;> decide +kernel

/-- The barrier object that s3 names reads poisoned. -/
def objectPoisoned (s : State) : Bool :=
  match s.barrierRelease.atomicPlace s.cur s.agent (s.rv 3).toNat 16 with
  | (v, .ok p) =>
    let r := v.atomicRead v.cur 0 p 16
    r.2.2 && decide (r.1.me.reissue = none) && decide ((r.1.me.trapSet (trapLevel r.1)).regs.depth ≠ 2)
  | _ => false

/-- A task record, a tile record and a barrier object read poisoned. -/
theorem witness_poisoned_records :
    (let s := { pusher openQ [] with memPoison := [(0x10000 / 64, true)] }
     s.me.reissue = none ∧ s.me.revoke = none ∧ s.me.wait = none ∧ s.rp 2 = false ∧ (s.rv 2).getLsbD 63 = false ∧
       s.queueOf s.me.fn (s.rv 2) false = some 255 ∧ (s.queueAt 255).tile = decide ((8 : Nat) = 32) ∧
       poisoned s (s.load s.cur s.agent .load .scalar 0 (s.rv 1).toNat 8) 8 = true) ∧
    (let s := { pusher { openQ with tile := true } [] with memPoison := [(0x10000 / 64, true)] }
     (s.queueAt 255).tile = decide ((32 : Nat) = 32) ∧
       poisoned s (s.load s.cur s.agent .load .scalar 0 (s.rv 1).toNat 32) 32 = true) ∧
    let s := { barred 0 with memPoison := [(0x20000 / 64, true)] }
    s.me.reissue = none ∧ 1 ≤ (s.rv 5).toNat ∧ (s.rv 5).toNat ≤ 1 ∧ s.rp 5 = false ∧ (s.rv 3).toNat % 16 = 0 ∧
      objectPoisoned s = true := by
  and_intros <;> decide +kernel

/-- The first GiB under a stage-1 leaf `e1` and a stage-2 leaf `e2`, s1 an address. -/
def leaves (l : Level) (e1 e2 : Byte) (keyed : Bool) (a : Nat) : State :=
  let s := mapped { thread l with regs := [(1, BitVec.ofNat 64 a), (2, 8), (4, 0x20000), (5, 1)] }
  let m : List (Nat × Byte) := [(0x100000, 1), (0x100002, 0x22), (0x200000, 1), (0x200002, 0x21), (0x210000, e2), (0x220000, e1)]
  { s with keys := if keyed then s.keys else [], mem := m.filter (·.2 != 0) }

/-- Every fault that one page can meet: at user and at firmware level, of an address, of the window, of both stages. -/
theorem witness_page_faults :
    let at_ := fun (l : Level) (e1 e2 : Byte) (keyed : Bool) (a : Nat) (k : AccKind) =>
      let s := leaves l e1 e2 keyed a
      decide (s.me.reissue = none) && decide (s.me.pend = []) && s.tlb.isEmpty && !(s.rp 1) && decide (a % 4096 + 8 ≤ 4096) &&
        decide ((s.me.trapSet (faultLevel s ((pageFault s l k a).getD (0, 0, 0, 0)).1)).regs.depth ≠ 2) &&
        decide (((pageFault s l k a).getD (0, 0, 0, 0)).1 ≠ 0)
    at_ .user 0xFF 0xDF true (2 ^ 55) .load = true ∧ at_ .user 0xFF 0xDF true (2 ^ 40) .load = true ∧
    at_ .user 0xFF 0xDF true 0xFFFFFFFF01000000 .fetch = true ∧ at_ .user 0xFF 0xDF true 0xFFFFFFFF01000000 .store = true ∧
    at_ .user 0xFF 0xDF true 0x30000 .load = false ∧ at_ .user 0xF7 0xDF true 0x30000 .store = true ∧
    at_ .supervisor 0xFF 0xDF true 0x30000 .fetch = true ∧ at_ .user 0xFF 0 true 0x30000 .atomic = true ∧
    at_ .user 0xFF 0xD7 true 0x30000 .store = true ∧ at_ .user 0xFF 0xDF false 0x30000 .load = true ∧
    at_ .firmware 0 0 true (2 ^ 52) .load = true ∧ at_ .firmware 0 0 true deviceEnd .store = true := by
  intro at_; and_intros <;> decide +kernel

/-- An access over the end of device memory, at firmware level; an atomic operation outside the package. -/
theorem witness_straddle :
    (let s : State := { one { thread .firmware with regs := [(1, BitVec.ofNat 64 (deviceEnd - 4))] } with
       dies := (List.range 8).map fun d => (d, { state := .present, stile := true })
       hbmStacks := (List.range 16).map fun k => (k, true) }
     s.me.level = .firmware ∧ s.me.pend = [] ∧ s.tlb = [] ∧ PlainBytes s (s.rv 1).toNat 1 ∧ s.me.firm.regs.depth ≠ 2 ∧
       ((s.rv 1).toNat / 4096 + 1) * 4096 < (s.rv 1).toNat + 8 ∧ deviceEnd ≤ ((s.rv 1).toNat / 4096 + 1) * 4096 ∧
       ((s.rv 1).toNat / 4096 + 1) * 4096 < peerBase) ∧
    let s := leaves .firmware 0 0 true hostBase
    s.me.pend = [] ∧ hostBase ≤ (s.rv 1).toNat ∧ (s.rv 1).toNat < 2 ^ 52 ∧ (s.rv 1).toNat % 8 = 0 ∧
      s.heldAt (s.rv 1).toNat = false ∧ s.me.firm.regs.depth ≠ 2 := by
  and_intros <;> decide +kernel

/-- An access that faults, given by the access itself. -/
theorem witness_takes_fault : let s := leaves .user 0xF7 0xDF true 0x30000
    ∃ x, (s.store s.cur s.agent .store .scalar 15 (s.rv 1).toNat (leBytes 8 (s.rv 2).toNat) (s.rp 2)).2 = .error x ∧
      x.fault.cause ≠ heldCause ∧ (s.me.trapSet (faultLevel s x.fault.cause)).regs.depth ≠ 2 := by
  intro s
  have h : (match (s.store s.cur s.agent .store .scalar 15 (s.rv 1).toNat (leBytes 8 (s.rv 2).toNat) (s.rp 2)).2 with
      | .error x => decide (x.fault.cause = 0x083)
      | .ok _ => false) = true := by decide +kernel
  split at h
  · next x e =>
    refine ⟨x, e, ?_⟩
    rw [of_decide_eq_true h]
    decide +kernel
  · cases h

/-- A window address at user level, where CFLUSH and CINV do nothing, and one outside it. -/
theorem witness_maintenance : let s := leaves .user 0xFF 0xDF true 0xFFFFFFFF01000000
    s.me.level ≠ .firmware ∧ inWindow (s.rv 1).toNat = true ∧ inWindow 0x30000 = false ∧ s.rp 1 = false := by
  intro s; decide +kernel

/-- Table entries: without V, with a reserved bit, a leaf that reads well. -/
theorem witness_entries : (0 : Nat) < 2 ∧ (0 : Nat) % 2 = 0 ∧ ((1 + 2 ^ 9) % 2 = 1 ∧ (1 + 2 ^ 9) / 2 ^ 9 % 8 ≠ 0) ∧
    ∃ l, readEntry 0xFF false 0 3 0 0 none = .ok (.inl l) := by
  refine ⟨by decide, by decide, by decide, _, rfl⟩

/-- A thread with a pending revocation: at user level, in its own user trap, at firmware level; RVEC is read as zero and as
an address, and not at all; and one with a pending spill error. -/
def revoking (l : Level) (uip : Bool) (spill : Word) (p : PendingRevoke) : State :=
  let s := mapped { thread l with revoke := some p, uip := uip, vspill := spill, dtype := 2 }
  { s with mem := (0x50000, 0x77) :: s.mem }

def rvec (spill : Word) : State × Except AccFault (List Byte × Bool) :=
  let s := revoking .user false spill (.revoke 0)
  let v := s.setMe { s.me with revoke := none }
  v.load v.cur (v.userAgent v.cur) .load .lane 15 spill.toNat 8

theorem witness_revoking : (∀ l u p, (revoking l u 0 p).me.reissue = none ∧ (revoking l u 0 p).me.wait = none ∧
      (revoking l u 0 p).me.revoke = some p) ∧
    isPoint us .eret = true ∧ isPoint us (.crr 3 0x103) = true ∧ isPoint (vec1 2) (.mset 1) = true ∧
    isPoint us (.setvl 3 2 0) = true ∧ (revoking .firmware false 0 (.revoke 0)).me.level ≠ .user ∧
    (revoking .user true 0 (.revoke 0)).me.uip = true ∧ (revoking .user false 0 (.revoke 0)).me.uip = false ∧
    gave (rvec 0x40000) (leBytes 8 0, false) = true ∧ gave (rvec 0x50000) (leBytes 8 0x77, false) = true ∧
    (rvec (BitVec.twoPow 64 40)).2.toOption = none ∧ (rvec 0x50000).1.me.level = .user ∧ (rvec 0x50000).1.me.sup.regs.depth ≠ 2 := by
  refine ⟨fun l u p => ⟨rfl, rfl, rfl⟩, ?_⟩
  and_intros <;> decide +kernel

/-- A resumed sleeper with and without a wait at CBAR recorded. -/
theorem witness_record_wait : bitsOf 4 2 1 = 1 ∧ (one { thread .user with wait := recordWait none 4 0 }).me.wait = recordWait none 4 0 ∧
    recordWait none 4 0 ≠ none := by decide +kernel

/-! ### Further clauses of the vector, queue and event statements -/

/-- The same lanes with s1 an address, and all of the package present. -/
def vecAt (a : Nat) : State :=
  let s := (vec1 2).setMe { (vec1 2).me with regs := [(1, BitVec.ofNat 64 a), (2, 8)] }
  { s with
    dies := (List.range 8).map fun d => (d, { state := .present, stile := true })
    hbmStacks := (List.range 16).map fun k => (k, true) }

/-- The first element past device memory; VSTXADD at an odd address; VLDFF, VLD and VST whose second element is the first
past device memory. -/
theorem witness_vector_faults :
    (let s := vecAt deviceEnd
     VectorRuns s (.vld 3 1 0 0) ∧ VectorRuns s (.vst 1 1 0 0) ∧ Unpoisoned s.me ∧ s.me.pend = [] ∧ s.me.reissue = none ∧
       s.me.len ≤ s.me.geo.vlmax ∧ (activeOf s.me 0).head? = some 0 ∧ deviceEnd % 4096 + s.me.vw / 8 ≤ 4096 ∧
       (∀ e ∈ s.tlb, e.covers s.me.fn deviceEnd = false) ∧
       (pageFault s s.agent.level .load deviceEnd).isSome = true ∧ (pageFault s s.agent.level .store deviceEnd).isSome = true ∧
       (pageFault s s.agent.level .atomic deviceEnd).isSome = true ∧
       (s.me.trapSet (faultLevel s 0x088)).regs.depth ≠ 2) ∧
    (let s := vecAt 0x10002
     VectorRuns s (.vstxadd 1 1 0 0 3) ∧ (∃ f, laneAccess s (.vstxadd 1 1 0 0 3) = some (1, 0, f) ∧ f 0 % 4 ≠ 0) ∧
       (s.me.trapSet (trapLevel s)).regs.depth ≠ 2) ∧
    (let s := vecAt (deviceEnd - 4)
     VectorRuns s (.vldff 3 1 0 0) ∧ VectorRuns s (.vst 1 1 0 0) ∧ s.agent.level = .firmware ∧ 1 ∈ activeOf s.me 0 ∧
       (∀ e ∈ activeOf s.me 0, e < 1 → PlainBytes s (deviceEnd - 4) 4) ∧ deviceEnd ≤ deviceEnd - 4 + 4 ∧
       deviceEnd - 4 + 4 < peerBase ∧ (activeOf s.me 0).filter (fun e => decide (e < 1)) ≠ [] ∧ s.viewer = none ∧
       s.me.firm.regs.depth ≠ 2) := by
  repeat' with_reducible apply And.intro
  all_goals first | decide +kernel | exact runs_of (by decide +kernel) | exact ⟨_, rfl, by decide +kernel⟩

/-- A weave instruction for each check of R176, with those of WFORM and of two latches at their boundary. -/
theorem witness_weave_faults :
    let fails := fun (s : State) (i : Instr) (cause : Nat) =>
      runsB s i && s.me.reissue.isNone && decide ((weaveFault s i).map (·.1) = some cause) &&
        decide ((s.me.trapSet (trapLevel s)).regs.depth ≠ 2)
    fails w0 (.wform 1) 0x190 = true ∧ weaveFault w0 (.wform 0) = none ∧ fails (vec1 10) (.wzero 0) 0x191 = true ∧
    fails w0 (.wzero 1) 0x192 = true ∧ fails (woven 6 7 0) (.wgath 7 1 0) 0x193 = true ∧
    fails w0 (.wops 0 31 0) 0x194 = true ∧ fails wPlane (.wbp 0 0 1) 0x195 = true ∧
    fails (w0.setMe { w0.me with vec := { w0.me.vec with valid := [(0, 63), (2, 64)] } }) (.wop 0 63 0) 0x196 = true ∧
    fails w0 (.wdrain 0 7 0) 0x197 = true := by
  intro fails; and_intros <;> decide +kernel

/-- No fill of another context stands in a queue. -/
theorem witness_fillers : wIdx.fillers (clusterOf wIdx.cur) = [] ∧ w0.fillers (clusterOf w0.cur) = [] ∧
    wPlane.fillers (clusterOf wPlane.cur) = [] := by decide +kernel

/-- The lane pool of a thread with two lanes is whole, and a request of 8 needs lanes. -/
theorem witness_pool : let s := vec1 2
    s.me.live = true ∧ s.me.vec.lanes.Nodup ∧
    (∀ l ∈ s.me.vec.lanes, l < 256 ∧ aget LaneState.free (s.cluster (clusterOf s.cur)).lanes l = .granted s.cur) ∧
    ((s.cluster (clusterOf s.cur)).lanes.map (·.1)).Pairwise (· < ·) ∧
    (∀ p ∈ (s.cluster (clusterOf s.cur)).lanes, p.1 < 256 ∧ p.2 ≠ .free) ∧
    s.reservedIn (clusterOf s.cur) ≤ s.unlisted (clusterOf s.cur) ∧ (s.me.vec.masks.map (·.1)).Nodup ∧
    (∀ p ∈ (s.cluster (clusterOf s.cur)).lanes, p.2 = .granted s.cur) ∧ s.rp 2 = false ∧ (s.rv 2).toNat ≠ 0 ∧
    (64 - 16 * s.me.ptl.toNat) / (8 * 2 ^ s.me.pncode.toNat) ≠ 0 ∧
    s.me.vec.rows.all (fun p => decide (p.1 < 64 * s.me.vec.lanes.length)) = true := by
  intro s; decide +kernel

/-- A tile record at the head of its queue with a waiter, fresh, and with one of its four tiles handed out. -/
def tileWords100 : List (Word × Bool) := [(BitVec.ofNat 64 (7 + 100 * 2 ^ 16), true), (0x1000, false), (5, false), (6, false)]

def tiling (rs : List TileRec) : State :=
  pusher { openQ with
    tile := true, trowb := 128, waiters := [(0, 0)], chip := [{ words := tileWords100, level := .user }], tiles := rs } []

theorem witness_tile_dispatch :
    (let s := tiling []
     (s.die 0).state = .present ∧ (s.queue 0 255).isOpen = true ∧ (s.queue 0 255).stopped = false ∧ (s.queue 0 255).tile = true ∧
       s.waiterOf (s.queue 0 255) = some (0, 0) ∧ (s.queue 0 255).tiles = [] ∧
       (s.queue 0 255).chip.head?.map (·.words) = some tileWords100 ∧ tileWords100.length = 4) ∧
    (let r : TileRec := { serial := 77, words := tileWords100, next := 3 }
     let s := tiling [r]
     s.waiterOf (s.queue 0 255) = some (0, 0) ∧ (s.queue 0 255).tiles = [r] ∧ r.purged = false ∧ r.back = [] ∧
       r.next < (100 + 31) / 32 ∧ r.next + 1 = (100 + 31) / 32) := by
  and_intros <;> decide +kernel

/-- A TGET that was handed a task, a record read clean from a queue, a launch that no lost crew tainted, a port whose die is
not in an island reset. -/
theorem witness_clean : (waiting (some (item 0, [(5, false)]))).viewer = none ∧ recPoison (recWords oneCrew) = false ∧
    ((completed oneCrew).launches.find? fun p => p.1 == launchKey 0 2).map (·.2.tainted) = some false ∧
    (ported.dieById 0 0).any (fun d => (ported.die d).islandBusy) = false ∧ (asked 0).me.handed = none ∧
    (∀ h ∈ (asked 0).me.handlers, h.handed = none) := by decide +kernel

/-- A queue whose second instruction is a SETVL that scalar decode has not gone past, followed by one more. -/
theorem witness_allocator : let q : Instr → Word → VqEntry := fun i a => { addr := a, instr := i }
    let c : Ctx := { (vec1 2).me with pc := 0x100C, vq := [q (.vaddVV 3 1 2 0) 0x1000, q (.setvl 3 2 10) 0x1004, q (.mset 1) 0x1008] }
    AtAllocator c [q (.vaddVV 3 1 2 0) 0x1000] (q (.setvl 3 2 10) 0x1004) [q (.mset 1) 0x1008] := by
  intro q c
  refine ⟨rfl, ?_, .inl ⟨3, 2, 10, rfl⟩, rfl, ?_, by decide⟩
  · simp [q]
  · intro j x h
    match j, h with
    | 0, h => cases h; decide
    | 1, h => cases h; decide
    | j + 2, h => simp at h

/-- A line in an L1; a mask segment below 64 bits a row; a tile row that WDRAIN or VSAVE reads. -/
theorem witness_error_places : let s := us.touchL1 5 0x10000 false
    (s.die (5 / 256)).state = .present ∧ (∃ l ∈ (s.core 5).l1, l.line = 0x10000 / 64) ∧
    512 * 0 < 64 * (busy.ctx 0).geo.g * (busy.ctx 0).geo.rpr ∧
    (let w := w0.setMe { w0.me with vq := [{ addr := 0x1000, instr := .wdrain 0 5 0 }] }
     tileRead (.wdrain 0 5 0) = some 0 ∧ 0 < (w.ctx 0).vec.side * (w.ctx 0).vec.side ∧ 48 / 16 = 3 - (0#2).toNat ∧
       0 < (w.ctx 0).lanes ∧ (w.ctx 0).vq = [{ addr := 0x1000, instr := .wdrain 0 5 0 }]) ∧
    (0#2).toNat < w0.me.geo.tl := by
  intro s
  and_intros
  on_goal 2 => exact ⟨_, List.mem_cons_self .., by decide +kernel⟩
  all_goals decide +kernel

/-- A powered package: a die that is present, and one that is off while its tag walk goes on; a function's host. -/
theorem witness_trips : let p := { us with powered := true }
    let o := p.setDie 0 { p.die 0 with state := .off, walking := true }
    p.powered = true ∧ (p.die 0).state ≠ .off ∧ (p.die 0).islandBusy = false ∧ (o.die 0).state = .off ∧ (o.die 0).walking = true ∧
    (managed.mgmt || managed.hostUp 0) = true ∧ (ported.mgmt || ported.hostUp 0) = true ∧
    ((away false).die 1).stile = false ∧ (us.die 0).state ≠ .resetting := by
  intro p o; decide +kernel

/-- X-die 1 with no bank of kind 1 that verifies. -/
theorem witness_xdie_banks (h : ∀ k b, Config.imageVerifies k b = false) :
    ({ managed with images := [(2, []), (3, [])] } : State).bankFor 1 = none := by
  simp [State.bankFor, State.bankGood, State.bankDue, ahas, aget, managed, mapped, one, h]

/-! ### Words -/

theorem witness_words : WellFormed (.addi 5 6 0xFFFC) = true ∧ encode (.addi 5 6 0xFFFC) = some 0xFFFC3143#32 ∧
    decode 0xFFFC3143#32 = .ok (.addi 5 6 0xFFFC) := ⟨by decide +kernel, by decide +kernel, by rfl⟩

/-! ### One word of every row of the opcode table, its operand fields filled in by hand; of the rows that share a word the
one that decoding gives first. The words are put together from the table's fixed fields. -/

/-- Each word decodes to the instruction beside it. -/
noncomputable def reads (ps : List (BitVec 32 × Instr)) : Bool :=
  ps.all fun p => match decode p.1 with
    | .ok i => i == p.2
    | .error _ => false

theorem test_words_major_01_0 : reads [(0x00031041, .add 1 2 3), (0x08031041, .sub 1 2 3), (0x10031041, .and 1 2 3),
    (0x18031041, .or 1 2 3), (0x20031041, .xor 1 2 3), (0x28031041, .sll 1 2 3),
    (0x30031041, .srl 1 2 3), (0x38031041, .sra 1 2 3), (0x40031041, .slt 1 2 3),
    (0x48031041, .sltu 1 2 3), (0x50031041, .min 1 2 3), (0x58031041, .max 1 2 3)] = true := by decide +kernel

theorem test_words_major_01_1 : reads [(0x60031041, .minu 1 2 3), (0x68031041, .maxu 1 2 3), (0x70001041, .clz 1 2),
    (0x78001041, .ctz 1 2), (0x80001041, .popc 1 2), (0x88031041, .mul 1 2 3),
    (0x90031041, .mulh 1 2 3), (0x98031041, .mulhu 1 2 3), (0xA0031041, .div 1 2 3),
    (0xA8031041, .divu 1 2 3), (0xB0031041, .rem 1 2 3), (0xB8031041, .remu 1 2 3)] = true := by decide +kernel

theorem test_words_major_02 : reads [(0x00831042, .sel 1 2 3 4)] = true := by decide +kernel

theorem test_words_major_03 : reads [(0x00031043, .addi 1 2 3)] = true := by decide +kernel

theorem test_words_major_04 : reads [(0x00031044, .andi 1 2 3), (0x40031044, .ori 1 2 3), (0x80031044, .xori 1 2 3),
    (0xC0031044, .slti 1 2 3)] = true := by decide +kernel

theorem test_words_major_05 : reads [(0x00031045, .slli 1 2 3), (0x10031045, .srli 1 2 3), (0x20031045, .srai 1 2 3),
    (0x31031045, .bfx 1 2 3 4), (0x41031045, .bfi 1 2 3 4)] = true := by decide +kernel

theorem test_words_major_06 : reads [(0x00001046, .lih 1 2)] = true := by decide +kernel

theorem test_words_major_07 : reads [(0x00001047, .addpc 1 2)] = true := by decide +kernel

theorem test_words_major_08 : reads [(0x03031048, .fadd 1 2 3 4 1), (0x0B031048, .fsub 1 2 3 4 1), (0x13031048, .fmul 1 2 3 4 1),
    (0x1B031048, .fdiv 1 2 3 4 1), (0x20C01048, .fsqrt 1 2 3 0), (0x28031048, .fmin 1 2 3 0),
    (0x30031048, .fmax 1 2 3 0), (0x38031048, .feq 1 2 3 0), (0x40031048, .flt 1 2 3 0),
    (0x48031048, .fle 1 2 3 0)] = true := by decide +kernel

theorem test_words_major_09 : reads [(0xA0831049, .fma 1 2 3 4 4 2)] = true := by decide +kernel

theorem test_words_major_0A : reads [(0x2A60104A, .fcvt 1 2 3 10 2)] = true := by decide +kernel

theorem test_words_major_0C : reads [(0x0003104C, .beq 1 2 3), (0x2003104C, .bne 1 2 3), (0x4003104C, .blt 1 2 3),
    (0x6003104C, .bge 1 2 3), (0x8003104C, .bltu 1 2 3), (0xA003104C, .bgeu 1 2 3)] = true := by decide +kernel

theorem test_words_major_0D : reads [(0x0000104D, .jal 1 2)] = true := by decide +kernel

theorem test_words_major_0E : reads [(0x0003104E, .jalr 1 2 3)] = true := by decide +kernel

theorem test_words_major_0F : reads [(0x0003104F, .jtab 1 2 3)] = true := by decide +kernel

theorem test_words_major_10 : reads [(0x00431050, .ldB 1 2 3 4), (0x40431050, .ldH 1 2 3 4), (0x80431050, .ldW 1 2 3 4),
    (0xC0431050, .ldD 1 2 3 4)] = true := by decide +kernel

theorem test_words_major_11 : reads [(0x00431051, .stB 1 2 3 4), (0x40431051, .stH 1 2 3 4), (0x80431051, .stW 1 2 3 4),
    (0xC0431051, .stD 1 2 3 4)] = true := by decide +kernel

theorem test_words_major_12 : reads [(0x00431052, .ldBu 1 2 3 4), (0x40431052, .ldHu 1 2 3 4), (0x80431052, .ldWu 1 2 3 4),
    (0xC0301052, .pref 1 2 3)] = true := by decide +kernel

theorem test_words_major_13_0 : reads [(0x02601053, .ldAcq 1 2 3 4), (0x0A601053, .stRel 1 2 3 4), (0x12031053, .amoaddW 1 2 3 4),
    (0x1A031053, .amoaddD 1 2 3 4), (0x22031053, .amominW 1 2 3 4), (0x2A031053, .amominD 1 2 3 4),
    (0x32031053, .amomaxW 1 2 3 4), (0x3A031053, .amomaxD 1 2 3 4), (0x42031053, .amoandW 1 2 3 4),
    (0x4A031053, .amoandD 1 2 3 4), (0x52031053, .amoorW 1 2 3 4), (0x5A031053, .amoorD 1 2 3 4)] = true := by decide +kernel

theorem test_words_major_13_1 : reads [(0x62031053, .amoxorW 1 2 3 4), (0x6A031053, .amoxorD 1 2 3 4), (0x72031053, .amoswpW 1 2 3 4),
    (0x7A031053, .amoswpD 1 2 3 4), (0x82031053, .amocasW 1 2 3 4), (0x8A031053, .amocasD 1 2 3 4),
    (0x91000813, .cflush 1 2), (0x99000813, .cinv 1 2)] = true := by decide +kernel

theorem test_words_major_14 : reads [(0x00020054, .crr 1 2), (0x10020814, .crw 1 2), (0x20031054, .crs 1 2 3),
    (0x30031054, .crc 1 2 3)] = true := by decide +kernel

theorem test_words_major_15 : reads [(0x00010015, .fenceC 1), (0x00030815, .fenceP 3), (0x00011015, .fenceSv 1),
    (0x00011815, .trap 1), (0x01001815, .preempt), (0x01011815, .resume),
    (0x01021815, .setvec), (0x01031815, .attest), (0x00002015, .eret),
    (0x00002815, .yield), (0x00003015, .exit)] = true := by decide +kernel

theorem test_words_major_16 : reads [(0x00001056, .launch 1 2), (0x08001056, .cbar 1 2), (0x10001056, .prio 1 2),
    (0x18001056, .tsleep 1 2), (0x20001056, .twake 1 2)] = true := by decide +kernel

theorem test_words_major_18 : reads [(0x00601058, .setvl 1 2 3), (0x40200018, .vdecl 1), (0x42000018, .vgive),
    (0x44000018, .vsave), (0x46000058, .vrefill 1), (0x48001058, .vgeom 1 2)] = true := by decide +kernel

theorem test_words_major_19 : reads [(0x00301059, .setvli 1 2 3)] = true := by decide +kernel

theorem test_words_major_1A_0 : reads [(0x040C205A, .vaddVV 1 2 3 4), (0x140C205A, .vsubVV 1 2 3 4), (0x240C205A, .vmulVV 1 2 3 4),
    (0x340C205A, .vmulhVV 1 2 3 4), (0x440C205A, .vminVV 1 2 3 4), (0x540C205A, .vmaxVV 1 2 3 4),
    (0x640C205A, .vandVV 1 2 3 4), (0x740C205A, .vorVV 1 2 3 4), (0x840C205A, .vxorVV 1 2 3 4),
    (0x940C205A, .vsllVV 1 2 3 4), (0xA40C205A, .vsrlVV 1 2 3 4), (0xB40C205A, .vsraVV 1 2 3 4)] = true := by decide +kernel

theorem test_words_major_1A_1 : reads [(0xC40C205A, .vaddsVV 1 2 3 4), (0xD40C205A, .vsubsVV 1 2 3 4)] = true := by decide +kernel

theorem test_words_major_1B_0 : reads [(0x020C205B, .vaddVS 1 2 3 4), (0x0A0C205B, .vsubVS 1 2 3 4), (0x120C205B, .vmulVS 1 2 3 4),
    (0x1A0C205B, .vmulhVS 1 2 3 4), (0x220C205B, .vminVS 1 2 3 4), (0x2A0C205B, .vmaxVS 1 2 3 4),
    (0x320C205B, .vandVS 1 2 3 4), (0x3A0C205B, .vorVS 1 2 3 4), (0x420C205B, .vxorVS 1 2 3 4),
    (0x4A0C205B, .vsllVS 1 2 3 4), (0x520C205B, .vsrlVS 1 2 3 4), (0x5A0C205B, .vsraVS 1 2 3 4)] = true := by decide +kernel

theorem test_words_major_1B_1 : reads [(0x620C205B, .vaddsVS 1 2 3 4), (0x6A0C205B, .vsubsVS 1 2 3 4)] = true := by decide +kernel

theorem test_words_major_1C : reads [(0x040C205C, .vwadd 1 2 3 4), (0x140C205C, .vwmacc 1 2 3 4), (0x240C205C, .vwmaccu 1 2 3 4),
    (0x340C205C, .vnclip 1 2 3 4)] = true := by decide +kernel

theorem test_words_major_1D : reads [(0x040C205D, .vfaddVV 1 2 3 4), (0x140C205D, .vfsubVV 1 2 3 4), (0x240C205D, .vfmulVV 1 2 3 4),
    (0x340C205D, .vfmaVV 1 2 3 4), (0x440C205D, .vfmsVV 1 2 3 4), (0x540C205D, .vfnmaVV 1 2 3 4),
    (0x640C205D, .vfdivVV 1 2 3 4), (0x740C205D, .vfminVV 1 2 3 4), (0x840C205D, .vfmaxVV 1 2 3 4)] = true := by decide +kernel

theorem test_words_major_1E : reads [(0x020C205E, .vfaddVS 1 2 3 4), (0x0A0C205E, .vfsubVS 1 2 3 4), (0x120C205E, .vfmulVS 1 2 3 4),
    (0x1A0C205E, .vfmaVS 1 2 3 4), (0x220C205E, .vfmsVS 1 2 3 4), (0x2A0C205E, .vfnmaVS 1 2 3 4),
    (0x320C205E, .vfdivVS 1 2 3 4), (0x3A0C205E, .vfminVS 1 2 3 4), (0x420C205E, .vfmaxVS 1 2 3 4)] = true := by decide +kernel

theorem test_words_major_1F : reads [(0x0300205F, .vfsqrt 1 2 3), (0x1300205F, .vfrsq 1 2 3), (0x2300205F, .vfrec 1 2 3),
    (0x3300205F, .vfexp2 1 2 3), (0x4300205F, .vflog2 1 2 3), (0x5300205F, .vfsin 1 2 3),
    (0x6300205F, .vfcos 1 2 3)] = true := by decide +kernel

theorem test_words_major_20 : reads [(0x43002060, .vcvt 1 2 3 4)] = true := by decide +kernel

theorem test_words_major_21 : reads [(0x01802061, .vmv 1 2 3), (0x09880061, .vbcast 1 2 3), (0x11000061, .vidx 1 2)] = true := by decide +kernel

theorem test_words_major_22 : reads [(0x040C2062, .vcmpEqVV 1 2 3 4), (0x140C2062, .vcmpNeVV 1 2 3 4), (0x240C2062, .vcmpLtVV 1 2 3 4),
    (0x340C2062, .vcmpLeVV 1 2 3 4), (0x440C2062, .vcmpGtVV 1 2 3 4), (0x540C2062, .vcmpGeVV 1 2 3 4)] = true := by decide +kernel

theorem test_words_major_23 : reads [(0x020C2063, .vcmpEqVS 1 2 3 4), (0x0A0C2063, .vcmpNeVS 1 2 3 4), (0x120C2063, .vcmpLtVS 1 2 3 4),
    (0x1A0C2063, .vcmpLeVS 1 2 3 4), (0x220C2063, .vcmpGtVS 1 2 3 4), (0x2A0C2063, .vcmpGeVS 1 2 3 4)] = true := by decide +kernel

theorem test_words_major_24 : reads [(0x040C2064, .vfcmpEq 1 2 3 4), (0x140C2064, .vfcmpNe 1 2 3 4), (0x240C2064, .vfcmpLt 1 2 3 4),
    (0x340C2064, .vfcmpLe 1 2 3 4)] = true := by decide +kernel

theorem test_words_major_25 : reads [(0x020C2065, .vrsum 1 2 3 4), (0x0A0C2065, .vrmax 1 2 3 4), (0x120C2065, .vrmin 1 2 3 4),
    (0x1A0C2065, .vfrsum 1 2 3 4), (0x220C2065, .vfrmax 1 2 3 4)] = true := by decide +kernel

theorem test_words_major_26 : reads [(0x000C2066, .mand 1 2 3), (0x100C2066, .mor 1 2 3), (0x200C2066, .mxor 1 2 3),
    (0x30002066, .mnot 1 2), (0x40000066, .mset 1), (0x50000066, .mclr 1)] = true := by decide +kernel

theorem test_words_major_27 : reads [(0x00002067, .mcnt 1 2), (0x08002067, .many 1 2), (0x10002067, .mfirst 1 2),
    (0x1A0C2067, .vmaxix 1 2 3 4)] = true := by decide +kernel

theorem test_words_major_28 : reads [(0x040C2068, .vcprs 1 2 3 4), (0x13002068, .vexpd 1 2 3), (0x240C2068, .vperm 1 2 3 4),
    (0x340C2068, .vpush 1 2 3 4)] = true := by decide +kernel

theorem test_words_major_29 : reads [(0x020C2069, .vslup 1 2 3 4), (0x0A0C2069, .vsldn 1 2 3 4), (0x120C2069, .vrot 1 2 3 4),
    (0x1A0C2069, .vgrpt2 1 2 3 4), (0x220C2069, .vgrpmsk 1 2 3 4), (0x2A0C2069, .vnofm 1 2 3 4)] = true := by decide +kernel

theorem test_words_major_2A : reads [(0x0086206A, .vld 1 2 3 4), (0x1086206A, .vldff 1 2 3 4), (0x2A86206A, .vldp 1 2 3 4 5),
    (0x8A86206A, .vlds 1 2 3 4 5)] = true := by decide +kernel

theorem test_words_major_2B : reads [(0x0A86206B, .vldx 1 2 3 4 5)] = true := by decide +kernel

theorem test_words_major_2C : reads [(0x0086206C, .vst 1 2 3 4), (0x8A86206C, .vsts 1 2 3 4 5)] = true := by decide +kernel

theorem test_words_major_2D : reads [(0x0A86206D, .vstx 1 2 3 4 5), (0x8A86206D, .vstxadd 1 2 3 4 5)] = true := by decide +kernel

theorem test_words_major_2E : reads [(0x0100002E, .wform 1), (0x1000002E, .wsplit), (0x2000006E, .wzero 1),
    (0x3100026E, .wdrain 1 2 1), (0x4000812E, .wfmt 1 2)] = true := by decide +kernel

theorem test_words_major_2F : reads [(0x0030812F, .wgath 1 2 3), (0x1000812F, .wldb 1 2)] = true := by decide +kernel

theorem test_words_major_30 : reads [(0x03000270, .wop 1 2 3), (0x13000270, .wops 1 2 3), (0x23000270, .wbp 1 2 3),
    (0x3440C270, .wopv 1 2 3 4 4)] = true := by decide +kernel

theorem test_words_major_32 : reads [(0x02031072, .send 1 2 3 4), (0x09820832, .sendP 1 2 3), (0x12031072, .mpop 1 2 3 4),
    (0x18000032, .mret), (0x20031072, .waitm 1 2 3), (0x2A031072, .eng 1 2 3 4)] = true := by decide +kernel

theorem test_words_major_33 : reads [(0x14831073, .put 1 2 3 4 5), (0x54831073, .putm 1 2 3 4 5)] = true := by decide +kernel

theorem test_words_major_34 : reads [(0x00031074, .chbind 1 2 3), (0x08001074, .chen 1 2), (0x10001074, .chdis 1 2),
    (0x18031074, .chpendRead 1 2 3)] = true := by decide +kernel

theorem test_words_major_35 : reads [(0x01820835, .binit 1 2 3), (0x0A031075, .barr 1 2 3 4), (0x12031075, .bexp 1 2 3 4),
    (0x1A031075, .bwait 1 2 3 4), (0x22031075, .bqry 1 2 3 4)] = true := by decide +kernel

theorem test_words_major_36 : reads [(0x02031076, .tqpush 1 2 3 4), (0x0A031076, .tget 1 2 3 4), (0x11000076, .tdone 1 2),
    (0x1A031076, .tdepRead 1 2 3 4), (0x22031076, .tileq 1 2 3 4)] = true := by decide +kernel

theorem test_words_major_37 : reads [(0x14831077, .xdisp 1 2 3 4 5), (0x54831077, .xcomb 1 2 3 4 5)] = true := by decide +kernel

theorem test_words_major_38 : reads [(0x00001078, .dreg 1 2), (0x08001078, .ddel 1 2), (0x10031078, .dmove 1 2 3)] = true := by decide +kernel

theorem test_words_major_39 : reads [(0x04031079, .solicit 1 2 3 4), (0x08031079, .reply 1 2 3), (0x10031079, .cwait 1 2 3),
    (0x18031079, .cresResult 1 2 3)] = true := by decide +kernel

theorem test_words_major_3A : reads [(0x0003107A, .tlbinvVa 1 2 3), (0x0800107A, .chkerr 1 2), (0x1003107A, .errqPop 1 2 3),
    (0x1802083A, .poisonMark 1 2)] = true := by decide +kernel

/-! ### Worked words of the specification -/

/-- The examples of the chapters on scalar instructions, of YIELD and EXIT, and of weaves. -/
theorem test_worked_words : reads [(0xA0073141, .div 5 6 7), (0x20033145, .srai 5 6 3), (0x00009146, .lih 5 0x12),
    (0x02073148, .fadd 5 6 7 0 1), (0x01073149, .fma 5 6 7 8 0 0), (0x00002815, .yield), (0x00003015, .exit),
    (0x00015BC4, .andi 15 11 1), (0xF8080246, .lih 9 0x1F0100), (0xC0009551, .stD 21 18 0 0), (0x1018B5F2, .mpop 23 22 24 0),
    (0x12003F70, .wops 1 63 2), (0x321185B0, .wopv 2 5 6 1 2)] = true := by decide +kernel

/-- Words that are no instruction, by their first cause (R43): a zero word, an unassigned major, a nonzero zero field of
ADD, a type pair that is reserved, rounding code 5, a fence of one path. -/
theorem test_illegal_words : [decode 0, decode 0x3F, decode 0x00200001, decode 0x2E20314A, decode 0x02A73148].all (fun x =>
    match x with | .ok _ => false | .error _ => true) = true := by decide +kernel

/-! ### Ill-formed terms, one for each check of WellFormed -/

/-- R43: rounding codes 5 and 6, reserved types, equal types, ranges, empty masks and registers above s28. -/
theorem test_ill_formed : [Instr.fadd 1 2 3 5 0, .fsub 1 2 3 6 0, .fmul 1 2 3 5 0, .fdiv 1 2 3 5 0, .fsqrt 1 2 5 0, .fma 1 2 3 4 5 0,
    .fcvt 1 2 0 0xA 0xA, .fcvt 1 2 0 0xE 0xA, .fcvt 1 2 0 0xA 0xF, .fcvt 1 2 6 0xA 0x2, .bfx 1 2 1 63, .bfi 1 2 63 1, .pref 2 1 0,
    .fenceC 0, .fenceP 0, .fenceP 8, .fenceSv 0, .setvl 1 2 0xE, .setvl 1 2 0x50, .setvli 1 0xF 4, .vcvt 1 2 0 0xE,
    .vmaxix 1 2 3 0, .vcprs 1 2 3 0, .vexpd 1 2 0, .wop 0 1 5, .wops 0 1 5, .wbp 0 1 8, .wopv 0 1 2 0 5, .send 1 29 2 0,
    .sendP 29 2 0, .mpop 1 2 0 0, .mpop 1 2 29 0, .eng 1 29 2 0].all (fun i => !WellFormed i) = true := by decide +kernel

theorem test_well_formed : [Instr.fadd 1 2 3 4 0, .fcvt 1 2 0 0xA 0xD, .bfx 1 2 1 62, .fenceC 1, .fenceP 3, .setvl 1 2 0xD,
    .wop 0 1 4, .wbp 0 1 7, .send 1 28 2 0, .mpop 1 2 28 0].all WellFormed = true := by decide +kernel

/-- Numbers an event may not name: contexts from 8,192, cores from 2,048, C-dies from 8, functions from 65. -/
theorem test_event_ranges : [Instr.waitmTimeout 8192, .stubFree 2048 0, .dieReset 8, .portstatRead 65, .linkRetry 16,
    .censusVisit 0 256 0, .taskDispatch 0 256, .engCopy 0 4, .hbmReady 16].all (fun i => !WellFormed i) = true := by decide +kernel

/-! ### Rows that share a word -/

/-- The operand in sb selects the row (R243, R272, R282, R302, R326, R338, R345). -/
theorem test_refine : refine (.chpendRead 1 2 5) fw = .chpendSet 1 2 5 ∧ refine (.errqPop 1 2 5) fw = .errqNotice 1 2 5 ∧
    refine (.poisonMark 1 5) fw = .poisonClear 1 5 ∧ refine (.cresResult 1 2 5) fw = .cresStatus 1 2 5 ∧
    refine (.tlbinvVa 1 2 5) fw = .tlbinvAll 1 2 5 ∧ refine (.tqpush 1 2 3 0) fw = .tqpush 1 2 3 0 ∧
    refine (.tqpush 1 1 2 0) (opener 3 openQ) = .queuePurge 1 1 2 0 ∧
    refine (.tdepRead 1 1 2 0) (counting 2) = .tdepSet 1 1 2 0 := by decide +kernel

/-! ### Single steps, with results worked out from the rules -/

/-- The state after an instruction that gives a next one. -/
def ran (s : State) (i : Instr) : State :=
  match exec i s with
  | .next t => t
  | _ => {}

/-- A user thread with two registers. -/
def pair (x y : Word) : State := one { thread .user with regs := [(1, x), (2, y)] }

/-- R59: sums wrap; a quotient by zero is all ones and its remainder the dividend; the most negative number over -1. -/
theorem test_add_wraps : (ran (pair 0xFFFFFFFFFFFFFFFF 2) (.add 3 1 2)).rv 3 = 1 ∧
    (ran (pair 0xFFFFFFFFFFFFFFFF 2) (.add 0 1 2)).rv 0 = 0 ∧ (ran (pair 0 1) (.sub 1 1 2)).rv 1 = 0xFFFFFFFFFFFFFFFF := by
  decide +kernel

theorem test_div : (ran (pair 7 0) (.div 3 1 2)).rv 3 = 0xFFFFFFFFFFFFFFFF ∧ (ran (pair 7 0) (.rem 3 1 2)).rv 3 = 7 ∧
    (ran (pair 0x8000000000000000 0xFFFFFFFFFFFFFFFF) (.div 3 1 2)).rv 3 = 0x8000000000000000 ∧
    (ran (pair 0x8000000000000000 0xFFFFFFFFFFFFFFFF) (.rem 3 1 2)).rv 3 = 0 ∧
    (ran (pair 0xFFFFFFFFFFFFFFF9 2) (.div 3 1 2)).rv 3 = 0xFFFFFFFFFFFFFFFD := by decide +kernel

/-- Shift amounts are taken mod 64; BFX counts from its position, sign extension none. -/
theorem test_shift_field : (ran (pair 1 65) (.sll 3 1 2)).rv 3 = 2 ∧ (ran (pair 0xABCD 0) (.bfx 3 1 4 7)).rv 3 = 0xBC ∧
    (ran (pair 0x8000000000000000 4) (.sra 3 1 2)).rv 3 = 0xF800000000000000 := by decide +kernel

/-- R67: a branch taken goes to pc + 4 + 4·off; one not taken to pc + 4. -/
theorem test_branch : (ran us (.beq 1 1 0x1FFF)).me.pc = 0x1000 ∧ (ran us (.bne 1 1 5)).me.pc = 0x1004 ∧
    (ran us (.jal 1 2)).rv 1 = 0x1004 ∧ (ran us (.jal 1 2)).me.pc = 0x100C := by decide +kernel

/-- 1.0 + 2^-30 in FP32 is 1.0, inexact; 1.0 / 0 is infinity with division by zero. -/
theorem test_float : (ran (pair 0x3F800000 0x30800000) (.fadd 3 1 2 0 1)).rv 3 = 0x3F800000 ∧
    (ran (pair 0x3F800000 0) (.fdiv 3 1 2 0 1)).rv 3 = 0x7F800000 ∧
    (ran (pair 0x40000000 0) (.fcvt 3 1 1 0xA 0x2)).rv 3 = 2 := by decide +kernel

/-- A load reads little-endian bytes and extends the sign; a store is read back by the same thread. -/
theorem test_load_store : (ran fw (.ldD 6 1 15 0)).rv 6 = 0x8000000004030201 ∧ (ran fw (.ldB 6 1 15 7)).rv 6 = 0xFFFFFFFFFFFFFF80 ∧
    (ran fw (.ldBu 6 1 15 7)).rv 6 = 0x80 ∧ (ran (ran fw (.stW 2 1 15 4)) (.ldD 6 1 15 0)).rv 6 = 0x0000000804030201 := by
  decide +kernel

/-- AMOADD.W adds to the word at the address and gives the old one, sign-extended. -/
theorem test_amo : (ran fw (.amoaddW 6 1 2 15)).rv 6 = 0x04030201 ∧
    leNat (storedBytes (ran fw (.amoaddW 6 1 2 15)) 0x10000 4) = 0x04030209 := by decide +kernel

/-- TRAP #1 in user code enters supervisor level at STVEC with the next PC saved; ERET returns there (R310 to R317). -/
theorem test_trap_eret : (ran us (.trap 0x001)).me.level = .supervisor ∧ (ran us (.trap 0x001)).me.pc = 0x4000 ∧
    (ran us (.trap 0x001)).me.sup.regs.epc = 0x1004 ∧ (ran (ran us (.trap 0x001)) .eret).me.level = .user ∧
    (ran (ran us (.trap 0x001)) .eret).me.pc = 0x1004 := by decide +kernel

/-! ### The cipher of HBM lines (R376; log 14) -/

/-- AES-256 of a block: the example of FIPS 197, appendix C.3. -/
theorem test_aes256 : leNat ((aesEncrypt (List.range 32) ((List.range 16).map (17 * ·))).map (BitVec.ofNat 8)) =
    0x8960494b9049fceabf456751cab7a28e := by decide +kernel

/-! ### The step -/

/-- A firmware thread at 0x1000, where ADDI s1, s0, 7 stands; where a zero word stands; a user thread without tables. -/
def fetching : State := { fw with mem := [(0x1000, 0x43), (0x1002, 0x07)] }

noncomputable def picked (s : State) : State := { s.noteIssue (coreOf s.cur) 0 with cur := 0 }

/-- A vector instruction stands at the head of the queue of a thread that a pre-emption keeps from the slot; another is
queued while one is fetched; a fetch that waits for the host's own link. -/
theorem witness_step_queue : let s := busy.setMe { busy.me with yielded := true }
    let idle := fun (s : State) => ((s.landLoads 0).boundaries 0).noteIdle 0
    s.agenda = [] ∧ ((s.landLoads 0).boundaries 0).pick 0 = none ∧ (contextsOf 0).find? (idle s).queueRuns = some 0 ∧
    (idle s).queueTurn 0 = 0 ∧ ((idle s).ctx 0).vq = [vadd] ∧ ((State.reset.landLoads 0).boundaries 0).pick 0 = none ∧
    (∀ g ∈ contextsOf 0, (idle State.reset).queueRuns g = false ∧ bufferedStores ((idle State.reset).ctx g).pend < 16) := by
  intro s idle
  decide +kernel

theorem witness_step : fetching.agenda = [] ∧ (fetching.landLoads 0).boundaries 0 = fetching ∧
    fetching.pick (coreOf fetching.cur) = some 0 ∧ fw.pick 0 = some 0 ∧ us.pick 0 = some 0 ∧
    (picked fetching).me.stopsHere = false ∧ (picked fetching).eligibleChan 0 = none ∧ (picked fetching).me.vq = [] ∧
    (picked fetching).me.level = .firmware ∧ (picked fetching).me.pend = [] ∧ (picked fetching).me.pc.toNat % 4 = 0 ∧
    PlainBytes (picked fetching) (picked fetching).me.pc.toNat 4 ∧ (picked fetching).fetch.1.me.revoke = none := by decide +kernel

theorem witness_fetch : ∃ u w, (picked fetching).fetch = (u, .ok w) ∧ decode w = .ok (.addi 1 0 7) := by
  obtain ⟨u, h⟩ := of_gave (x := (picked fetching).fetch) (y := 0x00070043#32) (by decide +kernel)
  exact ⟨u, _, h, by rfl⟩

theorem witness_fetch_none : (∃ u w, (picked fw).fetch = (u, .ok w) ∧ decode w = .error .illZero) ∧
    (picked us).fetch.2.toOption.isSome = false := by
  obtain ⟨u, h⟩ := of_gave (x := (picked fw).fetch) (y := 0#32) (by decide +kernel)
  exact ⟨⟨u, _, h, by rfl⟩, by decide +kernel⟩

/-- The step runs it. -/
theorem test_step : (match step fetching with | .next t => t.rv 1 | _ => 0) = 7 ∧
    (match step (State.reset.withFetchWord 32 0x00070043) with | .next t => t.rv 1 | _ => 0) = 7 := by decide +kernel

theorem witness_canonical : fetching.ok = true ∧ (match step fetching with | .next _ => true | _ => false) = true := by
  decide +kernel

/-- A context's boundary: one that a pre-emption stops, one whose handler starts, one at which nothing happens. -/
theorem witness_boundaries : (asked 0).runs 0 = true ∧ ((asked 0).ctx 0).stopsHere = true ∧
    ringing.runs 0 = true ∧ (ringing.ctx 0).stopsHere = false ∧ (ringing.eligibleChan 0).isSome = true ∧ us.runs 0 = true ∧
    (us.ctx 0).stopsHere = false ∧ us.eligibleChan 0 = none ∧ (us.ctx 0).wait = none ∧ State.reset.runs 0 = false := by
  decide +kernel

/-- PCs that cannot be fetched from. -/
theorem witness_fetch_faults : (0x1002#64).toNat % 4 ≠ 0 ∧ canonical (0x0100000000000000#64).toNat = false ∧
    inWindow (0xFFFFFFFF01000000#64).toNat = true ∧ us.agent.level ≠ .firmware ∧ fw.agent.level = .firmware ∧
    deviceEnd ≤ (0xC000000000#64).toNat ∧ (0xC000000000#64).toNat < peerBase ∧ (0x0010000000000000#64).toNat = 2 ^ 52 := by
  decide +kernel

end Sys2Proof.Tests
end

section
/-! PROOFS. Scalar floating point: every row of R63 to R65 ends in `State.retireF`. -/

namespace Sys2Proof.Machine

/-- The register's value of an integer result of FCVT is its integer modulo 2^64 (R65). -/
theorem extendInt_eq (t x : Nat) : extendInt t x = (BitVec.ofInt 64 (intOf t x)).toNat := by
  rw [extendInt, encodeInt, BitVec.toNat_ofInt]

/-- A scalar floating-point instruction ends by writing the result that the tables give it, with its flags. -/
theorem exec_of_floatResult {s : State} {i : Instr} {d : BitVec 5} {r : Nat × Flags} {p : Bool}
    (h : floatResult s i = some (d, r, p)) : exec i s = .next (s.retireF d r p) := by
  unfold floatResult at h
  dsimp only at h
  split at h
  case h_12 d a rm sx t =>
    obtain ⟨rfl, rfl, rfl⟩ := h
    simp only [← extendInt_eq]
    show execFcvt d a rm sx t s = _
    unfold execFcvt typeFloat
    simp only [decide_eq_true_eq]
    rfl
  case h_13 => cases h
  all_goals
    obtain ⟨rfl, rfl, rfl⟩ := h
    rfl

/-- Settles O2: every row ends in `State.retireF`, whose effect is `retireF_wroteAt`. -/
theorem scalarFloatResults : Obligations.ScalarFloatResults := by
  unfold Obligations.ScalarFloatResults
  intro s i d r p hr hf
  exact ⟨_, exec_of_floatResult hf, retireF_wroteAt s d r p hr⟩

end Sys2Proof.Machine
end

section
/-! PROOFS. Rounding to nearest, ties to even (R9, R16, R18), over the rationals. -/

namespace Sys2Proof.Machine

/-! ### The numbers of a format -/

/-- What the magnitudes of a format rest on: a fraction bit, and the end of the finite ones. -/
def Format.Sound (f : Format) : Prop :=
  1 ≤ f.mbits ∧ f.maxFin + 1 < f.signBit ∧
  (if f.hasInf then f.maxFin + 1 = (2 ^ f.ebits - 1) * 2 ^ f.mbits else f.maxFin + 2 = f.signBit)

/-- The significand of a magnitude's encoding. -/
def Format.sig (f : Format) (g : Nat) : Nat := if g < 2 ^ f.mbits then g else 2 ^ f.mbits + g % 2 ^ f.mbits

/-- The binary places by which an encoding's significand stands above the smallest subnormal. -/
def Format.shift (f : Format) (g : Nat) : Nat := g / 2 ^ f.mbits - 1

/-- A magnitude's encoding in units of the smallest subnormal. -/
def Format.units (f : Format) (g : Nat) : Nat := f.sig g * 2 ^ f.shift g

theorem formatOf_sound {t : Nat} (h8 : 8 ≤ t) (h13 : t ≤ 13) : (formatOf t).Sound := by
  unfold Format.Sound
  interval_cases t <;> decide

/-- An encoding of a sound format stands for a finite number just where its magnitude is at most the greatest one. -/
theorem decodeFloat_eq {t : Nat} (hs : (formatOf t).Sound) (c : Nat) :
    let f := formatOf t
    let g := c % f.signBit
    (g ≤ f.maxFin → decodeFloat t c = .fin (decide (c / f.signBit % 2 = 1)) (f.sig g) (f.qmin + f.shift g)) ∧
    (f.maxFin < g → ∀ n m x, decodeFloat t c ≠ .fin n m x) := by
  intro f g
  obtain ⟨hmb, hmax, hinf⟩ := hs
  change 1 ≤ f.mbits at hmb
  change f.maxFin + 1 < f.signBit at hmax
  change (if f.hasInf then f.maxFin + 1 = (2 ^ f.ebits - 1) * 2 ^ f.mbits else f.maxFin + 2 = f.signBit) at hinf
  have hsb : f.signBit = 2 ^ f.mbits * 2 ^ f.ebits := by rw [Format.signBit, pow_add, mul_comm]
  have hneg : bitsOf c (f.ebits + f.mbits) 1 = c / f.signBit % 2 := by
    rw [bitsOf, Nat.shiftRight_eq_div_pow, pow_one, Format.signBit]
  have hex : bitsOf c f.mbits f.ebits = g / 2 ^ f.mbits := by
    rw [bitsOf, Nat.shiftRight_eq_div_pow]
    show _ = c % f.signBit / 2 ^ f.mbits
    rw [hsb, Nat.mod_mul_right_div_self]
  have hfr : c % 2 ^ f.mbits = g % 2 ^ f.mbits := by
    show _ = c % f.signBit % 2 ^ f.mbits
    rw [hsb, Nat.mod_mul_right_mod]
  have hg : g < f.signBit := Nat.mod_lt _ (by rw [hsb]; positivity)
  have hdm := Nat.div_add_mod g (2 ^ f.mbits)
  have hfl : g % 2 ^ f.mbits < 2 ^ f.mbits := Nat.mod_lt _ (by positivity)
  have hE : 0 < 2 ^ f.ebits := by positivity
  have hM : 0 < 2 ^ f.mbits := by positivity
  have hdec : decodeFloat t c =
      if g / 2 ^ f.mbits = 2 ^ f.ebits - 1 ∧ f.hasInf then
        if g % 2 ^ f.mbits = 0 then .inf (decide (c / f.signBit % 2 = 1)) else .nan (bitsOf c (f.mbits - 1) 1 = 0)
      else if !f.hasInf && g = f.maxFin + 1 then .nan false
      else if g / 2 ^ f.mbits = 0 then .fin (decide (c / f.signBit % 2 = 1)) (g % 2 ^ f.mbits) f.qmin
      else .fin (decide (c / f.signBit % 2 = 1)) (2 ^ f.mbits + g % 2 ^ f.mbits) (f.qmin + ((g / 2 ^ f.mbits : Nat) - 1)) := by
    rw [← hneg, ← hex, ← hfr]
    simp only [decodeFloat]
    rfl
  have htop : f.hasInf = true → (g / 2 ^ f.mbits = 2 ^ f.ebits - 1 ↔ f.maxFin < g) := by
    intro hi
    rw [if_pos hi] at hinf
    rw [Nat.div_eq_iff hM, ← hinf, ← Nat.lt_succ_iff]
    have : (2 ^ f.ebits - 1 + 1) * 2 ^ f.mbits = f.signBit := by rw [Nat.sub_add_cancel hE, hsb, mul_comm]
    rw [add_mul, ← hinf, one_mul] at this
    omega
  constructor
  · intro hle
    rw [hdec, if_neg (fun h => absurd ((htop h.2).1 h.1) (by omega)), if_neg (by simp; omega)]
    unfold Format.sig Format.shift
    simp only [Nat.div_eq_zero_iff_lt hM]
    split_ifs with hlt
    · rw [Nat.mod_eq_of_lt hlt, Nat.div_eq_of_lt hlt]; simp
    · have : 1 ≤ g / 2 ^ f.mbits := (Nat.one_le_div_iff hM).2 (by omega)
      rw [Nat.cast_sub this, Nat.cast_one]
  · intro hlt n m x
    rw [hdec]
    by_cases hi : f.hasInf = true
    · rw [if_pos ⟨(htop hi).2 hlt, hi⟩]; split_ifs <;> simp
    · rw [if_neg (fun h => hi h.2), if_pos]
      · simp
      · rw [if_neg hi] at hinf
        simp only [hi, Bool.not_false, Bool.true_and, decide_eq_true_eq]
        omega

/-- The finite numbers of a sound format. -/
theorem decodeFloat_fin {t : Nat} (hs : (formatOf t).Sound) {c : Nat} {n : Bool} {m : Nat} {x : Int}
    (h : decodeFloat t c = .fin n m x) :
    ∃ g, g = c % (formatOf t).signBit ∧ g ≤ (formatOf t).maxFin ∧ m = (formatOf t).sig g ∧
      x = (formatOf t).qmin + (formatOf t).shift g := by
  obtain ⟨hfin, hnon⟩ := decodeFloat_eq hs c
  have hle : c % (formatOf t).signBit ≤ (formatOf t).maxFin := by
    by_contra hc
    exact hnon (by omega) n m x h
  rw [hfin hle] at h
  cases h
  exact ⟨_, rfl, hle, rfl, rfl⟩

/-- The number that a sign over a finite magnitude stands for. -/
theorem decodeFloat_signed {t : Nat} (hs : (formatOf t).Sound) (neg : Bool) {g : Nat} (hg : g ≤ (formatOf t).maxFin) :
    decodeFloat t ((formatOf t).signed neg g) =
      .fin neg ((formatOf t).sig g) ((formatOf t).qmin + (formatOf t).shift g) := by
  have hlt : g < (formatOf t).signBit := by have := hs.2.1; omega
  have hmod : (formatOf t).signed neg g % (formatOf t).signBit = g := by
    unfold Format.signed
    split_ifs
    · rw [Nat.add_mod_left, Nat.mod_eq_of_lt hlt]
    · exact Nat.mod_eq_of_lt hlt
  have hdiv : decide ((formatOf t).signed neg g / (formatOf t).signBit % 2 = 1) = neg := by
    unfold Format.signed
    split_ifs with hn
    · rw [Nat.add_div_left _ (by omega), Nat.div_eq_of_lt hlt, hn]; rfl
    · rw [Nat.div_eq_of_lt hlt]; simpa using hn
  have := (decodeFloat_eq hs ((formatOf t).signed neg g)).1 (by rw [hmod]; exact hg)
  rw [this, hmod, hdiv]

/-- The overflow results are no finite numbers. -/
theorem decodeFloat_inf {t : Nat} (h8 : 8 ≤ t) (h13 : t ≤ 13) (neg : Bool) {n : Bool} {m : Nat} {x : Int} :
    decodeFloat t ((formatOf t).inf neg) ≠ .fin n m x := by
  have hs := formatOf_sound h8 h13
  refine (decodeFloat_eq hs _).2 ?_ n m x
  have hlt : (formatOf t).maxFin + 1 < (formatOf t).signBit := hs.2.1
  unfold Format.inf Format.signed
  split_ifs
  · rw [Nat.add_mod_left, Nat.mod_eq_of_lt hlt]; omega
  · rw [Nat.mod_eq_of_lt hlt]; omega

/-! ### Nearest, ties to even -/

/-- A natural number nearest to a rational one, even where another is as near. -/
def NearestEven (r : Nat) (u : ℚ) : Prop := |(r : ℚ) - u| < 1 / 2 ∨ |(r : ℚ) - u| = 1 / 2 ∧ r % 2 = 0

/-- Rounding in mode 0 takes the nearest multiple, and says whether it is another number. -/
theorem roundAt_nearest (neg : Bool) (m : Nat) (e q : Int) :
    let r := roundAt 0 neg m e false q
    let u := (m : ℚ) * 2 ^ (e - q)
    NearestEven r.1 u ∧ r.2 = decide ((r.1 : ℚ) ≠ u) := by
  intro r u
  by_cases hq : q ≤ e
  · have hr : r = (m * 2 ^ (e - q).toNat, false) := if_pos hq
    have hu : ((m * 2 ^ (e - q).toNat : Nat) : ℚ) = u := by
      show _ = (m : ℚ) * 2 ^ (e - q)
      obtain ⟨d, hd⟩ : ∃ d : Nat, e - q = d := ⟨(e - q).toNat, by omega⟩
      rw [hd, zpow_natCast]
      simp
    rw [hr]
    simp only [NearestEven, hu]
    norm_num
  · have hk : ∃ k, (q - e).toNat = k + 1 := ⟨(q - e).toNat - 1, by omega⟩
    obtain ⟨k, hk⟩ := hk
    have hu : u = (m : ℚ) / 2 ^ (k + 1) := by
      show (m : ℚ) * 2 ^ (e - q) = _
      rw [show e - q = -((k + 1 : Nat) : Int) by omega, zpow_neg, zpow_natCast]; rfl
    have hr : r = (if decide (2 ^ k < m % 2 ^ (k + 1)) || m % 2 ^ (k + 1) == 2 ^ k && m / 2 ^ (k + 1) % 2 == 1
        then m / 2 ^ (k + 1) + 1 else m / 2 ^ (k + 1), m % 2 ^ (k + 1) != 0) := by
      show roundAt 0 neg m e false q = _
      rw [roundAt, if_neg hq, hk]
      simp
    have hm : ((m / 2 ^ (k + 1) : Nat) : ℚ) + (m % 2 ^ (k + 1) : Nat) / 2 ^ (k + 1) = u := by
      rw [hu, eq_div_iff (by positivity), add_mul, div_mul_cancel₀ _ (by positivity), mul_comm]
      exact_mod_cast Nat.div_add_mod m (2 ^ (k + 1))
    have hlt : m % 2 ^ (k + 1) < 2 ^ (k + 1) := Nat.mod_lt _ (by positivity)
    generalize m % 2 ^ (k + 1) = rem at *
    generalize m / 2 ^ (k + 1) = kept at *
    have hd0 : (0 : ℚ) ≤ rem / 2 ^ (k + 1) := by positivity
    have hd1 : (rem : ℚ) / 2 ^ (k + 1) < 1 := by rw [div_lt_one (by positivity)]; exact_mod_cast hlt
    have hhalf : (rem : ℚ) / 2 ^ (k + 1) - 1 / 2 = (rem - 2 ^ k) / 2 ^ (k + 1) := by
      rw [pow_succ]; field_simp
    have hz : rem = 0 ↔ (rem : ℚ) / 2 ^ (k + 1) = 0 := by simp
    have hk0 : 0 < 2 ^ k := by positivity
    rcases lt_trichotomy rem (2 ^ k) with h | h | h
    · have hb : (rem : ℚ) / 2 ^ (k + 1) < 1 / 2 := by
        rw [← sub_neg, hhalf]
        exact div_neg_of_neg_of_pos (sub_neg.2 (by exact_mod_cast h)) (by positivity)
      rw [if_neg (by simp; omega)] at hr
      rw [hr, ← hm]
      simp only [NearestEven, sub_add_cancel_left, abs_neg, abs_of_nonneg hd0]
      refine ⟨.inl hb, ?_⟩
      by_cases h0 : rem = 0 <;> simp [h0]
    · have hb : (rem : ℚ) / 2 ^ (k + 1) = 1 / 2 := by
        rw [← sub_eq_zero, hhalf, h]; simp
      have hne : rem ≠ 0 := by omega
      rw [hr, ← hm, hb]
      by_cases hodd : kept % 2 = 1
      · rw [if_pos (by simp [h, hodd])]
        refine ⟨.inr ⟨?_, by omega⟩, ?_⟩
        · push_cast; norm_num
        · push_cast; simp [hne]
      · rw [if_neg (by simp [h, hodd])]
        refine ⟨.inr ⟨?_, by omega⟩, ?_⟩
        · norm_num
        · simp [hne]
    · have hb : 1 / 2 < (rem : ℚ) / 2 ^ (k + 1) := by
        rw [← sub_pos, hhalf]
        exact div_pos (sub_pos.2 (by exact_mod_cast h)) (by positivity)
      have hne : rem ≠ 0 := by omega
      rw [if_pos (by simp [h])] at hr
      rw [hr, ← hm]
      have hsub : ((kept + 1 : Nat) : ℚ) - (kept + rem / 2 ^ (k + 1)) = 1 - rem / 2 ^ (k + 1) := by push_cast; ring
      refine ⟨.inl ?_, ?_⟩
      · rw [hsub, abs_of_pos (by linarith)]; linarith
      · have : ((kept + 1 : Nat) : ℚ) ≠ kept + rem / 2 ^ (k + 1) := by
          rw [← sub_ne_zero, hsub]; linarith
        simp only [this, ne_eq, not_false_eq_true, decide_true, bne_iff_ne, hne]

/-- The nearest natural number stays on its side of every natural number. -/
theorem NearestEven.le {r a : Nat} {u : ℚ} (h : NearestEven r u) (hu : u ≤ a) : r ≤ a := by
  by_contra hc
  have h1 : (a : ℚ) + 1 ≤ r := by exact_mod_cast Nat.lt_of_not_le hc
  rcases h with h | ⟨h, -⟩
  · have := (abs_lt.1 h).2; linarith
  · have := (abs_le.1 h.le).2; linarith

theorem NearestEven.ge {r a : Nat} {u : ℚ} (h : NearestEven r u) (hu : (a : ℚ) ≤ u) : a ≤ r := by
  by_contra hc
  have h1 : (r : ℚ) + 1 ≤ a := by exact_mod_cast Nat.lt_of_not_le hc
  rcases h with h | ⟨h, -⟩
  · have := (abs_lt.1 h).1; linarith
  · have := (abs_le.1 h.le).1; linarith

/-- It is nearer than any other integer, or as near and even. -/
theorem NearestEven.nearest {r : Nat} {u : ℚ} (h : NearestEven r u) (a : Int) :
    |(r : ℚ) - u| < |(a : ℚ) - u| ∨ |(r : ℚ) - u| = |(a : ℚ) - u| ∧ ((r : ℚ) = a ∨ r % 2 = 0) := by
  by_cases ha : (r : Int) = a
  · have : (r : ℚ) = a := by exact_mod_cast ha
    exact .inr ⟨by rw [this], .inl this⟩
  · have h1 : (1 : ℚ) ≤ |(a : ℚ) - r| := by
      have := Int.one_le_abs (sub_ne_zero.2 (Ne.symm ha))
      exact_mod_cast this
    have h2 : |(a : ℚ) - r| ≤ |(a : ℚ) - u| + |(r : ℚ) - u| := by
      rw [abs_sub_comm (r : ℚ) u]; exact abs_sub_le _ _ _
    rcases h with h | ⟨h, he⟩
    · exact .inl (by linarith)
    · rcases lt_or_eq_of_le (show |(r : ℚ) - u| ≤ |(a : ℚ) - u| by linarith) with hlt | heq
      · exact .inl hlt
      · exact .inr ⟨heq, .inr he⟩

/-! ### The grid of a format -/

theorem Format.sig_lt (f : Format) (g : Nat) : f.sig g < 2 ^ (f.mbits + 1) := by
  have h : g % 2 ^ f.mbits < 2 ^ f.mbits := Nat.mod_lt _ (by positivity)
  rw [pow_succ]
  unfold Format.sig
  split_ifs <;> omega

/-- A rounded significand over its place is an encoding; one past the top is the first of the next binade. -/
theorem Format.units_place (f : Format) {r j : Nat} (hr : r ≤ 2 ^ (f.mbits + 1)) (hj : j = 0 ∨ 2 ^ f.mbits ≤ r) :
    f.units (j * 2 ^ f.mbits + r) = r * 2 ^ j := by
  have hM : 0 < 2 ^ f.mbits := by positivity
  rw [pow_succ] at hr
  unfold Format.units Format.sig Format.shift
  generalize 2 ^ f.mbits = M at *
  rcases Nat.lt_or_ge r M with h | h
  · obtain rfl : j = 0 := by omega
    simp [h, Nat.div_eq_of_lt h]
  · have hlt : ¬ j * M + r < M := by have := Nat.zero_le (j * M); omega
    obtain ⟨b, rfl⟩ : ∃ b, r = M + b := ⟨r - M, by omega⟩
    rcases Nat.lt_or_ge b M with hb | hb
    · have he : j * M + (M + b) = b + M * (j + 1) := by ring
      rw [if_neg hlt, he, Nat.add_mul_mod_self_left, Nat.mod_eq_of_lt hb, Nat.add_mul_div_left _ _ hM,
        Nat.div_eq_of_lt hb]
      simp
    · obtain rfl : b = M := by omega
      have he : j * b + (b + b) = b * (j + 2) := by ring
      rw [if_neg hlt, he, Nat.mul_mod_right, Nat.mul_div_cancel_left _ hM]
      rw [show j + 2 - 1 = j + 1 by omega]
      ring

/-- Encodings are in the order of their magnitudes. -/
theorem Format.units_strictMono (f : Format) : StrictMono f.units := by
  refine strictMono_nat_of_lt_succ fun g => ?_
  have hM : 0 < 2 ^ f.mbits := by positivity
  have hdm := Nat.div_add_mod g (2 ^ f.mbits)
  have hlt := Nat.mod_lt g hM
  obtain ⟨j, r, hg, hr, hj⟩ : ∃ j r, g = j * 2 ^ f.mbits + r ∧ r + 1 ≤ 2 ^ (f.mbits + 1) ∧ (j = 0 ∨ 2 ^ f.mbits ≤ r) := by
    rw [pow_succ]
    rcases Nat.eq_zero_or_pos (g / 2 ^ f.mbits) with h | h
    · exact ⟨0, g, by omega, by rw [h] at hdm; omega, .inl rfl⟩
    · obtain ⟨k, hk⟩ : ∃ k, g / 2 ^ f.mbits = k + 1 := ⟨g / 2 ^ f.mbits - 1, by omega⟩
      rw [hk, mul_add, mul_one, mul_comm _ k] at hdm
      exact ⟨k, 2 ^ f.mbits + g % 2 ^ f.mbits, by omega, by omega, .inr (by omega)⟩
  rw [hg, add_assoc, f.units_place (by omega) hj, f.units_place hr (by omega)]
  exact Nat.mul_lt_mul_of_pos_right (by omega) (by positivity)

/-- In steps of 2^j a magnitude is whole, or below the binade that has such steps. -/
theorem Format.units_grid (f : Format) (g j : Nat) :
    (∃ a : Nat, (f.units g : ℚ) / 2 ^ j = a) ∨ (f.units g : ℚ) / 2 ^ j < 2 ^ f.mbits := by
  rcases Nat.lt_or_ge (f.shift g) j with h | h
  · right
    rw [div_lt_iff₀ (by positivity), ← pow_add]
    have h1 : f.units g < 2 ^ (f.mbits + 1) * 2 ^ f.shift g := Nat.mul_lt_mul_of_pos_right (f.sig_lt g) (by positivity)
    rw [← pow_add] at h1
    have h2 : 2 ^ (f.mbits + 1 + f.shift g) ≤ 2 ^ (f.mbits + j) := Nat.pow_le_pow_right (by omega) (by omega)
    exact_mod_cast lt_of_lt_of_le h1 h2
  · left
    refine ⟨f.sig g * 2 ^ (f.shift g - j), ?_⟩
    rw [div_eq_iff (by positivity)]
    unfold Format.units
    push_cast
    rw [mul_assoc, ← pow_add, Nat.sub_add_cancel h]

/-! ### Rounding into a format -/

/-- The exponent of the last place that a number keeps. -/
def Format.place (f : Format) (m : Nat) (e : Int) : Int := max ((m.log2 : Int) + e - f.mbits) f.qmin

/-- The encoding of a rounded magnitude, also past the greatest finite one. -/
def Format.nearest (f : Format) (neg : Bool) (m : Nat) (e : Int) : Nat :=
  (f.place m e - f.qmin).toNat * 2 ^ f.mbits + (roundAt 0 neg m e false (f.place m e)).1

/-- What rounding in mode 0 comes to: a magnitude on the grid at its place, from which the number lies no farther than the
grid's other points, in a binade that has that grid. -/
theorem Format.nearest_spec (f : Format) (neg : Bool) {m : Nat} (hm : m ≠ 0) (e : Int) :
    ∃ (r j : Nat) (u : ℚ), f.place m e = f.qmin + j ∧ u = (m : ℚ) * 2 ^ (e - f.place m e) ∧ NearestEven r u ∧
      f.nearest neg m e = j * 2 ^ f.mbits + r ∧ f.units (f.nearest neg m e) = r * 2 ^ j ∧ (j = 0 ∨ 2 ^ f.mbits ≤ u) ∧
      (roundAt 0 neg m e false (f.place m e)).2 = decide ((r : ℚ) ≠ u) := by
  obtain ⟨hnear, hinex⟩ := roundAt_nearest neg m e (f.place m e)
  have hle : f.qmin ≤ f.place m e := le_max_right _ _
  obtain ⟨j, hj⟩ : ∃ j : Nat, f.place m e = f.qmin + j := ⟨(f.place m e - f.qmin).toNat, by omega⟩
  have hlo : (2 : ℚ) ^ m.log2 ≤ m := by exact_mod_cast Nat.log2_self_le hm
  have hhi : (m : ℚ) < 2 ^ (m.log2 + 1) := by exact_mod_cast Nat.lt_log2_self
  have hpos : (0 : ℚ) < 2 ^ (e - f.place m e) := by positivity
  have hup : (m : ℚ) * 2 ^ (e - f.place m e) ≤ (2 ^ (f.mbits + 1) : Nat) := by
    have h1 : (m.log2 : Int) + e - f.mbits ≤ f.place m e := le_max_left _ _
    calc (m : ℚ) * 2 ^ (e - f.place m e) ≤ 2 ^ (m.log2 + 1) * 2 ^ (e - f.place m e) :=
          mul_le_mul_of_nonneg_right hhi.le hpos.le
      _ = 2 ^ (((m.log2 + 1 : Nat) : Int) + (e - f.place m e)) := by rw [zpow_add₀ two_ne_zero, zpow_natCast]
      _ ≤ 2 ^ ((f.mbits + 1 : Nat) : Int) := zpow_le_zpow_right₀ one_le_two (by push_cast; omega)
      _ = _ := by rw [zpow_natCast]; push_cast; rfl
  have hdown : j = 0 ∨ (2 : ℚ) ^ f.mbits ≤ (m : ℚ) * 2 ^ (e - f.place m e) := by
    rcases Nat.eq_zero_or_pos j with h0 | h0
    · exact .inl h0
    · right
      have h1 : f.place m e = m.log2 + e - f.mbits := by
        unfold Format.place at hj ⊢
        omega
      calc (2 : ℚ) ^ f.mbits = 2 ^ ((m.log2 : Int) + (e - f.place m e)) := by
            rw [← zpow_natCast]; congr 1; omega
        _ = 2 ^ m.log2 * 2 ^ (e - f.place m e) := by rw [zpow_add₀ two_ne_zero, zpow_natCast]
        _ ≤ _ := mul_le_mul_of_nonneg_right hlo hpos.le
  have hn : f.nearest neg m e = j * 2 ^ f.mbits + (roundAt 0 neg m e false (f.place m e)).1 := by
    rw [Format.nearest, hj]; congr 2; omega
  refine ⟨_, j, _, hj, rfl, hnear, hn, ?_, hdown, hinex⟩
  rw [hn]
  refine f.units_place (hnear.le hup) (hdown.imp id fun h => hnear.ge ?_)
  exact_mod_cast h

/-- The magnitude of a format's encoding as a rational number. -/
def Format.number (f : Format) (g : Nat) : ℚ := f.units g * 2 ^ f.qmin

theorem Format.number_nonneg (f : Format) (g : Nat) : 0 ≤ f.number g := by unfold Format.number; positivity

/-- The rounded magnitude is nearer than any number of the format, of either sign, or as near and even. -/
theorem Format.nearest_le (f : Format) (hmb : 1 ≤ f.mbits) (neg : Bool) {m : Nat} (hm : m ≠ 0) (e : Int) (g : Nat) {w : ℚ}
    (hw : |w| = f.number g) :
    let v := (m : ℚ) * 2 ^ e
    let y := f.number (f.nearest neg m e)
    |y - v| < |w - v| ∨ |y - v| = |w - v| ∧ (y = w ∨ f.nearest neg m e % 2 = 0) := by
  intro v y
  obtain ⟨r, j, u, hj, hu, hnear, hn, hunits, hdown, -⟩ := f.nearest_spec neg hm e
  have hB : (0 : ℚ) < 2 ^ f.place m e := by positivity
  have hq : (2 : ℚ) ^ f.place m e = 2 ^ j * 2 ^ f.qmin := by
    rw [hj, zpow_add₀ two_ne_zero, zpow_natCast, mul_comm]
  have hv : v = u * 2 ^ f.place m e := by
    rw [hu, mul_assoc, ← zpow_add₀ two_ne_zero, sub_add_cancel]
  have hy : y = r * 2 ^ f.place m e := by
    show f.number _ = _
    rw [Format.number, hunits, hq]; push_cast; ring
  obtain ⟨x, hx⟩ : ∃ x, w = x * 2 ^ f.place m e := ⟨w / 2 ^ f.place m e, by rw [div_mul_cancel₀ _ hB.ne']⟩
  have hxabs : |x| = f.units g / 2 ^ j := by
    have : |x| * 2 ^ f.place m e = f.units g * 2 ^ f.qmin := by
      rw [← abs_of_pos hB, ← abs_mul, ← hx, hw]; rfl
    rw [hq, ← mul_assoc] at this
    rw [eq_div_iff (by positivity)]
    exact mul_right_cancel₀ (by positivity) this
  have heven : f.nearest neg m e % 2 = r % 2 := by
    obtain ⟨k, hk⟩ : ∃ k, f.mbits = k + 1 := ⟨f.mbits - 1, by omega⟩
    rw [hn, hk, pow_succ, ← mul_assoc, Nat.add_mod, Nat.mul_mod_left, zero_add, Nat.mod_mod]
  have hscale : ∀ a : ℚ, |a * 2 ^ f.place m e - v| = |a - u| * 2 ^ f.place m e := fun a => by
    rw [hv, ← sub_mul, abs_mul, abs_of_pos hB]
  have key : |(r : ℚ) - u| < |x - u| ∨ |(r : ℚ) - u| = |x - u| ∧ ((r : ℚ) = x ∨ r % 2 = 0) := by
    rcases f.units_grid g j with ⟨a, ha⟩ | hlow
    · rw [ha] at hxabs
      rcases eq_or_eq_neg_of_abs_eq hxabs with h | h
      · rw [h]; exact hnear.nearest a
      · have := hnear.nearest (-a : Int)
        rw [h]; push_cast at this; exact this
    · rw [← hxabs] at hlow
      rcases hdown with h0 | hdown
      · rw [h0, pow_zero, div_one] at hxabs
        rcases eq_or_eq_neg_of_abs_eq hxabs with h | h
        · rw [h]; exact hnear.nearest (f.units g)
        · have := hnear.nearest (-(f.units g) : Int)
          rw [h]; push_cast at this; exact this
      · left
        have h1 := hnear.nearest (2 ^ f.mbits : Nat)
        have h2 : |(((2 ^ f.mbits : Nat) : Int) : ℚ) - u| < |x - u| := by
          push_cast
          rw [abs_of_nonpos (by linarith), abs_of_neg (by linarith [(abs_lt.1 hlow).2])]
          linarith [(abs_lt.1 hlow).2]
        rcases h1 with h1 | ⟨h1, -⟩ <;> linarith
  rw [hy, hx, hscale, hscale, heven]
  rcases key with h | ⟨h, h'⟩
  · exact .inl (mul_lt_mul_of_pos_right h hB)
  · exact .inr ⟨by rw [h], h'.imp (fun e => by rw [e]) id⟩

/-- Rounding does not pass a number of the format. -/
theorem Format.nearest_bound (f : Format) (neg : Bool) {m : Nat} (hm : m ≠ 0) (e : Int) (g : Nat)
    (h : (m : ℚ) * 2 ^ e ≤ f.number g) : f.nearest neg m e ≤ g := by
  obtain ⟨r, j, u, hj, hu, hnear, hn, hunits, hdown, -⟩ := f.nearest_spec neg hm e
  have hq : (2 : ℚ) ^ f.place m e = 2 ^ j * 2 ^ f.qmin := by
    rw [hj, zpow_add₀ two_ne_zero, zpow_natCast, mul_comm]
  have hux : u ≤ f.units g / 2 ^ j := by
    rw [le_div_iff₀ (by positivity)]
    refine le_of_mul_le_mul_right ?_ (show (0 : ℚ) < 2 ^ f.qmin by positivity)
    rw [mul_assoc, ← hq, hu, mul_assoc, ← zpow_add₀ two_ne_zero, sub_add_cancel]
    exact h
  rw [← f.units_strictMono.le_iff_le, hunits]
  have hr : (r : ℚ) ≤ f.units g / 2 ^ j := by
    rcases f.units_grid g j with ⟨a, ha⟩ | hlow
    · rw [ha] at hux ⊢; exact_mod_cast hnear.le hux
    · rcases hdown with rfl | hdown
      · rw [pow_zero, div_one] at hux ⊢; exact_mod_cast hnear.le hux
      · linarith
  rw [le_div_iff₀ (by positivity)] at hr
  exact_mod_cast hr

/-- It is the number itself just where nothing was cut off. -/
theorem Format.nearest_inexact (f : Format) (neg : Bool) {m : Nat} (hm : m ≠ 0) (e : Int) :
    (roundAt 0 neg m e false (f.place m e)).2 = decide (f.number (f.nearest neg m e) ≠ (m : ℚ) * 2 ^ e) := by
  obtain ⟨r, j, u, hj, hu, -, -, hunits, -, hinex⟩ := f.nearest_spec neg hm e
  have hq : (2 : ℚ) ^ f.place m e = 2 ^ j * 2 ^ f.qmin := by
    rw [hj, zpow_add₀ two_ne_zero, zpow_natCast, mul_comm]
  have hv : (m : ℚ) * 2 ^ e = u * 2 ^ f.place m e := by
    rw [hu, mul_assoc, ← zpow_add₀ two_ne_zero, sub_add_cancel]
  have hy : f.number (f.nearest neg m e) = r * 2 ^ f.place m e := by
    rw [Format.number, hunits, hq]; push_cast; ring
  rw [hinex, hv, hy]
  have : ((r : ℚ) * 2 ^ f.place m e ≠ u * 2 ^ f.place m e) ↔ (r : ℚ) ≠ u := by
    rw [Ne, mul_left_inj' (by positivity)]
  simp only [this]


/-! ### Rounding as the statement has it -/

/-- A sign over a rational magnitude. -/
def signedRat (neg : Bool) (v : ℚ) : ℚ := if neg then -v else v

theorem signedRat_abs (neg : Bool) (v : ℚ) : |signedRat neg v| = |v| := by cases neg <;> simp [signedRat]

theorem signedRat_signedRat (neg : Bool) (v : ℚ) : signedRat neg (signedRat neg v) = v := by
  cases neg <;> simp [signedRat]

theorem signedRat_sub_abs (neg : Bool) (w v : ℚ) : |w - signedRat neg v| = |signedRat neg w - v| := by
  cases neg
  · rfl
  · simp only [signedRat, if_true, sub_neg_eq_add]
    rw [← abs_neg]; congr 1; ring

theorem signedOf_cast (neg : Bool) (m : Nat) : ((signedOf neg m : Int) : ℚ) = signedRat neg m := by
  cases neg <;> simp [signedOf, signedRat]

theorem signedRat_mul (neg : Bool) (v w : ℚ) : signedRat neg v * w = signedRat neg (v * w) := by
  cases neg <;> simp [signedRat]

/-- A number in units of 2^z, as a rational. -/
theorem atScale_cast (k e : Int) {z : Int} (h : z ≤ e) : ((atScale k e z : Int) : ℚ) = k * 2 ^ e / 2 ^ z := by
  obtain ⟨d, hd⟩ : ∃ d : Nat, e = z + d := ⟨(e - z).toNat, by omega⟩
  subst hd
  rw [atScale, zpow_add₀ two_ne_zero, zpow_natCast]
  have : (z + (d : Int) - z).toNat = d := by omega
  rw [this, eq_div_iff (by positivity)]
  push_cast
  ring

theorem natAbs_cast (a : Int) : ((a.natAbs : Nat) : ℚ) = |(a : ℚ)| := by rw [Nat.cast_natAbs, Int.cast_abs]

/-- Rounding, said of rational numbers, gives what `RoundsTo` says of integers at a common scale. -/
theorem roundsTo_of_rat {t : Nat} {k e : Int} {r : Nat × Flags} {v : ℚ} (hv : v = k * 2 ^ e)
    (hend : (∃ n m x, decodeFloat t r.1 = .fin n m x) ∨ r.2 = 5)
    (h : ∀ c n m x, decodeFloat t c = .fin n m x →
      (|v| ≤ |(signedOf n m : ℚ) * 2 ^ x| → ∃ n' m' x', decodeFloat t r.1 = .fin n' m' x') ∧
      ∀ n' m' x', decodeFloat t r.1 = .fin n' m' x' →
        let w := (signedOf n m : ℚ) * 2 ^ x
        let y := (signedOf n' m' : ℚ) * 2 ^ x'
        r.2.getLsbD 0 = decide (y ≠ v) ∧
        (|y - v| < |w - v| ∨ |y - v| = |w - v| ∧ (y = w ∨ r.1 % 2 = 0))) :
    RoundsTo t k e r := by
  refine ⟨hend, fun c n m x hc => ?_⟩
  obtain ⟨hfin, hnear⟩ := h c n m x hc
  constructor
  · intro hz
    refine hfin ?_
    have hle := hz (min e x) (min_le_left _ _) (min_le_right _ _)
    rw [← Nat.cast_le (α := ℚ), natAbs_cast, natAbs_cast, atScale_cast _ _ (min_le_left _ _),
      atScale_cast _ _ (min_le_right _ _), abs_div, abs_div] at hle
    rw [hv]
    exact (div_le_div_iff_of_pos_right (by positivity)).1 hle
  · intro n' m' x' hr z hze hzx hzx'
    obtain ⟨hbit, hnear⟩ := hnear n' m' x' hr
    have hP : (0 : ℚ) < 2 ^ z := by positivity
    have hcv := atScale_cast k e hze
    have hcw := atScale_cast (signedOf n m) x hzx
    have hcy := atScale_cast (signedOf n' m') x' hzx'
    rw [← hv] at hcv
    generalize atScale k e z = vi at *
    generalize atScale (signedOf n m) x z = wi at *
    generalize atScale (signedOf n' m') x' z = yi at *
    have hyv : yi = vi ↔ (signedOf n' m' : ℚ) * 2 ^ x' = v := by
      rw [← Int.cast_inj (α := ℚ), hcv, hcy, div_left_inj' hP.ne']
    have hyw : yi = wi ↔ (signedOf n' m' : ℚ) * 2 ^ x' = (signedOf n m : ℚ) * 2 ^ x := by
      rw [← Int.cast_inj (α := ℚ), hcw, hcy, div_left_inj' hP.ne']
    have hlt : (yi - vi).natAbs < (wi - vi).natAbs ↔
        |(signedOf n' m' : ℚ) * 2 ^ x' - v| < |(signedOf n m : ℚ) * 2 ^ x - v| := by
      rw [← Nat.cast_lt (α := ℚ), natAbs_cast, natAbs_cast, Int.cast_sub, Int.cast_sub, hcv, hcw, hcy, ← sub_div,
        ← sub_div, abs_div, abs_div, div_lt_div_iff_of_pos_right (abs_pos.2 hP.ne')]
    have heq : (yi - vi).natAbs = (wi - vi).natAbs ↔
        |(signedOf n' m' : ℚ) * 2 ^ x' - v| = |(signedOf n m : ℚ) * 2 ^ x - v| := by
      rw [← Nat.cast_inj (R := ℚ), natAbs_cast, natAbs_cast, Int.cast_sub, Int.cast_sub, hcv, hcw, hcy, ← sub_div,
        ← sub_div, abs_div, abs_div, div_left_inj' (abs_pos.2 hP.ne').ne']
    dsimp only
    rw [hlt, heq, hyw, hbit]
    simp only [ne_eq, hyv]
    exact ⟨trivial, hnear⟩

/-- The result of `roundTo` in mode 0, outside an overflow and in one. -/
theorem roundTo_eq (t : Nat) (neg : Bool) (m : Nat) (e : Int) :
    let f := formatOf t
    (f.nearest neg m e ≤ f.maxFin → ∃ fl : Flags,
      roundTo t 0 false neg m e false = (f.signed neg (f.nearest neg m e), fl) ∧
      fl.getLsbD 0 = (roundAt 0 neg m e false (f.place m e)).2) ∧
    (f.maxFin < f.nearest neg m e →
      roundTo t 0 false neg m e false = (if t = 8 then defaultNaN 8 else f.inf neg, flagOFNX)) := by
  intro f
  constructor
  · intro hle
    refine ⟨_, if_neg (not_lt.2 hle), ?_⟩
    split_ifs with h1 h2
    · exact h1 ▸ rfl
    · exact h1 ▸ rfl
    · exact (Bool.eq_false_iff.2 h1).symm
  · intro hlt
    refine (if_pos hlt).trans ?_
    show (if t = 8 ∨ t = 12 then _ else _) = _
    by_cases h8 : t = 8
    · rw [if_pos (.inl h8), if_pos h8, if_neg (by simp)]
    · by_cases h12 : t = 12
      · rw [if_pos (.inr h12), if_neg h8]; rfl
      · rw [if_neg (by simp [h8, h12]), if_neg h8]

/-- Rounding in mode 0 into a format rounds to nearest, ties to even. -/
theorem roundTo_roundsTo {t : Nat} (h8 : 8 ≤ t) (h13 : t ≤ 13) (neg : Bool) {m : Nat} (hm : m ≠ 0) (e : Int) :
    RoundsTo t (signedOf neg m) e (roundTo t 0 false neg m e false) := by
  have hs := formatOf_sound h8 h13
  obtain ⟨hin, hover⟩ := roundTo_eq t neg m e
  have hval : ∀ {c n m' x}, decodeFloat t c = .fin n m' x → ∃ g ≤ (formatOf t).maxFin,
      (signedOf n m' : ℚ) * 2 ^ x = signedRat n ((formatOf t).number g) := by
    intro c n m' x hc
    obtain ⟨g, -, hg, rfl, rfl⟩ := decodeFloat_fin hs hc
    refine ⟨g, hg, ?_⟩
    rw [signedOf_cast, signedRat_mul, Format.number, Format.units, zpow_add₀ two_ne_zero, zpow_natCast]
    push_cast
    congr 1
    ring
  have hv : signedRat neg (m * 2 ^ e) = (signedOf neg m : ℚ) * 2 ^ e := by rw [signedOf_cast, signedRat_mul]
  have hv0 : (0 : ℚ) ≤ m * 2 ^ e := by positivity
  rcases Nat.lt_or_ge (formatOf t).maxFin ((formatOf t).nearest neg m e) with hlt | hle
  · rw [hover hlt]
    have hno : ∀ n m x, decodeFloat t (if t = 8 then defaultNaN 8 else (formatOf t).inf neg) ≠ .fin n m x := by
      intro n m x
      split_ifs with h
      · subst h; exact fun h => by cases h
      · exact decodeFloat_inf h8 h13 neg
    refine roundsTo_of_rat hv (.inr rfl) fun c n m' x hc => ⟨fun hw => ?_, fun n' m'' x' hr => absurd hr (hno _ _ _)⟩
    obtain ⟨g, hg, hcg⟩ := hval hc
    rw [hcg, signedRat_abs, signedRat_abs, abs_of_nonneg hv0, abs_of_nonneg (Format.number_nonneg _ _)] at hw
    have := (formatOf t).nearest_bound neg hm e g hw
    omega
  · obtain ⟨fl, hr, hfl⟩ := hin hle
    have hdec := decodeFloat_signed hs neg hle
    rw [hr]
    refine roundsTo_of_rat hv (.inl ⟨_, _, _, hdec⟩) fun c n m' x hc => ⟨fun _ => ⟨_, _, _, hdec⟩, ?_⟩
    intro n' m'' x' hy
    have hyn : (signedOf n' m'' : ℚ) * 2 ^ x' = signedRat neg ((formatOf t).number ((formatOf t).nearest neg m e)) := by
      rw [hdec] at hy
      cases hy
      rw [signedOf_cast, signedRat_mul, Format.number, Format.units, zpow_add₀ two_ne_zero, zpow_natCast]
      push_cast
      congr 1
      ring
    obtain ⟨g, -, hcg⟩ := hval hc
    have hodd : (formatOf t).signed neg ((formatOf t).nearest neg m e) % 2 = (formatOf t).nearest neg m e % 2 := by
      obtain ⟨k, hk⟩ : ∃ k, (formatOf t).mbits = k + 1 := ⟨(formatOf t).mbits - 1, by have := hs.1; omega⟩
      unfold Format.signed Format.signBit
      rw [hk, ← add_assoc, pow_succ]
      split_ifs <;> omega
    have hnear := (formatOf t).nearest_le hs.1 neg hm e g
      (w := signedRat neg ((signedOf n m' : ℚ) * 2 ^ x))
      (by rw [hcg, signedRat_abs, signedRat_abs, abs_of_nonneg (Format.number_nonneg _ _)])
    dsimp only at hnear ⊢
    rw [hyn, signedRat_sub_abs, signedRat_signedRat, signedRat_sub_abs, hodd, hfl, (formatOf t).nearest_inexact neg hm e]
    have hinj : ∀ a b : ℚ, signedRat neg a = b ↔ a = signedRat neg b := fun a b =>
      ⟨fun h => by rw [← h, signedRat_signedRat], fun h => by rw [h, signedRat_signedRat]⟩
    simp only [ne_eq, hinj, signedRat_signedRat]
    exact ⟨trivial, hnear⟩

/-- Zero is rounded to the zero of its sign. -/
theorem zero_roundsTo {t : Nat} (h8 : 8 ≤ t) (h13 : t ≤ 13) (neg : Bool) (e : Int) :
    RoundsTo t 0 e ((formatOf t).signed neg 0, noFlags) := by
  have hs := formatOf_sound h8 h13
  have hdec := decodeFloat_signed hs neg (Nat.zero_le _)
  refine roundsTo_of_rat (v := 0) (by simp) (.inl ⟨_, _, _, hdec⟩) fun c n m x hc => ⟨fun _ => ⟨_, _, _, hdec⟩, ?_⟩
  intro n' m' x' hy
  rw [hdec] at hy
  cases hy
  have hz : (formatOf t).sig 0 = 0 := by simp [Format.sig]
  have h0 : (signedOf neg 0 : ℚ) = 0 := by cases neg <;> rfl
  simp only [hz, h0, zero_mul, sub_zero, abs_zero, ne_eq, not_true, decide_false]
  refine ⟨rfl, ?_⟩
  rcases (abs_nonneg ((signedOf n m : ℚ) * 2 ^ x)).lt_or_eq with h | h
  · exact .inl h
  · exact .inr ⟨h, .inl (abs_eq_zero.1 h.symm).symm⟩

/-- The exact value, with a zero apart, rounds to nearest. -/
theorem roundExact_roundsTo {t : Nat} (h8 : 8 ≤ t) (h13 : t ≤ 13) (neg : Bool) (m : Nat) (e : Int) :
    RoundsTo t (signedOf neg m) e (roundExact t 0 neg m e) := by
  unfold roundExact
  split_ifs with h
  · subst h
    rw [show signedOf neg 0 = 0 by cases neg <;> rfl]
    exact zero_roundsTo h8 h13 neg e
  · exact roundTo_roundsTo h8 h13 neg h e

theorem signedOf_natAbs (k : Int) : signedOf (decide (k < 0)) k.natAbs = k := by
  unfold signedOf
  split_ifs with h
  · have := of_decide_eq_true h; omega
  · have : ¬ k < 0 := by simpa using h
    omega

theorem roundSum_roundsTo {t : Nat} (h8 : 8 ≤ t) (h13 : t ≤ 13) (a b : Bool) (k e : Int) :
    RoundsTo t k e (roundSum t 0 a b (k, e)) := by
  unfold roundSum
  dsimp only
  by_cases h : k = 0
  · rw [if_pos h, h]; exact zero_roundsTo h8 h13 _ e
  · rw [if_neg h]
    have := roundTo_roundsTo h8 h13 (decide (k < 0)) (Int.natAbs_ne_zero.2 h) e
    rwa [signedOf_natAbs] at this

/-- The conversion of a finite value rounds to nearest. -/
theorem valueToFloat_roundsTo {t : Nat} (h8 : 8 ≤ t) (h13 : t ≤ 13) (neg : Bool) (m : Nat) (e : Int) :
    RoundsTo t (signedOf neg m) e (valueToFloat t 0 false (.fin neg m e)) := roundExact_roundsTo h8 h13 neg m e

theorem signedOf_mul (neg : Bool) (m k : Nat) : signedOf neg (m * k) = signedOf neg m * k := by
  cases neg <;> simp [signedOf]

/-- The integer of an encoding is what its type's kind makes of its low bits. -/
theorem intOf_eq_atKind (t x : Nat) : intOf t x = atKind t (x % 2 ^ typeWidth t) := by
  have hw : 0 < typeWidth t := by unfold typeWidth; positivity
  have hp : 2 ^ typeWidth t = 2 * 2 ^ (typeWidth t - 1) := by rw [← pow_succ', Nat.sub_add_cancel hw]
  unfold intOf atKind typeSigned
  dsimp only
  by_cases h4 : t < 4
  · rw [if_pos h4, BitVec.toInt_eq_toNat_cond, BitVec.toNat_ofNat, Nat.mod_mod]
    simp only [h4, decide_true, true_and]
    split_ifs <;> omega
  · rw [if_neg h4, if_neg (by simp [h4])]

/-! ### Comparisons (R12) -/

/-- The order of two finite values is that of their numbers at any common scale. -/
theorem Value.cmp_fin (n : Bool) (m : Nat) (e : Int) (n' : Bool) (m' : Nat) (e' : Int) {z : Int} (h : z ≤ e) (h' : z ≤ e') :
    Value.cmp (.fin n m e) (.fin n' m' e') =
      compare (signedOf n m * 2 ^ (e - z).toNat) (signedOf n' m' * 2 ^ (e' - z).toNat) := by
  obtain ⟨d, hd⟩ : ∃ d : Nat, min e e' = z + d := ⟨(min e e' - z).toNat, by omega⟩
  have hs : ∀ (n : Bool) (m : Nat) (x : Int), min e e' ≤ x →
      signedOf n m * 2 ^ (x - z).toNat = signedOf n (m * 2 ^ (x - min e e').toNat) * 2 ^ d := by
    intro n m x hx
    rw [signedOf_mul, show (x - z).toNat = (x - min e e').toNat + d by omega, pow_add]
    push_cast
    ring
  rw [hs n m e (min_le_left _ _), hs n' m' e' (min_le_right _ _)]
  simp only [Value.cmp]
  have hP : (0 : Int) < 2 ^ d := by positivity
  rcases lt_trichotomy (signedOf n (m * 2 ^ (e - min e e').toNat)) (signedOf n' (m' * 2 ^ (e' - min e e').toNat)) with
    hlt | heq | hgt
  · rw [compare_lt_iff_lt.2 hlt, compare_lt_iff_lt.2 (mul_lt_mul_of_pos_right hlt hP)]
  · rw [heq, compare_eq_iff_eq.2 rfl, compare_eq_iff_eq.2 rfl]
  · rw [compare_gt_iff_gt.2 hgt, compare_gt_iff_gt.2 (mul_lt_mul_of_pos_right hgt hP)]

/-- A comparison with a NaN: none holds but "not equal". -/
theorem compareFloat_nan {t a b : Nat} (h : (decodeFloat t a).isNan = true ∨ (decodeFloat t b).isNan = true) (k : FCmp) :
    (compareFloat t k a b).1 = decide (k = FCmp.ne) := by
  have : ((decodeFloat t a).isNan || (decodeFloat t b).isNan) = true := by simpa using h
  simp only [compareFloat, this, if_true]
  cases k <;> rfl

/-- The flags of a comparison: a quiet one is invalid for a signalling NaN alone. -/
theorem compareFloat_flags (t : Nat) (k : FCmp) (a b : Nat) :
    (compareFloat t k a b).2 =
      if k = .eq ∨ k = .ne then (if (decodeFloat t a).sig || (decodeFloat t b).sig then flagNV else noFlags)
      else if (decodeFloat t a).isNan || (decodeFloat t b).isNan then flagNV else noFlags := by
  unfold compareFloat
  cases hx : decodeFloat t a <;> cases hy : decodeFloat t b <;> cases k <;> simp [Value.isNan, Value.sig]

/-- A comparison of two finite values is that of their numbers at any common scale. -/
theorem compareFloat_fin {t a b : Nat} {n m e n' m' e'} (hx : decodeFloat t a = .fin n m e)
    (hy : decodeFloat t b = .fin n' m' e') {z : Int} (h : z ≤ e) (h' : z ≤ e') :
    let v := signedOf n m * 2 ^ (e - z).toNat
    let w := signedOf n' m' * 2 ^ (e' - z).toNat
    (compareFloat t .eq a b).1 = decide (v = w) ∧ (compareFloat t .lt a b).1 = decide (v < w) ∧
      (compareFloat t .le a b).1 = decide (v ≤ w) := by
  intro v w
  have hc : Value.cmp (.fin n m e) (.fin n' m' e') = compare v w := Value.cmp_fin n m e n' m' e' h h'
  unfold compareFloat
  rw [hx, hy]
  simp only [Value.isNan, Bool.or_self, Bool.false_eq_true, if_false, hc]
  refine ⟨?_, ?_, ?_⟩
  · rw [Bool.eq_iff_iff]; simp
  · rw [Bool.eq_iff_iff]; simp [compare_lt_iff_lt]
  · rw [Bool.eq_iff_iff]; simp [compare_gt_iff_gt]

/-- Settles O3: sums, products and conversions end in `roundTo`, which rounds to nearest, ties to even (`roundTo_roundsTo`);
the comparisons are those of the numbers at a common scale (`Value.cmp_fin`). -/
theorem floatComparisons : Obligations.FloatComparisons := by
  unfold Obligations.FloatComparisons
  refine ⟨fun t m m' e e' a b h8 h13 => ⟨?_, ?_⟩, fun t src x h8 h13 => ⟨fun hsrc => ?_, fun hs8 _ n m e hx => ?_⟩, ?_⟩
  · have := roundSum_roundsTo h8 h13 a b
      (atScale (signedOf a m) e (min e e') + atScale (signedOf b m') e' (min e e')) (min e e')
    convert this using 2
    simp [addValues, addExact, atScale, signedOf_mul]
  · exact roundExact_roundsTo h8 h13 (a != b) (m * m') (e + e')
  · have := valueToFloat_roundsTo h8 h13 (decide (intOf src x < 0)) (intOf src x).natAbs 0
    rw [signedOf_natAbs, intOf_eq_atKind] at this
    simpa [convert, typeFloat, h8, not_le.2 hsrc, intOf_eq_atKind] using this
  · have := valueToFloat_roundsTo h8 h13 n m e
    simpa [convert, typeFloat, h8, hs8, hx] using this
  · intro t a b
    refine ⟨fun h k => compareFloat_nan h k, ?_, ?_, ?_, fun n m e n' m' e' hx hy z h h' => compareFloat_fin hx hy h h'⟩
    · simpa using compareFloat_flags t .eq a b
    · simpa using compareFloat_flags t .lt a b
    · simpa using compareFloat_flags t .le a b

end Sys2Proof.Machine
end

section
/-! PROOFS. What the memory operations leave of the threads: only late loads change a context, and none its PC or what
runs again out of a queue. -/

namespace Sys2Proof.Machine

/-! ### Operations that touch no context -/

/-- Every context, and which one runs, is as before. -/
def Still (s t : State) : Prop := t.ctxs = s.ctxs ∧ t.cur = s.cur

theorem Still.refl (s : State) : Still s s := ⟨rfl, rfl⟩

theorem Still.trans {s t u : State} (h : Still s t) (k : Still t u) : Still s u := ⟨k.1.trans h.1, k.2.trans h.2⟩

theorem Still.foldl {α : Type} {f : State → α → State} (hf : ∀ s a, Still s (f s a)) (l : List α) (s : State) :
    Still s (l.foldl f s) := by
  induction l generalizing s with
  | nil => exact .refl s
  | cons a l ih => exact (hf s a).trans (ih _)

theorem Still.me {s t : State} (h : Still s t) : t.me = s.me := by unfold State.me State.ctx; rw [h.1, h.2]

theorem Still.ctx {s t : State} (h : Still s t) (g : Nat) : t.ctx g = s.ctx g := by unfold State.ctx; rw [h.1]

/-- Only what the L1s and the L2s hold may differ. -/
def CachesOnly (s t : State) : Prop := t = { s with cores := t.cores, l2 := t.l2 }

theorem CachesOnly.refl (s : State) : CachesOnly s s := rfl

theorem CachesOnly.trans {s t u : State} (h : CachesOnly s t) (k : CachesOnly t u) : CachesOnly s u := by
  unfold CachesOnly at *; rw [k, h]

theorem CachesOnly.foldl {α : Type} {f : State → α → State} (hf : ∀ s a, CachesOnly s (f s a)) (l : List α) (s : State) :
    CachesOnly s (l.foldl f s) := by
  induction l generalizing s with
  | nil => exact .refl s
  | cons a l ih => exact (hf s a).trans (ih _)

theorem CachesOnly.still {s t : State} (h : CachesOnly s t) : Still s t := by rw [h]; exact .refl _

/-- Only what the L2s hold may differ. -/
def L2Only (s t : State) : Prop := t = { s with l2 := t.l2 }

theorem L2Only.refl (s : State) : L2Only s s := rfl

theorem L2Only.trans {s t u : State} (h : L2Only s t) (k : L2Only t u) : L2Only s u := by
  unfold L2Only at *; rw [k, h]

theorem L2Only.foldl {α : Type} {f : State → α → State} (hf : ∀ s a, L2Only s (f s a)) (l : List α) (s : State) :
    L2Only s (l.foldl f s) := by
  induction l generalizing s with
  | nil => exact .refl s
  | cons a l ih => exact (hf s a).trans (ih _)

theorem L2Only.caches {s t : State} (h : L2Only s t) : CachesOnly s t := by rw [h]; exact .refl _

theorem touchL2_l2 (s : State) (d a : Nat) (w : Bool) : L2Only s (s.touchL2 d a w) := by
  unfold State.touchL2
  dsimp only
  split
  · split <;> rfl
  · rfl

theorem passL2_l2 (s : State) (d a : Nat) : L2Only s (s.passL2 d a) := by
  unfold State.passL2
  dsimp only
  refine L2Only.trans ?_ (touchL2_l2 _ _ _ _)
  split
  · rfl
  · exact touchL2_l2 _ _ _ _

theorem passLines_l2 (s : State) (d a n : Nat) : L2Only s (s.passLines d a n) := .foldl (fun _ _ => passL2_l2 _ _ _) _ _

theorem writeBack_l2 (s : State) (ls : List L1Line) : L2Only s (s.writeBack ls) := .foldl (fun _ _ => touchL2_l2 _ _ _ _) _ _

theorem touchL1_caches (s : State) (c a : Nat) (w : Bool) : CachesOnly s (s.touchL1 c a w) := by
  have hset : ∀ (t : State) (x : Core), CachesOnly t (t.setCore c x) := fun _ _ => rfl
  unfold State.touchL1
  dsimp only
  split
  · refine CachesOnly.trans ?_ (hset _ _)
    split
    · rfl
    · refine CachesOnly.trans ?_ (writeBack_l2 _ _).caches
      split
      · exact (touchL2_l2 _ _ _ _).caches
      · exact (passL2_l2 _ _ _).caches
  · rfl

theorem touchLines_caches (s : State) (c a n : Nat) (w : Bool) : CachesOnly s (s.touchLines c a n w) :=
  .foldl (fun _ _ => touchL1_caches _ _ _ _) _ _

theorem dropCopies_caches (s : State) (a : Nat) (k : Option Nat) : CachesOnly s (s.dropCopies a k) := by
  unfold State.dropCopies; split <;> rfl

theorem record_still (s : State) (d : Nat) (r : Record) : Still s (s.record d r) := ⟨record_ctxs s d r, record_cur s d r⟩

theorem noteAbsent_still (s : State) (a : Nat) : Still s (s.noteAbsent a) := by
  unfold State.noteAbsent; split
  · exact record_still _ _ _
  · exact .refl s

theorem noteRefused_still (s : State) (a : Nat) : Still s (s.noteRefused a) := by
  unfold State.noteRefused; split
  · exact record_still _ _ _
  · exact .refl s

theorem noteDead_still (s : State) (p : Place) : Still s (s.noteDead p) := by
  unfold State.noteDead; split
  · exact record_still _ _ _
  · exact .refl s

theorem noteRead_still (s : State) (p : Place) : Still s (s.noteRead p) := by
  unfold State.noteRead; split
  · exact record_still _ _ _
  · exact (noteAbsent_still _ _).trans (noteRefused_still _ _)

theorem passLinkFor_still (s : State) (g : Nat) (p : Path) (c a : Nat) : Still s (s.passLinkFor g p c a) := by
  unfold State.passLinkFor State.passLink State.useAts
  dsimp only
  repeat' split
  all_goals exact ⟨rfl, rfl⟩

theorem unload_still (s : State) (g : Nat) (p : Pending) : Still s (s.unload g p) := by
  unfold State.unload
  dsimp only
  split <;> exact ⟨rfl, rfl⟩

theorem enterLine_still (s : State) (a : Nat) (k : Key) : Still s (s.enterLine a k) := by
  unfold State.enterLine
  dsimp only
  repeat' split
  · exact .refl s
  · exact ⟨rfl, rfl⟩
  · exact .refl s
  · exact Still.trans (t := s.dropCopies a none) (dropCopies_caches _ _ _).still ⟨rfl, rfl⟩

theorem enterLines_still (s : State) (a n : Nat) (k : Key) : Still s (s.enterLines a n k) :=
  .foldl (fun _ _ => enterLine_still _ _ _) _ _

theorem storeByte_still (s : State) (a : Nat) (b : Byte) : Still s (s.storeByte a b) := by
  unfold State.storeByte; split <;> exact ⟨rfl, rfl⟩

theorem storeBytes_still (s : State) (a : Nat) (bs : List Byte) : Still s (s.storeBytes a bs) := by
  induction bs generalizing s a with
  | nil => exact .refl s
  | cons b bs ih => exact (storeByte_still s a b).trans (ih _ _)

theorem setPoison_still (s : State) (a : Nat) (p : Bool) : Still s (s.setPoison a p) := by
  unfold State.setPoison; split <;> exact ⟨rfl, rfl⟩

theorem retag_still (s : State) (a : Nat) (k : Key) : Still s (s.retag a k) := by
  unfold State.retag
  dsimp only
  split
  · split
    · exact ⟨rfl, rfl⟩
    · exact (storeBytes_still s _ _).trans ⟨rfl, rfl⟩
  · exact .refl s

theorem storeGranule_still (s : State) (a : Nat) (bs : List Byte) (p : Bool) (k : Key) (g : Nat) :
    Still s (s.storeGranule a bs p k g) := by
  have hs := (retag_still s g k).trans (storeBytes_still (s.retag g k) (sliceFor a bs g).1 (sliceFor a bs g).2)
  have hd : ∀ x : Die, Still s (s.setDie (homeDie g) x) := fun _ => ⟨rfl, rfl⟩
  unfold State.storeGranule
  dsimp only
  split
  · split
    · split
      · exact setPoison_still _ _ _
      · split
        · exact .refl s
        · split
          · exact hd _
          · split
            · exact .refl s
            · exact (hd _).trans (record_still _ _ _)
    · exact record_still _ _ _
  · split
    · exact .refl s
    · split
      · exact hs.trans (setPoison_still _ _ _)
      · split
        · exact hs.trans (setPoison_still _ _ _)
        · exact hs

theorem storeLoc_still (s : State) (a : Nat) (bs : List Byte) (p : Bool) (k : Key) : Still s (s.storeLoc a bs p k) :=
  .foldl (fun _ _ => storeGranule_still _ _ _ _ _ _) _ _

theorem writeHome_still (s : State) (a : Nat) (bs : List Byte) (p : Bool) (k : Key) : Still s (s.writeHome a bs p k) :=
  ((enterLines_still _ _ _ _).trans (storeLoc_still _ _ _ _ _)).trans
    (.foldl (fun _ _ => ((dropCopies_caches _ _ _).trans (touchL2_l2 _ _ _ _).caches).still) _ _)

theorem orEntry_still (s : State) (l : Leaf) (b : Nat) : Still s (s.orEntry l b) := by
  unfold State.orEntry
  dsimp only
  split
  · exact .refl s
  · exact writeHome_still _ _ _ _ _

theorem setAD_still (s : State) (k : AccKind) (x : Walked) : Still s (s.setAD k x) := by
  have hf : Still s (x.used.foldl (fun s l => s.orEntry l 0x40) s) := .foldl (fun _ _ => orEntry_still _ _ _) _ _
  unfold State.setAD
  dsimp only
  refine Still.trans ?_ ((orEntry_still _ _ _).trans (orEntry_still _ _ _))
  split
  · exact hf
  · split
    · exact hf.trans (orEntry_still _ _ _)
    · exact hf

theorem translate_still (s : State) (fn : Nat) (l : Level) (k : AccKind) (a : Nat) : Still s (s.translate fn l k a).1 := by
  unfold State.translate
  split
  · exact .refl s
  · split
    · exact .refl s
    · exact (setAD_still s k _).trans ⟨rfl, rfl⟩

theorem page_still (s : State) (ag : Agent) (k : AccKind) (a : Nat) : Still s (s.page ag k a).1 := by
  have ht := translate_still s ag.fn ag.level k a
  unfold State.page
  split
  · split <;> exact .refl s
  · split
    · exact .refl s
    · split
      · exact .refl s
      · split
        · next e => rw [e] at ht; exact ht
        · exact ht

theorem lookup_still (s : State) (ag : Agent) (k : AccKind) (ps : List (Nat × Nat)) : Still s (s.lookup ag k ps).1 := by
  induction ps generalizing s with
  | nil => exact .refl s
  | cons x ps ih =>
    have hp := page_still s ag k x.1
    unfold State.lookup
    split <;> (next e => rw [e] at hp; exact hp.trans (ih _))

theorem resolve_still (s : State) (ag : Agent) (k : AccKind) (a n : Nat) : Still s (s.resolve ag k a n).1 := by
  have hl := lookup_still s ag k (partsOf a n)
  unfold State.resolve
  split
  · exact .refl s
  · split
    · next e => rw [e] at hl; exact hl
    · exact .refl s

/-! ### Operations that perform pending accesses -/

/-- No thread's PC, and nothing that runs again out of a queue, changed. -/
def SamePlace (s t : State) : Prop :=
  t.cur = s.cur ∧ ∀ g, (t.ctx g).reissue = (s.ctx g).reissue ∧ (t.ctx g).pc = (s.ctx g).pc

theorem SamePlace.refl (s : State) : SamePlace s s := ⟨rfl, fun _ => ⟨rfl, rfl⟩⟩

theorem SamePlace.trans {s t u : State} (h : SamePlace s t) (k : SamePlace t u) : SamePlace s u :=
  ⟨k.1.trans h.1, fun g => ⟨(k.2 g).1.trans (h.2 g).1, (k.2 g).2.trans (h.2 g).2⟩⟩

theorem Still.place {s t : State} (h : Still s t) : SamePlace s t := ⟨h.2, fun g => by rw [h.ctx g]; exact ⟨rfl, rfl⟩⟩

theorem SamePlace.me {s t : State} (h : SamePlace s t) : t.me.reissue = s.me.reissue ∧ t.me.pc = s.me.pc := by
  unfold State.me; rw [h.1]; exact h.2 _

theorem setCtx_place (s : State) (g : Nat) (c : Ctx) (hr : c.reissue = (s.ctx g).reissue) (hp : c.pc = (s.ctx g).pc) :
    SamePlace s (s.setCtx g c) := by
  refine ⟨rfl, fun h => ?_⟩
  rw [State.ctx_setCtx]
  split
  · next e => subst e; exact ⟨hr, hp⟩
  · exact ⟨rfl, rfl⟩

@[simp] theorem Ctx.late_reissue (c : Ctx) (l : LatePiece) (bs : List Byte) (p : Bool) : (c.late l bs p).reissue = c.reissue := by
  simp [Ctx.late]

@[simp] theorem Ctx.late_pc (c : Ctx) (l : LatePiece) (bs : List Byte) (p : Bool) : (c.late l bs p).pc = c.pc := by
  simp [Ctx.late]

theorem performHere_place (s : State) (g : Nat) (p : Pending) : SamePlace s (s.performHere g p) := by
  have hl := (passLinkFor_still s g p.path p.cls p.loc).trans (unload_still _ g p)
  unfold State.performHere
  dsimp only
  split
  · refine SamePlace.trans ?_ (setCtx_place _ _ _ (Ctx.late_reissue _ _ _ _) (Ctx.late_pc _ _ _ _))
    split
    · refine SamePlace.trans ?_ (touchLines_caches _ _ _ _ _).still.place
      exact hl.place.trans ((noteRead_still _ _).trans (enterLines_still _ _ _ _)).place
    · exact hl.place.trans ((noteRead_still _ _).trans (enterLines_still _ _ _ _)).place
  · have ho : Still s (((s.passLinkFor g p.path p.cls p.loc).unload g p).noteRefused p.loc |>.enterLines p.loc
        p.bytes.length p.key) := hl.trans ((noteRefused_still _ _).trans (enterLines_still _ _ _ _))
    split
    · refine Still.place (Still.trans ?_ (touchLines_caches _ _ _ _ _).still)
      refine Still.trans ?_ (storeLoc_still _ _ _ _ _)
      exact ho.trans (CachesOnly.foldl (fun _ _ => dropCopies_caches _ _ _) _ _).still
    · refine Still.place (Still.trans ?_ (L2Only.foldl (fun _ _ => touchL2_l2 _ _ _ _) _ _).caches.still)
      refine Still.trans ?_ (storeLoc_still _ _ _ _ _)
      exact ho.trans (CachesOnly.foldl (fun _ _ => dropCopies_caches _ _ _) _ _).still

theorem performFor_place (s : State) (g : Nat) (p : Pending) : SamePlace s (s.performFor g p) := by
  have h := performHere_place { s.block (s.heldFrom (dieOf g) p.loc) with viewer := some (dieOf g) } g p
  exact ⟨h.1, h.2⟩

theorem performList_place (s : State) (g : Nat) (ps : List Pending) : SamePlace s (s.performList g ps) := by
  induction ps generalizing s with
  | nil => exact .refl s
  | cons p ps ih => exact (performFor_place s g p).trans (ih _)

theorem drain_place (s : State) (g : Nat) (q : Pending → Bool) : SamePlace s (s.drain g q) := by
  unfold State.drain
  dsimp only
  split
  · refine SamePlace.trans ?_ (performList_place _ _ _)
    exact setCtx_place s g _ rfl rfl
  · exact .refl s

theorem makeRoom_place (s : State) (g : Nat) : SamePlace s (s.makeRoom g) := by
  unfold State.makeRoom
  split
  · exact .refl s
  · split
    · exact .refl s
    · exact drain_place _ _ _

theorem beforeWalk_place (s : State) (g : Nat) (ag : Agent) (k : AccKind) (a n : Nat) :
    SamePlace s (s.beforeWalk g ag k a n) := by
  unfold State.beforeWalk
  split
  · exact .refl s
  · split
    · exact .refl s
    · exact drain_place _ _ _

theorem loadPart_place (s : State) (g : Nat) (path : Path) (cls : Nat) (p : Part) :
    SamePlace s (s.loadPart g path cls p).1 := by
  unfold State.loadPart
  dsimp only
  have hd : SamePlace s ((s.drain g (readFollows (partPath path cls p).1 (partPath path cls p).2 p.place.loc p.len)).noteRead
      p.place) := (drain_place _ _ _).trans (noteRead_still _ _).place
  have he : SamePlace s (if p.place.dead = true then (s.drain g (readFollows (partPath path cls p).1 (partPath path cls p).2
      p.place.loc p.len)).noteRead p.place else (((s.drain g (readFollows (partPath path cls p).1 (partPath path cls p).2
      p.place.loc p.len)).noteRead p.place).passLinkFor g (partPath path cls p).1 (partPath path cls p).2
      p.place.loc).enterLines p.place.loc p.len p.place.key) := by
    split
    · exact hd
    · exact hd.trans ((passLinkFor_still _ _ _ _ _).trans (enterLines_still _ _ _ _)).place
  split
  · exact he.trans (touchLines_caches _ _ _ _ _).still.place
  · split
    · exact he.trans (passLines_l2 _ _ _ _).caches.still.place
    · exact he

theorem loadParts_place (s : State) (g : Nat) (path : Path) (cls : Nat) (ps : List Part) :
    SamePlace s (s.loadParts g path cls ps).1 := by
  induction ps generalizing s with
  | nil => exact .refl s
  | cons p ps ih => exact (loadPart_place s g path cls p).trans (ih _)

/-- A load moves no thread. -/
theorem load_place (s : State) (g : Nat) (ag : Agent) (k : AccKind) (path : Path) (cls a n : Nat) :
    SamePlace s (s.load g ag k path cls a n).1 := by
  have hr := (beforeWalk_place s g ag k a n).trans (resolve_still _ ag k a n).place
  unfold State.load
  split
  · exact .refl s
  · next e => rw [e] at hr; exact hr.trans (loadParts_place _ _ _ _ _)

theorem storeParts_place (s : State) (g : Nat) (path : Path) (cls : Nat) (ps : List Part) (bs : List Byte) (p : Bool) :
    SamePlace s (s.storeParts g path cls ps bs p) := by
  unfold State.storeParts
  dsimp only
  refine SamePlace.trans ?_ (setCtx_place _ _ _ rfl rfl)
  refine SamePlace.trans ?_ (Still.foldl (fun t x => noteDead_still t _) _ _).place
  split
  · exact makeRoom_place _ _
  · exact .refl s

/-- A store moves no thread. -/
theorem store_place (s : State) (g : Nat) (ag : Agent) (k : AccKind) (path : Path) (cls a : Nat) (bs : List Byte) (p : Bool) :
    SamePlace s (s.store g ag k path cls a bs p).1 := by
  have hr := (beforeWalk_place s g ag k a bs.length).trans (resolve_still _ ag k a bs.length).place
  unfold State.store
  split
  · exact .refl s
  · next e => rw [e] at hr; exact hr.trans (storeParts_place _ _ _ _ _ _ _)

/-- An access that faults leaves everything as it was. -/
theorem load_error {s u : State} {g : Nat} {ag : Agent} {k : AccKind} {path : Path} {cls a n : Nat} {x : AccFault}
    (h : s.load g ag k path cls a n = (u, .error x)) : u = s := by
  unfold State.load at h
  split at h
  · cases h; rfl
  · cases h

theorem store_error {s u : State} {g : Nat} {ag : Agent} {k : AccKind} {path : Path} {cls a : Nat} {bs : List Byte} {p : Bool}
    {x : AccFault} (h : s.store g ag k path cls a bs p = (u, .error x)) : u = s := by
  unfold State.store at h
  split at h
  · cases h; rfl
  · cases h

end Sys2Proof.Machine
end

section
/-! PROOFS. Faults of memory accesses: which causes translation answers, where one page faults, and the trap of a scalar
access that faults. -/

open Sys2Proof Sys2Proof.Machine

namespace Sys2Proof.Machine

/-! ### Table entries (R322, R329) -/

theorem bitsOf_one (v lo : Nat) : bitsOf v lo 1 = v / 2 ^ lo % 2 := by
  rw [bitsOf, Nat.shiftRight_eq_div_pow, Nat.pow_one]

/-- An entry whose reserved bits are set, or that is no entry of its level, or that lets a page be written and not read,
is malformed. -/
theorem badEntry_of {e level : Nat} (stage addr : Nat)
    (h : e / 2 ^ 62 % 4 ≠ 0 ∨ e / 2 ^ 9 % 8 ≠ 0 ∨ (level = 0 ∧ e / 2 % 2 = 1) ∨ (level = 3 ∧ e / 2 % 2 = 0) ∨
      (e / 4 % 2 = 0 ∧ e / 8 % 2 = 1)) : badEntry e stage level addr = true := by
  rcases h with h | h | ⟨rfl, h⟩ | ⟨rfl, h⟩ | ⟨h, k⟩ <;>
    simp_all [badEntry, bitsOf, Nat.shiftRight_eq_div_pow]

theorem entriesFault : EntriesFault := by
  intro e stage level addr entry key hs
  refine ⟨by simp [readEntry], fun h => ?_, fun hv h => ?_, fun l hl => ?_⟩
  · simp [readEntry, bitsOf, h]
  · simp [readEntry, bitsOf, hv, badEntry_of stage addr h]
  · unfold readEntry at hl
    simp only [Bool.false_eq_true, ↓reduceIte] at hl
    split at hl
    · cases hl
    · next hv =>
      split at hl
      · cases hl
      · split at hl
        · next hk =>
          cases hl
          simp only [bitsOf, leafBits, Nat.shiftRight_eq_div_pow] at hv hk ⊢
          simp; omega
        · cases hl

/-! ### The causes of translation -/

/-- A fault that translation answers is none of an atomic's or of ATS: the held way, or a cause of R329. -/
def TranslationCause (c : Nat) : Prop := c = heldCause ∨ 0x081 ≤ c ∧ c ≤ 0x08A ∨ 0x0E0 ≤ c ∧ c ≤ 0x0E3

theorem readEntry_cause {e : Nat} {p : Bool} {stage level addr entry : Nat} {key : Key} {x : MemFault}
    (h : readEntry e p stage level addr entry key = .error x) : TranslationCause x.cause := by
  unfold readEntry at h
  dsimp only at h
  split at h
  · cases h; simp [TranslationCause]
  · split at h
    · cases h; split <;> simp [TranslationCause]
    · split at h
      · cases h; split <;> simp [TranslationCause]
      · split at h <;> cases h

theorem walk2_cause {s : State} {fn gpa fuel table : Nat} {used : List WalkEntry} {x : MemFault}
    (h : s.walk2 fn gpa fuel table used = .error x) : TranslationCause x.cause := by
  induction fuel generalizing table used with
  | zero => cases h; simp [TranslationCause]
  | succ fuel ih =>
    unfold State.walk2 at h
    dsimp only at h
    split at h
    · exact ih h
    · next y hy =>
      cases h
      split at hy
      · cases hy; simp [TranslationCause]
      · split at hy
        · cases hy; exact .inl rfl
        · exact readEntry_cause hy
    · cases h
    · cases h; simp [TranslationCause]

theorem stage2Path_cause {s : State} {fn gpa : Nat} {x : MemFault} (h : s.stage2Path fn gpa = .error x) :
    TranslationCause x.cause := by
  unfold State.stage2Path at h
  split at h
  · cases h; simp [TranslationCause]
  · exact walk2_cause h

theorem walk1_cause {s : State} {fn va fuel table : Nat} {used : Trail} {x : MemFault}
    (h : s.walk1 fn va fuel table used = .error x) : TranslationCause x.cause := by
  induction fuel generalizing table used with
  | zero => cases h; simp [TranslationCause]
  | succ fuel ih =>
    unfold State.walk1 at h
    dsimp only at h
    split at h
    · next y hy => cases h; exact stage2Path_cause (x := y) hy
    · split at h
      · exact ih h
      · next y hy =>
        cases h
        split at hy
        · cases hy; simp [TranslationCause]
        · split at hy
          · cases hy; simp [TranslationCause]
          · split at hy
            · cases hy; simp [TranslationCause]
            · split at hy
              · cases hy; exact .inl rfl
              · exact readEntry_cause hy
      · cases h
      · cases h; simp [TranslationCause]

theorem walk_cause {s : State} {fn va : Nat} {l : Level} {k : AccKind} {x : MemFault} (h : s.walk fn l k va = .error x) :
    TranslationCause x.cause := by
  unfold State.walk at h
  dsimp only at h
  split at h
  · cases h; simp [TranslationCause]
  · split at h
    · next hy => cases h; exact walk1_cause hy
    · split at h
      · cases h; simp [TranslationCause]
      · split at h
        · cases h; simp [TranslationCause]
        · split at h
          · next hy => cases h; exact stage2Path_cause hy
          · split at h
            · cases h; simp [TranslationCause]
            · split at h
              · cases h; simp [TranslationCause]
              · split at h
                · cases h; simp [TranslationCause]
                · cases h

theorem waitAt_cause {s : State} {ag : Agent} {p : Place} {x : MemFault} (h : s.waitAt ag p = .error x) :
    TranslationCause x.cause := by
  unfold State.waitAt at h
  split at h
  · cases h; exact .inl rfl
  · cases h

theorem placeOf_cause {s : State} {fn va : Nat} {e : TlbEntry} {x : MemFault} (h : s.placeOf fn e va = .error x) :
    TranslationCause x.cause := by
  unfold State.placeOf at h
  split at h
  · cases h; simp [TranslationCause]
  · split at h
    · cases h; simp [TranslationCause]
    · cases h

theorem windowPlace_cause {s : State} {ag : Agent} {a : Nat} {x : MemFault} (h : s.windowPlace ag a = .error x) :
    TranslationCause x.cause := by
  unfold State.windowPlace at h
  repeat' split at h
  all_goals cases h; try (simp [TranslationCause])

theorem refusal_cause (e : TlbEntry) (l : Level) (k : AccKind) (va : Nat) : TranslationCause (e.refusal l k va).cause := by
  unfold TlbEntry.refusal
  split <;> (simp [TranslationCause])

theorem translate_cause {s u : State} {fn va : Nat} {l : Level} {k : AccKind} {x : MemFault}
    (h : s.translate fn l k va = (u, .error x)) : TranslationCause x.cause := by
  unfold State.translate at h
  split at h
  · split at h
    · cases h; exact refusal_cause _ _ _ _
    · exact placeOf_cause (congrArg Prod.snd h)
  · split at h
    · next hy => cases h; exact walk_cause hy
    · exact placeOf_cause (congrArg Prod.snd h)

theorem page_cause {s u : State} {ag : Agent} {k : AccKind} {va : Nat} {x : MemFault}
    (h : s.page ag k va = (u, .error x)) : TranslationCause x.cause := by
  unfold State.page at h
  split at h
  · split at h
    · cases h; simp [TranslationCause]
    · exact waitAt_cause (congrArg Prod.snd h)
  · split at h
    · cases h; simp [TranslationCause]
    · split at h
      · have h := congrArg Prod.snd h
        dsimp only at h
        split at h
        · cases h; simp [TranslationCause]
        · exact windowPlace_cause h
      · split at h
        · exact waitAt_cause (congrArg Prod.snd h)
        · exact translate_cause h

theorem lookup_cause {s u : State} {ag : Agent} {k : AccKind} {l : List (Nat × Nat)} {ps : List Part} {x : AccFault}
    (h : s.lookup ag k l = (u, ps, some x)) : TranslationCause x.fault.cause := by
  induction l generalizing s u ps x with
  | nil => cases h
  | cons a l ih =>
    unfold State.lookup at h
    split at h
    · next hy =>
      simp only [Prod.mk.injEq, Option.some.injEq] at h
      obtain ⟨-, -, rfl⟩ := h
      split
      · exact page_cause hy
      · next z hz =>
        split
        · exact ih (Prod.ext rfl (Prod.ext rfl hz))
        · exact page_cause hy
    · simp only [Prod.mk.injEq] at h
      exact ih (Prod.ext rfl (Prod.ext rfl h.2.2))

theorem resolve_cause {s u : State} {ag : Agent} {k : AccKind} {a n : Nat} {x : AccFault}
    (h : s.resolve ag k a n = (u, .error x)) : TranslationCause x.fault.cause := by
  unfold State.resolve at h
  split at h
  · cases h; split <;> simp [TranslationCause]
  · split at h
    · cases h
    · next hy => cases h; exact lookup_cause hy

theorem load_cause {s u : State} {g : Nat} {ag : Agent} {k : AccKind} {path : Path} {cls a n : Nat} {x : AccFault}
    (h : s.load g ag k path cls a n = (u, .error x)) : TranslationCause x.fault.cause := by
  unfold State.load at h
  split at h
  · next hy => cases h; exact resolve_cause hy
  · cases h

theorem store_cause {s u : State} {g : Nat} {ag : Agent} {k : AccKind} {path : Path} {cls a : Nat} {bs : List Byte}
    {p : Bool} {x : AccFault} (h : s.store g ag k path cls a bs p = (u, .error x)) : TranslationCause x.fault.cause := by
  unfold State.store at h
  split at h
  · next hy => cases h; exact resolve_cause hy
  · cases h

/-! ### The trap of an access that faults (R310, R314, R315) -/

/-- Entry into a level of the running context is the trap into it. -/
theorem enter_trapped (s : State) (l : Level) (t : TrapInfo) (hv : t.vside = false) :
    Trapped s (s.setMe (s.me.enter l t)) l t.cause t.value t.epc t.telem := by
  refine ⟨onlyMe_setMe _ _, ?_⟩
  rw [State.me_setMe]
  cases l <;> simp [Ctx.enter, Ctx.setTrapSet, Ctx.trapSet, hv]

/-- The level of a memory fault (R310) is the one that the trap logic finds. -/
theorem targetLevel_fault (s : State) {c : Nat} (h : TranslationCause c) (hh : c ≠ heldCause) :
    targetLevel c s.me.level = faultLevel s c := by
  have hx : c ≠ 0x100 := by rcases h with h | h | h <;> [exact absurd h hh; omega; omega]
  by_cases hf : 0x085 ≤ c ∧ c ≤ 0x08A
  · have : naturalLevel c s.me.level = .firmware := by
      have : firmwareCause c = true := by simp [firmwareCause]; omega
      simp [naturalLevel, this]
    rw [faultLevel, if_pos hf, targetLevel, this]
    cases s.me.level <;> rfl
  · have : firmwareCause c = false := by simp [firmwareCause]; omega
    rw [faultLevel, if_neg hf, targetLevel_sup _ _ (by simp [naturalLevel, this, hx])]

theorem noteAbsent_sameBytes (s : State) (a : Nat) : SameBytes s (s.noteAbsent a) := by
  unfold State.noteAbsent
  split
  · exact record_sameBytes _ _ _
  · exact ⟨fun _ => rfl, fun _ => rfl⟩

theorem noteRefused_sameBytes (s : State) (a : Nat) : SameBytes s (s.noteRefused a) := by
  unfold State.noteRefused
  split
  · exact record_sameBytes _ _ _
  · exact ⟨fun _ => rfl, fun _ => rfl⟩

/-- A walk that faulted records a poisoned table entry, and may leave a cached translation (R322, R325). -/
theorem noteWalk_eq (s : State) (x : AccFault) : ∃ t, s.noteWalk x =
    { (if x.fault.cause = 0x089 then (s.noteAbsent x.fault.entry).noteRefused x.fault.entry else s) with tlb := t } := by
  unfold State.noteWalk
  generalize (if x.fault.cause = 0x089 then (s.noteAbsent x.fault.entry).noteRefused x.fault.entry else s) = u
  cases x.fault.seen with
  | none => exact ⟨_, rfl⟩
  | some e =>
    dsimp only
    split <;> exact ⟨_, rfl⟩

/-- So it leaves every context and every byte, and without a poisoned entry everything but the cached translations. -/
theorem noteWalk_leaves (s : State) (x : AccFault) : Still s (s.noteWalk x) ∧ SameBytes s (s.noteWalk x) ∧
    (x.fault.cause ≠ 0x089 → s.noteWalk x = { s with tlb := (s.noteWalk x).tlb }) := by
  obtain ⟨t, h⟩ := noteWalk_eq s x
  rw [h]
  split
  · next hc =>
    obtain ⟨ha, hb⟩ := noteAbsent_sameBytes s x.fault.entry
    obtain ⟨hc', hd⟩ := noteRefused_sameBytes (s.noteAbsent x.fault.entry) x.fault.entry
    refine ⟨(noteAbsent_still s x.fault.entry).trans (noteRefused_still _ x.fault.entry), ?_, fun h => absurd hc h⟩
    exact ⟨fun l => (hc' l).trans (ha l), fun l => (hd l).trans (hb l)⟩
  · exact ⟨.refl s, ⟨fun _ => rfl, fun _ => rfl⟩, fun _ => rfl⟩

theorem faultTelem_eq (k : AccKind) (x : MemFault) (h : x.cause ≠ 0x0F1) :
    telemOf k none x = BitVec.ofNat 64 (faultTelem k x.cause x.stg x.lvl) := by
  unfold faultTelem telemOf
  rw [if_neg h]
  cases k <;> simp [kindCode]

/-- A scalar access whose translation faults, and whose way is not held, takes the trap of the fault. -/
theorem trapFault_taken {s : State} (k : AccKind) {x : AccFault} (h : TranslationCause x.fault.cause)
    (hh : x.fault.cause ≠ heldCause) (hr : s.me.reissue = none)
    (hd : (s.me.trapSet (faultLevel s x.fault.cause)).regs.depth ≠ 2) :
    FaultTaken s (s.trapFault k x) k x.fault.cause x.fault.stg x.fault.lvl x.fault.gpa x.addr := by
  obtain ⟨hv, hb, ht⟩ := noteWalk_leaves s x
  have hx : x.fault.cause ≠ 0x0F1 := by rcases h with h | h | h <;> [exact absurd h hh; omega; omega]
  have hl := targetLevel_fault s h hh
  have ht' : s.trapFault k x = (s.noteWalk x).setMe ((s.noteWalk x).me.enter (faultLevel s x.fault.cause)
      (x.info k s.me.here none)) := by
    have hi : (x.info k s.me.here none).cause = x.fault.cause := rfl
    rw [State.trapFault, if_neg hh, trap_eq _ _ (by rw [hv.me, hi, hl]; exact hd), hv.me, hi, hl]
  have hp : s.me.here = s.me.pc := by simp [Ctx.here, hr]
  refine ⟨s.noteWalk x, hv.1, hv.2, hb, ht, ?_, fun hf => ?_⟩
  · have := enter_trapped (s.noteWalk x) (faultLevel s x.fault.cause) (x.info k s.me.here none) rfl
    rw [ht']
    simpa only [AccFault.info, hx, false_and, ↓reduceIte, faultTelem_eq k x.fault hx, hp] using this
  · rw [ht', State.me_setMe, hf]
    rfl

/-! ### The fault of one page (R198, R319 to R323) -/

/-- A fault of the given cause, stage and level; the guest physical address matters for a stage-2 fault alone. -/
def FaultIs (x : MemFault) (cause stg lvl gpa : Nat) : Prop :=
  x.cause = cause ∧ x.stg = stg ∧ x.lvl = lvl ∧ (0x085 ≤ cause ∧ cause ≤ 0x087 → x.gpa = gpa) ∧ cause ≠ heldCause

/-- In the scratch window the three refusals of R198, in their order. -/
theorem windowPlace_of_pageFault {s : State} {k : AccKind} {a cause stg lvl gpa : Nat} (hl : s.agent.level ≠ .firmware)
    (hn : ¬(a / 2 ^ 55 ≠ 0 ∧ a / 2 ^ 55 ≠ 511)) (hw : inWindow a = true)
    (h : pageFault s s.agent.level k a = some (cause, stg, lvl, gpa)) :
    ∃ x, (if k = .fetch then Except.error { rank := 3, cause := 0x0E3 } else s.windowPlace s.agent a) = .error x ∧
      FaultIs x cause stg lvl gpa := by
  have hi : ∀ p : Role → Bool, ∀ c : Core, (c.roles.find? fun r => p r.2).isSome = c.roles.any fun r => p r.2 := fun p c => by
    rw [Bool.eq_iff_iff, List.find?_isSome]; simp
  unfold pageFault at h
  dsimp only at h
  rw [if_neg hl, if_neg hn, if_pos hw] at h
  split at h
  · next hk =>
    cases h
    exact ⟨_, if_pos hk, rfl, rfl, rfl, by simp, by simp [heldCause]⟩
  · next hk =>
    rw [if_neg hk]
    unfold State.windowPlace
    rw [show s.agent.crew = s.me.crew from rfl]
    have hslot : bitsOf a 20 5 = a / 2 ^ 20 % 32 := by simp [bitsOf, Nat.shiftRight_eq_div_pow]
    have hoff : bitsOf a 0 20 / 16384 = a % 2 ^ 20 / 16384 := by simp [bitsOf]
    rw [hslot, hoff]
    generalize a / 2 ^ 20 % 32 = slot at h
    generalize a % 2 ^ 20 / 16384 = off at h
    cases hc : s.me.crew with
    | none =>
      rw [hc] at h
      cases h
      exact ⟨_, by cases s.agent.slotCore slot <;> rfl, rfl, rfl, rfl, by simp, by simp [heldCause]⟩
    | some c =>
      rw [hc] at h
      dsimp only at h
      by_cases hs : 16 < slot
      · have hslots : s.agent.slotCore slot = none := by
          simp [Agent.slotCore, show ¬slot < 16 by omega, show slot ≠ 16 by omega]
        rw [if_pos (.inl hs)] at h
        cases h
        exact ⟨_, by rw [hslots], rfl, rfl, rfl, by simp, by simp [heldCause]⟩
      · have hslots : s.agent.slotCore slot = some (if slot < 16 then 16 * clusterOf s.cur + slot else coreOf s.cur) := by
          rw [Agent.slotCore]
          split
          · rw [show s.agent.cluster = clusterOf s.cur from rfl, Nat.mul_comm]
          · rw [if_pos (by omega)]; rfl
        rw [hslots]
        dsimp only
        generalize (if slot < 16 then 16 * clusterOf s.cur + slot else coreOf s.cur) = core at h
        have hany : ∀ j, ((s.core core).granuleFor c j).isSome = (s.core core).roles.any fun r => r.2 == .scratch c j :=
          fun j => by rw [Core.granuleFor, Option.isSome_map]; exact hi (· == .scratch c j) _
        split at h
        · next h0 =>
          cases h
          have : ¬(s.core core).hasRegion c = true := by
            rw [Core.hasRegion, hany]; exact Bool.not_eq_true _ ▸ h0.resolve_left hs
          exact ⟨_, if_neg this, rfl, rfl, rfl, by simp, by simp [heldCause]⟩
        · next h0 =>
          have : (s.core core).hasRegion c = true := by
            rw [Core.hasRegion, hany]; simpa using (not_or.1 h0).2
          rw [if_pos this]
          split at h
          · next h1 =>
            cases h
            have : (s.core core).granuleFor c off = none := by rw [← Option.not_isSome_iff_eq_none, hany, h1]; simp
            exact ⟨_, by rw [this], rfl, rfl, rfl, by simp, by simp [heldCause]⟩
          · cases h

/-- Outside the window the walk meets the fault. -/
theorem walk_of_pageFault {s : State} {l : Level} {k : AccKind} {a cause stg lvl gpa : Nat} (hl : l ≠ .firmware)
    (hn : ¬(a / 2 ^ 55 ≠ 0 ∧ a / 2 ^ 55 ≠ 511)) (hw : inWindow a ≠ true)
    (h : pageFault s l k a = some (cause, stg, lvl, gpa)) :
    ∃ x, s.walk s.me.fn l k a = .error x ∧ FaultIs x cause stg lvl gpa := by
  unfold pageFault at h
  extract_lets f plain lacks stores lvlOf told at h
  have hlacks : ∀ r w x, lacks r w x = !((needOf k).met r w x) := fun r w x => by
    cases k <;> simp [lacks, needOf, Need.met]
  have hstores : stores = (needOf k).w := by cases k <;> rfl
  have hlvl : ∀ x : Leaf, lvlOf x = levelOfBits x.bits := fun _ => rfl
  have huser : ∀ u : Bool, (if l = .user then u = false else k = .fetch ∧ u = true) ↔ userRule l k u = false := fun u => by
    cases l <;> simp [userRule] at hl ⊢
  have htold : ∀ x, told x = some (cause, stg, lvl, gpa) → FaultIs x cause stg lvl gpa := fun x hx => by
    dsimp only [told] at hx
    split at hx
    · cases hx
    · next hx' => cases hx; exact ⟨rfl, rfl, rfl, fun _ => rfl, hx'⟩
  have hfault : ∀ (x : MemFault) (g : Nat), x.cause ≠ heldCause → (0x085 ≤ x.cause ∧ x.cause ≤ 0x087 → x.gpa = g) →
      some (x.cause, x.stg, x.lvl, g) = some (cause, stg, lvl, gpa) → FaultIs x cause stg lvl gpa := fun x g h1 h2 hx => by
    cases hx
    exact ⟨rfl, rfl, rfl, h2, h1⟩
  clear_value lacks lvlOf told stores
  rw [if_neg hl, if_neg hn, if_neg hw] at h
  unfold State.walk
  split at h
  · next e =>
    rw [show (s.fnOf s.me.fn).s1root = none from e]
    refine ⟨_, rfl, ?_⟩
    exact hfault _ 0 (by simp [heldCause]) (by simp) h
  · next root e =>
    rw [show (s.fnOf s.me.fn).s1root = some root from e]
    dsimp only
    split at h
    · next e => rw [show s.walk1 s.me.fn a 4 root {} = _ from e]; exact ⟨_, rfl, htold _ h⟩
    · next l1 tr e =>
      rw [show s.walk1 s.me.fn a 4 root {} = _ from e]
      dsimp only
      simp only [hlacks, hlvl, huser, hstores] at h
      split at h
      · next hp =>
        have hp' : (!((needOf k).met l1.r l1.w l1.x && userRule l k l1.u)) = true := by simpa [imp_iff_not_or] using hp
        refine ⟨_, if_pos hp', ?_⟩
        exact hfault _ 0 (by simp [heldCause]) (by simp) h
      · next hp =>
        have hp' : ¬(!((needOf k).met l1.r l1.w l1.x && userRule l k l1.u)) = true := by simpa [imp_iff_not_or] using hp
        rw [if_neg hp']
        split at h
        · cases h
        · next had =>
          have had' : ¬((!l1.a || (needOf k).w && !l1.d) && !(Option.map (fun x => x.w) tr.leaves.head?).getD true) = true := by
            simp at had ⊢; grind
          rw [if_neg had']
          split at h
          · next e2 => rw [show s.stage2Path s.me.fn (l1.at a) = _ from e2]; exact ⟨_, rfl, htold _ h⟩
          · next l2 tb e2 =>
            rw [show s.stage2Path s.me.fn (l1.at a) = _ from e2]
            dsimp only
            split at h
            · next h2 =>
              refine ⟨_, if_pos h2, ?_⟩
              exact hfault _ _ (by simp [heldCause]) (fun _ => rfl) h
            · next h2 =>
              rw [if_neg h2]
              split at h
              · next h3 =>
                refine ⟨_, if_pos h3, ?_⟩
                exact hfault _ 0 (by simp [heldCause]) (by simp) h
              · next h3 =>
                rw [if_neg h3]
                split at h
                · next h4 =>
                  have h4' : s.keyMissing l2 (l1.at a) = true := by simpa [State.keyMissing] using h4
                  refine ⟨_, if_pos h4', ?_⟩
                  exact hfault _ 0 (by simp [heldCause]) (by simp) h
                · cases h

/-- Where `pageFault` finds a fault, and no cached translation covers the page, the access to the page faults so. -/
theorem page_of_pageFault {s : State} {k : AccKind} {a cause stg lvl gpa : Nat} (ha : a < 2 ^ 64)
    (hc : ∀ e ∈ s.tlb, e.covers s.me.fn a = false)
    (h : pageFault s s.agent.level k a = some (cause, stg, lvl, gpa)) :
    ∃ x, s.page s.agent k a = (s, .error x) ∧ FaultIs x cause stg lvl gpa := by
  unfold State.page
  by_cases hl : s.agent.level = .firmware
  · rw [if_pos hl]
    unfold pageFault at h
    dsimp only at h
    rw [if_pos hl] at h
    split at h
    · next hm =>
      cases h
      have hu : 2 ^ 52 ≤ a ∨ s.unmapped s.agent.fn a = true := hm.imp_right fun ⟨h1, h2⟩ => by
        simp [State.unmapped, Nat.not_lt.2 h1, h2]
      rw [if_pos hu]
      exact ⟨_, rfl, rfl, rfl, rfl, by simp, by simp [heldCause]⟩
    · cases h
  · rw [if_neg hl]
    by_cases hn : a / 2 ^ 55 ≠ 0 ∧ a / 2 ^ 55 ≠ 511
    · have hcn : canonical a = false := by simp [canonical, bitsOf, Nat.shiftRight_eq_div_pow]; omega
      rw [hcn]
      unfold pageFault at h
      dsimp only at h
      rw [if_neg hl, if_pos hn] at h
      cases h
      exact ⟨_, rfl, rfl, rfl, rfl, by simp, by simp [heldCause]⟩
    · have hcn : canonical a = true := by simp [canonical, bitsOf, Nat.shiftRight_eq_div_pow]; omega
      rw [hcn]
      simp only [Bool.not_true, Bool.false_eq_true, ↓reduceIte]
      by_cases hw : inWindow a = true
      · obtain ⟨x, hx, hf⟩ := windowPlace_of_pageFault hl hn hw h
        exact ⟨x, by rw [if_pos hw, hx], hf⟩
      · obtain ⟨x, hx, hf⟩ := walk_of_pageFault hl hn hw h
        have hs : s.staleFor s.agent.fn s.agent.level k a = [] :=
          List.filter_eq_nil_iff.2 fun e he => by simp [show s.agent.fn = s.me.fn from rfl, hc e he]
        have ht : s.translate s.agent.fn s.agent.level k a = (s, .error x) := by
          rw [State.translate, State.staleHit, hs]
          dsimp only
          rw [show s.agent.fn = s.me.fn from rfl, hx]
        exact ⟨x, by rw [if_neg hw, ht], hf⟩

end Sys2Proof.Machine
end

section
/-! PROOFS. Scalar loads and stores: which operation each runs, and the trap where the access faults. -/

open Sys2Proof Sys2Proof.Machine

namespace Sys2Proof.Machine

/-! ### Accesses with nothing pending -/

theorem drain_nil {s : State} {g : Nat} (h : (s.ctx g).pend = []) (q : Pending → Bool) : s.drain g q = s := by
  simp [State.drain, h, neededFor]

theorem beforeWalk_nil {s : State} {g : Nat} (h : (s.ctx g).pend = []) (ag : Agent) (k : AccKind) (a n : Nat) :
    s.beforeWalk g ag k a n = s := by
  unfold State.beforeWalk
  rw [drain_nil h]
  simp

/-- An access that lies in one page is one part. -/
theorem partsOf_one {a n : Nat} (ha : a < 2 ^ 64) (hn : 0 < n) (h : a % 4096 + n ≤ 4096) : partsOf a n = [(a, n)] := by
  have h1 : min n (4096 - a % 4096) = n := by omega
  rw [partsOf, cutPages, if_neg (by omega), h1, Nat.mod_eq_of_lt ha]
  dsimp only
  rw [Nat.sub_self, cutPages, if_pos rfl]

/-- One that runs into the next page is two. -/
theorem partsOf_two {a n : Nat} (ha : a < 2 ^ 64) (hn : n ≤ 4096) (h : (a / 4096 + 1) * 4096 < a + n)
    (hm : (a / 4096 + 1) * 4096 < 2 ^ 64) :
    partsOf a n = [(a, 4096 - a % 4096), ((a / 4096 + 1) * 4096, n - (4096 - a % 4096))] := by
  have h1 : min n (4096 - a % 4096) = 4096 - a % 4096 := by omega
  have h2 : a + (4096 - a % 4096) = (a / 4096 + 1) * 4096 := by omega
  have h3 : min (n - (4096 - a % 4096)) (4096 - (a / 4096 + 1) * 4096 % 4096) = n - (4096 - a % 4096) := by omega
  rw [partsOf, cutPages, if_neg (by omega), h1]
  dsimp only
  rw [h2, cutPages, if_neg (by omega), h3, Nat.mod_eq_of_lt ha, Nat.mod_eq_of_lt hm]
  dsimp only
  rw [Nat.sub_self]
  cases n / 4096 <;> rfl

theorem resolve_error_one {s : State} {k : AccKind} {a n : Nat} {x : MemFault} (ha : a < 2 ^ 64) (hn : 0 < n)
    (hf : a % 4096 + n ≤ 4096) (h : s.page s.agent k a = (s, .error x)) :
    s.resolve s.agent k a n = (s, .error { fault := x, addr := a }) := by
  have hs : straddlesWindow a n = false := by
    rw [straddlesWindow, partsOf_one ha hn hf]; cases h : inWindow a <;> simp [h]
  rw [State.resolve, hs, partsOf_one ha hn hf]
  simp only [State.lookup, h]
  simp

/-- At firmware level a byte of device memory whose way is not held is its own place. -/
theorem page_firmware {s : State} (k : AccKind) {a : Nat} (hl : s.agent.level = .firmware) (ha : a < deviceEnd)
    (hh : s.heldAt a = false) :
    s.page s.agent k a = (s, .ok { loc := a, key := noKey, dead := s.unreached s.agent.fn a }) := by
  have h52 : ¬2 ^ 52 ≤ a := by simp only [deviceEnd] at ha; omega
  rw [State.page, if_pos hl, if_neg (not_or.2 ⟨h52, by simp [State.unmapped, ha]⟩), State.waitAt]
  simp [State.placeAt, hh]

/-- At firmware level an address between device memory and the peers maps nothing. -/
theorem page_unmapped {s : State} (k : AccKind) {a : Nat} (hl : s.agent.level = .firmware) (ha : deviceEnd ≤ a)
    (hp : a < peerBase) : s.page s.agent k a = (s, .error { rank := 6, cause := 0x088 }) := by
  rw [State.page, if_pos hl, if_pos (.inr (by simp [State.unmapped, Nat.not_lt.2 ha, hp]))]

theorem resolve_error_two {s : State} {k : AccKind} {a n : Nat} (hl : s.agent.level = .firmware) (hn : n ≤ 4096)
    (ha : a < deviceEnd) (hh : s.heldAt a = false) (h : (a / 4096 + 1) * 4096 < a + n)
    (hd : deviceEnd ≤ (a / 4096 + 1) * 4096) (hp : (a / 4096 + 1) * 4096 < peerBase) :
    s.resolve s.agent k a n =
      (s, .error { fault := { rank := 6, cause := 0x088 }, addr := (a / 4096 + 1) * 4096 }) := by
  have ha' : a < 2 ^ 64 := by simp only [deviceEnd] at ha; omega
  have hm : (a / 4096 + 1) * 4096 < 2 ^ 64 := by simp only [peerBase] at hp; omega
  rw [State.resolve, if_neg (by simp [hl]), partsOf_two ha' hn h hm]
  simp only [State.lookup, page_firmware k hl ha hh, page_unmapped k hl hd hp]

/-! ### Where a scalar access faults (R204, R329) -/

theorem agent_level {s : State} (h : s.me.reissue = none) : s.agent.level = s.me.level := by
  simp [State.agent, h]

theorem faultTaken_congr_gpa {s t : State} {k : AccKind} {cause stg lvl gpa gpa' addr : Nat}
    (h : FaultTaken s t k cause stg lvl gpa' addr) (hg : 0x085 ≤ cause ∧ cause ≤ 0x087 → gpa' = gpa) :
    FaultTaken s t k cause stg lvl gpa addr := by
  obtain ⟨v, h1, h2, h3, h4, h5, h6⟩ := h
  refine ⟨v, h1, h2, h3, h4, h5, fun hl => (h6 hl).trans ?_⟩
  split
  · next hc => rw [hg hc]
  · rfl

/-- What an instruction does whose access faults in translation: it takes the trap of the fault. -/
def TrapsWhereResolved (s : State) (i : Instr) (k : AccKind) (a n : Nat) : Prop :=
  ∀ x, s.resolve s.agent k a n = (s, .error x) → TranslationCause x.fault.cause → x.fault.cause ≠ heldCause →
    (s.me.trapSet (faultLevel s x.fault.cause)).regs.depth ≠ 2 →
    Reaches (exec i s) fun t => FaultTaken s t k x.fault.cause x.fault.stg x.fault.lvl x.fault.gpa x.addr

/-- Such an instruction faults where `pageFault` says. -/
theorem faultsWhere_of_resolved {s : State} {i : Instr} {k : AccKind} {a n : Nat} (hr : s.me.reissue = none)
    (ha : a < 2 ^ 64) (H : s.me.pend = [] → TrapsWhereResolved s i k a n) : FaultsWhere s i k a n := by
  intro hp hc
  have hl := agent_level hr
  refine ⟨fun hn hf cause stg lvl gpa h hd => ?_, fun hfw hn hpl hd => ?_⟩
  · rw [← hl] at h
    obtain ⟨x, hx, rfl, rfl, rfl, hg, hh⟩ := page_of_pageFault ha hc h
    obtain ⟨t, ht, hft⟩ := H hp _ (resolve_error_one ha hn hf hx) (page_cause hx) hh hd
    exact ⟨t, ht, faultTaken_congr_gpa hft hg⟩
  · intro next hx hde hpe
    obtain ⟨h1, -, h2, -⟩ := hpl 0 Nat.one_pos
    have := resolve_error_two (k := k) (hl.trans hfw) hn h1 h2 hx hde hpe
    exact H hp _ this (resolve_cause this) (by simp [heldCause]) hd

/-! ### Loads -/

/-- Every scalar load is one operation, with the extension of its mnemonic. -/
theorem exec_of_loadForm {i : Instr} {d a : BitVec 5} {c : BitVec 4} {imm : BitVec 10} {n : Nat} {f : Nat → Word}
    (h : loadForm i = some (d, a, c, imm, n, f)) (s : State) : exec i s = .next (s.scalarLoad d a c imm n f) := by
  unfold loadForm at h
  split at h <;> cases h <;> rfl

theorem scalarLoad_error {s : State} {d a : BitVec 5} {c : BitVec 4} {imm : BitVec 10} {n : Nat} {f : Nat → Word}
    {x : AccFault} (hp : s.rp a = false)
    (h : (s.load s.cur s.agent .load .scalar c.toNat (s.rv a + BitVec.ofInt 64 imm.toInt).toNat n).2 = .error x) :
    s.scalarLoad d a c imm n f = s.trapFault .load x := by
  obtain ⟨u, hu⟩ : ∃ u, s.load s.cur s.agent .load .scalar c.toNat (s.ea a imm).toNat n = (u, .error x) :=
    ⟨_, Prod.ext rfl h⟩
  simp [State.scalarLoad, hp, hu, load_error hu]

theorem load_of_resolve_error {s : State} {k : AccKind} {path : Path} {cls a n : Nat} {x : AccFault} (hp : s.me.pend = [])
    (h : s.resolve s.agent k a n = (s, .error x)) : s.load s.cur s.agent k path cls a n = (s, .error x) := by
  rw [State.load, beforeWalk_nil hp, h]

/-- A scalar load takes whatever fault its access meets. -/
theorem scalarLoad_takesItsFault {s : State} {i : Instr} {d a : BitVec 5} {c : BitVec 4} {imm : BitVec 10} {n : Nat}
    {f : Nat → Word} (hr : s.me.reissue = none) (hi : loadForm i = some (d, a, c, imm, n, f)) (hp : s.rp a = false) :
    TakesItsFault s i .load
      (s.load s.cur s.agent .load .scalar c.toNat (s.rv a + BitVec.ofInt 64 imm.toInt).toNat n).2 := by
  intro x hx hh hd
  rw [exec_of_loadForm hi, scalarLoad_error hp hx]
  exact ⟨_, rfl, trapFault_taken _ (load_cause (Prod.ext rfl hx)) hh hr hd⟩

theorem scalarLoad_faultsWhere {s : State} {i : Instr} {d a : BitVec 5} {c : BitVec 4} {imm : BitVec 10} {n : Nat}
    {f : Nat → Word} (hr : s.me.reissue = none) (hi : loadForm i = some (d, a, c, imm, n, f)) (hp : s.rp a = false) :
    FaultsWhere s i .load (s.rv a + BitVec.ofInt 64 imm.toInt).toNat n :=
  faultsWhere_of_resolved hr (s.rv a + BitVec.ofInt 64 imm.toInt).isLt fun hpend x hx _ hh hd =>
    scalarLoad_takesItsFault hr hi hp x (by rw [load_of_resolve_error hpend hx]) hh hd

/-- A scalar load whose access resolves writes its register and nothing more. -/
theorem scalarLoad_wroteOne {s u : State} {i : Instr} {d a : BitVec 5} {c : BitVec 4} {imm : BitVec 10} {n : Nat}
    {f : Nat → Word} {bytes : List Byte} {p : Bool} (hr : s.me.reissue = none)
    (hi : loadForm i = some (d, a, c, imm, n, f)) (hp : s.rp a = false)
    (hl : s.load s.cur s.agent .load .scalar c.toNat (s.ea a imm).toNat n = (u, .ok (bytes, p))) :
    Reaches (exec i s) fun t => WroteOne u t d (f (leNat bytes)) p p := by
  have hu : u.me.reissue = none := by
    have := (load_place s s.cur s.agent .load .scalar c.toNat (s.ea a imm).toNat n).me.1
    rw [hl] at this
    exact this.trans hr
  rw [exec_of_loadForm hi]
  refine ⟨_, rfl, ?_⟩
  simp only [State.scalarLoad, hp, hl, Bool.false_eq_true, ↓reduceIte]
  exact retire_wroteOne u d _ p p hu

/-! ### Stores -/

theorem exec_of_storeForm {i : Instr} {d a : BitVec 5} {c : BitVec 4} {imm : BitVec 10} {n : Nat}
    (h : storeForm i = some (d, a, c, imm, n)) (s : State) : exec i s = .next (s.scalarStore d a c imm n) := by
  unfold storeForm at h
  split at h <;> cases h <;> rfl

theorem scalarStore_error {s : State} {d a : BitVec 5} {c : BitVec 4} {imm : BitVec 10} {n : Nat} {x : AccFault}
    (hp : s.rp a = false)
    (h : (s.store s.cur s.agent .store .scalar c.toNat (s.rv a + BitVec.ofInt 64 imm.toInt).toNat
      (leBytes n (s.rv d).toNat) (s.rp d)).2 = .error x) :
    s.scalarStore d a c imm n = s.trapFault .store x := by
  obtain ⟨u, hu⟩ : ∃ u, s.store s.cur s.agent .store .scalar c.toNat (s.ea a imm).toNat
      (leBytes n (s.rv d).toNat) (s.rp d) = (u, .error x) := ⟨_, Prod.ext rfl h⟩
  simp [State.scalarStore, hp, hu, store_error hu]

theorem store_of_resolve_error {s : State} {k : AccKind} {path : Path} {cls a : Nat} {bs : List Byte} {p : Bool}
    {x : AccFault} (hp : s.me.pend = []) (h : s.resolve s.agent k a bs.length = (s, .error x)) :
    s.store s.cur s.agent k path cls a bs p = (s, .error x) := by
  rw [State.store, beforeWalk_nil hp, h]

@[simp] theorem leBytes_length (n v : Nat) : (leBytes n v).length = n := by
  induction n generalizing v with
  | zero => rfl
  | succ n ih => simp [leBytes, ih]

theorem scalarStore_takesItsFault {s : State} {i : Instr} {d a : BitVec 5} {c : BitVec 4} {imm : BitVec 10} {n : Nat}
    (hr : s.me.reissue = none) (hi : storeForm i = some (d, a, c, imm, n)) (hp : s.rp a = false) :
    TakesItsFault s i .store (s.store s.cur s.agent .store .scalar c.toNat (s.rv a + BitVec.ofInt 64 imm.toInt).toNat
      (leBytes n (s.rv d).toNat) (s.rp d)).2 := by
  intro x hx hh hd
  rw [exec_of_storeForm hi, scalarStore_error hp hx]
  exact ⟨_, rfl, trapFault_taken _ (store_cause (Prod.ext rfl hx)) hh hr hd⟩

theorem scalarStore_faultsWhere {s : State} {i : Instr} {d a : BitVec 5} {c : BitVec 4} {imm : BitVec 10} {n : Nat}
    (hr : s.me.reissue = none) (hi : storeForm i = some (d, a, c, imm, n)) (hp : s.rp a = false) :
    FaultsWhere s i .store (s.rv a + BitVec.ofInt 64 imm.toInt).toNat n :=
  faultsWhere_of_resolved hr (s.rv a + BitVec.ofInt 64 imm.toInt).isLt fun hpend x hx _ hh hd =>
    scalarStore_takesItsFault hr hi hp x (by rw [store_of_resolve_error hpend (by simpa using hx)]) hh hd

/-- A scalar store whose access resolves moves on, and consumes a poisoned source. -/
theorem scalarStore_moves {s u : State} {i : Instr} {d a : BitVec 5} {c : BitVec 4} {imm : BitVec 10} {n : Nat}
    (hr : s.me.reissue = none) (hi : storeForm i = some (d, a, c, imm, n)) (hp : s.rp a = false)
    (hs : s.store s.cur s.agent .store .scalar c.toNat (s.ea a imm).toNat (leBytes n (s.rv d).toNat) (s.rp d) =
      (u, .ok ())) :
    Reaches (exec i s) fun t => OnlyMe u t ∧
      t.me = { u.me with
        pc := s.me.pc + 4, cir := cirAfter (s.rp d) u.me.cir, reissue := none, wait := none, cut := none } := by
  obtain ⟨hu, hpc⟩ := (store_place s s.cur s.agent .store .scalar c.toNat (s.ea a imm).toNat (leBytes n (s.rv d).toNat)
    (s.rp d)).me
  rw [hs] at hu hpc
  rw [exec_of_storeForm hi]
  refine ⟨_, rfl, ?_⟩
  simp only [State.scalarStore, hp, hs, Bool.false_eq_true, ↓reduceIte]
  have ha := advance_movedTo (u.setMe (u.me.consume (s.rp d))) (by simp [hu.trans hr])
  refine ⟨(onlyMe_setMe _ _).trans ha.1, ha.2.trans ?_⟩
  rw [State.me_setMe, ← hpc]
  cases s.rp d <;> rfl

end Sys2Proof.Machine
end

section
/-! PROOFS. Loads of clean device memory at firmware level: they read the bytes stored, and leave all but the caches. -/

open Sys2Proof Sys2Proof.Machine

namespace Sys2Proof.Machine

/-! ### One byte, one granule and one run of clean device memory -/

theorem PlainBytes.sub {s : State} {a n b m : Nat} (h : PlainBytes s a n) (h1 : a ≤ b) (h2 : b + m ≤ a + n) :
    PlainBytes s b m := fun i hi => by
  have := h (b + i - a) (by omega)
  rwa [show a + (b + i - a) = b + i by omega] at this

/-- Caches hold nothing that a clean run depends on. -/
theorem PlainBytes.of_caches {s t : State} {a n : Nat} (h : PlainBytes s a n) (k : CachesOnly s t) : PlainBytes t a n := by
  rw [k]; exact h

theorem CachesOnly.storedBytes {s t : State} (h : CachesOnly s t) (a n : Nat) : storedBytes t a n = storedBytes s a n := by
  rw [h]; rfl

/-- Every granule of a run holds a byte of it. -/
theorem exists_of_mem_granulesOf {a n g : Nat} (h : g ∈ granulesOf a n) : ∃ i, i < n ∧ g = (a + i) / 64 * 64 := by
  unfold granulesOf at h
  split at h
  · cases h
  · obtain ⟨i, hi, rfl⟩ := List.mem_map.1 h
    have := List.mem_range.1 hi
    rcases Nat.eq_zero_or_pos i with rfl | hp
    · exact ⟨0, by omega, by simp⟩
    · exact ⟨(a / 64 + i) * 64 - a, by omega, by omega⟩

theorem inPeer_device {a : Nat} (h : a < deviceEnd) : inPeer a = false := by
  simp only [deviceEnd] at h
  have : ¬peerBase ≤ a := by simp only [peerBase]; omega
  simp [inPeer, this]

theorem deviceAt_device (s : State) {a : Nat} (h : a < deviceEnd) : s.deviceAt a = none := by
  simp [State.deviceAt, inPeer_device h]

theorem unreached_device (s : State) (f : Nat) {a : Nat} (h : a < deviceEnd) : s.unreached f a = false := by
  rw [State.unreached, deviceAt_device s h]
  simp only [deviceEnd] at h
  have : ¬hostBase ≤ a := by simp only [hostBase]; omega
  simp [this]

theorem passLinkFor_device (s : State) (g : Nat) (path : Path) (cls : Nat) {a : Nat} (h : a < deviceEnd) :
    s.passLinkFor g path cls a = s := by
  rw [State.passLinkFor, deviceAt_device s h]
  simp only [deviceEnd] at h
  have : ¬hostBase ≤ a := by simp only [hostBase]; omega
  simp [State.useAts, this]

theorem pathFor_device (path : Path) {a : Nat} (h : a < deviceEnd) : pathFor path a = path := by
  simp [pathFor, Nat.not_le.2 h]

/-- A clean byte reads as it is stored. -/
theorem byteAt_plain {s : State} {a : Nat} (h : PlainBytes s a 1) : s.byteAt a noKey = s.stored a := by
  obtain ⟨hd, ha, -, hp, hk, ht⟩ := h 0 Nat.one_pos
  have hv : s.viewKey a noKey = noKey := by simp [State.viewKey, show aget noKey s.tags (a / 64) = noKey from ht]
  have hpe : (decide (peerBase ≤ a) && decide (a < hostBase)) = false := inPeer_device hd
  simp only [Nat.add_zero] at hd ha hp hk
  rw [State.byteAt, State.locAbsent, if_pos hd, ha, hp, hpe]
  simp [State.plain, hv, hk]

theorem readLoc_plain {s : State} {a n : Nat} (hn : 0 < n) (h : PlainBytes s a n) :
    s.readLoc a n noKey = (storedBytes s a n, false) := by
  have hb : ∀ i, i < n → PlainBytes s (a + i) 1 := fun i hi => h.sub (by omega) (by omega)
  rw [State.readLoc, storedBytes, Prod.mk.injEq]
  refine ⟨List.map_congr_left fun i hi => byteAt_plain (hb i (List.mem_range.1 hi)), ?_⟩
  rw [State.peerRefuses, inPeer_device (by simpa using (h 0 hn).1), Bool.false_and, Bool.false_or, List.any_eq_false]
  intro i hi
  obtain ⟨hd, ha, -, hp, -, -⟩ := h i (List.mem_range.1 hi)
  simp [hp, State.locAbsent, hd, ha]

theorem noteRead_plain {s : State} {a : Nat} (h : PlainBytes s a 1) : s.noteRead { loc := a, key := noKey } = s := by
  obtain ⟨hd, ha, -⟩ := h 0 Nat.one_pos
  simp only [Nat.add_zero] at hd ha
  simp [State.noteRead, State.noteAbsent, State.noteRefused, State.peerRefuses, inPeer_device hd, ha]

/-- Lines without a key slot are entered as they are. -/
theorem enterLines_plain {s : State} {a n : Nat} (h : PlainBytes s a n) : s.enterLines a n noKey = s := by
  have hl : ∀ l : List Nat, (∀ g ∈ l, ∃ i, i < n ∧ g = (a + i) / 64 * 64) →
      l.foldl (fun s g => s.enterLine g noKey) s = s := fun l hl => by
    induction l with
    | nil => rfl
    | cons g l ih =>
      obtain ⟨i, hi, rfl⟩ := hl g (List.mem_cons_self ..)
      obtain ⟨-, -, -, -, -, ht⟩ := h i hi
      have : s.enterLine ((a + i) / 64 * 64) noKey = s := by
        rw [State.enterLine, Nat.mul_div_cancel _ (by decide)]; simp [ht]
      rw [List.foldl_cons, this]
      exact ih fun g hg => hl g (List.mem_cons_of_mem _ hg)
  exact hl _ fun g hg => exists_of_mem_granulesOf hg

/-! ### The parts of an access -/

/-- A part that is its own place, under no key slot. -/
def ownPart (p : Nat × Nat) : Part := { va := p.1, len := p.2, place := { loc := p.1, key := noKey } }

/-- The parts of an access cover it, in order. -/
def Covers (n a : Nat) : List (Nat × Nat) → Prop
  | [] => n = 0
  | p :: rest => p.1 = a ∧ 0 < p.2 ∧ p.2 ≤ n ∧ Covers (n - p.2) (a + p.2) rest

theorem cutPages_covers (fuel : Nat) {a n : Nat} (h : a + n ≤ 2 ^ 64) (hf : 0 < n → a % 4096 + n ≤ 4096 * fuel) :
    Covers n a (cutPages fuel a n) := by
  induction fuel generalizing a n with
  | zero => exact Nat.eq_zero_of_not_pos fun hp => by have := hf hp; omega
  | succ fuel ih =>
    unfold cutPages
    split
    · assumption
    · next hn =>
      have hf := hf (Nat.pos_of_ne_zero hn)
      have h1 : min n (4096 - a % 4096) ≤ n := Nat.min_le_left ..
      have h2 : min n (4096 - a % 4096) = n ∨ min n (4096 - a % 4096) = 4096 - a % 4096 := by omega
      dsimp only
      generalize min n (4096 - a % 4096) = len at h1 h2
      exact ⟨Nat.mod_eq_of_lt (by omega), by dsimp only; omega, h1, ih (by dsimp only; omega) fun _ => by
        dsimp only; omega⟩

theorem partsOf_covers {a n : Nat} (h : a + n ≤ 2 ^ 64) : Covers n a (partsOf a n) :=
  cutPages_covers _ h (by omega)

theorem storedBytes_append (s : State) (a m n : Nat) :
    storedBytes s a (m + n) = storedBytes s a m ++ storedBytes s (a + m) n := by
  simp [storedBytes, List.range_add, Nat.add_assoc, Function.comp_def]

theorem PlainBytes.end_le {s : State} {a n : Nat} (h : PlainBytes s a n) (ha : a < 2 ^ 64) : a + n ≤ 2 ^ 64 := by
  rcases Nat.eq_zero_or_pos n with rfl | hn
  · omega
  · have := (h (n - 1) (by omega)).1
    simp only [deviceEnd] at this
    omega

/-- The pages of a clean run, at firmware level. -/
theorem lookup_plain {s : State} {ag : Agent} (k : AccKind) {a n : Nat} {ps : List (Nat × Nat)} (hl : ag.level = .firmware)
    (hc : Covers n a ps) (h : PlainBytes s a n) : s.lookup ag k ps = (s, ps.map ownPart, none) := by
  induction ps generalizing a n with
  | nil => rfl
  | cons p ps ih =>
    obtain ⟨rfl, hp, hn, hc⟩ := hc
    obtain ⟨hd, -, hh, -⟩ := h 0 (by omega)
    simp only [Nat.add_zero] at hd hh
    have hpage : s.page ag k p.1 = (s, .ok { loc := p.1, key := noKey }) := by
      have h52 : ¬2 ^ 52 ≤ p.1 := by simp only [deviceEnd] at hd; omega
      rw [State.page, if_pos hl, if_neg (not_or.2 ⟨h52, by simp [State.unmapped, hd]⟩), State.waitAt]
      simp [State.placeAt, hh, unreached_device s ag.fn hd]
    simp only [State.lookup, hpage, ih hc (h.sub (by omega) (by omega))]
    rfl

theorem resolve_plain {s : State} {ag : Agent} (k : AccKind) {a n : Nat} (hl : ag.level = .firmware) (ha : a < 2 ^ 64)
    (h : PlainBytes s a n) : s.resolve ag k a n = (s, .ok ((partsOf a n).map ownPart)) := by
  rw [State.resolve, if_neg (by simp [hl]), lookup_plain k hl (partsOf_covers (h.end_le ha)) h]

/-! ### Loads -/

/-- A load of one clean part with nothing pending. -/
theorem loadPart_plain {s : State} {g : Nat} (path : Path) (cls : Nat) {p : Nat × Nat} (hg : (s.ctx g).pend = [])
    (hn : 0 < p.2) (h : PlainBytes s p.1 p.2) :
    ∃ t, s.loadPart g path cls (ownPart p) = (t, storedBytes s p.1 p.2, false) ∧ CachesOnly s t ∧
      (path ≠ .scalar → L2Only s t) := by
  have hd : p.1 < deviceEnd := by simpa using (h 0 hn).1
  have hp : partPath path cls (ownPart p) = (path, (partPath path cls (ownPart p)).2) := by
    rw [partPath]; simp only [ownPart, pathFor_device path hd]
  unfold State.loadPart
  rw [hp]
  generalize (partPath path cls (ownPart p)).2 = q
  dsimp only [ownPart]
  rw [drain_nil hg, noteRead_plain (h.sub (Nat.le_refl _) (by omega)), passLinkFor_device s g path q hd,
    enterLines_plain h]
  simp only [Bool.false_eq_true, ↓reduceIte, hg, forward, State.readPlace, readLoc_plain hn h]
  refine ⟨_, rfl, ?_, fun hs => ?_⟩
  · split
    · exact touchLines_caches _ _ _ _ _
    · split
      · exact (passLines_l2 _ _ _ _).caches
      · exact .refl s
  · rw [if_neg (by simpa using hs)]
    split
    · exact passLines_l2 _ _ _ _
    · exact .refl s

theorem loadParts_plain {s : State} {g : Nat} (path : Path) (cls : Nat) {a n : Nat} {ps : List (Nat × Nat)}
    (hg : (s.ctx g).pend = []) (hc : Covers n a ps) (h : PlainBytes s a n) :
    ∃ t, s.loadParts g path cls (ps.map ownPart) = (t, storedBytes s a n, false) ∧ CachesOnly s t ∧
      (path ≠ .scalar → L2Only s t) := by
  induction ps generalizing s a n with
  | nil => cases hc; exact ⟨s, rfl, .refl s, fun _ => .refl s⟩
  | cons p ps ih =>
    obtain ⟨rfl, hp, hn, hc⟩ := hc
    obtain ⟨t, ht, hts, htl⟩ := loadPart_plain path cls hg hp (h.sub (Nat.le_refl _) (by omega))
    obtain ⟨u, hu, hus, hul⟩ := ih (s := t) (by rw [hts.still.ctx]; exact hg) hc
      ((h.sub (by omega) (by omega)).of_caches hts)
    refine ⟨u, ?_, hts.trans hus, fun hs => (htl hs).trans (hul hs)⟩
    simp only [List.map_cons, State.loadParts, ht, hu, hts.storedBytes]
    rw [← storedBytes_append, Nat.add_sub_cancel' hn]
    rfl

/-- At firmware level, with nothing pending, a load of clean device memory reads the bytes stored there and leaves all
but the caches. -/
theorem load_plain {s : State} {g : Nat} {ag : Agent} (k : AccKind) (path : Path) (cls : Nat) {a n : Nat}
    (hg : (s.ctx g).pend = []) (hl : ag.level = .firmware) (ha : a < 2 ^ 64) (h : PlainBytes s a n) :
    ∃ t, s.load g ag k path cls a n = (t, .ok (storedBytes s a n, false)) ∧ CachesOnly s t ∧
      (path ≠ .scalar → L2Only s t) := by
  obtain ⟨t, ht, hts⟩ := loadParts_plain path cls hg (partsOf_covers (h.end_le ha)) h
  refine ⟨t, ?_, hts⟩
  rw [State.load, beforeWalk_nil hg, resolve_plain k hl ha h]
  simp only [ht]

/-- Settles O6: a load is one access whose fault is its trap, and clean memory reads as it is stored. -/
theorem loadsReadTheirBytes : Obligations.LoadsReadTheirBytes := by
  refine ⟨entriesFault, fun s i d a c imm n f hr hi hp => ?_, fun s u i d a c imm n f bytes p hr hi hp hl => ?_,
    fun s i d a c imm n f hr hi hp hf hpend => ?_⟩
  · exact ⟨scalarLoad_faultsWhere hr hi hp, scalarLoad_takesItsFault hr hi hp⟩
  · exact scalarLoad_wroteOne hr hi hp hl
  · intro at_ hb
    obtain ⟨u, hu, hc, -⟩ := load_plain .load .scalar c.toNat hpend ((agent_level hr).trans hf)
      (s.rv a + BitVec.ofInt 64 imm.toInt).isLt hb
    obtain ⟨t, ht, hw⟩ := scalarLoad_wroteOne hr hi hp hu
    refine ⟨t, ht, ?_⟩
    have : u = { s with cores := t.cores, l2 := t.l2 } := by rw [hw.1.1, ← hc]
    dsimp only
    rwa [← this]

end Sys2Proof.Machine
end

section
/-! PROOFS. Stores to clean device memory at firmware level: what performing them puts, and that nothing else changes. -/

open Sys2Proof Sys2Proof.Machine

namespace Sys2Proof.Machine

/-! ### Runs of bytes put one after the other -/

theorem storedAfter_append (ws vs : List (Nat × List Byte)) (l : Nat) (old : Byte) :
    storedAfter (ws ++ vs) l old = storedAfter vs l (storedAfter ws l old) := by
  rw [storedAfter, List.foldl_append]; rfl

/-- Where all runs that hold a location agree on its byte, it stands there afterwards. -/
theorem storedAfter_agree {ws : List (Nat × List Byte)} {l : Nat} {x : Byte} (old : Byte)
    (h : ∀ w ∈ ws, w.1 ≤ l ∧ l < w.1 + w.2.length → (w.2[l - w.1]?).getD 0 = x) :
    storedAfter ws l old = if ∃ w ∈ ws, w.1 ≤ l ∧ l < w.1 + w.2.length then x else old := by
  induction ws generalizing old with
  | nil => simp [storedAfter]
  | cons w ws ih =>
    rw [show storedAfter (w :: ws) l old = storedAfter ws l (storedAfter [w] l old) from rfl,
      ih _ fun v hv => h v (List.mem_cons_of_mem _ hv)]
    simp only [List.mem_cons, exists_eq_or_imp]
    by_cases hw : w.1 ≤ l ∧ l < w.1 + w.2.length
    · rw [show storedAfter [w] l old = x from (if_pos hw).trans (h w (List.mem_cons_self ..) hw), ite_self,
        if_pos (Or.inl hw)]
    · rw [show storedAfter [w] l old = old from if_neg hw]
      simp only [hw, false_or]

theorem storedAt_iff {s t : State} {a : Nat} {bs : List Byte} :
    StoredAt s t a bs ↔ ∀ l, t.stored l = storedAfter [(a, bs)] l (s.stored l) := Iff.rfl

/-- A run put in two parts is the run put. -/
theorem storedAfter_split (a k : Nat) (bs : List Byte) (h : k ≤ bs.length) (l : Nat) (old : Byte) :
    storedAfter [(a, bs.take k), (a + k, bs.drop k)] l old = storedAfter [(a, bs)] l old := by
  simp only [storedAfter, List.foldl_cons, List.foldl_nil, List.length_take, List.length_drop, List.getElem?_take,
    List.getElem?_drop]
  by_cases h2 : a + k ≤ l ∧ l < a + k + (bs.length - k)
  · rw [if_pos h2, if_pos ⟨by omega, by omega⟩, show k + (l - (a + k)) = l - a by omega]
  · rw [if_neg h2]
    by_cases h1 : a ≤ l ∧ l < a + min k bs.length
    · rw [if_pos h1, if_pos (by omega), if_pos ⟨by omega, by omega⟩]
    · rw [if_neg h1, if_neg (by omega)]

/-! ### What a store performed leaves -/

/-- Only memory, what the caches hold and the creels may differ, and clean memory is as clean as before. -/
def Puts (s t : State) : Prop :=
  t = { s with mem := t.mem, memPoison := t.memPoison, lineKey := t.lineKey, tags := t.tags, cores := t.cores, l2 := t.l2,
               clusters := t.clusters } ∧
  ∀ a n, PlainBytes s a n → PlainBytes t a n

theorem Puts.refl (s : State) : Puts s s := ⟨rfl, fun _ _ h => h⟩

theorem Puts.trans {s t u : State} (h : Puts s t) (k : Puts t u) : Puts s u :=
  ⟨by rw [k.1, h.1], fun a n hp => k.2 a n (h.2 a n hp)⟩

theorem Puts.still {s t : State} (h : Puts s t) : Still s t := by rw [h.1]; exact ⟨rfl, rfl⟩

theorem CachesOnly.puts {s t : State} (h : CachesOnly s t) : Puts s t :=
  ⟨by rw [h], fun _ _ hp => hp.of_caches h⟩

/-- A run of bytes inside one granule. -/
def InGranule (a n : Nat) : Prop := 0 < n ∧ a % 64 + n ≤ 64

theorem granulesOf_inGranule {a n : Nat} (h : InGranule a n) : granulesOf a n = [a / 64 * 64] := by
  obtain ⟨h0, h1⟩ := h
  rw [granulesOf, if_neg (by omega), show (a + n - 1) / 64 - a / 64 + 1 = 1 by omega]
  simp

theorem sliceFor_inGranule {a : Nat} {bs : List Byte} (h : InGranule a bs.length) : sliceFor a bs (a / 64 * 64) = (a, bs) := by
  obtain ⟨h0, h1⟩ := h
  rw [sliceFor, show max a (a / 64 * 64) = a by omega]
  simp only [Nat.sub_self, List.drop_zero]
  rw [List.take_of_length_le (by omega)]

/-- The home of a granule is that of its bytes. -/
theorem homeAbsent_granule (s : State) (a : Nat) : s.homeAbsent (a / 64 * 64) = s.homeAbsent a := by
  have hd : homeDie (a / 64 * 64) = homeDie a := by simp only [homeDie]; omega
  have hs : homeStack (a / 64 * 64) = homeStack a := by simp only [homeStack, hd]; omega
  simp only [State.homeAbsent, State.homeServes, hd, hs]

theorem lostHome_congr (s : State) {a b : Nat} (h : a / 64 = b / 64) : s.lostHome a = s.lostHome b := by
  have hd : homeDie a = homeDie b := by simp only [homeDie]; omega
  have hl : (a < deviceEnd) = (b < deviceEnd) := by simp only [deviceEnd]; apply propext; omega
  simp only [State.lostHome, hd, hl]

/-- Writing one key of a table leaves every other key, whatever a missing one reads as. -/
theorem aget_aput_other {α : Type} [DecidableEq α] (d d' : α) (m : Assoc α) {i j : Nat} (x : α) (h : j ≠ i) :
    aget d' (aput d m i x) j = aget d' m j := by
  unfold aput
  split
  · rw [aget_aerase, if_neg h]
  · exact aget_aset_ne d' m x h

/-- Clearing the mark of a granule clears it for its bytes and leaves the others. -/
theorem granulePoison_setPoison (s : State) {g : Nat} (hg : g < scratchBase) (p : Bool) (l : Nat) :
    (s.setPoison g p).granulePoison l = if l < scratchBase ∧ l / 64 = g / 64 then p else s.granulePoison l := by
  rw [State.setPoison, if_pos hg]
  unfold State.granulePoison
  by_cases hl : l < scratchBase
  · rw [if_pos hl, if_pos hl]
    have hlost : State.lostHome { s with memPoison := aput (s.lostHome g) s.memPoison (g / 64) p } l = s.lostHome l := rfl
    by_cases e : l / 64 = g / 64
    · rw [if_pos ⟨hl, e⟩, hlost, lostHome_congr s e, e]
      exact aget_aput_self ..
    · rw [if_neg (fun h => e h.2), hlost]
      exact aget_aput_other _ _ _ _ e
  · rw [if_neg hl, if_neg hl, if_neg (fun h => hl h.1)]

theorem storeBytes_eq (s : State) {a : Nat} (bs : List Byte) (h : a + bs.length ≤ scratchBase) :
    s.storeBytes a bs = { s with mem := (s.storeBytes a bs).mem } := by
  induction bs generalizing s a with
  | nil => rfl
  | cons b bs ih =>
    simp only [List.length_cons] at h
    have hb : s.storeByte a b = { s with mem := aput 0 s.mem a b } := if_pos (by omega)
    rw [State.storeBytes, ih _ (by omega), hb]

/-- A store inside one clean granule puts its bytes; a whole granule loses its mark of poison, which it did not have. -/
theorem storeLoc_plain {s : State} {a : Nat} {bs : List Byte} (hg : InGranule a bs.length)
    (h : PlainBytes s a bs.length) :
    Puts s (s.storeLoc a bs false noKey) ∧ StoredAt s (s.storeLoc a bs false noKey) a bs ∧
    (bs.length < 64 → s.storeLoc a bs false noKey = { s with
      mem := (s.storeLoc a bs false noKey).mem, lineKey := (s.storeLoc a bs false noKey).lineKey
      tags := (s.storeLoc a bs false noKey).tags }) := by
  obtain ⟨hd, ha, -, -, hk, ht⟩ := h 0 hg.1
  simp only [Nat.add_zero] at hd ha hk ht
  have hend : a + bs.length ≤ scratchBase := by
    have := hg.2; simp only [deviceEnd] at hd; simp only [scratchBase]; omega
  have hgd : a / 64 * 64 < deviceEnd := by omega
  have hgs : a / 64 * 64 < scratchBase := by have := hg.1; omega
  have hline : a / 64 * 64 / 64 = a / 64 := Nat.mul_div_cancel _ (by decide)
  have habs : s.locAbsent (a / 64 * 64) = false := by rw [State.locAbsent, if_pos hgd, homeAbsent_granule, ha]
  have hpeer : (decide (peerBase ≤ a / 64 * 64) && decide (a / 64 * 64 < hostBase)) = false := inPeer_device hgd
  have hre : s.retag (a / 64 * 64) noKey = { s with
      lineKey := aset s.lineKey (a / 64) noKey, tags := aput noKey s.tags (a / 64) noKey } := by
    have hv : s.viewKey (a / 64 * 64) noKey = noKey := by simp [State.viewKey, hline, ht]
    unfold State.retag
    rw [if_pos hgd, hv]
    dsimp only
    rw [hline, if_pos hk]
  have hu : s.storeLoc a bs false noKey =
      let u := { s with lineKey := aset s.lineKey (a / 64) noKey, tags := aput noKey s.tags (a / 64) noKey }.storeBytes a bs
      if bs.length = 64 then u.setPoison (a / 64 * 64) false else u := by
    rw [State.storeLoc, granulesOf_inGranule hg, List.foldl_cons, List.foldl_nil, State.storeGranule, habs, hpeer,
      sliceFor_inGranule hg, hre]
    rfl
  rw [hu]
  dsimp only
  set v : State := { s with lineKey := aset s.lineKey (a / 64) noKey, tags := aput noKey s.tags (a / 64) noKey } with hv
  have hb : v.storeBytes a bs = { v with mem := (v.storeBytes a bs).mem } := storeBytes_eq v bs hend
  have hst : StoredAt s (v.storeBytes a bs) a bs := storeBytes_storedAt v a bs
  set u := v.storeBytes a bs with hu'
  have hsp : u.setPoison (a / 64 * 64) false = { u with memPoison := (u.setPoison (a / 64 * 64) false).memPoison } := by
    rw [State.setPoison, if_pos hgs]
  have hplain : ∀ b n, PlainBytes s b n → PlainBytes u b n := fun b n hp i hi => by
    obtain ⟨h1, h2, h3, h4, h5, h6⟩ := hp i hi
    rw [hb]
    refine ⟨h1, h2, h3, h4, ?_, ?_⟩
    · simp only [hv, aget_aset, h5, ite_self]
    · simp only [hv, aget_aput, h6, ite_self]
  split
  · refine ⟨⟨by rw [hsp, hb], fun b n hp i hi => ?_⟩, ?_, fun hlt => by omega⟩
    · obtain ⟨h1, h2, h3, h4, h5, h6⟩ := hplain b n hp i hi
      have h4' : (u.setPoison (a / 64 * 64) false).granulePoison (b + i) = false := by
        rw [granulePoison_setPoison u hgs false, h4, ite_self]
      rw [hsp] at h4' ⊢
      exact ⟨h1, h2, h3, h4', h5, h6⟩
    · rw [hsp]; exact hst
  · exact ⟨⟨by rw [hb], hplain⟩, hst, fun _ => by rw [hb]⟩

/-! ### Pending stores performed -/

/-- A pending store of clean bytes inside one granule of clean memory. -/
def CleanPiece (s : State) (p : Pending) : Prop :=
  p.load = none ∧ p.key = noKey ∧ p.poison = false ∧ InGranule p.loc p.bytes.length ∧ PlainBytes s p.loc p.bytes.length

theorem CleanPiece.of_puts {s t : State} {p : Pending} (h : CleanPiece s p) (k : Puts s t) : CleanPiece t p := by
  obtain ⟨h1, h2, h3, h4, h5⟩ := h
  exact ⟨h1, h2, h3, h4, k.2 _ _ h5⟩

theorem unload_puts (s : State) (g : Nat) (p : Pending) : Puts s (s.unload g p) := by
  unfold State.unload
  dsimp only
  split
  · exact ⟨rfl, fun _ _ h => h⟩
  · exact .refl s

theorem Puts.stored_of_caches {s t : State} (h : CachesOnly s t) (l : Nat) : t.stored l = s.stored l := by rw [h]; rfl

theorem unload_stored (s : State) (g : Nat) (p : Pending) (l : Nat) : (s.unload g p).stored l = s.stored l := by
  unfold State.unload
  dsimp only
  split <;> rfl

theorem noteRefused_device {s : State} {a : Nat} (h : a < deviceEnd) : s.noteRefused a = s := by
  simp [State.noteRefused, State.peerRefuses, inPeer_device h]

theorem performHere_clean {s : State} {g : Nat} {p : Pending} (h : CleanPiece s p) :
    Puts s (s.performHere g p) ∧ StoredAt s (s.performHere g p) p.loc p.bytes := by
  have hu := unload_puts s g p
  obtain ⟨hl, hk, hp, hg, hb⟩ := h.of_puts hu
  have hd : p.loc < deviceEnd := by simpa using (hb 0 hg.1).1
  have hdrop : ∀ q : Option Nat, CachesOnly (s.unload g p)
      ((granulesOf p.loc p.bytes.length).foldl (fun s l => s.dropCopies l q) (s.unload g p)) :=
    fun q => .foldl (fun _ _ => dropCopies_caches _ _ _) _ _
  unfold State.performHere
  rw [passLinkFor_device s g _ _ hd, hl, hk]
  dsimp only
  rw [noteRefused_device hd, enterLines_plain hb, State.performOne, hp, hk]
  have hd' := hdrop (if (p.path == Path.scalar) = true then some (coreOf g) else none)
  generalize List.foldl (fun s l => s.dropCopies l (if (p.path == Path.scalar) = true then some (coreOf g) else none))
    (s.unload g p) (granulesOf p.loc p.bytes.length) = v at hd' ⊢
  obtain ⟨hput, hst, -⟩ := storeLoc_plain hg (hb.of_caches hd')
  have hst' : StoredAt s (v.storeLoc p.loc p.bytes false noKey) p.loc p.bytes := fun l => by
    rw [hst l, Puts.stored_of_caches hd', unload_stored]
  have hend : ∀ t, CachesOnly (v.storeLoc p.loc p.bytes false noKey) t → Puts s t ∧ StoredAt s t p.loc p.bytes :=
    fun t ht => ⟨(hu.trans hd'.puts).trans (hput.trans ht.puts), fun l => by rw [Puts.stored_of_caches ht, hst']⟩
  split
  · exact hend _ (touchLines_caches _ _ _ _ _)
  · exact hend _ (L2Only.foldl (fun _ _ => touchL2_l2 _ _ _ _) _ _).caches

/-- What is clean depends on the die that looks, not on how it came to be that die. -/
theorem plainBytes_viewer {s : State} {v : Option Nat} (h : State.viewDie { s with viewer := v } = s.viewDie) (a n : Nat) :
    PlainBytes { s with viewer := v } a n ↔ PlainBytes s a n := by
  have h1 : ∀ b, State.homeAbsent { s with viewer := v } b = s.homeAbsent b := fun b => by rw [State.homeAbsent, h]; rfl
  have h2 : ∀ b, State.heldAt { s with viewer := v } b = s.heldAt b := fun b => by rw [State.heldAt, h]; rfl
  unfold PlainBytes
  simp only [h1, h2]
  rfl

/-- Performing a clean piece, seen from the die of its thread, puts its bytes. -/
theorem performFor_clean {s : State} {g : Nat} {p : Pending} (hv : s.viewDie = dieOf g) (h : CleanPiece s p) :
    Puts s (s.performFor g p) ∧ StoredAt s (s.performFor g p) p.loc p.bytes := by
  have hp := h.2.2.2.2
  have hheld : s.heldFrom (dieOf g) p.loc = false := by
    rw [← hv]; exact (hp 0 h.2.2.2.1.1).2.2.1
  have hblock : s.block (s.heldFrom (dieOf g) p.loc) = s := by rw [hheld, State.block, Bool.or_false]
  have hd : State.viewDie { s with viewer := some (dieOf g) } = s.viewDie := hv.symm
  obtain ⟨h1, h2, h3, h4, -⟩ := h
  obtain ⟨hq, hst⟩ := performHere_clean (s := { s with viewer := some (dieOf g) }) (g := g)
    ⟨h1, h2, h3, h4, (plainBytes_viewer hd _ _).2 hp⟩
  rw [State.performFor, hblock, State.viewing]
  generalize State.performHere { s with viewer := some (dieOf g) } g p = u at hq hst
  refine ⟨⟨by rw [hq.1], fun a n ha => ?_⟩, hst⟩
  refine (plainBytes_viewer ?_ a n).2 (hq.2 a n ((plainBytes_viewer hd a n).2 ha))
  rw [hq.1]
  exact hd.symm

/-- Clean pieces performed in their order put their bytes in that order. -/
theorem performList_clean {s : State} {g : Nat} {ps : List Pending} (hv : s.viewDie = dieOf g)
    (h : ∀ p ∈ ps, CleanPiece s p) :
    Puts s (s.performList g ps) ∧
    ∀ l, (s.performList g ps).stored l = storedAfter (ps.map fun p => (p.loc, p.bytes)) l (s.stored l) := by
  induction ps generalizing s with
  | nil => exact ⟨.refl s, fun _ => rfl⟩
  | cons p ps ih =>
    obtain ⟨hp, hst⟩ := performFor_clean hv (h p (List.mem_cons_self ..))
    have hv' : (s.performFor g p).viewDie = dieOf g := by rw [← hv, hp.1]; rfl
    obtain ⟨hps, hsts⟩ := ih hv' fun q hq => (h q (List.mem_cons_of_mem _ hq)).of_puts hp
    refine ⟨hp.trans hps, fun l => ?_⟩
    rw [State.performList, hsts, hst]
    rfl

theorem neededFor_all {q : Pending → Bool} {ps : List Pending} (h : ∀ p ∈ ps, q p = true) :
    neededFor q ps = ps.map (·, true) := by
  induction ps with
  | nil => rfl
  | cons p ps ih =>
    simp [neededFor, h p (List.mem_cons_self ..), ih fun p hp => h p (List.mem_cons_of_mem _ hp)]

/-- Where all that is pending must be performed, it is, in its order. -/
theorem drain_all {s : State} {g : Nat} {q : Pending → Bool} (h : ∀ p ∈ (s.ctx g).pend, q p = true) :
    s.drain g q = if (s.ctx g).pend = [] then s else
      (s.setCtx g { s.ctx g with pend := [] }).performList g (s.ctx g).pend := by
  unfold State.drain
  dsimp only
  rw [neededFor_all h]
  split
  · next ha =>
    rw [if_neg (by rintro e; simp [e] at ha)]
    have hkeep : ((s.ctx g).pend.map (·, true)).filter (·.2) = (s.ctx g).pend.map (·, true) := by simp
    have hdrop : ((s.ctx g).pend.map (·, true)).filter (fun x => !x.2) = [] := by simp
    rw [hkeep, hdrop, List.map_map]
    simp only [Function.comp_def, List.map_id', List.map_nil]
  · next ha =>
    rw [if_pos]
    cases e : (s.ctx g).pend with
    | nil => rfl
    | cons p ps => simp [e] at ha

/-- Clean pieces drained: their bytes are put, nothing else changes, and nothing is pending any more. -/
theorem drain_clean {s : State} {g : Nat} {q : Pending → Bool} (hv : s.viewDie = dieOf g)
    (hq : ∀ p ∈ (s.ctx g).pend, q p = true) (h : ∀ p ∈ (s.ctx g).pend, CleanPiece s p) :
    ((s.drain g q).ctx g).pend = [] ∧ (s.drain g q).cur = s.cur ∧ (∀ a n, PlainBytes s a n → PlainBytes (s.drain g q) a n) ∧
    ∀ l, (s.drain g q).stored l = storedAfter ((s.ctx g).pend.map fun p => (p.loc, p.bytes)) l (s.stored l) := by
  rw [drain_all hq]
  split
  · next e => exact ⟨e, rfl, fun _ _ h => h, fun _ => by rw [e]; rfl⟩
  · obtain ⟨hp, hst⟩ := performList_clean (s := s.setCtx g { s.ctx g with pend := [] }) (g := g) (ps := (s.ctx g).pend) hv h
    exact ⟨by rw [hp.still.ctx, State.ctx_setCtx, if_pos rfl], hp.still.2, fun a n ha => hp.2 a n ha, hst⟩

/-! ### The pieces of a store (R223) -/

/-- The writes of pending stores. -/
def writes (ps : List Pending) : List (Nat × List Byte) := ps.map fun p => (p.loc, p.bytes)

/-- The piece of a pending store of so many bytes from a location of it on. -/
def Pending.slice (p : Pending) (lo m : Nat) : Pending :=
  { p with loc := lo, bytes := (p.bytes.drop (lo - p.loc)).take m, load := none }

/-- The pieces of a store of clean bytes to clean device memory are clean, and put what the store puts. -/
theorem divide_clean {s : State} {p : Pending} (hl : p.load = none) (hk : p.key = noKey) (hp : p.poison = false)
    (h : PlainBytes s p.loc p.bytes.length) :
    (∀ q ∈ p.divide, CleanPiece s q ∧ q.path = p.path ∧ q.cls = p.cls) ∧
    ∀ l old, storedAfter (writes p.divide) l old = storedAfter [(p.loc, p.bytes)] l old := by
  have hsize : p.size = p.bytes.length := by rw [Pending.size, hl]
  rcases Nat.eq_zero_or_pos p.bytes.length with h0 | h0
  · have : p.divide = [] := by simp [Pending.divide, piecesOf, hsize, h0]
    rw [this]
    refine ⟨fun _ hq => (List.not_mem_nil hq).elim, fun l old => (if_neg ?_).symm⟩
    dsimp only
    omega
  have hd : p.loc < deviceEnd := by simpa using (h 0 h0).1
  have hblock : blockOf p.loc = 64 := if_pos (.inl (by simp only [deviceEnd] at hd; simp only [peerBase]; omega))
  have hdiv : p.divide = (List.range ((p.loc + p.bytes.length - 1) / 64 - p.loc / 64 + 1)).map fun i =>
      p.slice (max p.loc ((p.loc / 64 + i) * 64))
        (min (p.loc + p.bytes.length) ((p.loc / 64 + i + 1) * 64) - max p.loc ((p.loc / 64 + i) * 64)) := by
    rw [Pending.divide, hsize, piecesOf, hblock]
    dsimp only
    rw [if_neg (Nat.pos_iff_ne_zero.1 h0), List.map_map]
    exact List.map_congr_left fun i _ => by rw [Function.comp_apply, Pending.slice, hl]; rfl
  have hslice : ∀ q ∈ p.divide, ∃ lo m, q = p.slice lo m ∧ p.loc ≤ lo ∧ lo + m ≤ p.loc + p.bytes.length ∧
      InGranule lo m := fun q hq => by
    rw [hdiv] at hq
    obtain ⟨i, hi, rfl⟩ := List.mem_map.1 hq
    have := List.mem_range.1 hi
    exact ⟨_, _, rfl, by omega, by omega, by omega, by omega⟩
  have hlen : ∀ {lo m : Nat}, p.loc ≤ lo → lo + m ≤ p.loc + p.bytes.length →
      ((p.bytes.drop (lo - p.loc)).take m).length = m := fun h1 h2 => by simp; omega
  refine ⟨fun q hq => ?_, fun l old => ?_⟩
  · obtain ⟨lo, m, rfl, h1, h2, hg⟩ := hslice q hq
    exact ⟨⟨rfl, hk, hp, by rwa [Pending.slice, hlen h1 h2],
      by rw [Pending.slice, hlen h1 h2]; exact h.sub h1 h2⟩, rfl, rfl⟩
  · rw [storedAfter_agree (x := (p.bytes[l - p.loc]?).getD 0)]
    · refine if_congr ⟨fun ⟨w, hw, hc⟩ => ?_, fun hc => ?_⟩ rfl rfl
      · obtain ⟨q, hq, rfl⟩ := List.mem_map.1 hw
        obtain ⟨lo, m, rfl, h1, h2, hg⟩ := hslice q hq
        rw [Pending.slice, hlen h1 h2] at hc
        dsimp only at hc ⊢
        omega
      · dsimp only at hc
        have hi : l / 64 - p.loc / 64 ∈ List.range ((p.loc + p.bytes.length - 1) / 64 - p.loc / 64 + 1) :=
          List.mem_range.2 (by omega)
        refine ⟨_, List.mem_map.2 ⟨_, hdiv ▸ List.mem_map.2 ⟨_, hi, rfl⟩, rfl⟩, ?_⟩
        rw [Pending.slice, hlen (by omega) (by omega)]
        dsimp only
        omega
    · intro w hw hc
      obtain ⟨q, hq, rfl⟩ := List.mem_map.1 hw
      obtain ⟨lo, m, rfl, h1, h2, hg⟩ := hslice q hq
      rw [Pending.slice, hlen h1 h2] at hc
      simp only [Pending.slice] at hc ⊢
      rw [List.getElem?_take, if_pos (by omega), List.getElem?_drop]
      congr 2
      omega

/-- Pending stores of a path and a class, clean, that together put the bytes of a list of writes. -/
def CleanStores (s : State) (path : Path) (cls : Nat) (qs : List Pending) (ws : List (Nat × List Byte)) : Prop :=
  (∀ q ∈ qs, CleanPiece s q ∧ q.path = path ∧ q.cls = if path == .host then cls % 16 else cls) ∧
  ∀ l old, storedAfter (writes qs) l old = storedAfter ws l old

theorem CleanStores.append {s : State} {path : Path} {cls : Nat} {ps qs : List Pending} {ws vs : List (Nat × List Byte)}
    (h : CleanStores s path cls ps ws) (k : CleanStores s path cls qs vs) : CleanStores s path cls (ps ++ qs) (ws ++ vs) := by
  refine ⟨fun q hq => (List.mem_append.1 hq).elim (h.1 q) (k.1 q), fun l old => ?_⟩
  rw [writes, List.map_append, storedAfter_append, storedAfter_append, ← writes, ← writes, h.2, k.2]

/-- The entries of a store of clean bytes to clean device memory, divided, put what the store puts. -/
theorem storeEntries_clean {s : State} (path : Path) (cls : Nat) {a : Nat} {bs : List Byte} {ps : List (Nat × Nat)}
    (hc : Covers bs.length a ps) (h : PlainBytes s a bs.length) :
    CleanStores s path cls ((storeEntries path cls false (ps.map ownPart) bs).flatMap Pending.divide) [(a, bs)] := by
  induction ps generalizing a bs with
  | nil =>
    refine ⟨fun q hq => (List.not_mem_nil hq).elim, fun l old => (if_neg ?_).symm⟩
    have : bs.length = 0 := hc
    dsimp only
    omega
  | cons p ps ih =>
    obtain ⟨rfl, hp, hn, hc⟩ := hc
    have hd : p.1 < deviceEnd := by simpa using (h 0 (by omega)).1
    have htake : (bs.take p.2).length = p.2 := by simp; omega
    have hdrop : (bs.drop p.2).length = bs.length - p.2 := List.length_drop
    have hrest := ih (bs := bs.drop p.2) (hdrop.symm ▸ hc) (h.sub (by omega) (by omega))
    have hfit : PlainBytes s p.1 (bs.take p.2).length := by rw [htake]; exact h.sub (Nat.le_refl _) (by omega)
    obtain ⟨hq, hw⟩ := divide_clean (s := s) (p := {
      path := (partPath path cls (ownPart p)).1, cls := (partPath path cls (ownPart p)).2, loc := p.1, key := noKey
      bytes := bs.take p.2, buffered := path == .scalar }) rfl rfl rfl hfit
    have hpath : partPath path cls (ownPart p) = (path, if path == .host then cls % 16 else cls) := by
      simp only [partPath, ownPart, pathFor_device path hd]
    rw [hpath] at hq hw
    have hfirst : CleanStores s path cls _ _ := ⟨hq, hw⟩
    have hall := hfirst.append hrest
    refine ⟨?_, ?_⟩
    · rw [List.map_cons, storeEntries, if_neg (by simp [ownPart]), List.flatMap_cons, hpath]
      exact hall.1
    · intro l old
      rw [List.map_cons, storeEntries, if_neg (by simp [ownPart]), List.flatMap_cons, hpath]
      exact (hall.2 l old).trans (storedAfter_split _ _ _ hn l old)

theorem addAccess_clean {s : State} {path : Path} {cls : Nat} {es : List Pending} {ws : List (Nat × List Byte)}
    (ps : List Pending) (h : CleanStores s path cls (es.flatMap Pending.divide) ws) :
    ∃ qs, addAccess ps es = ps ++ qs ∧ CleanStores s path cls qs ws := by
  unfold addAccess
  split
  · next e he => exact ⟨_, rfl, he ▸ h⟩
  · refine ⟨_, rfl, fun q hq => ?_, fun l old => ?_⟩
    · obtain ⟨r, hr, rfl⟩ := List.mem_map.1 hq
      exact h.1 r hr
    · rw [writes, List.map_map]
      exact h.2 l old

theorem storeParts_clean {s : State} {g : Nat} (path : Path) (cls : Nat) {a : Nat} {bs : List Byte} {ps : List (Nat × Nat)}
    (hc : Covers bs.length a ps) (h : PlainBytes s a bs.length)
    (hroom : path = .scalar → bufferedStores (s.ctx g).pend < 16) :
    ∃ qs, s.storeParts g path cls (ps.map ownPart) bs false =
      s.setCtx g { s.ctx g with pend := (s.ctx g).pend ++ qs } ∧ CleanStores s path cls qs [(a, bs)] := by
  obtain ⟨qs, hq, hqs⟩ := addAccess_clean (s.ctx g).pend (storeEntries_clean path cls hc h)
  refine ⟨qs, ?_, hqs⟩
  have hmake : (if path == .scalar then s.makeRoom g else s) = s := by
    split
    · next hp => rw [State.makeRoom, if_pos (hroom (by simpa using hp))]
    · rfl
  have hdead : (ps.map ownPart).foldl (fun s p => s.noteDead p.place) s = s := by
    rw [List.foldl_map]
    exact List.foldl_fixed' (fun p => by simp [State.noteDead, ownPart]) ps
  unfold State.storeParts
  rw [hmake, hdead, ← hq]

/-- At firmware level a store to clean device memory enters its pieces as pending, and does nothing else. -/
theorem store_clean {s : State} {g : Nat} {ag : Agent} (k : AccKind) (path : Path) (cls : Nat) {a : Nat} {bs : List Byte}
    (hl : ag.level = .firmware) (ha : a < 2 ^ 64) (h : PlainBytes s a bs.length)
    (hroom : path = .scalar → bufferedStores (s.ctx g).pend < 16) :
    ∃ qs, s.store g ag k path cls a bs false = (s.setCtx g { s.ctx g with pend := (s.ctx g).pend ++ qs }, .ok ()) ∧
      CleanStores s path cls qs [(a, bs)] := by
  obtain ⟨qs, hq, hqs⟩ := storeParts_clean path cls (partsOf_covers (h.end_le ha)) h hroom
  refine ⟨qs, ?_, hqs⟩
  have hw : s.beforeWalk g ag k a bs.length = s := by rw [State.beforeWalk, if_pos hl]
  rw [State.store, hw, resolve_plain k hl ha h]
  dsimp only
  rw [hq]

/-! ### The thread's own loads after a store (R219, R220) -/

theorem drain_eq_drainAll {s : State} {g : Nat} {q : Pending → Bool} (h : ∀ p ∈ (s.ctx g).pend, q p = true) :
    s.drain g q = s.drainAll g := by
  rw [State.drainAll, drain_all h, drain_all fun _ _ => rfl]

/-- A load of a clean run that all the pending stores are ordered before is a load after they are performed. -/
theorem load_after_stores {s : State} {g : Nat} {ag : Agent} (k : AccKind) {path : Path} {cls a n : Nat} {ws : List (Nat × List Byte)}
    (hv : s.viewDie = dieOf g) (hl : ag.level = .firmware) (ha : a < 2 ^ 64) (hn : 0 < n) (h : PlainBytes s a n)
    (hq : CleanStores s path cls (s.ctx g).pend ws) :
    (s.load g ag k path cls a n).2 = .ok (storedBytes (s.drainAll g) a n, false) := by
  obtain ⟨hnil, -, hplain, -⟩ := drain_clean (q := fun _ => true) hv (fun _ _ => rfl) fun p hp => (hq.1 p hp).1
  have hc := partsOf_covers (h.end_le ha)
  obtain ⟨t, ht, -⟩ := loadParts_plain (s := s.drainAll g) path cls hnil hc (hplain a n h)
  have hw : s.beforeWalk g ag k a n = s := by rw [State.beforeWalk, if_pos hl]
  rw [State.load, hw, resolve_plain k hl ha h]
  suffices hs : s.loadParts g path cls ((partsOf a n).map ownPart) = (t, storedBytes (s.drainAll g) a n, false) by
    simp only [hs]
  rw [← ht]
  cases he : partsOf a n with
  | nil => rw [he] at hc; exact absurd hc (Nat.pos_iff_ne_zero.1 hn)
  | cons p ps =>
    rw [he] at hc
    obtain ⟨rfl, hp, -, -⟩ := hc
    have hd : p.1 < deviceEnd := by simpa using (h 0 hn).1
    have hpath : partPath path cls (ownPart p) = (path, if path == .host then cls % 16 else cls) := by
      simp only [partPath, ownPart, pathFor_device path hd]
    have hall : ∀ x ∈ (s.ctx g).pend, readFollows (partPath path cls (ownPart p)).1 (partPath path cls (ownPart p)).2
        (ownPart p).place.loc (ownPart p).len x = true := fun x hx => by
      obtain ⟨-, hxp, hxc⟩ := hq.1 x hx
      rw [hpath]
      simp [readFollows, orderedBefore, hxp, hxc]
    have hpart : s.loadPart g path cls (ownPart p) = (s.drainAll g).loadPart g path cls (ownPart p) := by
      unfold State.loadPart
      dsimp only
      rw [drain_eq_drainAll hall, drain_nil (s := s.drainAll g) hnil]
    rw [List.map_cons, State.loadParts, State.loadParts, hpart]

theorem storedBytes_of_storedAt {s t : State} {a : Nat} {bs : List Byte} (h : StoredAt s t a bs) :
    storedBytes t a bs.length = bs := by
  refine List.ext_getElem (by simp [storedBytes]) fun i h1 h2 => ?_
  simp only [storedBytes, List.getElem_map, List.getElem_range]
  rw [h, if_pos ⟨by omega, by omega⟩, Nat.add_sub_cancel_left, List.getElem?_eq_getElem h2, Option.getD_some]

/-- Settles O7: a store enters clean pieces, performing them puts its bytes, and the thread's own load follows them. -/
theorem storesPutTheirBytes : Obligations.StoresPutTheirBytes := by
  refine ⟨fun s i d a c imm n hr hi hp => ?_, fun s u i d a c imm n hr hi hp hs => ?_,
    fun s i d a c imm n hr hi hp hpd hf hpend hview => ?_⟩
  · exact ⟨scalarStore_faultsWhere hr hi hp, scalarStore_takesItsFault hr hi hp⟩
  · exact scalarStore_moves hr hi hp hs
  · intro at_ hb
    have hlen : (leBytes n (s.rv d).toNat).length = n := leBytes_length _ _
    have hn : 0 < n := by
      unfold storeForm at hi
      split at hi <;> cases hi <;> decide
    have hroom : bufferedStores (s.ctx s.cur).pend < 16 := by
      rw [show (s.ctx s.cur).pend = [] from hpend]; decide
    obtain ⟨qs, hst, hqs⟩ := store_clean (s := s) (g := s.cur) .store .scalar c.toNat ((agent_level hr).trans hf)
      (s.rv a + BitVec.ofInt 64 imm.toInt).isLt (bs := leBytes n (s.rv d).toNat) (by rwa [hlen]) fun _ => hroom
    rw [show (s.ctx s.cur).pend = [] from hpend, List.nil_append] at hst
    obtain ⟨t, ht, ho, hme⟩ := scalarStore_moves hr hi hp (hpd ▸ hst)
    have hou : OnlyMe s t := (onlyMe_setMe s _).trans ho
    have hupd : (s.setCtx s.cur { s.ctx s.cur with pend := qs }).me = { s.me with pend := qs } := State.me_setMe s _
    rw [hupd, hpd] at hme
    have hpend' : (t.ctx t.cur).pend = qs := congrArg Ctx.pend hme
    have hv : t.viewDie = dieOf t.cur := by rw [hou.1, State.viewDie]; simp [hview]
    have hplain : ∀ b m, PlainBytes s b m → PlainBytes t b m := fun b m hbm => by rw [hou.1]; exact hbm
    have hqs' : CleanStores t .scalar c.toNat (t.ctx t.cur).pend [(at_, leBytes n (s.rv d).toNat)] := by
      refine ⟨fun q hq => ?_, hpend' ▸ hqs.2⟩
      obtain ⟨⟨h1, h2, h3, h4, h5⟩, h6⟩ := hqs.1 q (hpend' ▸ hq)
      exact ⟨⟨h1, h2, h3, h4, hplain _ _ h5⟩, h6⟩
    obtain ⟨hnil, hcur, -, hstored⟩ := drain_clean (q := fun _ => true) hv (fun _ _ => rfl) fun q hq => (hqs'.1 q hq).1
    have hat : StoredAt s (t.drainAll t.cur) at_ (leBytes n (s.rv d).toNat) := storedAt_iff.2 fun l => by
      rw [State.drainAll, hstored, ← hou.sameBytes.1 l]; exact hqs'.2 l _
    refine ⟨t, ht, hou, ?_, ?_, hat, ?_⟩
    · rw [hme]; simp [cirAfter, hr]
    · have hlv : t.agent.level = .firmware := by
        rw [agent_level (by rw [hme]), hme]; exact hf
      rw [load_after_stores .load hv hlv (s.rv a + BitVec.ofInt 64 imm.toInt).isLt hn (hplain _ _ hb) hqs']
      have := storedBytes_of_storedAt hat
      rw [hlen] at this
      rw [this]
    · rw [State.me, show (t.drainAll t.cur).cur = t.cur from hcur]
      exact hnil

end Sys2Proof.Machine
end

section
/-! PROOFS. Vector instructions: what one runs from, out of the queue or past decode, and what its retirement leaves. -/

open Sys2Proof Sys2Proof.Machine

namespace Sys2Proof.Machine

/-! ### The state that a vector instruction runs in (R124, R135, R136) -/

/-- An instruction of the vector queue runs as an entry: of the machine only its context differs, by the entry and the PC
that scalar decode moved, and every operand reads as it did. -/
def Running (s u : State) (i : Instr) (e : VqEntry) : Prop :=
  OnlyMe s u ∧ u.me = { s.me with pc := pcAfter s, reissue := some e } ∧ (∀ r, u.me.operand r = s.me.operand r) ∧
  (s.me.reissue = some e ∨ s.me.reissue = none ∧ e.instr = i ∧ e.addr = s.me.pc ∧ e.level = s.me.level ∧ e.begun = none ∧
    e.part = (0, false) ∧ ∀ k ∈ e.caps, (k.value, k.poison) = s.me.raw k.reg)

/-- Operands captured at decode read as the registers do. -/
theorem operand_captures (c : Ctx) (rs : List (BitVec 5)) (e : VqEntry) (h : e.caps = c.captures rs) (pc : Word)
    (r : BitVec 5) : ({ c with pc := pc, reissue := some e } : Ctx).operand r = c.raw r := by
  unfold Ctx.operand
  dsimp only
  split
  · next k hk =>
    rw [h] at hk
    have hm := List.mem_of_find?_eq_some hk
    obtain ⟨q, -, rfl⟩ := List.mem_map.1 hm
    have : q = r := by simpa using List.find?_some hk
    rw [this]
  · rfl

theorem decodeVector_runs {s : State} {i : Instr} (hr : s.me.reissue = none) (hv : s.me.revoke = none)
    (hh : s.me.svHold &&& awaits i = 0) (hl : Legal i s.me.dcodeType (regCount s.me.dcode.toNat))
    (hp : ∀ x, vecSpec i s.me.dcodeType = some x → ∀ r ∈ x.control, s.rp r = false) :
    ∃ (e : VqEntry) (rs : List (BitVec 5)), s.decodeVector i = .queued (s.setMe { s.me with pc := s.me.pc + 4 }) e ∧
      e = { addr := s.me.pc, instr := i, caps := s.me.captures rs, level := s.me.level } := by
  obtain ⟨x, hx, hc⟩ := hl
  have hfind : x.control.find? (fun r => (s.me.raw r).2) = none := List.find?_eq_none.2 fun r hr' => by
    have := hp x hx r hr'
    rw [State.rp, Ctx.operand_raw _ hr] at this
    simp [this]
  refine ⟨_, x.control ++ x.data, ?_, rfl⟩
  rw [State.decodeVector, State.decodePoint, hv]
  dsimp only
  rw [hx]
  dsimp only
  rw [if_neg (by simp [hc]), State.admitVec, hfind]
  dsimp only
  rw [hh]
  simp

/-- A vector instruction that runs does so from such a state. -/
theorem vector_runs {s : State} {i : Instr} (h : VectorRuns s i) :
    ∃ u e, Running s u i e ∧ ∀ body, s.vector i body = body u := by
  obtain ⟨-, -, ⟨e, he, ha⟩ | ⟨hr, hv, hh, hl, hp⟩⟩ := h
  · refine ⟨s, e, ⟨.refl s, ?_, fun _ => rfl, .inl he⟩, fun body => ?_⟩
    · rw [pcAfter, he]; simp only [Option.isSome_some, ↓reduceIte]; rw [← he]
    · rw [State.vector, if_pos (by rw [he]; rfl), State.awaitScalar, he]
      simp [ha]
  · obtain ⟨e, rs, hd, he⟩ := decodeVector_runs hr hv hh hl hp
    have hme : ((s.setMe { s.me with pc := s.me.pc + 4 }).setMe
        { (s.setMe { s.me with pc := s.me.pc + 4 }).me with reissue := some e }).me =
        { s.me with pc := pcAfter s, reissue := some e } := by
      rw [State.me_setMe, State.me_setMe, pcAfter, hr]; rfl
    refine ⟨(s.setMe { s.me with pc := s.me.pc + 4 }).setMe
        { (s.setMe { s.me with pc := s.me.pc + 4 }).me with reissue := some e }, e,
      ⟨(onlyMe_setMe _ _).trans (onlyMe_setMe _ _), hme, fun r => ?_, .inr ?_⟩, fun body => ?_⟩
    · rw [hme, operand_captures s.me rs e (by rw [he]), Ctx.operand_raw _ hr]
    · rw [he]
      refine ⟨hr, rfl, rfl, rfl, rfl, rfl, fun k hk => ?_⟩
      obtain ⟨q, -, rfl⟩ := List.mem_map.1 hk
      rfl
    · rw [State.vector, if_neg (by simp [hr]), hd]
      dsimp only
      rw [State.awaitScalar, hme, he]
      simp

/-! ### Retirement (R136) -/

/-- The clusters differ in their mismatch windows only. -/
def WindowsOnly (s t : State) : Prop := ∀ k, t.cluster k = { s.cluster k with mismatches := (t.cluster k).mismatches }

theorem pointers_eta {c d : Ctx} {p : Assoc Nat} (h : c = { d with pointers := p }) :
    c = { d with pointers := c.pointers } := by rw [h]

theorem checked_leaves (s : State) :
    OnlyMe { s with clusters := (s.checked s.cur).clusters } (s.checked s.cur) ∧ WindowsOnly s (s.checked s.cur) ∧
    (s.checked s.cur).me = { s.me with pointers := (s.checked s.cur).me.pointers } := by
  unfold State.checked
  dsimp only
  split
  · exact ⟨.refl _, fun _ => rfl, rfl⟩
  · refine ⟨⟨rfl, fun g hg => State.ctx_setMe_ne s _ hg⟩, fun k => ?_, ?_⟩
    · simp only [State.cluster, State.setCluster, aget_aset]
      split
      · next h => subst h; rfl
      · rfl
    · exact pointers_eta (State.me_setMe s _)

/-- A vector instruction that retires leaves the state that it made, but for what the retirement itself writes. -/
theorem retireVec_leaves {s : State} (fl : Flags) (hr : s.me.reissue.isSome) :
    OnlyMe { s with clusters := (s.retireVec fl).clusters } (s.retireVec fl) ∧ WindowsOnly s (s.retireVec fl) ∧
    (s.retireVec fl).me = { s.me with
      history := (s.retireVec fl).me.history, pointers := (s.retireVec fl).me.pointers, mismatch := 0, vstart := 0
      fstat := s.me.fstat ||| fl.zeroExtend 64, reissue := none, wait := none, cut := none } := by
  obtain ⟨ho, hw, hm⟩ := checked_leaves s
  unfold State.retireVec
  dsimp only
  generalize s.checked s.cur = u at ho hw hm ⊢
  have h1 := onlyMe_setMe u (u.me.raise fl).archive
  have h2 := onlyMe_setMe (u.setMe (u.me.raise fl).archive) { (u.setMe (u.me.raise fl).archive).me with vstart := 0 }
  have h3 := onlyMe_setMe ((u.setMe (u.me.raise fl).archive).setMe { (u.setMe (u.me.raise fl).archive).me with vstart := 0 })
    ((u.setMe (u.me.raise fl).archive).setMe { (u.setMe (u.me.raise fl).archive).me with vstart := 0 }).me.advance
  refine ⟨ho.trans ((h1.trans h2).trans h3), hw, ?_⟩
  rw [State.advance, State.me_setMe, State.me_setMe, State.me_setMe]
  have hs : u.me.reissue.isSome = true := by rw [hm]; exact hr
  unfold Ctx.advance Ctx.archive Ctx.raise
  dsimp only
  rw [if_pos hs, hm]

/-- So it is retired, where before the retirement only the context had changed, but for what the retirement writes. -/
theorem retired_of {s u : State} {c : Ctx} (fl : Flags) (ho : OnlyMe s u) (hr : u.me.reissue.isSome)
    (hp : u.me.pc = pcAfter s) (hf : u.me.fstat = s.me.fstat)
    (hc : u.me = { c with
      pc := u.me.pc, vec := u.me.vec, cir := u.me.cir, history := u.me.history, pointers := u.me.pointers
      mismatch := u.me.mismatch, vstart := u.me.vstart, fstat := u.me.fstat, reissue := u.me.reissue
      wait := u.me.wait, cut := u.me.cut }) : Retired s (u.retireVec fl) c fl := by
  obtain ⟨h1, h2, h3⟩ := retireVec_leaves fl hr
  refine ⟨⟨?_, fun g hg => ?_⟩, fun k => ?_, ?_⟩
  · rw [h1.1, ho.1]
  · rw [h1.2 g (by rw [show State.cur { u with clusters := _ } = s.cur from ho.cur]; exact hg)]
    exact ho.2 g hg
  · rw [h2 k, show u.cluster k = s.cluster k by rw [ho.1]; rfl]
  · generalize u.retireVec fl = t at h3
    rw [h3, hc]
    simp only [hp, hf]

/-- An instruction that wrote a scalar and retired left the value and the poison there, and nothing else. -/
theorem scalarIs_of_running {s u : State} {i : Instr} {e : VqEntry} (h : Running s u i e) (d : BitVec 5) (v : Word)
    (p : Bool) (fl : Flags) : ScalarIs s ((u.setMe ((u.me.setReg d v p).consume p)).retireVec fl) d v p fl := by
  obtain ⟨ho, hm, -, -⟩ := h
  have hw := u.me_setMe ((u.me.setReg d v p).consume p)
  generalize hx : (u.me.setReg d v p).consume p = x at hw
  have hx' : x = { u.me with regs := x.regs, poison := x.poison, cir := cirAfter p u.me.cir } := by
    rw [← hx]
    unfold Ctx.setReg
    by_cases hd : d = 0
    · rw [if_pos hd]; cases p <;> rfl
    · rw [if_neg hd]; cases p <;> rfl
  have hraw : ∀ r, x.raw r = if r = d ∧ d ≠ 0 then (v, p) else s.me.raw r := fun r => by
    rw [← hx, Ctx.raw_consume, Ctx.raw_setReg, hm]; rfl
  have hsome : (u.setMe x).me.reissue.isSome = true := by rw [hw, hx', hm]; rfl
  obtain ⟨-, -, ht⟩ := retireVec_leaves fl hsome
  have hret := retired_of (s := s) (u := u.setMe x) (c := { s.me with regs := x.regs, poison := x.poison }) fl
    (ho.trans (onlyMe_setMe _ _)) hsome (by rw [hw, hx', hm]) (by rw [hw, hx', hm]) (by rw [hw, hx', hm])
  generalize (u.setMe x).retireVec fl = t at ht hret
  rw [hw] at ht
  refine ⟨?_, ?_, fun r => ?_, ?_⟩
  · have h1 : t.me.regs = x.regs := by rw [ht]
    have h2 : t.me.poison = x.poison := by rw [ht]
    rw [h1, h2]; exact hret
  · rw [ht, hx', hm]
  · rw [← hraw r, ht]; rfl
  · rw [ht, hx', hm]

end Sys2Proof.Machine
end

section
/-! PROOFS. Reductions: the tree, the lanes and the blocks of the model are those of R27 to R29. -/

open Sys2Proof Sys2Proof.Machine

namespace Sys2Proof.Machine

/-! ### The tree (R27) -/

/-- The values of flagged places. -/
def valuesOf (ys : List (Option (Nat × Flags))) : List (Option Nat) := ys.map (·.map (·.1))

/-- The flags of one place. -/
def flagsAt (y : Option (Nat × Flags)) : Flags := (y.map (·.2)).getD noFlags

/-- The flags of all places together. -/
def mergedFlags (ys : List (Option (Nat × Flags))) : Flags := allFlags (ys.map flagsAt)

/-- Two neighbours of a tree combined. -/
def joinTwo (op : RedOp) : Option (Nat × Flags) → Option (Nat × Flags) → Option (Nat × Flags)
  | some x, some y => some ((op x.1 y.1).1, x.2 ||| y.2 ||| (op x.1 y.1).2)
  | some x, none => some x
  | none, y => y

/-- One level of a tree over flagged places. -/
def joinLevel (op : RedOp) : List (Option (Nat × Flags)) → List (Option (Nat × Flags))
  | [] => []
  | [x] => [x]
  | x :: y :: rest => joinTwo op x y :: joinLevel op rest

theorem joinTwo_none_right (op : RedOp) (x : Option (Nat × Flags)) : joinTwo op x none = x := by
  cases x <;> rfl

theorem joinLevel_length (op : RedOp) (ys : List (Option (Nat × Flags))) :
    (joinLevel op ys).length = (ys.length + 1) / 2 := by
  induction ys using joinLevel.induct with
  | case1 => rfl
  | case2 x => simp [joinLevel]
  | case3 x y rest ih => simp only [joinLevel, List.length_cons, ih]; omega

/-- The level of the statement, by places, is the level by neighbours. -/
theorem range_joinTwo_eq_joinLevel (op : RedOp) (ys : List (Option (Nat × Flags))) :
    ((List.range ((ys.length + 1) / 2)).map fun i => joinTwo op (ys[2 * i]?).join (ys[2 * i + 1]?).join) =
      joinLevel op ys := by
  induction ys using joinLevel.induct with
  | case1 => rfl
  | case2 x => simp [joinLevel, joinTwo_none_right]
  | case3 x y rest ih =>
    rw [show ((x :: y :: rest).length + 1) / 2 = (rest.length + 1) / 2 + 1 by simp only [List.length_cons]; omega,
      List.range_succ_eq_map, List.map_cons, List.map_map, joinLevel, ← ih]
    rfl

theorem treeOf_succ (op : RedOp) (n : Nat) (ys : List (Option (Nat × Flags))) :
    treeOf op (n + 1) ys = treeOf op n (joinLevel op ys) := by
  rw [treeOf, ← range_joinTwo_eq_joinLevel]
  rfl

theorem treeOf_of_length_le_one (op : RedOp) (n : Nat) {ys : List (Option (Nat × Flags))} (h : ys.length ≤ 1) :
    treeOf op n ys = ys.head?.join := by
  induction n with
  | zero => rfl
  | succ n ih =>
    have : joinLevel op ys = ys := by
      match ys, h with
      | [], _ => rfl
      | [_], _ => rfl
    rw [treeOf_succ, this, ih]

theorem tree_of_length_le_one (op : RedOp) (m : Nat) {xs : List (Option Nat)} (h : xs.length ≤ 1) :
    tree op m xs = (xs.head?.join, noFlags) := by
  cases m with
  | zero => rfl
  | succ m => rw [tree, if_pos h]

@[simp] theorem noFlags_or (f : Flags) : noFlags ||| f = f := by simp [noFlags]

@[simp] theorem flags_or_noFlags (f : Flags) : f ||| noFlags = f := by simp [noFlags]

theorem foldl_or_flags (l : List Flags) (f : Flags) : l.foldl (· ||| ·) f = f ||| allFlags l := by
  induction l generalizing f with
  | nil => simp [allFlags]
  | cons g l ih =>
    have : allFlags (g :: l) = g ||| allFlags l := (ih _).trans (congrArg (· ||| _) (noFlags_or g))
    rw [List.foldl_cons, ih, this, BitVec.or_assoc]

theorem allFlags_cons (f : Flags) (l : List Flags) : allFlags (f :: l) = f ||| allFlags l := by
  rw [allFlags, List.foldl_cons, foldl_or_flags, noFlags_or]

theorem allFlags_append (l k : List Flags) : allFlags (l ++ k) = allFlags l ||| allFlags k := by
  rw [allFlags, List.foldl_append, foldl_or_flags]; rfl

theorem mergedFlags_cons (y : Option (Nat × Flags)) (ys : List (Option (Nat × Flags))) :
    mergedFlags (y :: ys) = flagsAt y ||| mergedFlags ys := allFlags_cons _ _

theorem allFlags_noFlags {α : Type} {f : α → Flags} (l : List α) (h : ∀ a ∈ l, f a = noFlags) :
    allFlags (l.map f) = noFlags := by
  induction l with
  | nil => rfl
  | cons a l ih =>
    rw [List.map_cons, allFlags_cons, h a (List.mem_cons_self ..), ih fun b hb => h b (List.mem_cons_of_mem _ hb), noFlags_or]

/-- Flags gained at one place are gained by all together. -/
theorem allFlags_update {f f' : Nat → Flags} {l : Nat} {x : Flags} (h : ∀ k, f' k = if k = l then f k ||| x else f k)
    {g : Nat} (hl : l < g) : allFlags ((List.range g).map f') = allFlags ((List.range g).map f) ||| x := by
  induction g with
  | zero => omega
  | succ g ih =>
    rw [List.range_succ, List.map_append, List.map_append, allFlags_append, allFlags_append]
    simp only [List.map_cons, List.map_nil, allFlags_cons]
    by_cases e : l = g
    · have : (List.range g).map f' = (List.range g).map f := List.map_congr_left fun k hk => by
        rw [h, if_neg (by have := List.mem_range.1 hk; omega)]
      rw [this, h, if_pos e.symm]
      ac_rfl
    · rw [ih (by omega), h, if_neg (Ne.symm e)]
      ac_rfl

section
variable {op op' : RedOp} {P : Nat → Prop} (hop : ∀ x y, P x → P y → op' x y = op x y ∧ P (op x y).1)

/-- Every value of the places satisfies a predicate. -/
def AllVals (P : Nat → Prop) (ys : List (Option (Nat × Flags))) : Prop := ∀ y, some y ∈ ys → P y.1

include hop in
/-- One level: the values are the model's, the flags gain those of the operations made. -/
theorem joinLevel_eq_treeLevel (ys : List (Option (Nat × Flags))) (h : AllVals P ys) :
    valuesOf (joinLevel op' ys) = (treeLevel op (valuesOf ys)).1 ∧
    mergedFlags (joinLevel op' ys) = mergedFlags ys ||| (treeLevel op (valuesOf ys)).2 ∧ AllVals P (joinLevel op' ys) := by
  induction ys using joinLevel.induct with
  | case1 => exact ⟨rfl, by simp [joinLevel, valuesOf, treeLevel], h⟩
  | case2 x => exact ⟨rfl, by simp [joinLevel, valuesOf, treeLevel], h⟩
  | case3 x y rest ih =>
    obtain ⟨h1, h2, h3⟩ := ih fun z hz => h z (List.mem_cons_of_mem _ (List.mem_cons_of_mem _ hz))
    have hkeep : ∀ z : Option (Nat × Flags), (∀ w, z = some w → P w.1) → AllVals P (z :: joinLevel op' rest) :=
      fun z hz w hw => (List.mem_cons.1 hw).elim (fun e => hz w e.symm) (h3 w)
    have hx : ∀ w, x = some w → P w.1 := fun w e => h w (e ▸ List.mem_cons_self ..)
    have hy : ∀ w, y = some w → P w.1 := fun w e => h w (e ▸ List.mem_cons_of_mem _ (List.mem_cons_self ..))
    rw [joinLevel, mergedFlags_cons, mergedFlags_cons, mergedFlags_cons, h2]
    match x, y with
    | none, none =>
      exact ⟨congrArg _ h1, by simp [joinTwo, flagsAt, valuesOf, treeLevel], hkeep _ hx⟩
    | none, some y =>
      exact ⟨congrArg _ h1, by simp [joinTwo, flagsAt, valuesOf, treeLevel, BitVec.or_assoc], hkeep _ hy⟩
    | some x, none =>
      exact ⟨congrArg _ h1, by simp [joinTwo, flagsAt, valuesOf, treeLevel, BitVec.or_assoc], hkeep _ hx⟩
    | some x, some y =>
      obtain ⟨ho, hp⟩ := hop x.1 y.1 (hx x rfl) (hy y rfl)
      refine ⟨?_, ?_, hkeep _ fun w e => ?_⟩
      · simp only [joinTwo, valuesOf, List.map_cons, Option.map_some, treeLevel, ho]
        exact congrArg _ h1
      · simp only [joinTwo, flagsAt, Option.map_some, Option.getD_some, valuesOf, List.map_cons, treeLevel, ho]
        ac_rfl
      · cases e; rw [ho]; exact hp

include hop in
theorem treeOf_vals (n : Nat) {ys : List (Option (Nat × Flags))} (h : AllVals P ys) {y : Nat × Flags}
    (hy : treeOf op' n ys = some y) : P y.1 := by
  induction n generalizing ys with
  | zero =>
    cases ys with
    | nil => cases hy
    | cons z zs => exact h y ((show z = some y from hy) ▸ List.mem_cons_self ..)
  | succ n ih =>
    rw [treeOf_succ] at hy
    exact ih (joinLevel_eq_treeLevel hop ys h).2.2 hy

include hop in
/-- The tree of the statement is the model's tree, with the flags of the places it began from. -/
theorem treeOf_eq_tree (n m : Nat) (ys : List (Option (Nat × Flags))) (h : AllVals P ys) (hn : ys.length ≤ 2 ^ n)
    (hm : ys.length ≤ 2 ^ m) :
    treeOf op' n ys = (tree op m (valuesOf ys)).1.map fun z => (z, mergedFlags ys ||| (tree op m (valuesOf ys)).2) := by
  induction n generalizing m ys with
  | zero =>
    rw [treeOf_of_length_le_one op' 0 hn, tree_of_length_le_one op m (by simpa [valuesOf] using hn)]
    match ys, hn with
    | [], _ => rfl
    | [none], _ => rfl
    | [some y], _ => simp [valuesOf, mergedFlags, allFlags, flagsAt]
  | succ n ih =>
    by_cases h1 : ys.length ≤ 1
    · rw [treeOf_of_length_le_one op' _ h1, tree_of_length_le_one op m (by simpa [valuesOf] using h1)]
      match ys, h1 with
      | [], _ => rfl
      | [none], _ => rfl
      | [some y], _ => simp [valuesOf, mergedFlags, allFlags, flagsAt]
    · obtain ⟨m, rfl⟩ : ∃ k, m = k + 1 := Nat.exists_eq_succ_of_ne_zero (by rintro rfl; omega)
      obtain ⟨hv, hf, hp⟩ := joinLevel_eq_treeLevel hop ys h
      have hl := joinLevel_length op' ys
      rw [pow_succ] at hn hm
      rw [treeOf_succ, ih m (joinLevel op' ys) hp (by omega) (by omega), hv, hf, tree, if_neg (by simpa [valuesOf] using h1)]
      simp only [BitVec.or_assoc]

/-- A lane's fold with one more element. -/
theorem foldLane_snoc (xs : List Nat) (y : Nat) : foldLane op (xs ++ [y]) = some (match foldLane op xs with
    | none => (y, noFlags)
    | some a => ((op a.1 y).1, a.2 ||| (op a.1 y).2)) := by
  cases xs with
  | nil => rfl
  | cons x xs => simp [foldLane]

theorem find_aset {α : Type} (m : Assoc α) (i j : Nat) (x : α) :
    ((aset m i x).find? fun p => p.1 == j).map (·.2) = if j = i then some x else (m.find? fun p => p.1 == j).map (·.2) := by
  have hskip : ∀ (k : Nat) (v : α) (l : Assoc α), j ≠ k → ((k, v) :: l).find? (fun p => p.1 == j) = l.find? fun p => p.1 == j :=
    fun k v l h => List.find?_cons_of_neg (by simpa using Ne.symm h)
  have hhit : ∀ (v : α) (l : Assoc α), ((j, v) :: l).find? (fun p => p.1 == j) = some (j, v) :=
    fun v l => List.find?_cons_of_pos (by simp)
  induction m with
  | nil =>
    rw [aset]
    by_cases h : j = i
    · subst h; rw [hhit, if_pos rfl]; rfl
    · rw [hskip _ _ _ h, if_neg h]
  | cons p m ih =>
    obtain ⟨k, v⟩ := p
    rw [aset]
    by_cases h1 : i = k
    · subst h1
      rw [if_pos rfl]
      by_cases hj : j = i
      · subst hj; rw [hhit, if_pos rfl]; rfl
      · rw [hskip _ _ _ hj, hskip _ _ _ hj, if_neg hj]
    · rw [if_neg h1]
      by_cases h2 : i < k
      · rw [if_pos h2]
        by_cases hj : j = i
        · subst hj; rw [hhit, if_pos rfl]; rfl
        · rw [hskip _ _ _ hj, if_neg hj]
      · rw [if_neg h2]
        by_cases hj : j = k
        · subst hj; rw [hhit, hhit, if_neg (Ne.symm h1)]
        · rw [hskip _ _ _ hj, ih, hskip _ _ _ hj]

/-- The values of the terms of one lane. -/
def laneTerms (ts : List (Nat × Nat)) (l : Nat) : List Nat := (ts.filter fun t => t.1 == l).map (·.2)

theorem laneTerms_snoc (ts : List (Nat × Nat)) (t : Nat × Nat) (l : Nat) :
    laneTerms (ts ++ [t]) l = if l = t.1 then laneTerms ts l ++ [t.2] else laneTerms ts l := by
  simp only [laneTerms, List.filter_append, List.map_append]
  split
  · next h => subst h; simp
  · next h => simp [Ne.symm h]

include hop in
/-- The partials of the model are the folds of the lanes, with their flags. -/
theorem partials_eq_foldLane (ts : List (Nat × Nat)) (g : Nat) (h : ∀ t ∈ ts, t.1 < g ∧ P t.2) :
    (∀ l, ((partials op ts).1.find? fun p => p.1 == l).map (·.2) = (foldLane op' (laneTerms ts l)).map (·.1)) ∧
    mergedFlags ((List.range g).map fun l => foldLane op' (laneTerms ts l)) = (partials op ts).2 ∧
    ∀ l y, foldLane op' (laneTerms ts l) = some y → P y.1 := by
  induction ts using List.reverseRecOn with
  | nil =>
    refine ⟨fun l => rfl, ?_, fun l y hy => by cases hy⟩
    have : ∀ n, mergedFlags ((List.range n).map fun l => foldLane op' (laneTerms [] l)) = noFlags := fun n => by
      induction n with
      | zero => rfl
      | succ n ih =>
        rw [List.range_succ, List.map_append, mergedFlags, List.map_append, allFlags_append]
        exact (congrArg (· ||| _) ih).trans (by simp [laneTerms, foldLane, flagsAt, allFlags])
    exact this g
  | append_singleton ts t ih =>
    obtain ⟨h1, h2, h3⟩ := ih fun x hx => h x (List.mem_append_left _ hx)
    obtain ⟨hl, hp⟩ := h t (List.mem_append_right _ (List.mem_singleton_self t))
    have hacc : partials op (ts ++ [t]) = match (partials op ts).1.find? (fun p => p.1 == t.1) with
      | none => (aset (partials op ts).1 t.1 t.2, (partials op ts).2)
      | some p => (aset (partials op ts).1 t.1 (op p.2 t.2).1, (partials op ts).2 ||| (op p.2 t.2).2) := by
        rw [partials, List.foldl_append]; rfl
    have hterms := laneTerms_snoc ts t
    have hfold : ∀ l, l ≠ t.1 → foldLane op' (laneTerms (ts ++ [t]) l) = foldLane op' (laneTerms ts l) := fun l e => by
      rw [hterms, if_neg e]
    have hsame : laneTerms (ts ++ [t]) t.1 = laneTerms ts t.1 ++ [t.2] := by rw [hterms, if_pos rfl]
    have hlane := h1 t.1
    -- one term more: its lane's fold takes the value and gains the flags that the partials gain
    obtain ⟨v, x, hv, hnew, hpv⟩ : ∃ v x, partials op (ts ++ [t]) = (aset (partials op ts).1 t.1 v, (partials op ts).2 ||| x) ∧
        foldLane op' (laneTerms (ts ++ [t]) t.1) = some (v, flagsAt (foldLane op' (laneTerms ts t.1)) ||| x) ∧ P v := by
      rw [hsame, foldLane_snoc, hacc]
      cases hf : (partials op ts).1.find? (fun p => p.1 == t.1) with
      | none =>
        rw [hf] at hlane
        have hnone : foldLane op' (laneTerms ts t.1) = none := by simpa using hlane.symm
        exact ⟨t.2, noFlags, by simp, by simp [hnone, flagsAt], hp⟩
      | some p =>
        rw [hf] at hlane
        obtain ⟨y, hy, he⟩ : ∃ y, foldLane op' (laneTerms ts t.1) = some y ∧ y.1 = p.2 := by
          simpa [eq_comm] using hlane
        obtain ⟨ho, hpo⟩ := hop y.1 t.2 (h3 _ _ hy) hp
        rw [he] at ho hpo
        exact ⟨(op p.2 t.2).1, (op p.2 t.2).2, rfl, by simp [hy, flagsAt, ho, he], hpo⟩
    rw [hv]
    refine ⟨fun l => ?_, ?_, fun l y hy => ?_⟩
    · rw [find_aset]
      split
      · next e => rw [e, hnew]; rfl
      · next e => rw [hfold l e, h1]
    · rw [← h2, mergedFlags, mergedFlags, List.map_map, List.map_map]
      refine allFlags_update (l := t.1) (fun l => ?_) hl
      simp only [Function.comp_apply]
      split
      · next e => rw [e, hnew]; rfl
      · next e => rw [hfold l e]
    · by_cases e : l = t.1
      · rw [e, hnew] at hy; cases hy; exact hpv
      · rw [hfold l e] at hy; exact h3 l y hy

include hop in
/-- An initial value combined with a tree. -/
theorem after_treeOf (n m : Nat) {ys : List (Option (Nat × Flags))} (h : AllVals P ys) (hn : ys.length ≤ 2 ^ n)
    (hm : ys.length ≤ 2 ^ m) {acc : Nat × Flags} (ha : P acc.1) :
    after op' acc (treeOf op' n ys) = (match (tree op m (valuesOf ys)).1 with
      | none => acc
      | some z => ((op acc.1 z).1, acc.2 ||| (mergedFlags ys ||| (tree op m (valuesOf ys)).2) ||| (op acc.1 z).2)) ∧
    P (after op' acc (treeOf op' n ys)).1 := by
  have ht := treeOf_eq_tree hop n m ys h hn hm
  cases hz : (tree op m (valuesOf ys)).1 with
  | none =>
    rw [hz] at ht
    have hacc : after op' acc (treeOf op' n ys) = acc := by rw [ht]; rfl
    exact ⟨hacc, by rw [hacc]; exact ha⟩
  | some z =>
    rw [hz] at ht
    have hp : P z := treeOf_vals hop n h ht
    obtain ⟨ho, hpo⟩ := hop acc.1 z ha hp
    have hacc : after op' acc (treeOf op' n ys) =
        ((op acc.1 z).1, acc.2 ||| (mergedFlags ys ||| (tree op m (valuesOf ys)).2) ||| (op acc.1 z).2) := by
      rw [ht, ← ho]; rfl
    exact ⟨hacc, by rw [hacc]; exact hpo⟩

/-- The terms of the active elements, by lane. -/
theorem laneTerms_active (x : Geo) (act : List Nat) (value : Nat → Nat) (l : Nat) :
    laneTerms ((act.map fun e => (e, value e)).map fun t => (x.laneOf x.ew t.1, t.2)) l =
      (act.filter fun e => decide (e / x.epr % x.g = l)).map value := by
  simp only [laneTerms, List.map_map, List.filter_map]
  rfl

include hop in
/-- ReduceNormal (R28). -/
theorem reduceNormal_eq (x : Geo) (init : Nat) (act : List Nat) (value : Nat → Nat) (hv : ∀ e, P (value e)) (hi : P init) :
    reduceNormal op x init (act.map fun e => (e, value e)) =
      after op' (init, noFlags) (treeOf op' x.g ((List.range x.g).map fun l =>
        foldLane op' ((act.filter fun e => decide (e / x.epr % x.g = l)).map value))) ∧
    P (reduceNormal op x init (act.map fun e => (e, value e))).1 := by
  rcases Nat.eq_zero_or_pos x.g with hg | hg
  · rw [reduceNormal, hg]; exact ⟨rfl, hi⟩
  · have hterms : ∀ t ∈ (act.map fun e => (e, value e)).map fun t => (x.laneOf x.ew t.1, t.2), t.1 < x.g ∧ P t.2 := by
      intro t ht
      obtain ⟨u, hu, rfl⟩ := List.mem_map.1 ht
      obtain ⟨e, -, rfl⟩ := List.mem_map.1 hu
      exact ⟨Nat.mod_lt _ hg, hv e⟩
    obtain ⟨h1, h2, h3⟩ := partials_eq_foldLane hop _ x.g hterms
    simp only [laneTerms_active] at h1 h2 h3
    have hl : valuesOf ((List.range x.g).map fun l =>
        foldLane op' ((act.filter fun e => decide (e / x.epr % x.g = l)).map value)) =
        listing (partials op ((act.map fun e => (e, value e)).map fun t => (x.laneOf x.ew t.1, t.2))).1 x.g := by
      rw [valuesOf, listing, List.map_map]
      exact List.map_congr_left fun l _ => (h1 l).symm
    have hpow : x.g < 2 ^ x.g := Nat.lt_two_pow_self
    obtain ⟨ha, hp⟩ := after_treeOf hop x.g (x.g + 1) (ys := (List.range x.g).map fun l =>
        foldLane op' ((act.filter fun e => decide (e / x.epr % x.g = l)).map value)) (acc := (init, noFlags))
      (fun y hy => by obtain ⟨l, -, h⟩ := List.mem_map.1 hy; exact h3 l y h)
      (by simp; omega) (by rw [pow_succ]; simp; omega) hi
    have heq : reduceNormal op x init (act.map fun e => (e, value e)) = _ := Eq.trans ?_ ha.symm
    · exact ⟨heq, heq ▸ hp⟩
    · rw [hl, h2, reduceNormal]
      simp only [noFlags_or] <;> rfl

theorem find_active (act : List Nat) (value : Nat → Nat) (k : Nat) :
    ((act.map fun e => (e, value e)).find? fun t => t.1 == k).map (·.2) = if act.contains k then some (value k) else none := by
  induction act with
  | nil => rfl
  | cons e act ih =>
    rw [List.map_cons, List.contains_cons]
    by_cases h : e = k
    · subst h; simp
    · rw [List.find?_cons_of_neg (by simpa using h), ih]
      simp [Ne.symm h]

include hop in
/-- ReduceRepro (R29). -/
theorem reduceRepro_eq (act : List Nat) (value : Nat → Nat) (hv : ∀ e, P (value e)) (n b : Nat) (acc : Nat × Flags)
    (ha : P acc.1) :
    reduceRepro op (act.map fun e => (e, value e)) n b acc =
      (List.range n).foldl (fun acc j => after op' acc (treeOf op' 5 ((List.range 32).map fun p =>
        if act.contains (32 * (b + j) + p) then some (value (32 * (b + j) + p), noFlags) else none))) acc ∧
    P (reduceRepro op (act.map fun e => (e, value e)) n b acc).1 := by
  induction n generalizing b acc with
  | zero => exact ⟨rfl, ha⟩
  | succ n ih =>
    obtain ⟨h1, h2⟩ := after_treeOf hop 5 6 (acc := acc) (ys := (List.range 32).map fun p =>
        if act.contains (32 * b + p) then some (value (32 * b + p), noFlags) else none)
      (fun y hy => by
        obtain ⟨p, -, h⟩ := List.mem_map.1 hy
        split at h
        · cases h; exact hv _
        · cases h)
      (by simp) (by simp) ha
    have hvals : valuesOf ((List.range 32).map fun p =>
        if act.contains (32 * b + p) then some (value (32 * b + p), noFlags) else none) =
        (List.range 32).map fun i => ((act.map fun e => (e, value e)).find? fun t => t.1 == 32 * b + i).map (·.2) := by
      rw [valuesOf, List.map_map]
      exact List.map_congr_left fun i _ => by rw [find_active, Function.comp_apply]; split <;> rfl
    have hflags : mergedFlags ((List.range 32).map fun p =>
        if act.contains (32 * b + p) then some (value (32 * b + p), noFlags) else none) = noFlags := by
      rw [mergedFlags, List.map_map]
      exact allFlags_noFlags _ fun p _ => by rw [Function.comp_apply]; split <;> rfl
    rw [hvals, hflags] at h1
    simp only [noFlags_or] at h1
    rw [List.range_succ_eq_map (n := n), List.foldl_cons, List.foldl_map]
    have hb : ∀ j, b + 1 + j = b + j.succ := fun j => by omega
    obtain ⟨hnext, hp⟩ := ih (b + 1) (after op' acc (treeOf op' 5 ((List.range 32).map fun p =>
        if act.contains (32 * b + p) then some (value (32 * b + p), noFlags) else none))) h2
    simp only [hb] at hnext
    have hstep : reduceRepro op (act.map fun e => (e, value e)) (n + 1) b acc = _ :=
      show reduceRepro op (act.map fun e => (e, value e)) n (b + 1) _ = _ from congrArg _ h1.symm
    exact ⟨hstep.trans hnext, hstep ▸ hp⟩

end

end Sys2Proof.Machine
end

section
/-! PROOFS. Reductions and mask counts: what their rows write. -/

open Sys2Proof Sys2Proof.Machine

namespace Sys2Proof.Machine

/-! ### The active elements (R5) -/

/-- The numbers from a first one on are those below the end that are not below it. -/
theorem range_filter_ge (start n : Nat) :
    (List.range n).filter (fun e => decide (start ≤ e)) = (List.range (n - start)).map (start + ·) := by
  induction n with
  | zero => simp
  | succ n ih =>
    rw [List.range_succ, List.filter_append, ih]
    by_cases h : start ≤ n
    · rw [show n + 1 - start = n - start + 1 by omega, List.range_succ, List.map_append]
      simp [h]
    · rw [show n + 1 - start = n - start by omega]
      simp [h]

theorem filterMap_ite {α β : Type} (p : α → Bool) (f : α → β) (l : List α) :
    (l.filterMap fun a => if p a then some (f a) else none) = (l.filter p).map f := by
  induction l with
  | nil => rfl
  | cons a l ih => cases h : p a <;> simp [h, ih]

theorem active_eq (c : Ctx) (mk : BitVec 4) :
    c.active mk = (activeOf c mk).map fun e => (e, (c.vec.selects mk e).2) := by
  have h : activeOf c mk = ((List.range (c.len - c.start)).map (c.start + ·)).filter fun e => (c.vec.selects mk e).1 := by
    rw [← range_filter_ge, List.filter_filter]
    exact List.filter_congr fun e _ => Bool.and_comm _ _
  rw [h, List.filter_map, List.map_map, Ctx.active, Ctx.activeBelow, Nat.min_self]
  exact filterMap_ite _ _ _

theorem setBitsOf_eq (c : Ctx) (a : BitVec 4) : c.setBitsOf a =
    ((List.range c.len).filter fun e => decide (c.start ≤ e)).filter fun e => (c.vec.maskBit a.toNat e).1 := by
  rw [Ctx.setBitsOf, range_filter_ge]

theorem maskPoisoned_eq (c : Ctx) (a : BitVec 4) : c.maskPoisoned a =
    (List.range c.len).any fun e => decide (c.start ≤ e) && (c.vec.maskBit a.toNat e).2 := by
  rw [Bool.eq_iff_iff]
  simp only [Ctx.maskPoisoned, VecState.maskBit, Bool.and_eq_true, decide_eq_true_eq, List.any_eq_true, List.mem_range]
  constructor
  · rintro ⟨hs, i, hi, hsi, hp⟩
    refine ⟨max c.start (512 * i), by omega, by omega, ?_⟩
    rwa [show max c.start (512 * i) / 512 = i by omega]
  · rintro ⟨e, he, hs, hp⟩
    exact ⟨by omega, e / 512, by omega, by omega, hp⟩

/-! ### The operations (R147) -/

theorem vw_eq_typeWidth (c : Ctx) : c.vw = typeWidth c.vt := by
  have : bitsOf c.vtype.toNat 0 4 % 4 = bitsOf c.vtype.toNat 0 2 := by simp only [bitsOf]; omega
  rw [Ctx.vw, typeEw, typeWidth, Ctx.vt, this]

theorem elem_lt (v : VecState) (x : Geo) (w k e : Nat) : (v.elem x w k e).1 < 2 ^ w :=
  Nat.mod_lt _ (Nat.two_pow_pos w)

/-- The number of a value of a type is that value. -/
theorem ofInt_atKind {t x : Nat} (h : x < 2 ^ typeWidth t) : (BitVec.ofInt (typeWidth t) (atKind t x)).toNat = x := by
  unfold atKind
  split
  · rw [BitVec.ofInt_toInt, BitVec.toNat_ofNat, Nat.mod_eq_of_lt h]
  · rw [BitVec.ofInt_natCast, BitVec.toNat_ofNat, Nat.mod_eq_of_lt h]

theorem asWord_eq_extendFor {t x : Nat} (h : x < 2 ^ typeWidth t) : extendFor t x = asWord t x := by
  unfold extendFor asWord typeSigned
  by_cases ht : t < 4
  · rw [if_pos (by simpa using ht), if_pos ht, extendInt_eq, intOf_eq_atKind, Nat.mod_eq_of_lt h, BitVec.ofNat_toNat,
      BitVec.setWidth_eq]
  · rw [if_neg (by simpa using ht), if_neg ht]

theorem intOf_eq_of_lt {t x : Nat} (h : x < 2 ^ typeWidth t) : intOf t x = atKind t x := by
  rw [intOf_eq_atKind, Nat.mod_eq_of_lt h]

/-- Sums wrap as the table says. -/
theorem vAdd_eq {t x y : Nat} (hx : x < 2 ^ typeWidth t) (hy : y < 2 ^ typeWidth t) :
    vAdd t x y = ((BitVec.ofInt (typeWidth t) (atKind t x + atKind t y)).toNat, noFlags) := by
  rw [vAdd, wrapTo, intOf_eq_of_lt hx, intOf_eq_of_lt hy, encodeInt, BitVec.toNat_ofInt]

theorem vMax_eq {t x y : Nat} (hx : x < 2 ^ typeWidth t) (hy : y < 2 ^ typeWidth t) :
    vMax t x y = ((BitVec.ofInt (typeWidth t) (max (atKind t x) (atKind t y))).toNat, noFlags) := by
  rw [vMax, intOf_eq_of_lt hx, intOf_eq_of_lt hy]
  split
  · next h => rw [max_eq_right h.le, ofInt_atKind hy]
  · next h => rw [max_eq_left (not_lt.1 h), ofInt_atKind hx]

theorem vMin_eq {t x y : Nat} (hx : x < 2 ^ typeWidth t) (hy : y < 2 ^ typeWidth t) :
    vMin t x y = ((BitVec.ofInt (typeWidth t) (min (atKind t x) (atKind t y))).toNat, noFlags) := by
  rw [vMin, intOf_eq_of_lt hx, intOf_eq_of_lt hy]
  split
  · next h => rw [min_eq_right h.le, ofInt_atKind hy]
  · next h => rw [min_eq_left (not_lt.1 h), ofInt_atKind hx]

/-- An operation computes what the table's does, on values that stay in a set that holds every element and, for INT, only
values of the type. -/
def Computes (c : Ctx) (op op' : RedOp) : Prop :=
  ∃ P : Nat → Prop, (∀ x, x < 2 ^ c.vw → P x) ∧ (∀ x, P x → c.vt < 4 → x < 2 ^ typeWidth c.vt) ∧
    ∀ x y, P x → P y → op' x y = op x y ∧ P (op x y).1

theorem computes_int {c : Ctx} {op : RedOp} {f : Int → Int → Int}
    (h : ∀ x y, x < 2 ^ typeWidth c.vt → y < 2 ^ typeWidth c.vt →
      op x y = ((BitVec.ofInt (typeWidth c.vt) (f (atKind c.vt x) (atKind c.vt y))).toNat, noFlags)) :
    Computes c op fun x y => ((BitVec.ofInt c.vw (f (atKind c.vt x) (atKind c.vt y))).toNat, noFlags) := by
  rw [vw_eq_typeWidth]
  refine ⟨fun x => x < 2 ^ typeWidth c.vt, fun x hx => vw_eq_typeWidth c ▸ hx, fun x hx _ => hx, fun x y hx hy => ?_⟩
  rw [h x y hx hy]
  exact ⟨rfl, BitVec.isLt _⟩

theorem computes_float {c : Ctx} {n : Nat} {a : BitVec 6} {b : BitVec 5} {i : Instr} (op : RedOp)
    (hi : ∀ t, vecSpec i t = some (specReduce (arithFloat t) a b)) (h : Legal i c.vt n) : Computes c op op := by
  obtain ⟨x, hx, hc⟩ := h
  rw [hi] at hx
  cases hx
  have ht : arithFloat c.vt = true := by
    by_contra hn
    rw [Bool.not_eq_true] at hn
    simp [VecSpec.cause, specReduce, hn] at hc
  have h4 : ¬c.vt < 4 := fun h4 => by
    have : ∀ t < 4, arithFloat t = false := by decide
    rw [this _ h4] at ht
    cases ht
  exact ⟨fun _ => True, fun _ _ => trivial, fun _ _ h => absurd h h4, fun _ _ _ _ => ⟨rfl, trivial⟩⟩

/-- Every reduction is `State.reduce` with an operation that computes the table's. -/
theorem exec_of_reduction {s : State} {i : Instr} {d : BitVec 5} {a : BitVec 6} {b : BitVec 5} {mk : BitVec 4}
    {op' : RedOp} {n : Nat} (hl : Legal i s.me.vt n) (h : reduction s i = some (d, a, b, mk, op')) :
    ∃ op : Nat → Nat → RedOp, exec i s = .next (s.vector i fun u => u.reduce d a b mk op) ∧
      Computes s.me (op s.me.vt s.me.vrm) op' := by
  unfold reduction at h
  split at h <;> cases h
  · exact ⟨fun t _ => vAdd t, rfl, computes_int fun _ _ => vAdd_eq⟩
  · exact ⟨fun t _ => vMax t, rfl, computes_int fun _ _ => vMax_eq⟩
  · exact ⟨fun t _ => vMin t, rfl, computes_int fun _ _ => vMin_eq⟩
  · exact ⟨fun t rm x y => vfAdd t rm x y 0, rfl, computes_float _ (fun _ => rfl) hl⟩
  · exact ⟨fun t _ => minMaxFloat t true, rfl, computes_float _ (fun _ => rfl) hl⟩

/-- The fold of the model over the active elements is the statement's. -/
theorem reduced_eq (s : State) {op op' : RedOp} (h : Computes s.me op op') (a : BitVec 6) (b : BitVec 5) (mk : BitVec 4) :
    (if s.me.vrpro then
      reduceRepro op ((activeOf s.me mk).map fun e => (e, (s.me.vec.elem s.me.geo s.me.vw a.toNat e).1))
        ((s.me.len + 31) / 32) 0 ((s.rv b).toNat % 2 ^ s.me.vw, noFlags)
    else reduceNormal op s.me.geo ((s.rv b).toNat % 2 ^ s.me.vw)
        ((activeOf s.me mk).map fun e => (e, (s.me.vec.elem s.me.geo s.me.vw a.toNat e).1))) = reduced s op' a b mk ∧
    extendFor s.me.vt (reduced s op' a b mk).1 = asWord s.me.vt (reduced s op' a b mk).1 := by
  obtain ⟨P, hall, h4, hop⟩ := h
  have hv : ∀ e, P (s.me.vec.elem s.me.geo s.me.vw a.toNat e).1 := fun e => hall _ (elem_lt _ _ _ _ _)
  have hi : P ((s.rv b).toNat % 2 ^ s.me.vw) := hall _ (Nat.mod_lt _ (Nat.two_pow_pos _))
  have hword : ∀ x, P x → extendFor s.me.vt x = asWord s.me.vt x := fun x hx => by
    by_cases ht : s.me.vt < 4
    · exact asWord_eq_extendFor (h4 x hx ht)
    · simp [extendFor, asWord, typeSigned, ht]
  unfold reduced
  dsimp only
  split
  · obtain ⟨h1, h2⟩ := reduceRepro_eq hop (activeOf s.me mk) _ hv ((s.me.len + 31) / 32) 0
      ((s.rv b).toNat % 2 ^ s.me.vw, noFlags) hi
    simp only [Nat.zero_add] at h1
    exact ⟨h1, hword _ (h1 ▸ h2)⟩
  · obtain ⟨h1, h2⟩ := reduceNormal_eq hop s.me.geo ((s.rv b).toNat % 2 ^ s.me.vw) (activeOf s.me mk) _ hv hi
    exact ⟨h1, hword _ (h1 ▸ h2)⟩

/-- A reduction in the state that it runs in writes its fold. -/
theorem reduce_scalarIs {s u : State} {i : Instr} {e : VqEntry} (hr : Running s u i e) (d : BitVec 5) (a : BitVec 6)
    (b : BitVec 5) (mk : BitVec 4) {op : Nat → Nat → RedOp} {op' : RedOp}
    (hop : Computes s.me (op s.me.vt s.me.vrm) op') :
    ScalarIs s (u.reduce d a b mk op) d (asWord s.me.vt (reduced s op' a b mk).1) (s.rp b || readsPoison s.me a mk)
      (reduced s op' a b mk).2 := by
  obtain ⟨-, hm, hop', -⟩ := id hr
  obtain ⟨hred, hword⟩ := reduced_eq s hop a b mk
  have hval : u.me.operand b = (s.rv b, s.rp b) := hop' b
  have hpois : ((u.me.active mk).map fun e => (e, u.me.vec.elem u.me.geo u.me.vw a.toNat e.1)).any
      (fun x => x.1.2 || x.2.2) = readsPoison s.me a mk := by
    rw [active_eq, hm, readsPoison, List.map_map, List.any_map]
    exact congrArg (List.any _ ·) (funext fun e => Bool.or_comm _ _)
  have hts : (((u.me.active mk).map fun e => (e, u.me.vec.elem u.me.geo u.me.vw a.toNat e.1)).map
      fun x => (x.1.1, x.2.1)) = (activeOf s.me mk).map fun e => (e, (s.me.vec.elem s.me.geo s.me.vw a.toNat e).1) := by
    rw [active_eq, hm, List.map_map, List.map_map]; rfl
  have hfix : u.me.vt = s.me.vt ∧ u.me.vrm = s.me.vrm ∧ u.me.vrpro = s.me.vrpro ∧ u.me.geo = s.me.geo ∧
      u.me.vw = s.me.vw ∧ u.me.len = s.me.len := by rw [hm]; exact ⟨rfl, rfl, rfl, rfl, rfl, rfl⟩
  obtain ⟨ht, hrm, hpro, hg, hw, hlen⟩ := hfix
  rw [State.reduce, hval, hpois, hts, ht, hrm, hpro, hg, hw, hlen, hred, hword]
  exact scalarIs_of_running hr d _ _ _

/-- A mask count in the state that it runs in writes its number. -/
theorem maskScalar_scalarIs {s u : State} {i : Instr} {e : VqEntry} (hr : Running s u i e) (d : BitVec 5) (a : BitVec 4)
    (f : List Nat → Word) :
    ScalarIs s (u.maskScalar d a f) d
      (f (((List.range s.me.len).filter fun e => decide (s.me.start ≤ e)).filter fun e => (s.me.vec.maskBit a.toNat e).1))
      ((List.range s.me.len).any fun e => decide (s.me.start ≤ e) && (s.me.vec.maskBit a.toNat e).2) noFlags := by
  obtain ⟨-, hm, -, -⟩ := id hr
  have hset : u.me.setBitsOf a = s.me.setBitsOf a := by rw [hm]; rfl
  have hp : u.me.maskPoisoned a = s.me.maskPoisoned a := by rw [hm]; rfl
  rw [State.maskScalar, hset, hp, setBitsOf_eq, maskPoisoned_eq]
  exact scalarIs_of_running hr d _ _ _

/-- Settles O32: each row writes a scalar from the state that it runs in, and the model's folds are those of R27 to R29. -/
theorem reductionsAndMaskCounts : Obligations.ReductionsAndMaskCounts := by
  intro s i hv
  obtain ⟨u, e, hr, hbody⟩ := vector_runs hv
  refine ⟨fun d a b mk op' h => ?_, fun d a => ⟨?_, ?_, ?_⟩⟩
  · obtain ⟨op, hx, hc⟩ := exec_of_reduction hv.2.1 h
    exact ⟨_, hx, hbody _ ▸ reduce_scalarIs hr d a b mk hc⟩
  · rintro rfl
    exact ⟨_, rfl, hbody _ ▸ maskScalar_scalarIs hr d a _⟩
  · rintro rfl
    exact ⟨_, rfl, hbody _ ▸ maskScalar_scalarIs hr d a fun es => if es = [] then 0 else 1⟩
  · rintro rfl
    refine ⟨_, rfl, hbody _ ▸ ?_⟩
    have hs := maskScalar_scalarIs hr d a fun es => match es with | [] => BitVec.allOnes 64 | e :: _ => BitVec.ofNat 64 e
    dsimp only
    generalize ((List.range s.me.len).filter fun e => decide (s.me.start ≤ e)).filter
      (fun e => (s.me.vec.maskBit a.toNat e).1) = set at hs ⊢
    cases set with
    | nil => exact (show BitVec.allOnes 64 = BitVec.ofInt 64 (-1) by decide) ▸ hs
    | cons e es => exact hs

end Sys2Proof.Machine
end

section
/-! PROOFS. Vector memory: the state that an access runs in, its agent and its faults. -/

open Sys2Proof Sys2Proof.Machine

namespace Sys2Proof.Machine

/-! ### Translation depends on no context (R319 to R323) -/

theorem walk2_ctxs (s : State) (c : Assoc Ctx) (fn gpa fuel table : Nat) (used : List WalkEntry) :
    State.walk2 { s with ctxs := c } fn gpa fuel table used = s.walk2 fn gpa fuel table used := by
  induction fuel generalizing table used with
  | zero => rfl
  | succ fuel ih =>
    simp only [State.walk2, ih]
    rfl

theorem stage2Path_ctxs (s : State) (c : Assoc Ctx) (fn gpa : Nat) :
    State.stage2Path { s with ctxs := c } fn gpa = s.stage2Path fn gpa := by
  simp only [State.stage2Path, walk2_ctxs]
  rfl

theorem walk1_ctxs (s : State) (c : Assoc Ctx) (fn va fuel table : Nat) (used : Trail) :
    State.walk1 { s with ctxs := c } fn va fuel table used = s.walk1 fn va fuel table used := by
  induction fuel generalizing table used with
  | zero => rfl
  | succ fuel ih =>
    simp only [State.walk1, ih, stage2Path_ctxs]
    rfl

theorem pageFault_congr {s u : State} (h : OnlyMe s u) (hf : u.me.fn = s.me.fn) (hc : u.me.crew = s.me.crew) (l : Level)
    (k : AccKind) (a : Nat) : pageFault u l k a = pageFault s l k a := by
  unfold pageFault
  rw [hf, hc, h.1]
  simp only [walk1_ctxs, stage2Path_ctxs]
  rfl

/-! ### The running instruction -/

theorem Running.agent {s u : State} {i : Instr} {e : VqEntry} (h : Running s u i e) : u.agent = s.agent := by
  obtain ⟨ho, hm, -, hr⟩ := h
  have hl : (s.me.reissue.map (·.level)).getD s.me.level = e.level := by
    rcases hr with hr | ⟨hr, -, -, hl, -⟩
    · rw [hr]; rfl
    · rw [hr, hl]; rfl
  have hu : u.agent = { s.agent with level := e.level } := by
    unfold State.agent State.agentOf
    dsimp only
    rw [show u.ctx u.cur = u.me from rfl, hm, ho.cur]
    rfl
  rw [hu, ← hl]
  rfl

/-- A context that stands at a vector instruction: what the instruction may have changed, and nothing else. -/
def AtInstr (s v : State) (i : Instr) : Prop :=
  v.cur = s.cur ∧ (∀ g, g ≠ s.cur → v.ctx g = s.ctx g) ∧
  v.me = { s.me with
    pc := pcAfter s, reissue := v.me.reissue, vec := v.me.vec, vstart := v.me.vstart, cir := v.me.cir, pend := v.me.pend } ∧
  v.me.reissue.map (fun e => (e.instr, e.addr)) = some (i, s.me.here)

theorem Running.atInstr {s u : State} {i : Instr} {e : VqEntry} (h : Running s u i e)
    (hi : ∀ e, s.me.reissue = some e → e.instr = i ∧ e.begun = none) : AtInstr s u i := by
  obtain ⟨ho, hm, -, hr⟩ := h
  refine ⟨ho.cur, ho.2, by rw [hm], ?_⟩
  rw [hm]
  rcases hr with hr | ⟨hr, h1, h2, -⟩
  · simp [Ctx.here, hr, (hi e hr).1]
  · simp [Ctx.here, hr, h1, h2]

/-! ### Vector-side traps (R315, R317) -/

/-- Entry into a level leaves all but the level's own trap registers. -/
theorem enter_keeps (c : Ctx) (l : Level) (t : TrapInfo) :
    (c.enter l t).resume = c.resume ∧ (c.enter l t).vq = c.vq ∧ (c.enter l t).vec = c.vec ∧ (c.enter l t).pend = c.pend ∧
    (c.enter l t).vstart = c.vstart ∧ (c.enter l t).replay = c.replay ∧
    ((c.enter l t).trapSet l).shadow = if (c.trapSet l).regs.depth = 1 then (c.trapSet l).regs else (c.trapSet l).shadow := by
  cases l <;> exact ⟨rfl, rfl, rfl, rfl, rfl, rfl, rfl⟩

/-- A vector-side trap with room at its level enters it from the running instruction, and changes nothing else. -/
theorem vsideTrap_vectorTrapped {s v : State} {i : Instr} (h : AtInstr s v i) {cause : Nat}
    (hl : targetLevel cause s.me.level = faultLevel s cause) (hd : (s.me.trapSet (faultLevel s cause)).regs.depth ≠ 2)
    (value : Nat) (telem : Word) (gpa : BitVec 52) :
    VectorTrapped s (v.vsideTrap cause value telem gpa) i cause (BitVec.ofNat 64 value) telem gpa ∧
    OnlyMe v (v.vsideTrap cause value telem gpa) ∧ (v.vsideTrap cause value telem gpa).me.vec = v.me.vec ∧
    (v.vsideTrap cause value telem gpa).me.pend = v.me.pend ∧
    (v.vsideTrap cause value telem gpa).me.vstart = v.me.vstart := by
  obtain ⟨hc, hg', hm, hi⟩ := h
  obtain ⟨e, he, hie⟩ : ∃ e, v.me.reissue = some e ∧ (e.instr, e.addr) = (i, s.me.here) := by simpa using hi
  simp only [Prod.mk.injEq] at hie
  unfold State.vsideTrap
  dsimp only
  rw [he]
  generalize hw : ({ v.me.toReplay ((some e).toList ++ v.me.vq) (v.me.trapDepth + 1) with vq := [], resume := v.me.pc } : Ctx) = c
  have hset : ∀ l, c.trapSet l = s.me.trapSet l := fun l => by rw [← hw, Ctx.toReplay, hm]; cases l <;> rfl
  have hlev : c.level = s.me.level := by rw [← hw, Ctx.toReplay, hm]
  have htrap := trap_eq (v.setMe c) { cause := cause, value := BitVec.ofNat 64 value, epc := v.me.here, telem := telem, gpa := gpa, vside := true }
    (by rw [State.me_setMe, hlev, hl, hset]; exact hd)
  rw [State.me_setMe, hlev, hl] at htrap
  rw [htrap]
  have hhere : v.me.here = s.me.here := by rw [Ctx.here, he]; exact hie.2
  have hold : c.resume = pcAfter s ∧ c.vq = [] ∧ c.vec = v.me.vec ∧ c.pend = v.me.pend ∧ c.vstart = v.me.vstart ∧
      (∀ r, c.raw r = s.me.raw r) ∧
      c.replay.map (·.instr) = s.me.replay.map (·.instr) ++ i :: s.me.vq.map (·.instr) := by
    rw [← hw, Ctx.toReplay]
    refine ⟨by rw [hm], rfl, rfl, rfl, rfl, fun r => by rw [hm]; rfl, ?_⟩
    rw [hm]
    simp [hie.1, Function.comp_def]
  obtain ⟨hres, hvq, hvec, hpend, hvs, hraw, hrep⟩ := hold
  have hkeep := enter_keeps c (faultLevel s cause)
    { cause := cause, value := BitVec.ofNat 64 value, epc := v.me.here, telem := telem, gpa := gpa, vside := true }
  obtain ⟨k1, k2, k3, k4, k5, k6, k7⟩ := hkeep
  unfold VectorTrapped
  dsimp only
  rw [State.me_setMe]
  refine ⟨⟨?_, ?_, ?_, ?_, ?_, ?_, ?_, ?_, ?_⟩, (onlyMe_setMe _ _).trans (onlyMe_setMe _ _), ?_, ?_, ?_⟩
  · exact Ctx.enter_level _ _ _
  · rw [Ctx.enter_pc, hset]
  · rw [k1, hres]
  · rw [k2, hvq]
  · rw [Ctx.enter_regs, hset, hhere, hlev]; rfl
  · rw [k7, hset]
  · rw [k6, hrep]
  · intro r; rw [Ctx.raw_enter, hraw]
  · intro g hg
    rw [State.ctx_setMe_ne _ _ (by rw [State.setMe_cur, hc]; exact hg), State.ctx_setMe_ne _ _ (by rw [hc]; exact hg)]
    exact hg' g hg
  · rw [k3, hvec]
  · rw [k4, hpend]
  · rw [k5, hvs]

/-- What a fault of a vector access leaves besides the trap: the context's vector state and pending accesses, and but for a
poisoned table entry only the cached translations. -/
def FaultLeaves (v t : State) (cause : Nat) : Prop :=
  SameBytes v t ∧ t.cur = v.cur ∧ t.me.vec = v.me.vec ∧ t.me.pend = v.me.pend ∧
  (cause ≠ 0x089 → t = { v with ctxs := t.ctxs, tlb := t.tlb })

theorem AtInstr.of_still {s v w : State} {i : Instr} (h : AtInstr s v i) (k : Still v w) : AtInstr s w i := by
  obtain ⟨h1, h2, h3, h4⟩ := h
  refine ⟨k.2.trans h1, fun g hg => (k.ctx g).trans (h2 g hg), ?_, ?_⟩
  · rw [k.me]; exact h3
  · rw [k.me]; exact h4

theorem AtInstr.setVstart {s v : State} {i : Instr} (h : AtInstr s v i) (x : Word) :
    AtInstr s (v.setMe { v.me with vstart := x }) i := by
  obtain ⟨h1, h2, h3, h4⟩ := h
  refine ⟨h1, fun g hg => ?_, ?_, ?_⟩
  · rw [State.ctx_setMe_ne _ _ (by rw [h1]; exact hg)]; exact h2 g hg
  · rw [State.me_setMe, h3]
  · rw [State.me_setMe]; exact h4

/-- A vector access that faults in translation, and whose way is not held, takes the trap of the fault (R208, R314, R317). -/
theorem vsideFault_vectorTrapped {s v : State} {i : Instr} (h : AtInstr s v i) (k : AccKind) (f : Nat) {x : AccFault}
    (hx : TranslationCause x.fault.cause) (hh : x.fault.cause ≠ heldCause)
    (hd : (s.me.trapSet (faultLevel s x.fault.cause)).regs.depth ≠ 2) :
    VectorTrapped s (v.vsideFault k (some f) x) i x.fault.cause (BitVec.ofNat 64 x.addr) (telemOf k (some f) x.fault)
      (if 0x085 ≤ x.fault.cause ∧ x.fault.cause ≤ 0x087 then BitVec.ofNat 52 x.fault.gpa else 0) ∧
    FaultLeaves v (v.vsideFault k (some f) x) x.fault.cause ∧
    (v.vsideFault k (some f) x).me.vstart = v.me.vstart := by
  obtain ⟨hs, hb, ht⟩ := noteWalk_leaves v x
  have heq : v.vsideFault k (some f) x = (v.noteWalk x).vsideTrap x.fault.cause (BitVec.ofNat 64 x.addr).toNat
      (telemOf k (some f) x.fault)
      (if 0x085 ≤ x.fault.cause ∧ x.fault.cause ≤ 0x087 then BitVec.ofNat 52 x.fault.gpa else 0) := by
    rw [State.vsideFault, if_neg hh]
    simp [AccFault.info]
  obtain ⟨h1, h2, h3, h4, h5⟩ := vsideTrap_vectorTrapped (h.of_still hs) (targetLevel_fault s hx hh) hd
    (BitVec.ofNat 64 x.addr).toNat (telemOf k (some f) x.fault)
    (if 0x085 ≤ x.fault.cause ∧ x.fault.cause ≤ 0x087 then BitVec.ofNat 52 x.fault.gpa else 0)
  rw [BitVec.ofNat_toNat, BitVec.setWidth_eq] at h1
  rw [← heq] at h1 h2 h3 h4 h5
  rw [hs.me] at h3 h4 h5
  refine ⟨h1, ⟨?_, h2.cur.trans hs.2, h3, h4, fun hc => ?_⟩, h5⟩
  · exact ⟨fun l => (h2.sameBytes.1 l).trans (hb.1 l), fun l => (h2.sameBytes.2 l).trans (hb.2 l)⟩
  · have := ht hc
    rw [h2.1, this]

/-- The trap at an element: the same, with VSTART at the element. -/
theorem faultAt_vectorTrapped {s v : State} {i : Instr} (h : AtInstr s v i) (k : AccKind) (f : Nat) {x : AccFault}
    (hx : TranslationCause x.fault.cause) (hh : x.fault.cause ≠ heldCause)
    (hd : (s.me.trapSet (faultLevel s x.fault.cause)).regs.depth ≠ 2) :
    VectorTrapped s (v.faultAt noFlags k f x) i x.fault.cause (BitVec.ofNat 64 x.addr) (telemOf k (some f) x.fault)
      (if 0x085 ≤ x.fault.cause ∧ x.fault.cause ≤ 0x087 then BitVec.ofNat 52 x.fault.gpa else 0) ∧
    FaultLeaves v (v.faultAt noFlags k f x) x.fault.cause ∧ (v.faultAt noFlags k f x).me.vstart = BitVec.ofNat 64 f := by
  have hr : v.me.raise noFlags = v.me := by simp [Ctx.raise]
  obtain ⟨h1, ⟨h2, h3, h4, h5, h6⟩, h7⟩ := vsideFault_vectorTrapped (h.setVstart (BitVec.ofNat 64 f)) k f hx hh hd
  rw [State.faultAt, if_neg hh, hr]
  rw [State.me_setMe] at h4 h5 h7
  have ho := onlyMe_setMe v { v.me with vstart := BitVec.ofNat 64 f }
  refine ⟨h1, ⟨?_, h3, h4, h5, fun hc => ?_⟩, h7⟩
  · exact ⟨fun l => (h2.1 l).trans (ho.sameBytes.1 l), fun l => (h2.2 l).trans (ho.sameBytes.2 l)⟩
  · exact h6 hc

end Sys2Proof.Machine
end

section
/-! PROOFS. Elements written to a vector register: each reads as it was written, and every other as before. -/

open Sys2Proof Sys2Proof.Machine

namespace Sys2Proof.Machine

/-! ### Bits of a row (R132) -/

theorem bitsOf_eq (v lo n : Nat) : bitsOf v lo n = v / 2 ^ lo % 2 ^ n := by rw [bitsOf, Nat.shiftRight_eq_div_pow]

/-- A field of a number is what stands above it, the field, and what stands below it. -/
theorem field_split (v lo w : Nat) :
    v = v / 2 ^ (lo + w) * 2 ^ (lo + w) + bitsOf v lo w * 2 ^ lo + v % 2 ^ lo := by
  have h1 := Nat.div_add_mod v (2 ^ lo)
  have h2 := Nat.div_add_mod (v / 2 ^ lo) (2 ^ w)
  have h3 : v / 2 ^ (lo + w) = v / 2 ^ lo / 2 ^ w := by rw [pow_add, Nat.div_div_eq_div_mul]
  rw [bitsOf_eq, h3, pow_add]
  calc v = 2 ^ lo * (v / 2 ^ lo) + v % 2 ^ lo := h1.symm
    _ = 2 ^ lo * (2 ^ w * (v / 2 ^ lo / 2 ^ w) + v / 2 ^ lo % 2 ^ w) + v % 2 ^ lo := by rw [h2]
    _ = _ := by ring

theorem testBit_bitsOf (v lo w b : Nat) : (bitsOf v lo w).testBit b = (decide (b < w) && v.testBit (lo + b)) := by
  rw [bitsOf_eq, Nat.testBit_mod_two_pow, Nat.testBit_div_two_pow, Nat.add_comm]

/-- The bits of a row after a field is written: those of the value in the field, and the old ones elsewhere. -/
theorem testBit_setBits (r : Row) {lo w : Nat} (val b : Nat) (h : lo + w ≤ 512) :
    (setBits r lo w val).toNat.testBit b =
      if lo ≤ b ∧ b < lo + w then val.testBit (b - lo) else r.toNat.testBit b := by
  have hs := field_split r.toNat lo w
  have hlow : r.toNat % 2 ^ lo < 2 ^ lo := Nat.mod_lt _ (Nat.two_pow_pos _)
  have hmid : 2 ^ lo * (val % 2 ^ w) + r.toNat % 2 ^ lo < 2 ^ (lo + w) := by
    have : val % 2 ^ w < 2 ^ w := Nat.mod_lt _ (Nat.two_pow_pos _)
    calc 2 ^ lo * (val % 2 ^ w) + r.toNat % 2 ^ lo < 2 ^ lo * (val % 2 ^ w) + 2 ^ lo := by omega
      _ = 2 ^ lo * (val % 2 ^ w + 1) := by ring
      _ ≤ 2 ^ lo * 2 ^ w := Nat.mul_le_mul_left _ this
      _ = 2 ^ (lo + w) := (pow_add ..).symm
  have hbits : ∀ b, (2 ^ (lo + w) * (r.toNat / 2 ^ (lo + w)) + (2 ^ lo * (val % 2 ^ w) + r.toNat % 2 ^ lo)).testBit b =
      if lo ≤ b ∧ b < lo + w then val.testBit (b - lo) else r.toNat.testBit b := fun b => by
    rw [Nat.testBit_two_pow_mul_add _ hmid, Nat.testBit_two_pow_mul_add _ hlow, Nat.testBit_mod_two_pow,
      Nat.testBit_mod_two_pow, Nat.testBit_div_two_pow]
    by_cases h1 : b < lo + w
    · by_cases h2 : b < lo
      · rw [if_pos h1, if_pos h2, if_neg (by omega)]; simp [h2]
      · rw [if_pos h1, if_neg h2, if_pos ⟨by omega, h1⟩]; simp [show b - lo < w by omega]
    · rw [if_neg h1, if_neg (by omega), Nat.sub_add_cancel (by omega)]
  have heq : r.toNat - bitsOf r.toNat lo w * 2 ^ lo + val % 2 ^ w * 2 ^ lo =
      2 ^ (lo + w) * (r.toNat / 2 ^ (lo + w)) + (2 ^ lo * (val % 2 ^ w) + r.toNat % 2 ^ lo) := by
    rw [Nat.mul_comm (2 ^ (lo + w)), Nat.mul_comm (2 ^ lo)]
    omega
  have hlt : 2 ^ (lo + w) * (r.toNat / 2 ^ (lo + w)) + (2 ^ lo * (val % 2 ^ w) + r.toNat % 2 ^ lo) < 2 ^ 512 :=
    Nat.lt_pow_two_of_testBit _ fun i hi => by
      have hr : r.toNat < 2 ^ i := Nat.lt_of_lt_of_le r.isLt (Nat.pow_le_pow_right (by decide) hi)
      rw [hbits, if_neg (by omega)]
      exact Nat.testBit_lt_two_pow hr
  rw [setBits, BitVec.toNat_ofNat, heq, Nat.mod_eq_of_lt hlt, hbits]

/-- A field written reads as it was written. -/
theorem bitsOf_setBits_same (r : Row) {lo w : Nat} (val : Nat) (h : lo + w ≤ 512) :
    bitsOf (setBits r lo w val).toNat lo w = val % 2 ^ w := by
  refine Nat.eq_of_testBit_eq fun b => ?_
  rw [testBit_bitsOf, testBit_setBits r val _ h, Nat.testBit_mod_two_pow]
  by_cases hb : b < w
  · rw [if_pos ⟨by omega, by omega⟩, Nat.add_sub_cancel_left]
  · simp [hb]

/-- A field of the same width elsewhere reads as before. -/
theorem bitsOf_setBits_other (r : Row) {w i j : Nat} (val : Nat) (h : w * j + w ≤ 512) (hij : i ≠ j) :
    bitsOf (setBits r (w * j) w val).toNat (w * i) w = bitsOf r.toNat (w * i) w := by
  refine Nat.eq_of_testBit_eq fun b => ?_
  rw [testBit_bitsOf, testBit_bitsOf, testBit_setBits r val _ h]
  by_cases hb : b < w
  · rw [if_neg]
    rcases Nat.lt_or_gt_of_ne hij with hlt | hgt
    · have : w * (i + 1) ≤ w * j := Nat.mul_le_mul_left _ hlt
      rw [Nat.mul_add] at this
      omega
    · have : w * (j + 1) ≤ w * i := Nat.mul_le_mul_left _ hgt
      rw [Nat.mul_add] at this
      omega
  · simp [hb]

/-! ### Elements of a register (R103, R131, R132) -/

/-- A geometry whose element width divides its rows, and a register of it that lies in them. -/
def Holds (x : Geo) (k : Nat) : Prop := 0 < x.ew ∧ 512 / x.ew * x.ew = 512 ∧ (k + 1) * x.rpr ≤ 64

/-- The row key of an element. -/
def Geo.keyOf (x : Geo) (k e : Nat) : Nat := 64 * x.laneOf x.ew e + (k * x.rpr + x.rowIn x.ew e)

theorem rowIn_lt {x : Geo} {e : Nat} (h : e < x.vlmax) : x.rowIn x.ew e < x.rpr := by
  rw [Geo.rowIn]
  rw [Geo.vlmax, Geo.epr] at h
  exact Nat.div_lt_of_lt_mul h

/-- Two elements of a register in one row at one place are one. -/
theorem elem_unique {x : Geo} {k e f : Nat} (hx : Holds x k) (he : e < x.vlmax) (hf : f < x.vlmax)
    (hk : x.keyOf k e = x.keyOf k f) (hs : e % (512 / x.ew) = f % (512 / x.ew)) : e = f := by
  have h1 := rowIn_lt he
  have h2 := rowIn_lt hf
  obtain ⟨-, -, h64⟩ := hx
  rw [Nat.add_mul, Nat.one_mul] at h64
  unfold Geo.keyOf at hk
  have hrow : x.rowIn x.ew e = x.rowIn x.ew f := by omega
  have hlane : x.laneOf x.ew e = x.laneOf x.ew f := by omega
  unfold Geo.rowIn at hrow
  unfold Geo.laneOf at hlane
  rw [← Nat.div_div_eq_div_mul, ← Nat.div_div_eq_div_mul] at hrow
  have hq : e / (512 / x.ew) = f / (512 / x.ew) := by
    rw [← Nat.div_add_mod (e / (512 / x.ew)) x.g, ← Nat.div_add_mod (f / (512 / x.ew)) x.g, hrow, hlane]
  rw [← Nat.div_add_mod e (512 / x.ew), ← Nat.div_add_mod f (512 / x.ew), hq, hs]

/-- One element written to the rows. -/
def VecState.setElem (v : VecState) (x : Geo) (k e val : Nat) : VecState :=
  { v with rows := aput 0 v.rows (x.keyOf k e) (setBits (aget 0 v.rows (x.keyOf k e)) (x.ew * (e % (512 / x.ew))) x.ew val) }

theorem elem_val (v : VecState) (x : Geo) (k e : Nat) :
    (v.elem x x.ew k e).1 = bitsOf (aget 0 v.rows (x.keyOf k e)).toNat (x.ew * (e % (512 / x.ew))) x.ew := rfl

theorem slot_fits {x : Geo} {k : Nat} (hx : Holds x k) (e : Nat) : x.ew * (e % (512 / x.ew)) + x.ew ≤ 512 := by
  obtain ⟨h0, hd, -⟩ := hx
  have hpos : 0 < 512 / x.ew := Nat.pos_of_ne_zero fun h => by rw [h] at hd; omega
  have : x.ew * (e % (512 / x.ew) + 1) ≤ x.ew * (512 / x.ew) := Nat.mul_le_mul_left _ (Nat.mod_lt _ hpos)
  rw [Nat.mul_add, Nat.mul_one, Nat.mul_comm x.ew (512 / x.ew), hd] at this
  exact this

theorem elem_setElem {x : Geo} {k e f : Nat} (v : VecState) (val : Nat) (hx : Holds x k) (he : e < x.vlmax)
    (hf : f < x.vlmax) :
    ((v.setElem x k e val).elem x x.ew k f).1 = if f = e then val % 2 ^ x.ew else (v.elem x x.ew k f).1 := by
  rw [elem_val, elem_val, VecState.setElem]
  dsimp only
  rw [aget_aput]
  by_cases hk : x.keyOf k f = x.keyOf k e
  · rw [if_pos hk, hk]
    by_cases h : f = e
    · rw [if_pos h, h, bitsOf_setBits_same _ _ (slot_fits hx e)]
    · rw [if_neg h, bitsOf_setBits_other _ _ (slot_fits hx e) fun hs => h (elem_unique hx hf he hk hs)]
  · rw [if_neg hk, if_neg (fun h : f = e => hk (by rw [h]))]

/-- Elements written one after the other, with values that depend on their numbers only. -/
def VecState.setElems (v : VecState) (x : Geo) (k : Nat) (val : Nat → Nat) (es : List Nat) : VecState :=
  es.foldl (fun v e => v.setElem x k e (val e)) v

/-- Each element written reads as its value, every other as before. -/
theorem elem_setElems {x : Geo} {k f : Nat} (v : VecState) (val : Nat → Nat) {es : List Nat} (hx : Holds x k)
    (he : ∀ e ∈ es, e < x.vlmax) (hf : f < x.vlmax) :
    ((v.setElems x k val es).elem x x.ew k f).1 = if f ∈ es then val f % 2 ^ x.ew else (v.elem x x.ew k f).1 := by
  induction es generalizing v with
  | nil => simp [VecState.setElems]
  | cons e es ih =>
    have hstep := ih (v.setElem x k e (val e)) fun g hg => he g (List.mem_cons_of_mem _ hg)
    rw [elem_setElem v _ hx (he e (List.mem_cons_self ..)) hf] at hstep
    rw [show v.setElems x k val (e :: es) = (v.setElem x k e (val e)).setElems x k val es from rfl, hstep]
    by_cases h1 : f ∈ es
    · rw [if_pos h1, if_pos (List.mem_cons_of_mem _ h1)]
    · rw [if_neg h1]
      by_cases h2 : f = e
      · rw [if_pos h2, if_pos (h2 ▸ List.mem_cons_self ..), h2]
      · rw [if_neg h2, if_neg (fun h => (List.mem_cons.1 h).elim h2 h1)]

/-- Rows outside the register are as before. -/
theorem row_setElems {x : Geo} {k lane row : Nat} (v : VecState) (val : Nat → Nat) {es : List Nat} (hx : Holds x k)
    (he : ∀ e ∈ es, e < x.vlmax) (hr : row < 64) (ho : row < k * x.rpr ∨ (k + 1) * x.rpr ≤ row) :
    (v.setElems x k val es).row lane row = v.row lane row := by
  induction es generalizing v with
  | nil => rfl
  | cons e es ih =>
    rw [show v.setElems x k val (e :: es) = (v.setElem x k e (val e)).setElems x k val es from rfl,
      ih _ fun g hg => he g (List.mem_cons_of_mem _ hg)]
    have h1 := rowIn_lt (he e (List.mem_cons_self ..))
    have h64 := hx.2.2
    rw [Nat.add_mul, Nat.one_mul] at h64 ho
    have hk : 64 * lane + row ≠ x.keyOf k e := by unfold Geo.keyOf; omega
    simp only [VecState.row, VecState.setElem, aget_aput_ne _ _ _ hk]

theorem eq_or_mem_of_mem_aset {α : Type} {m : Assoc α} {i : Nat} {x : α} {t : Nat × α} (h : t ∈ aset m i x) :
    t = (i, x) ∨ t ∈ m := by
  induction m with
  | nil => exact .inl (by simpa [aset] using h)
  | cons q m ih =>
    rw [aset] at h
    split at h
    · next hi => exact hi ▸ (List.mem_cons.1 h).imp_right (List.mem_cons_of_mem _)
    · split at h
      · exact List.mem_cons.1 h
      · rcases List.mem_cons.1 h with h | h
        · exact .inr (List.mem_cons.2 (.inl h))
        · exact (ih h).imp_right (List.mem_cons_of_mem _)

theorem aget_eq_or_mem {α : Type} (d : α) (m : Assoc α) (i : Nat) : aget d m i = d ∨ ∃ t ∈ m, t.2 = aget d m i := by
  induction m with
  | nil => exact .inl rfl
  | cons q m ih =>
    rw [aget]
    split
    · exact .inr ⟨q, List.mem_cons_self .., rfl⟩
    · exact ih.imp_right fun ⟨t, ht, h⟩ => ⟨t, List.mem_cons_of_mem _ ht, h⟩

/-- No row is poisoned where no write is. -/
theorem tally_clean {ps : List Put} (h : ∀ p ∈ ps, p.poison = false) : ∀ t ∈ tally ps, t.2.2 = false := by
  refine List.foldlRecOn ps _ (motive := fun m : Assoc (Nat × Bool) => ∀ t ∈ m, t.2.2 = false) (by simp)
    fun m hm p hp t ht => ?_
  rcases eq_or_mem_of_mem_aset ht with rfl | ht
  · rw [h p hp, Bool.or_false]
    rcases aget_eq_or_mem (0, false) m (64 * p.lane + p.row) with hd | ⟨q, hq, hd⟩
    · rw [hd]
    · rw [← hd]; exact hm q hq
  · exact hm t ht

/-- Clean writes of elements to a state without poisoned rows. -/
theorem putAll_eq_setElems {x : Geo} {k : Nat} (v : VecState) (val : Nat → Nat) (es : List Nat) (hp : v.rowPoison = []) :
    v.putAll (es.map fun e => x.put x.ew k e (val e) false) = v.setElems x k val es := by
  have hrows : v.setElems x k val es = { v with rows := (v.setElems x k val es).rows } ∧
      (v.setElems x k val es).rows = es.foldl (fun m e => aput 0 m (x.keyOf k e)
        (setBits (aget 0 m (x.keyOf k e)) (x.ew * (e % (512 / x.ew))) x.ew (val e))) v.rows := by
    clear hp
    induction es generalizing v with
    | nil => exact ⟨rfl, rfl⟩
    | cons e es ih =>
      obtain ⟨h1, h2⟩ := ih (v.setElem x k e (val e))
      exact ⟨h1, h2⟩
  have hpoison : ∀ ts : Assoc (Nat × Bool), (∀ t ∈ ts, t.2.2 = false) → ts.foldl (fun m t =>
      aput false m t.1 (t.2.2 || (decide (t.2.1 < 512) && aget false m t.1))) [] = [] := fun ts ht => by
    refine List.foldlRecOn ts _ (motive := (· = [])) rfl fun m hm t htm => ?_
    rw [hm, ht t htm]
    simp [aput, aerase]
  rw [hrows.1, hrows.2, VecState.putAll, hp, hpoison _ (tally_clean ?_), List.foldl_map, ← hp]
  · rfl
  · intro p hm
    obtain ⟨e, -, rfl⟩ := List.mem_map.1 hm
    rfl

end Sys2Proof.Machine
end

section
/-! PROOFS. Vector loads: the elements read, and the register that they land in. -/

open Sys2Proof Sys2Proof.Machine

namespace Sys2Proof.Machine

/-! ### Unpoisoned vector state -/

theorem elem_clean {v : VecState} (h : v.rowPoison = []) (x : Geo) (w k e : Nat) : (v.elem x w k e).2 = false := by
  simp [VecState.elem, VecState.row, h]

theorem selects_clean {v : VecState} (h : v.maskPoison = []) (mk : BitVec 4) (e : Nat) : (v.selects mk e).2 = false := by
  unfold VecState.selects
  split <;> simp [VecState.maskBit, VecState.segment, h]

/-- Where nothing is poisoned and the instruction is not cut, it runs over the active elements, none of them in doubt. -/
theorem active_clean {c : Ctx} (h : c.vec.maskPoison = []) (mk : BitVec 4) :
    c.active mk = (activeOf c mk).map fun e => (e, false) := by
  rw [active_eq]
  exact List.map_congr_left fun e _ => by rw [selects_clean h]

theorem stop_of_uncut {c : Ctx} (h : c.cut = none) : c.stop = c.len := by rw [Ctx.stop, h]

theorem mem_activeOf {c : Ctx} {mk : BitVec 4} {e : Nat} :
    e ∈ activeOf c mk ↔ c.start ≤ e ∧ e < c.len ∧ (c.vec.selects mk e).1 = true := by
  simp [activeOf, and_left_comm]

theorem vw_cases (c : Ctx) : c.vw = 8 ∨ c.vw = 16 ∨ c.vw = 32 ∨ c.vw = 64 := by
  rw [Ctx.vw, typeEw, bitsOf_eq]
  have : c.vtype.toNat / 2 ^ 0 % 2 ^ 2 < 4 := Nat.mod_lt _ (by decide)
  generalize c.vtype.toNat / 2 ^ 0 % 2 ^ 2 = k at this
  interval_cases k <;> decide

/-- The register count of a context times the rows of a register lies in the rows of a lane. -/
theorem count_rpr_le (c : Ctx) : c.geo.n * c.geo.rpr ≤ 64 :=
  (Nat.mul_div_le (64 - 16 * c.geo.tl) c.geo.n).trans (Nat.sub_le _ _)

theorem geo_ew (c : Ctx) : c.geo.ew = c.vw := rfl

/-- A register that an instruction names past decode lies in the rows. -/
theorem holds_of_legal {c : Ctx} {i : Instr} {d : BitVec 6} {x : VecSpec} (h : Legal i c.vt (regCount c.ncode.toNat))
    (hx : vecSpec i c.vt = some x) (hd : group d 1 ∈ x.regs) : Holds c.geo d.toNat := by
  obtain ⟨y, hy, hc⟩ := h
  obtain rfl : x = y := Option.some.inj (hx.symm.trans hy)
  have hle : d.toNat + 1 ≤ c.geo.n := by
    by_contra hn
    unfold VecSpec.cause at hc
    split at hc
    · cases hc
    · rw [if_pos (List.any_eq_true.2 ⟨_, hd, decide_eq_true (Nat.lt_of_not_le hn)⟩)] at hc
      cases hc
  refine ⟨?_, ?_, (Nat.mul_le_mul_right _ hle).trans (count_rpr_le c)⟩ <;>
    rw [geo_ew] <;> rcases vw_cases c with h | h | h | h <;> rw [h] <;> decide

/-! ### The addresses of the elements (R207) -/

/-- Element addresses of the running instruction are those of a function on the elements' numbers. -/
theorem unitAddr_eq {s u : State} {i : Instr} {e : VqEntry} (h : Running s u i e) (a : BitVec 5) :
    u.me.unitAddr a = fun e => some (((s.rv a).toNat + e * (s.me.vw / 8)) % 2 ^ 64) := by
  obtain ⟨-, hm, ho, -⟩ := h
  funext e
  have hw : u.me.vw = s.me.vw := by rw [hm]; rfl
  rw [Ctx.unitAddr, ho, hw, BitVec.toNat_add, BitVec.toNat_ofNat, Nat.add_mod_mod]
  rfl

theorem strideAddr_eq {s u : State} {i : Instr} {e : VqEntry} (h : Running s u i e) (a k : BitVec 5) :
    u.me.strideAddr a k = fun e => some (((s.rv a).toNat + e * (s.rv k).toNat) % 2 ^ 64) := by
  obtain ⟨-, -, ho, -⟩ := h
  funext e
  rw [Ctx.strideAddr, ho, ho, BitVec.toNat_add, BitVec.toNat_mul, BitVec.toNat_ofNat, Nat.add_mod_mod, Nat.add_mod,
    Nat.mul_mod, Nat.mod_mod, ← Nat.mul_mod, ← Nat.add_mod]
  rfl

theorem indexAddr_eq {s u : State} {i : Instr} {e : VqEntry} (h : Running s u i e) (hp : Unpoisoned s.me) (a : BitVec 5)
    (x : BitVec 6) : u.me.indexAddr a x = fun e =>
      some (((s.rv a).toNat + (s.me.vec.elem s.me.geo s.me.vw x.toNat e).1) % 2 ^ 64) := by
  obtain ⟨-, hm, ho, -⟩ := h
  funext e
  have he : u.me.vec.elem u.me.geo u.me.vw x.toNat e = s.me.vec.elem s.me.geo s.me.vw x.toNat e := by rw [hm]; rfl
  rw [Ctx.indexAddr, he, elem_clean hp.2.1, ho]
  simp only [Bool.false_eq_true, ↓reduceIte, BitVec.toNat_add, BitVec.toNat_ofNat, Nat.add_mod_mod]
  rfl

/-! ### Elements read -/

/-- From a state on, whatever the second-level caches hold, a reader reads a value at an element and leaves all but those
caches. -/
def Reads (s : State) (read : State → Nat → State × Except AccFault (Nat × Bool)) (val : Nat → Nat) (e : Nat) : Prop :=
  ∀ v, L2Only s v → ∃ t, read v e = (t, .ok (val e, false)) ∧ L2Only v t

/-- An element read, clean. -/
def landed (val : Nat → Nat) (e : Nat) : Done := { e := e, val := val e, poison := false, flags := noFlags }

theorem readElems_append {s v : State} {read : State → Nat → State × Except AccFault (Nat × Bool)} {val : Nat → Nat}
    {es : List Nat} (h : ∀ e ∈ es, Reads s read val e) (hv : L2Only s v) (rest : List (Nat × Bool)) :
    ∃ t, L2Only s t ∧ v.readElems read (es.map (fun e => (e, false)) ++ rest) =
      ((t.readElems read rest).1, es.map (landed val) ++ (t.readElems read rest).2.1, (t.readElems read rest).2.2) := by
  induction es generalizing v with
  | nil => exact ⟨v, hv, rfl⟩
  | cons e es ih =>
    obtain ⟨t, ht, hvt⟩ := h e (List.mem_cons_self ..) v hv
    obtain ⟨w, hw, hr⟩ := ih (fun f hf => h f (List.mem_cons_of_mem _ hf)) (hv.trans hvt)
    refine ⟨w, hw, ?_⟩
    rw [List.map_cons, List.cons_append, State.readElems, ht]
    dsimp only
    rw [hr]
    rfl

/-- All elements read. -/
theorem readElems_all {s : State} {read : State → Nat → State × Except AccFault (Nat × Bool)} {val : Nat → Nat}
    {es : List Nat} (h : ∀ e ∈ es, Reads s read val e) :
    ∃ t, L2Only s t ∧ s.readElems read (es.map fun e => (e, false)) = (t, es.map (landed val), none) := by
  obtain ⟨t, ht, hr⟩ := readElems_append h (.refl s) []
  exact ⟨t, ht, by simpa [State.readElems] using hr⟩

/-- Elements read up to the one that faults. -/
theorem readElems_fault {s : State} {read : State → Nat → State × Except AccFault (Nat × Bool)} {val : Nat → Nat}
    {es : List Nat} {f : Nat} {x : AccFault} (h : ∀ e ∈ es, Reads s read val e)
    (hf : ∀ v, L2Only s v → read v f = (v, .error x)) (rest : List Nat) :
    ∃ t, L2Only s t ∧
      s.readElems read ((es ++ f :: rest).map fun e => (e, false)) = (t, es.map (landed val), some (f, x)) := by
  obtain ⟨t, ht, hr⟩ := readElems_append h (.refl s) ((f :: rest).map fun e => (e, false))
  refine ⟨t, ht, ?_⟩
  rw [List.map_append, hr, List.map_cons, State.readElems, hf t ht]
  simp

/-- At firmware level, with nothing pending, an element of clean device memory is read as it is stored. -/
theorem readElem_reads {s : State} {oc : BitVec 4} {adr : Nat → Option Nat} {addr : Nat → Nat} {n e : Nat}
    (hp : s.me.pend = []) (hl : s.agent.level = .firmware) (hn : s.me.vw / 8 = n) (ha : adr e = some (addr e))
    (h64 : addr e < 2 ^ 64) (hb : PlainBytes s (addr e) n) :
    Reads s (fun s e => s.readElem oc adr e) (fun e => leNat (storedBytes s (addr e) n)) e := by
  intro v hv
  have hme : v.me = s.me := hv.caches.still.me
  have hag : v.agent = s.agent := by rw [hv]; rfl
  obtain ⟨t, ht, -, hts⟩ := load_plain (s := v) (g := v.cur) (ag := v.agent) .load .lane (v.me.portKey oc e)
    (show v.me.pend = [] by rw [hme]; exact hp) (by rw [hag]; exact hl) h64 (hb.of_caches hv.caches)
  refine ⟨t, ?_, hts (by decide)⟩
  dsimp only
  rw [State.readElem, ha]
  dsimp only
  rw [show v.me.vw / 8 = n by rw [hme, hn], ht, hv.caches.storedBytes]

/-! ### Elements landed -/

/-- Clean elements land in their register, and nothing is consumed. -/
theorem landElems_eq {c : Ctx} (h : c.vec.rowPoison = []) (d : BitVec 6) (val : Nat → Nat) (es : List Nat) :
    ∃ r, c.landElems d (es.map (landed val)) = { c with vec := c.vec.setElems c.geo d.toNat val es, reissue := r } ∧
      r.map (fun e => (e.instr, e.addr, e.begun)) = c.reissue.map fun e => (e.instr, e.addr, e.begun) := by
  have hg : c.poisonedGroups (es.map (landed val)) = 0 := by
    have : (es.map (landed val)).filter (·.poison) = [] := by simp [landed]
    rw [Ctx.poisonedGroups, this]
    rfl
  have hput : c.vec.putAll ((es.map (landed val)).map fun x => c.geo.put c.vw d.toNat x.e x.val x.poison) =
      c.vec.setElems c.geo d.toNat val es := by
    rw [List.map_map]
    exact putAll_eq_setElems c.vec val es h
  rw [Ctx.landElems, hg, Ctx.consumeTimes, Ctx.putRows, hput, Ctx.noteRows]
  refine ⟨_, rfl, ?_⟩
  cases c.reissue <;> rfl

/-- What is left of the vector state when clean elements are written. -/
theorem setElems_rest (v : VecState) (x : Geo) (k : Nat) (val : Nat → Nat) (es : List Nat) :
    v.setElems x k val es = { v with rows := (v.setElems x k val es).rows } := by
  unfold VecState.setElems
  refine List.foldlRecOn es _ (motive := fun w : VecState => w = { v with rows := w.rows }) rfl fun w hw e _ => ?_
  rw [VecState.setElem, hw]

/-- An instruction that wrote vector state only, whatever the second-level caches hold by then, retires. -/
theorem retired_of_running {s u t : State} {i : Instr} {e : VqEntry} (hr : Running s u i e) (ht : L2Only u t) {c : Ctx}
    (hf : c.fstat = s.me.fstat) (v : VecState) {r : Option VqEntry} (h : r.isSome = true) (fl : Flags) :
    let w := (t.setMe { c with pc := pcAfter s, vec := v, reissue := r }).retireVec fl
    Retired { s with l2 := w.l2 } w c fl ∧ w.l2 = t.l2 ∧ w.me.vec = v ∧ w.me.cir = c.cir := by
  obtain ⟨ho, -, -, -⟩ := hr
  have hwm := t.me_setMe { c with pc := pcAfter s, vec := v, reissue := r }
  have hou : OnlyMe { s with l2 := t.l2 } (t.setMe { c with pc := pcAfter s, vec := v, reissue := r }) :=
    ⟨by rw [State.setMe, State.setCtx, ht, ho.1], fun g hg => by
      rw [State.ctx_setMe_ne _ _ (by rw [ht.caches.still.2, ho.cur]; exact hg), ht.caches.still.ctx]
      exact ho.2 g hg⟩
  have hl : (t.setMe { c with pc := pcAfter s, vec := v, reissue := r }).l2 = t.l2 := rfl
  generalize t.setMe { c with pc := pcAfter s, vec := v, reissue := r } = w at hwm hou hl
  have hs : w.me.reissue.isSome = true := by rw [hwm]; exact h
  obtain ⟨hout, -, hret⟩ := retireVec_leaves fl hs
  have hret' := retired_of (c := c) fl hou hs (by rw [hwm]; rfl) (by rw [hwm]; exact hf) (by rw [hwm])
  have hl2 : (w.retireVec fl).l2 = t.l2 := by rw [hout.1]; exact hl
  dsimp only
  rw [hl2]
  exact ⟨hret', rfl, by rw [hret, hwm], by rw [hret, hwm]⟩

/-- Values written to the active elements of a register by an instruction that retired are its elements. -/
theorem elementsAre_of_setElems {s t : State} {d : BitVec 6} {mk : BitVec 4} {val : Nat → Nat}
    (hret : Retired s t s.me noFlags)
    (hv : t.me.vec = s.me.vec.setElems s.me.geo d.toNat val (activeOf s.me mk)) (hc : t.me.cir = s.me.cir)
    (hx : Holds s.me.geo d.toNat) (hlen : s.me.len ≤ s.me.geo.vlmax) :
    ElementsAre s t d s.me.vw mk fun e => (val e, noFlags) := by
  have hact : ∀ e ∈ activeOf s.me mk, e < s.me.geo.vlmax := fun e he => (mem_activeOf.1 he).2.1.trans_le hlen
  have hw1 : s.me.vw / s.me.geo.ew = 1 := Nat.div_self hx.1
  have hflags : allFlags ((activeOf s.me mk).map fun _ => noFlags) = noFlags := allFlags_noFlags _ fun _ _ => rfl
  have hme := hret.2.2
  unfold ElementsAre
  dsimp only
  rw [hw1, hflags, Nat.one_mul]
  refine ⟨hret, ?_, fun f hf => ?_, fun lane row hrow hor => ?_, fun hp => ⟨⟨?_, ?_, ?_, ?_⟩, hc⟩⟩
  · have hrest := setElems_rest s.me.vec s.me.geo d.toNat val (activeOf s.me mk)
    rw [hv]
    generalize s.me.vec.setElems s.me.geo d.toNat val (activeOf s.me mk) = v at hrest
    rw [hrest]
  · rw [hv]
    exact (elem_setElems _ _ hx hact hf).trans (if_congr mem_activeOf rfl rfl)
  · rw [hv]
    exact row_setElems _ _ hx hact hrow hor
  · rw [hme]; exact hp.1
  · rw [hv, setElems_rest]; exact hp.2.1
  · rw [hv, setElems_rest]; exact hp.2.2.1
  · intro q hq; rw [hme] at hq; cases hq

end Sys2Proof.Machine
end

section
/-! PROOFS. Vector loads, settled: what they read to their end, and where they fault. -/

open Sys2Proof Sys2Proof.Machine

namespace Sys2Proof.Machine

theorem setMe_setMe (s : State) (c d : Ctx) : (s.setMe c).setMe d = s.setMe d := by
  simp [State.setMe, State.setCtx]

/-! ### What a vector load does with the elements read (R208, R210) -/

/-- A load with the outcome of its reads: it commits, traps, or, where it may, shortens VL. -/
def State.landLoad (s : State) (shortens : Bool) (d : BitVec 6) (m : BitVec 4) :
    State × List Done × Option (Nat × AccFault) → State
  | (t, ds, none) => (t.setMe (t.me.landElems d ds)).commitTo s.me.stop noFlags
  | (t, ds, some (f, x)) =>
    let v := t.setMe (t.me.landElems d ds)
    let first := (s.me.reissue.bind (·.begun)).getD s.me.start
    let shorten := (List.range (f - first)).any fun i => (v.me.vec.selects m (first + i)).1
    if shortens = true ∧ shorten = true ∧ x.fault.cause ≠ heldCause then
      (v.setMe { v.me with vl := BitVec.ofNat 64 f }).retireVec noFlags
    else v.faultAt noFlags .load f x

/-- A vector load that accesses the element addresses of `laneAccess`. -/
def LaneLoad (i : Instr) (d : BitVec 6) (mk : BitVec 4) : Prop :=
  ∃ a k, i = .vld d a k mk ∨ i = .vldff d a k mk ∨ (∃ x, i = .vlds d a k mk x) ∨ ∃ x, i = .vldx d a k mk x

theorem vecLoad_eq (s : State) (d : BitVec 6) (m : BitVec 4)
    (read : State → Nat → State × Except AccFault (Nat × Bool)) :
    s.vecLoad d m read = s.landLoad false d m (s.readElems read (s.me.activeBelow m s.me.stop)) := by
  unfold State.vecLoad State.landLoad
  dsimp only
  generalize s.readElems read (s.me.activeBelow m s.me.stop) = r
  obtain ⟨t, ds, _ | ⟨f, x⟩⟩ := r
  · rfl
  · simp

/-- The active elements of a running instruction, where nothing is poisoned and it is not cut. -/
theorem Running.active {s u : State} {i : Instr} {e : VqEntry} (h : Running s u i e) (hc : s.me.cut = none)
    (hp : Unpoisoned s.me) (mk : BitVec 4) :
    u.me.activeBelow mk u.me.stop = (activeOf s.me mk).map fun e => (e, false) := by
  obtain ⟨-, hm, -, -⟩ := h
  rw [stop_of_uncut (by rw [hm]; exact hc), hm]
  exact active_clean hp.2.2.1 mk

/-- The element addresses of an instruction are 64-bit. -/
theorem laneAccess_lt {s : State} {i : Instr} {d : BitVec 6} {mk : BitVec 4} {addr : Nat → Nat}
    (h : laneAccess s i = some (d, mk, addr)) (e : Nat) : addr e < 2 ^ 64 := by
  unfold laneAccess at h
  dsimp only at h
  split at h <;> cases h <;> exact Nat.mod_lt _ (Nat.two_pow_pos 64)

/-- A load runs from the state past its decode: it reads its active elements in order. -/
theorem exec_of_laneLoad {s : State} {i : Instr} {d d' : BitVec 6} {mk mk' : BitVec 4} {addr : Nat → Nat}
    (hv : VectorRuns s i) (hp : Unpoisoned s.me) (h : laneAccess s i = some (d, mk, addr)) (hi : LaneLoad i d' mk') :
    ∃ u e oc ff, Running s u i e ∧ (ff = true ↔ ∃ a k, i = .vldff d a k mk) ∧ Holds s.me.geo d.toNat ∧
      exec i s = .next (u.landLoad ff d mk (u.readElems (fun s e => s.readElem oc (fun e => some (addr e)) e)
        ((activeOf s.me mk).map fun e => (e, false)))) := by
  obtain ⟨u, e, hr, hb⟩ := vector_runs hv
  have hact := hr.active hv.1 hp mk
  obtain ⟨a, k, rfl | rfl | ⟨x, rfl⟩ | ⟨x, rfl⟩⟩ := hi <;> cases h <;> rw [← hact]
  · refine ⟨u, e, k, false, hr, by simp, holds_of_legal hv.2.1 rfl (List.mem_cons_self ..), ?_⟩
    rw [← vecLoad_eq, ← unitAddr_eq hr a]
    exact congrArg Host.Outcome.next (hb _)
  · refine ⟨u, e, k, true, hr, by simp, holds_of_legal hv.2.1 rfl (List.mem_cons_self ..), ?_⟩
    rw [← unitAddr_eq hr a]
    refine congrArg Host.Outcome.next ((hb _).trans ?_)
    unfold State.landLoad
    dsimp only
    generalize u.readElems _ (u.me.activeBelow mk u.me.stop) = r
    obtain ⟨t, ds, _ | ⟨f, x⟩⟩ := r
    · rfl
    · simp
  · refine ⟨u, e, k, false, hr, by simp, holds_of_legal hv.2.1 rfl (List.mem_cons_self ..), ?_⟩
    rw [← vecLoad_eq, ← strideAddr_eq hr a x]
    exact congrArg Host.Outcome.next (hb _)
  · refine ⟨u, e, k, false, hr, by simp, holds_of_legal hv.2.1 rfl (List.mem_cons_self ..), ?_⟩
    rw [← vecLoad_eq, ← indexAddr_eq hr hp a x]
    exact congrArg Host.Outcome.next (hb _)

/-! ### To the end -/

/-- Values that the active elements land with are the elements of the register. -/
theorem landLoad_elementsAre {s u t : State} {i : Instr} {e : VqEntry} {ff : Bool} {d : BitVec 6} {mk : BitVec 4}
    {val : Nat → Nat} (hr : Running s u i e) (hcut : s.me.cut = none) (hp : Unpoisoned s.me) (hx : Holds s.me.geo d.toNat)
    (hlen : s.me.len ≤ s.me.geo.vlmax) (ht : L2Only u t) :
    let w := u.landLoad ff d mk (t, (activeOf s.me mk).map (landed val), none)
    ElementsAre { s with l2 := w.l2 } w d s.me.vw mk fun e => (val e, noFlags) := by
  obtain ⟨-, hm, -, -⟩ := id hr
  have htm : t.me = u.me := ht.caches.still.me
  obtain ⟨r, hland, hrm⟩ := landElems_eq (c := t.me) (by rw [htm, hm]; exact hp.2.1) d val (activeOf s.me mk)
  have hrs : r.isSome = true := by
    rw [htm, hm] at hrm
    cases r <;> simp at hrm ⊢
  have hstate : t.me.landElems d ((activeOf s.me mk).map (landed val)) =
      { s.me with pc := pcAfter s, vec := s.me.vec.setElems s.me.geo d.toNat val (activeOf s.me mk), reissue := r } := by
    rw [hland, htm, hm]; rfl
  obtain ⟨h1, h2, h3, h4⟩ := retired_of_running hr ht (c := s.me) rfl
    (s.me.vec.setElems s.me.geo d.toNat val (activeOf s.me mk)) hrs noFlags
  have hstop : u.me.stop = s.me.len := by
    rw [stop_of_uncut (by rw [hm]; exact hcut), hm]; rfl
  dsimp only
  rw [State.landLoad, hstate, State.commitTo, hstop, if_pos (by rw [State.me_setMe]; exact Nat.le_refl _)]
  rw [h2] at h1 ⊢
  exact elementsAre_of_setElems h1 h3 h4 hx hlen

/-- A load of clean device memory at firmware level runs to its end. -/
theorem laneLoad_elementsAre {s : State} {i : Instr} {d d' : BitVec 6} {mk mk' : BitVec 4} {addr : Nat → Nat}
    (hv : VectorRuns s i) (hlen : s.me.len ≤ s.me.geo.vlmax) (hl : s.agent.level = .firmware) (hpend : s.me.pend = [])
    (hp : Unpoisoned s.me) (h : laneAccess s i = some (d, mk, addr)) (hi : LaneLoad i d' mk')
    (hb : ∀ e ∈ activeOf s.me mk, PlainBytes s (addr e) (s.me.vw / 8)) :
    Reaches (exec i s) fun t => ElementsAre { s with l2 := t.l2 } t d s.me.vw mk
      fun e => (leNat (storedBytes s (addr e) (s.me.vw / 8)), noFlags) := by
  obtain ⟨u, e, oc, ff, hr, -, hx, hexec⟩ := exec_of_laneLoad hv hp h hi
  obtain ⟨ho, hm, -, -⟩ := id hr
  have hsb : ∀ a n, storedBytes u a n = storedBytes s a n := fun a n => List.map_congr_left fun i _ => ho.sameBytes.1 _
  obtain ⟨t, ht, hreads⟩ := readElems_all (s := u) (es := activeOf s.me mk)
    (read := fun s e => s.readElem oc (fun e => some (addr e)) e)
    (val := fun e => leNat (storedBytes s (addr e) (s.me.vw / 8))) fun e he => by
      simp only [← hsb]
      exact readElem_reads (by rw [hm]; exact hpend) (by rw [hr.agent]; exact hl) (by rw [hm]; rfl) rfl
        (laneAccess_lt h e) (by rw [ho.1]; exact hb e he)
  rw [hexec, hreads]
  exact ⟨_, rfl, landLoad_elementsAre hr hv.1 hp hx hlen ht⟩

/-! ### Where a load faults -/

theorem activeOf_sorted (c : Ctx) (mk : BitVec 4) : (activeOf c mk).Pairwise (· < ·) := List.pairwise_lt_range.filter _

/-- A member of a list in ascending order stands behind those below it. -/
theorem sorted_split {l : List Nat} (h : l.Pairwise (· < ·)) {f : Nat} (hf : f ∈ l) :
    ∃ rest, l = (l.filter fun e => decide (e < f)) ++ f :: rest := by
  induction l with
  | nil => cases hf
  | cons a l ih =>
    obtain ⟨ha, hl⟩ := List.pairwise_cons.1 h
    rcases List.mem_cons.1 hf with rfl | hf
    · refine ⟨l, ?_⟩
      have : (f :: l).filter (fun e => decide (e < f)) = [] := List.filter_eq_nil_iff.2 fun e he => by
        rcases List.mem_cons.1 he with rfl | he
        · simp
        · simpa using (ha e he).le
      rw [this]; rfl
    · obtain ⟨rest, hrest⟩ := ih hl hf
      refine ⟨rest, ?_⟩
      rw [List.filter_cons_of_pos (by simpa using ha f hf), List.cons_append, ← hrest]

theorem filter_below_head {l : List Nat} (h : l.Pairwise (· < ·)) {f : Nat} (hf : l.head? = some f) :
    l.filter (fun e => decide (e < f)) = [] := by
  obtain ⟨rest, rfl⟩ := List.head?_eq_some_iff.1 hf
  refine List.filter_eq_nil_iff.2 fun e he => ?_
  rcases List.mem_cons.1 he with rfl | he
  · simp
  · simpa using ((List.pairwise_cons.1 h).1 e he).le

/-- The elements below a fault were loaded, and nothing else: clause of `VectorMemoryFaults`. -/
def LoadedBelow (s t : State) (d : BitVec 6) (val : Nat → Nat) (below : List Nat) : Prop :=
  (∀ e, e < 512 / s.me.vw * s.me.geo.g * s.me.geo.rpr → (t.me.vec.elem s.me.geo s.me.vw d.toNat e).1 =
    if below.contains e then val e % 2 ^ s.me.vw else (s.me.vec.elem s.me.geo s.me.vw d.toNat e).1) ∧
  (∀ lane row, row < 64 → (row < d.toNat * s.me.geo.rpr ∨ (d.toNat + 1) * s.me.geo.rpr ≤ row) →
    t.me.vec.row lane row = s.me.vec.row lane row) ∧ SameBytes s t

theorem loadedBelow_of_setElems {s t : State} {d : BitVec 6} {val : Nat → Nat} {below : List Nat}
    (hv : t.me.vec = s.me.vec.setElems s.me.geo d.toNat val below) (hx : Holds s.me.geo d.toNat)
    (hlen : s.me.len ≤ s.me.geo.vlmax) (hbelow : ∀ e ∈ below, e < s.me.len) (hs : SameBytes s t) :
    LoadedBelow s t d val below := by
  have hlt : ∀ e ∈ below, e < s.me.geo.vlmax := fun e he => (hbelow e he).trans_le hlen
  refine ⟨fun e he => ?_, fun lane row hrow hor => ?_, hs⟩
  · rw [hv]
    exact (elem_setElems _ _ hx hlt he).trans (if_congr (by simp) rfl rfl)
  · rw [hv]
    exact row_setElems _ _ hx hlt hrow hor

theorem L2Only.sameBytes {s t : State} (h : L2Only s t) : SameBytes s t := by rw [h]; exact ⟨fun _ => rfl, fun _ => rfl⟩

theorem SameBytes.trans {s t u : State} (h : SameBytes s t) (k : SameBytes t u) : SameBytes s u :=
  ⟨fun l => (k.1 l).trans (h.1 l), fun l => (k.2 l).trans (h.2 l)⟩

/-- The state that a load faults in: the elements below the fault are written. -/
theorem landed_state {s u t : State} {i : Instr} {e : VqEntry} (d : BitVec 6) (val : Nat → Nat) (below : List Nat)
    (hr : Running s u i e) (hp : Unpoisoned s.me) (hi : ∀ e, s.me.reissue = some e → e.instr = i ∧ e.begun = none)
    (ht : L2Only u t) : ∃ r : Option VqEntry, r.isSome = true ∧
      t.setMe (t.me.landElems d (below.map (landed val))) = t.setMe { s.me with
        pc := pcAfter s, vec := s.me.vec.setElems s.me.geo d.toNat val below, reissue := r } ∧
      AtInstr s (t.setMe (t.me.landElems d (below.map (landed val)))) i ∧
      SameBytes s (t.setMe (t.me.landElems d (below.map (landed val)))) := by
  obtain ⟨ho, hm, -, -⟩ := id hr
  obtain ⟨hc1, hc2, -, hc4⟩ := hr.atInstr hi
  have htm : t.me = u.me := ht.caches.still.me
  obtain ⟨r, hland, hrm⟩ := landElems_eq (c := t.me) (by rw [htm, hm]; exact hp.2.1) d val below
  have hstate : t.me.landElems d (below.map (landed val)) =
      { s.me with pc := pcAfter s, vec := s.me.vec.setElems s.me.geo d.toNat val below, reissue := r } := by
    rw [hland, htm, hm]; rfl
  refine ⟨r, ?_, by rw [hstate], ⟨?_, fun g hg => ?_, ?_, ?_⟩, ?_⟩
  · rw [htm, hm] at hrm
    cases r <;> simp at hrm ⊢
  · rw [State.setMe_cur, ht.caches.still.2, hc1]
  · rw [State.ctx_setMe_ne _ _ (by rw [ht.caches.still.2, hc1]; exact hg), ht.caches.still.ctx]
    exact hc2 g hg
  · rw [State.me_setMe, hstate]
  · rw [State.me_setMe, hstate]
    rw [htm] at hrm
    cases hq : r with
    | none => rw [hq] at hrm; rw [hm] at hrm; simp at hrm
    | some q =>
      rw [hm] at hrm hc4
      simp only [hq, Option.map_some, Option.some.injEq, Prod.mk.injEq] at hrm hc4 ⊢
      exact ⟨hrm.1.trans hc4.1, hrm.2.1.trans hc4.2⟩
  · exact (ho.sameBytes.trans ht.sameBytes).trans (onlyMe_setMe _ _).sameBytes

theorem lt_len_of_below {c : Ctx} {mk : BitVec 4} {f : Nat} {below : List Nat}
    (h : (activeOf c mk).filter (fun e => decide (e < f)) = below) : ∀ e ∈ below, e < c.len := fun e he => by
  obtain ⟨he, -⟩ := List.mem_filter.1 (h ▸ he)
  exact (mem_activeOf.1 he).2.1

/-- A load may shorten VL where an active element lies below the fault (R210). -/
theorem shorten_iff {c : Ctx} {v : VecState} (hv : v = { c.vec with rows := v.rows }) (mk : BitVec 4) {f : Nat}
    (hf : f < c.len) : ((List.range (f - c.start)).any fun i => (v.selects mk (c.start + i)).1) = true ↔
      ((activeOf c mk).filter fun e => decide (e < f)) ≠ [] := by
  have hsel : ∀ e, v.selects mk e = c.vec.selects mk e := fun e => by rw [hv]; rfl
  simp only [hsel, List.any_eq_true, List.mem_range]
  constructor
  · rintro ⟨i, hi, h⟩
    exact List.ne_nil_of_mem (List.mem_filter.2 ⟨mem_activeOf.2 ⟨Nat.le_add_right .., by omega, h⟩, by simp; omega⟩)
  · intro h
    obtain ⟨e, he⟩ := List.exists_mem_of_ne_nil _ h
    obtain ⟨he, hlt⟩ := List.mem_filter.1 he
    obtain ⟨hs, -, hsel⟩ := mem_activeOf.1 he
    have := of_decide_eq_true hlt
    exact ⟨e - c.start, by omega, by rwa [Nat.add_sub_cancel' hs]⟩

/-- A running instruction that has not been interrupted begins at VSTART. -/
theorem Running.first {s u : State} {i : Instr} {e : VqEntry} (hr : Running s u i e)
    (hi : ∀ e, s.me.reissue = some e → e.instr = i ∧ e.begun = none) :
    (u.me.reissue.bind (·.begun)).getD u.me.start = s.me.start := by
  obtain ⟨-, hm, -, hr⟩ := hr
  rw [hm]
  rcases hr with hr | ⟨-, -, -, -, hb, -⟩
  · simp [(hi e hr).2, Ctx.start]
  · simp [hb, Ctx.start]

/-- A load whose element faults, and that does not shorten VL, takes the trap of the fault at the element, with the elements
below it loaded. -/
theorem landLoad_fault {s u t : State} {i : Instr} {e : VqEntry} {ff : Bool} {d : BitVec 6} {mk : BitVec 4}
    {val : Nat → Nat} {below : List Nat} {f : Nat} {x : AccFault} (hr : Running s u i e) (hp : Unpoisoned s.me)
    (hi : ∀ e, s.me.reissue = some e → e.instr = i ∧ e.begun = none) (hx : Holds s.me.geo d.toNat)
    (hlen : s.me.len ≤ s.me.geo.vlmax) (hf : f < s.me.len)
    (hbelow : (activeOf s.me mk).filter (fun e => decide (e < f)) = below)
    (hff : ff = true → below = []) (ht : L2Only u t) (hc : TranslationCause x.fault.cause) (hh : x.fault.cause ≠ heldCause)
    (hd : (s.me.trapSet (faultLevel s x.fault.cause)).regs.depth ≠ 2) :
    let w := u.landLoad ff d mk (t, below.map (landed val), some (f, x))
    LoadedBelow s w d val below ∧ w.me.vec = s.me.vec.setElems s.me.geo d.toNat val below ∧ w.me.pend = s.me.pend ∧
    w.me.vstart = BitVec.ofNat 64 f ∧
    VectorTrapped s w i x.fault.cause (BitVec.ofNat 64 x.addr) (telemOf .load (some f) x.fault)
      (if 0x085 ≤ x.fault.cause ∧ x.fault.cause ≤ 0x087 then BitVec.ofNat 52 x.fault.gpa else 0) := by
  obtain ⟨r, hrs, hstate, hat, hsb⟩ := landed_state d val below hr hp hi ht
  have hvm := congrArg State.me hstate
  rw [State.me_setMe t { s.me with pc := pcAfter s, vec := s.me.vec.setElems s.me.geo d.toNat val below, reissue := r }] at hvm
  rw [State.landLoad, hr.first hi]
  dsimp only
  generalize t.setMe (t.me.landElems d (below.map (landed val))) = v at hat hsb hvm
  rw [if_neg]
  · obtain ⟨h1, ⟨h2, -, h3, h4, -⟩, h5⟩ := faultAt_vectorTrapped hat .load f hc hh hd
    have hvec : (v.faultAt noFlags .load f x).me.vec = s.me.vec.setElems s.me.geo d.toNat val below := by rw [h3, hvm]
    exact ⟨loadedBelow_of_setElems hvec hx hlen (lt_len_of_below hbelow) (hsb.trans h2), hvec, by rw [h4, hvm], h5, h1⟩
  · rintro ⟨h1, h2, -⟩
    have hv : v.me.vec = { s.me.vec with rows := v.me.vec.rows } := by rw [hvm]; exact setElems_rest _ _ _ _ _
    exact (shorten_iff hv mk hf).1 h2 (hbelow.trans (hff h1))

/-- A load that may shorten VL does so where its fault lies past its first active element. -/
theorem landLoad_shortens {s u t : State} {i : Instr} {e : VqEntry} {d : BitVec 6} {mk : BitVec 4}
    {val : Nat → Nat} {below : List Nat} {f : Nat} {x : AccFault} (hr : Running s u i e) (hp : Unpoisoned s.me)
    (hi : ∀ e, s.me.reissue = some e → e.instr = i ∧ e.begun = none) (hx : Holds s.me.geo d.toNat)
    (hlen : s.me.len ≤ s.me.geo.vlmax) (hf : f < s.me.len)
    (hbelow : (activeOf s.me mk).filter (fun e => decide (e < f)) = below) (hne : below ≠ []) (ht : L2Only u t)
    (hh : x.fault.cause ≠ heldCause) :
    let w := u.landLoad true d mk (t, below.map (landed val), some (f, x))
    LoadedBelow s w d val below ∧ Retired { s with l2 := w.l2 } w { s.me with vl := BitVec.ofNat 64 f } noFlags := by
  obtain ⟨r, hrs, hstate, hat, hsb⟩ := landed_state d val below hr hp hi ht
  rw [State.landLoad, hr.first hi]
  dsimp only
  rw [hstate, if_pos]
  · rw [State.me_setMe, setMe_setMe]
    obtain ⟨h1, h2, h3, -⟩ := retired_of_running hr ht (c := { s.me with vl := BitVec.ofNat 64 f }) rfl
      (s.me.vec.setElems s.me.geo d.toNat val below) hrs noFlags
    refine ⟨loadedBelow_of_setElems h3 hx hlen (lt_len_of_below hbelow) ?_, h1⟩
    generalize State.retireVec _ _ = w at h1
    have := h1.1.sameBytes
    exact this
  · refine ⟨rfl, (shorten_iff ?_ mk hf).2 (hbelow ▸ hne), hh⟩
    rw [State.me_setMe]
    exact setElems_rest _ _ _ _ _

/-! ### The faults of the statement (R208, R314, R329) -/

theorem vw_bytes_pos (c : Ctx) : 0 < c.vw / 8 := by
  rcases vw_cases c with h | h | h | h <;> rw [h] <;> decide

/-- An access of the running instruction to one page faults where `pageFault` says. -/
theorem Running.resolve_fault {s u : State} {i : Instr} {e : VqEntry} (hr : Running s u i e) {k : AccKind}
    {a n cause stg lvl gpa : Nat} (ha : a < 2 ^ 64) (hn : 0 < n) (hpage : a % 4096 + n ≤ 4096)
    (hcov : ∀ e ∈ s.tlb, e.covers s.me.fn a = false)
    (h : pageFault s s.agent.level k a = some (cause, stg, lvl, gpa)) :
    ∃ x : MemFault, u.resolve u.agent k a n = (u, .error { fault := x, addr := a }) ∧ TranslationCause x.cause ∧
      FaultIs x cause stg lvl gpa := by
  have hag := hr.agent
  obtain ⟨ho, hm, -, -⟩ := hr
  obtain ⟨x, hx, hf⟩ := page_of_pageFault (s := u) (k := k) ha (by rw [hm, ho.1]; exact hcov) (by
    rw [pageFault_congr ho (by rw [hm]) (by rw [hm]), hag]; exact h)
  exact ⟨x, resolve_error_one ha hn hpage hx, page_cause hx, hf⟩

/-- TELEM of a fault at an element, as the statements write it. -/
def elementTelem (f kind stg lvl : Nat) : Word :=
  BitVec.ofNat 64 (2 ^ 31 + f + kind * 2 ^ 28 + stg * 2 ^ 27 + lvl * 2 ^ 25)

theorem vectorTrapped_of_faultIs {s t : State} {i : Instr} {x : MemFault} {cause stg lvl gpa f : Nat} {k : AccKind} {v : Word}
    (hf : FaultIs x cause stg lvl gpa)
    (h : VectorTrapped s t i x.cause v (telemOf k (some f) x)
      (if 0x085 ≤ x.cause ∧ x.cause ≤ 0x087 then BitVec.ofNat 52 x.gpa else 0)) :
    VectorTrapped s t i cause v (elementTelem f (kindCode k) stg lvl)
      (if 0x085 ≤ cause ∧ cause ≤ 0x087 then BitVec.ofNat 52 gpa else 0) := by
  obtain ⟨rfl, rfl, rfl, hg, -⟩ := hf
  have hgpa : (if 0x085 ≤ x.cause ∧ x.cause ≤ 0x087 then BitVec.ofNat 52 x.gpa else 0) =
      if 0x085 ≤ x.cause ∧ x.cause ≤ 0x087 then BitVec.ofNat 52 gpa else 0 := by
    split
    · next hc => rw [hg hc]
    · rfl
  rw [← hgpa]
  exact h

/-- A load whose first active element faults loads nothing and takes the trap of the fault. -/
theorem laneLoad_firstFault {s : State} {i : Instr} {d d' : BitVec 6} {mk mk' : BitVec 4} {addr : Nat → Nat}
    {f cause stg lvl gpa : Nat} (hv : VectorRuns s i) (hlen : s.me.len ≤ s.me.geo.vlmax) (hpend : s.me.pend = [])
    (hp : Unpoisoned s.me) (hi : ∀ e, s.me.reissue = some e → e.instr = i ∧ e.begun = none)
    (h : laneAccess s i = some (d, mk, addr)) (hL : LaneLoad i d' mk') (hf : (activeOf s.me mk).head? = some f)
    (hpage : addr f % 4096 + s.me.vw / 8 ≤ 4096) (hcov : ∀ e ∈ s.tlb, e.covers s.me.fn (addr f) = false)
    (hpf : pageFault s s.agent.level .load (addr f) = some (cause, stg, lvl, gpa))
    (hd : (s.me.trapSet (faultLevel s cause)).regs.depth ≠ 2) :
    Reaches (exec i s) fun t => t.me.vec = s.me.vec ∧ t.me.pend = [] ∧ SameBytes s t ∧ t.me.vstart = BitVec.ofNat 64 f ∧
      VectorTrapped s t i cause (BitVec.ofNat 64 (addr f)) (elementTelem f 1 stg lvl)
        (if 0x085 ≤ cause ∧ cause ≤ 0x087 then BitVec.ofNat 52 gpa else 0) := by
  obtain ⟨u, e, oc, ff, hr, -, hx, hexec⟩ := exec_of_laneLoad hv hp h hL
  obtain ⟨-, hm, -, -⟩ := id hr
  obtain ⟨x, hres, hc, hfx⟩ := hr.resolve_fault (laneAccess_lt h f) (vw_bytes_pos _) hpage hcov hpf
  obtain ⟨rest, hrest⟩ := List.head?_eq_some_iff.1 hf
  have hread : u.readElem oc (fun e => some (addr e)) f = (u, .error { fault := x, addr := addr f }) := by
    rw [State.readElem]
    dsimp only
    rw [load_of_resolve_error (by rw [hm]; exact hpend) (by rw [hm]; exact hres)]
  have hflt : f < s.me.len := (mem_activeOf.1 (List.mem_of_head? hf)).2.1
  have hbelow := filter_below_head (activeOf_sorted s.me mk) hf
  obtain ⟨⟨-, -, h1⟩, h2, h3, h4, h5⟩ := landLoad_fault (ff := ff) (val := fun _ => 0) (x := { fault := x, addr := addr f })
    hr hp hi hx hlen hflt hbelow (fun _ => rfl) (.refl u) hc (by rw [hfx.1]; exact hfx.2.2.2.2)
    (by rw [show x.cause = cause from hfx.1]; exact hd)
  rw [hexec, hrest, List.map_cons, State.readElems, hread]
  exact ⟨_, rfl, h2, h3.trans hpend, h1, h4, vectorTrapped_of_faultIs (k := .load) hfx h5⟩

/-- At firmware level an element in one page whose address maps nothing faults, from every state that differs in the
second-level caches. -/
theorem resolve_nowhere {s : State} {k : AccKind} {a n : Nat} (hl : s.agent.level = .firmware) (ha : a < 2 ^ 64) (hn : 0 < n)
    (hpage : a % 4096 + n ≤ 4096) (hx : 2 ^ 52 ≤ a ∨ deviceEnd ≤ a ∧ a < peerBase) :
    s.resolve s.agent k a n = (s, .error { fault := { rank := 6, cause := 0x088 }, addr := a }) := by
  refine resolve_error_one ha hn hpage ?_
  rw [State.page, if_pos hl, if_pos (hx.imp_right fun ⟨h1, h2⟩ => by simp [State.unmapped, Nat.not_lt.2 h1, h2])]

/-- A load at firmware level whose reads reach an element that maps nothing: the elements below are read. -/
theorem laneLoad_reads_below {s u : State} {i : Instr} {e : VqEntry} {d : BitVec 6} {mk : BitVec 4} {addr : Nat → Nat} {f : Nat}
    (hr : Running s u i e) (hl : s.agent.level = .firmware) (hpend : s.me.pend = []) (oc : BitVec 4)
    (h : laneAccess s i = some (d, mk, addr)) (hf : f ∈ activeOf s.me mk)
    (hb : ∀ e ∈ activeOf s.me mk, e < f → PlainBytes s (addr e) (s.me.vw / 8))
    (hx : 2 ^ 52 ≤ addr f ∨ deviceEnd ≤ addr f ∧ addr f < peerBase) (hpage : addr f % 4096 + s.me.vw / 8 ≤ 4096) :
    ∃ t, L2Only u t ∧
      u.readElems (fun s e => s.readElem oc (fun e => some (addr e)) e) ((activeOf s.me mk).map fun e => (e, false)) =
        (t, ((activeOf s.me mk).filter fun e => decide (e < f)).map
            (landed fun e => leNat (storedBytes s (addr e) (s.me.vw / 8))),
          some (f, { fault := { rank := 6, cause := 0x088 }, addr := addr f })) := by
  have hag := hr.agent
  obtain ⟨ho, hm, -, -⟩ := hr
  have hsb : ∀ a n, storedBytes u a n = storedBytes s a n := fun a n => List.map_congr_left fun i _ => ho.sameBytes.1 _
  obtain ⟨rest, hrest⟩ := sorted_split (activeOf_sorted s.me mk) hf
  have hread := readElems_fault (s := u) (read := fun s e => s.readElem oc (fun e => some (addr e)) e)
    (val := fun e => leNat (storedBytes s (addr e) (s.me.vw / 8)))
    (es := (activeOf s.me mk).filter fun e => decide (e < f)) (f := f)
    (x := { fault := { rank := 6, cause := 0x088 }, addr := addr f }) (fun e he => by
      obtain ⟨he, hlt⟩ := List.mem_filter.1 he
      simp only [← hsb]
      exact readElem_reads (by rw [hm]; exact hpend) (by rw [hag]; exact hl) (by rw [hm]; rfl) rfl
        (laneAccess_lt h e) (by rw [ho.1]; exact hb e he (of_decide_eq_true hlt)))
    (fun v hv => by
      have hvm : v.me = u.me := hv.caches.still.me
      have hva : v.agent = u.agent := by rw [hv]; rfl
      have hw : v.me.vw = s.me.vw := by rw [hvm, hm]; rfl
      rw [State.readElem]
      dsimp only
      rw [hw, load_of_resolve_error (by rw [hvm, hm]; exact hpend)
        (resolve_nowhere (by rw [hva, hag]; exact hl) (laneAccess_lt h f) (vw_bytes_pos _) hpage hx)]) rest
  rw [← hrest] at hread
  exact hread

theorem translationCause_nowhere : TranslationCause 0x088 := by unfold TranslationCause; decide

/-- A load whose later element maps nothing traps there with the elements below it loaded, unless it shortens VL. -/
theorem laneLoad_laterFault {s : State} {i : Instr} {d d' : BitVec 6} {mk mk' : BitVec 4} {addr : Nat → Nat} {f : Nat}
    (hv : VectorRuns s i) (hlen : s.me.len ≤ s.me.geo.vlmax) (hpend : s.me.pend = []) (hp : Unpoisoned s.me)
    (hi : ∀ e, s.me.reissue = some e → e.instr = i ∧ e.begun = none) (h : laneAccess s i = some (d, mk, addr))
    (hL : LaneLoad i d' mk') (hl : s.agent.level = .firmware) (hf : f ∈ activeOf s.me mk)
    (hb : ∀ e ∈ activeOf s.me mk, e < f → PlainBytes s (addr e) (s.me.vw / 8))
    (hx : 2 ^ 52 ≤ addr f ∨ deviceEnd ≤ addr f ∧ addr f < peerBase) (hpage : addr f % 4096 + s.me.vw / 8 ≤ 4096)
    {below : List Nat} (hbelow : (activeOf s.me mk).filter (fun e => decide (e < f)) = below) :
    ((below = [] ∨ ∀ a k, i ≠ .vldff d a k mk) → s.me.firm.regs.depth ≠ 2 → Reaches (exec i s) fun t =>
      LoadedBelow s t d (fun e => leNat (storedBytes s (addr e) (s.me.vw / 8))) below ∧ t.me.vstart = BitVec.ofNat 64 f ∧
      VectorTrapped s t i 0x088 (BitVec.ofNat 64 (addr f)) (elementTelem f 1 0 0) 0) ∧
    (∀ a k, i = .vldff d a k mk → below ≠ [] → Reaches (exec i s) fun t =>
      LoadedBelow s t d (fun e => leNat (storedBytes s (addr e) (s.me.vw / 8))) below ∧
      Retired { s with l2 := t.l2 } t { s.me with vl := BitVec.ofNat 64 f } noFlags) := by
  obtain ⟨u, e, oc, ff, hr, hff, hxd, hexec⟩ := exec_of_laneLoad hv hp h hL
  obtain ⟨t, ht, hread⟩ := laneLoad_reads_below hr hl hpend oc h hf hb hx hpage
  rw [hexec, hread, hbelow]
  have hflt : f < s.me.len := (mem_activeOf.1 hf).2.1
  refine ⟨fun hne hd => ?_, fun a k hvf hne => ?_⟩
  · obtain ⟨h1, -, -, h4, h5⟩ := landLoad_fault (ff := ff)
      (val := fun e => leNat (storedBytes s (addr e) (s.me.vw / 8)))
      (x := { fault := { rank := 6, cause := 0x088 }, addr := addr f }) hr hp hi hxd hlen hflt hbelow
      (fun hf => hne.resolve_right fun hn => by obtain ⟨a, k, ha⟩ := hff.1 hf; exact hn a k ha) ht translationCause_nowhere
      (by simp [heldCause]) hd
    exact ⟨_, rfl, h1, h4, h5⟩
  · obtain rfl : ff = true := hff.2 ⟨a, k, hvf⟩
    exact ⟨_, rfl, landLoad_shortens hr hp hi hxd hlen hflt hbelow hne ht (by simp [heldCause])⟩

end Sys2Proof.Machine
end

section
/-! PROOFS. Element stores: their checks, the stores that full rows join to, and what they put. -/

open Sys2Proof Sys2Proof.Machine

namespace Sys2Proof.Machine

/-! ### Runs of bytes put one after the other -/

/-- The write of an element store. -/
def StoreElem.write (t : StoreElem) : Nat × List Byte := (t.addr, t.bytes)

theorem storedAfter_cons (w : Nat × List Byte) (ws : List (Nat × List Byte)) (l : Nat) (old : Byte) :
    storedAfter (w :: ws) l old = storedAfter ws l (storedAfter [w] l old) := rfl

/-- Where a later run holds a location, what stood there before does not matter. -/
theorem storedAfter_covered {ws : List (Nat × List Byte)} {l : Nat} (h : ∃ w ∈ ws, w.1 ≤ l ∧ l < w.1 + w.2.length)
    (x y : Byte) : storedAfter ws l x = storedAfter ws l y := by
  induction ws generalizing x y with
  | nil => obtain ⟨w, hw, -⟩ := h; cases hw
  | cons w ws ih =>
    rw [storedAfter_cons w ws l x, storedAfter_cons w ws l y]
    by_cases hw : w.1 ≤ l ∧ l < w.1 + w.2.length
    · rw [show storedAfter [w] l x = _ from if_pos hw, show storedAfter [w] l y = _ from if_pos hw]
    · obtain ⟨v, hv, hc⟩ := h
      rcases List.mem_cons.1 hv with rfl | hv
      · exact absurd hc hw
      · exact ih ⟨v, hv, hc⟩ _ _

/-- The byte that stands at a location is that of the last run that holds it. -/
theorem elementsStored_iff {s t : State} {es : List Nat} {addr : Nat → Nat} {bytes : Nat → List Byte} :
    ElementsStored s t es addr bytes ↔
      ∀ l, t.stored l = storedAfter (es.map fun e => (addr e, bytes e)) l (s.stored l) := by
  refine forall_congr' fun l => ?_
  suffices h : (match (es.filter fun e => decide (addr e ≤ l ∧ l < addr e + (bytes e).length)).getLast? with
      | some e => ((bytes e)[l - addr e]?).getD 0
      | none => s.stored l) = storedAfter (es.map fun e => (addr e, bytes e)) l (s.stored l) from Eq.congr rfl h
  induction es using List.reverseRecOn with
  | nil => rfl
  | append_singleton es e ih =>
    rw [List.map_append, storedAfter_append, ← ih, List.filter_append]
    by_cases he : addr e ≤ l ∧ l < addr e + (bytes e).length
    · rw [List.filter_cons_of_pos (by simpa using he), List.filter_nil, List.getLast?_append_of_ne_nil _ (by simp)]
      exact (if_pos he).symm
    · rw [List.filter_cons_of_neg (by simpa using he), List.filter_nil, List.append_nil]
      exact (if_neg he).symm

/-- Runs of one length that follow one another are one run. -/
theorem storedAfter_contiguous {ts : List StoreElem} {a n : Nat} (hn : ∀ t ∈ ts, t.bytes.length = n)
    (ha : ∀ i (h : i < ts.length), ts[i].addr = a + n * i) (l : Nat) (old : Byte) :
    storedAfter (ts.map StoreElem.write) l old = storedAfter [(a, ts.flatMap (·.bytes))] l old := by
  induction ts generalizing a old with
  | nil => exact (if_neg (by simp)).symm
  | cons t ts ih =>
    have h0 : t.addr = a := ha 0 (Nat.succ_pos _)
    have hlen := hn t (List.mem_cons_self ..)
    have hrest := ih (a := a + n) (fun u hu => hn u (List.mem_cons_of_mem _ hu)) (fun i hi => by
      have := ha (i + 1) (by simpa using hi)
      rw [List.getElem_cons_succ] at this
      rw [this, Nat.mul_add]; omega) (storedAfter [t.write] l old)
    rw [List.map_cons, storedAfter_cons, hrest, List.flatMap_cons, ← storedAfter_cons,
      ← storedAfter_split a n _ (by rw [List.length_append]; omega), List.take_left' hlen, List.drop_left' hlen,
      StoreElem.write, h0]

theorem PlainBytes.append {s : State} {a m n : Nat} (h : PlainBytes s a m) (k : PlainBytes s (a + m) n) :
    PlainBytes s a (m + n) := fun i hi => by
  rcases Nat.lt_or_ge i m with him | him
  · exact h i him
  · have := k (i - m) (by omega)
    rwa [show a + m + (i - m) = a + i by omega] at this

theorem plainBytes_contiguous {s : State} {ts : List StoreElem} {a n : Nat} (hn : ∀ t ∈ ts, t.bytes.length = n)
    (hp : ∀ t ∈ ts, PlainBytes s t.addr n) (ha : ∀ i (h : i < ts.length), ts[i].addr = a + n * i) :
    PlainBytes s a (ts.flatMap (·.bytes)).length := by
  induction ts generalizing a with
  | nil => exact fun i hi => absurd hi (by simp)
  | cons t ts ih =>
    have h0 : t.addr = a := ha 0 (Nat.succ_pos _)
    have hlen := hn t (List.mem_cons_self ..)
    rw [List.flatMap_cons, List.length_append, hlen]
    refine (h0 ▸ hp t (List.mem_cons_self ..)).append (ih (fun u hu => hn u (List.mem_cons_of_mem _ hu))
      (fun u hu => hp u (List.mem_cons_of_mem _ hu)) fun i hi => ?_)
    have := ha (i + 1) (by simpa using hi)
    rw [List.getElem_cons_succ] at this
    rw [this, Nat.mul_add]; omega

/-! ### Stores that rows join to (R338) -/

/-- A checked store of clean bytes to clean device memory at their own place. -/
def Storable (s : State) (t : StoreElem × List Part) : Prop :=
  t.1.poison = false ∧ PlainBytes s t.1.addr t.1.bytes.length ∧
  ∃ ps, t.2 = ps.map ownPart ∧ Covers t.1.bytes.length t.1.addr ps

/-- The writes of checked stores. -/
def writesOf (ts : List (StoreElem × List Part)) : List (Nat × List Byte) := ts.map fun t => t.1.write

/-- The elements of a row are stored as they would be one by one. -/
theorem joinRow_storable {s : State} {n : Nat} {ts : List (StoreElem × List Part)}
    (h : ∀ t ∈ ts, Storable s t ∧ t.1.bytes.length = n) :
    (∀ t ∈ joinRow ts, Storable s t) ∧
    ∀ l old, storedAfter (writesOf (joinRow ts)) l old = storedAfter (writesOf ts) l old := by
  unfold joinRow
  split
  · next t p ps rest =>
    dsimp only
    split
    · next hc =>
      obtain ⟨hlen, hal, hord, -⟩ := hc
      obtain ⟨⟨hpo, -, qs, hqs, hcov⟩, hn⟩ := h _ (List.mem_cons_self ..)
      dsimp only at hqs hcov hn hpo
      set us := ((t, p :: ps) :: rest).map (·.1) with hus
      have hbytes : (((t, p :: ps) :: rest).flatMap fun u => u.1.bytes) = us.flatMap (·.bytes) := by
        rw [hus, List.flatMap_map]
      have haddr : ∀ i (hi : i < us.length), us[i].addr = t.addr + n * i := fun i hi => by
        have hi' : i < ((t, p :: ps) :: rest).length := by rwa [hus, List.length_map] at hi
        have := List.all_eq_true.1 hord (((t, p :: ps) :: rest)[i], i)
          (List.mem_iff_getElem.2 ⟨i, by simpa using hi', by simp⟩)
        rw [← hn, List.getElem_map]
        exact beq_iff_eq.1 this
      have hlens : ∀ u ∈ us, u.bytes.length = n := fun u hu => by
        obtain ⟨v, hv, rfl⟩ := List.mem_map.1 hu
        exact (h v hv).2
      have hplain : ∀ u ∈ us, PlainBytes s u.addr n := fun u hu => by
        obtain ⟨v, hv, rfl⟩ := List.mem_map.1 hu
        obtain ⟨⟨-, hb, -⟩, hvn⟩ := h v hv
        rwa [hvn] at hb
      rw [hbytes] at hlen ⊢
      refine ⟨fun v hv => ?_, fun l old => ?_⟩
      · obtain rfl := List.mem_singleton.1 hv
        refine ⟨hpo, plainBytes_contiguous hlens hplain haddr, [(t.addr, 64)], ?_, rfl, Nat.succ_pos 63, by simp [hlen], ?_⟩
        · cases qs with
          | nil => cases hqs
          | cons q qs =>
            rw [List.map_cons, List.cons.injEq] at hqs
            rw [hqs.1, List.map_singleton, ← show q.1 = t.addr from hcov.1]
            rfl
        · exact show (us.flatMap (·.bytes)).length - 64 = 0 by omega
      · refine Eq.trans ?_ (Eq.trans (storedAfter_contiguous hlens haddr l old).symm ?_)
        · rfl
        · rw [hus, List.map_map]; rfl
    · exact ⟨fun v hv => (h v hv).1, fun _ _ => rfl⟩
  · exact ⟨fun v hv => (h v hv).1, fun _ _ => rfl⟩

theorem joinRows_storable {s : State} {n k : Nat} {row ts : List (StoreElem × List Part)}
    (hr : ∀ t ∈ row, Storable s t ∧ t.1.bytes.length = n) (h : ∀ t ∈ ts, Storable s t ∧ t.1.bytes.length = n) :
    (∀ t ∈ joinRows k row ts, Storable s t) ∧
    ∀ l old, storedAfter (writesOf (joinRows k row ts)) l old = storedAfter (writesOf (row ++ ts)) l old := by
  induction ts generalizing row with
  | nil => rw [joinRows, List.append_nil]; exact joinRow_storable hr
  | cons t ts ih =>
    have ht := h t (List.mem_cons_self ..)
    have hts := fun u hu => h u (List.mem_cons_of_mem _ hu)
    rw [joinRows]
    split
    · obtain ⟨h1, h2⟩ := ih (row := row ++ [t]) (fun u hu => (List.mem_append.1 hu).elim (hr u) fun hu =>
        List.mem_singleton.1 hu ▸ ht) hts
      exact ⟨h1, fun l old => by rw [h2, List.append_assoc]; rfl⟩
    · obtain ⟨h1, h2⟩ := joinRow_storable hr
      obtain ⟨h3, h4⟩ := ih (row := [t]) (fun u hu => List.mem_singleton.1 hu ▸ ht) hts
      refine ⟨fun u hu => (List.mem_append.1 hu).elim (h1 u) (h3 u), fun l old => ?_⟩
      rw [writesOf, List.map_append, storedAfter_append, ← writesOf, ← writesOf, h2, h4, writesOf, writesOf, writesOf,
        ← storedAfter_append, ← List.map_append]
      rfl

/-! ### Checked stores made -/

/-- Pending stores, clean, that together put the bytes of a list of writes. -/
def CleanPend (s : State) (qs : List Pending) (ws : List (Nat × List Byte)) : Prop :=
  (∀ q ∈ qs, CleanPiece s q) ∧ ∀ l old, storedAfter (writes qs) l old = storedAfter ws l old

theorem CleanPend.append {s : State} {ps qs : List Pending} {ws vs : List (Nat × List Byte)} (h : CleanPend s ps ws)
    (k : CleanPend s qs vs) : CleanPend s (ps ++ qs) (ws ++ vs) := by
  refine ⟨fun q hq => (List.mem_append.1 hq).elim (h.1 q) (k.1 q), fun l old => ?_⟩
  rw [writes, List.map_append, storedAfter_append, storedAfter_append, ← writes, ← writes, h.2, k.2]

/-- What is clean does not depend on a context. -/
theorem OnlyMe.plainBytes {s t : State} (h : OnlyMe s t) (a n : Nat) : PlainBytes t a n ↔ PlainBytes s a n := by
  rw [h.1]; exact Iff.rfl

theorem OnlyMe.cleanPend {s t : State} (h : OnlyMe s t) {qs : List Pending} {ws : List (Nat × List Byte)} :
    CleanPend t qs ws ↔ CleanPend s qs ws := by
  unfold CleanPend CleanPiece
  simp only [h.plainBytes]

theorem OnlyMe.storable {s t : State} (h : OnlyMe s t) (x : StoreElem × List Part) : Storable t x ↔ Storable s x := by
  unfold Storable
  rw [h.plainBytes]

/-- Checked stores enter their pieces as pending, and do nothing else. -/
theorem storeAll_clean {s : State} {ts : List (StoreElem × List Part)} (h : ∀ t ∈ ts, Storable s t) {w : State}
    (hw : ts.foldl (fun s t => s.storeParts s.cur .lane t.1.key t.2 t.1.bytes t.1.poison) s = w) :
    ∃ qs, OnlyMe s w ∧ w.me = { s.me with pend := s.me.pend ++ qs } ∧ CleanPend s qs (writesOf ts) := by
  induction ts generalizing s with
  | nil =>
    subst hw
    exact ⟨[], .refl s, by rw [List.append_nil]; rfl, fun _ hq => (List.not_mem_nil hq).elim, fun _ _ => rfl⟩
  | cons t ts ih =>
    obtain ⟨hpo, hb, ps, hps, hcov⟩ := h t (List.mem_cons_self ..)
    obtain ⟨qs, hq, hqs⟩ := storeParts_clean (g := s.cur) .lane t.1.key hcov hb (by simp)
    rw [List.foldl_cons, hps, hpo, hq] at hw
    have ho : OnlyMe s (s.setCtx s.cur { s.ctx s.cur with pend := (s.ctx s.cur).pend ++ qs }) := onlyMe_setMe s _
    obtain ⟨rs, hor, hr, hrs⟩ := ih (fun u hu => (ho.storable u).2 (h u (List.mem_cons_of_mem _ hu))) hw
    rw [ho.cleanPend] at hrs
    refine ⟨qs ++ rs, ho.trans hor, ?_, ?_⟩
    · rw [hr, show State.me (s.setCtx s.cur { s.ctx s.cur with pend := (s.ctx s.cur).pend ++ qs }) =
        { s.me with pend := s.me.pend ++ qs } from State.me_setMe s _, List.append_assoc]
    · exact CleanPend.append ⟨fun q hq => (hqs.1 q hq).1, hqs.2⟩ hrs

/-- The stores of checked elements, by rows, are pending afterwards and put what they put one by one. -/
theorem writeElems_clean {s : State} {n : Nat} {ts : List (StoreElem × List Part)}
    (h : ∀ t ∈ ts, Storable s t ∧ t.1.bytes.length = n) :
    ∃ qs, OnlyMe s (s.writeElems ts) ∧ (s.writeElems ts).me = { s.me with pend := s.me.pend ++ qs } ∧
      CleanPend s qs (writesOf ts) := by
  obtain ⟨hj, hw⟩ := joinRows_storable (k := s.me.geo.epr) (row := []) (fun _ hu => (List.not_mem_nil hu).elim) h
  obtain ⟨qs, h1, h2, h3, h4⟩ := storeAll_clean hj rfl
  exact ⟨qs, h1, h2, h3, fun l old => (h4 l old).trans (hw l old)⟩

/-! ### The checks of a store (R208) -/

/-- The store of an element. -/
def storeOf (c : Ctx) (d : BitVec 6) (oc : BitVec 4) (addr : Nat → Nat) (e : Nat) : StoreElem :=
  { e := e, addr := addr e, bytes := leBytes (c.vw / 8) (c.vec.elem c.geo c.vw d.toNat e).1, poison := false
    key := c.portKey oc e }

/-- The store of an element with where it goes. -/
def checkedOf (c : Ctx) (d : BitVec 6) (oc : BitVec 4) (addr : Nat → Nat) (e : Nat) : StoreElem × List Part :=
  (storeOf c d oc addr e, (partsOf (addr e) (c.vw / 8)).map ownPart)

theorem checkElems_append {s : State} {c : Ctx} {d : BitVec 6} {oc : BitVec 4} {addr : Nat → Nat} {es : List Nat}
    (hl : s.agent.level = .firmware) (h : ∀ e ∈ es, addr e < 2 ^ 64 ∧ PlainBytes s (addr e) (c.vw / 8))
    (rest : List StoreElem) :
    s.checkElems (es.map (storeOf c d oc addr) ++ rest) =
      ((s.checkElems rest).1, es.map (checkedOf c d oc addr) ++ (s.checkElems rest).2.1, (s.checkElems rest).2.2) := by
  induction es with
  | nil => rfl
  | cons e es ih =>
    obtain ⟨h64, hb⟩ := h e (List.mem_cons_self ..)
    have hlen : (storeOf c d oc addr e).bytes.length = c.vw / 8 := leBytes_length _ _
    have hw : s.beforeWalk s.cur s.agent .store (addr e) (c.vw / 8) = s := by rw [State.beforeWalk, if_pos hl]
    rw [List.map_cons, List.cons_append, State.checkElems, hlen, show (storeOf c d oc addr e).addr = addr e from rfl, hw,
      resolve_plain .store hl h64 hb]
    dsimp only
    rw [ih fun f hf => h f (List.mem_cons_of_mem _ hf)]
    rfl

theorem checkElems_all {s : State} {c : Ctx} {d : BitVec 6} {oc : BitVec 4} {addr : Nat → Nat} {es : List Nat}
    (hl : s.agent.level = .firmware) (h : ∀ e ∈ es, addr e < 2 ^ 64 ∧ PlainBytes s (addr e) (c.vw / 8)) :
    s.checkElems (es.map (storeOf c d oc addr)) = (s, es.map (checkedOf c d oc addr), none) := by
  have := checkElems_append (d := d) (oc := oc) hl h []
  simpa [State.checkElems] using this

/-- Elements checked up to the one that faults. -/
theorem checkElems_fault {s : State} {c : Ctx} {d : BitVec 6} {oc : BitVec 4} {addr : Nat → Nat} {es : List Nat} {f : Nat}
    {x : AccFault} (hl : es ≠ [] → s.agent.level = .firmware)
    (h : ∀ e ∈ es, addr e < 2 ^ 64 ∧ PlainBytes s (addr e) (c.vw / 8)) (hp : s.me.pend = [])
    (hf : s.resolve s.agent .store (addr f) (c.vw / 8) = (s, .error x)) (rest : List Nat) :
    s.checkElems ((es ++ f :: rest).map (storeOf c d oc addr)) = (s, es.map (checkedOf c d oc addr), some (f, x)) := by
  have hone : s.checkElems ((f :: rest).map (storeOf c d oc addr)) = (s, [], some (f, x)) := by
    have hlen : (storeOf c d oc addr f).bytes.length = c.vw / 8 := leBytes_length _ _
    rw [List.map_cons, State.checkElems, hlen, show (storeOf c d oc addr f).addr = addr f from rfl, beforeWalk_nil hp, hf]
    rfl
  rcases eq_or_ne es [] with rfl | hne
  · exact hone
  · rw [List.map_append, checkElems_append (hl hne) h, hone]
    simp

theorem checkedOf_storable {s : State} {c : Ctx} (d : BitVec 6) (oc : BitVec 4) {addr : Nat → Nat} {e : Nat}
    (h : addr e < 2 ^ 64 ∧ PlainBytes s (addr e) (c.vw / 8)) :
    Storable s (checkedOf c d oc addr e) ∧ (checkedOf c d oc addr e).1.bytes.length = c.vw / 8 := by
  obtain ⟨h64, hb⟩ := h
  have hlen : (checkedOf c d oc addr e).1.bytes.length = c.vw / 8 := leBytes_length _ _
  refine ⟨⟨rfl, ?_, _, rfl, ?_⟩, hlen⟩
  · rw [hlen]; exact hb
  · rw [hlen]; exact partsOf_covers (hb.end_le h64)

/-- The stores of the active elements of a running instruction. -/
theorem storeElems_eq {s u : State} {i : Instr} {e : VqEntry} (hr : Running s u i e) (hc : s.me.cut = none)
    (hp : Unpoisoned s.me) (d : BitVec 6) (oc mk : BitVec 4) (addr : Nat → Nat) :
    u.me.storeElems d oc mk (fun e => some (addr e)) u.me.stop = (activeOf s.me mk).map (storeOf s.me d oc addr) := by
  have hact := hr.active hc hp mk
  obtain ⟨-, hm, -, -⟩ := hr
  have hv : u.me.vec = s.me.vec ∧ u.me.geo = s.me.geo ∧ u.me.vw = s.me.vw := by rw [hm]; exact ⟨rfl, rfl, rfl⟩
  obtain ⟨hvec, hgeo, hvw⟩ := hv
  rw [Ctx.storeElems, hact, List.filterMap_map, ← List.filterMap_eq_map]
  refine List.filterMap_congr fun e _ => ?_
  simp only [Function.comp_apply, Option.map_some, storeOf, Ctx.portKey, hvec, hgeo, hvw, elem_clean hp.2.1, Bool.or_self]

/-- A store of unpoisoned elements consumes nothing. -/
theorem storePoison_zero {c : Ctx} (h : c.vec.rowPoison = []) (hm : c.vec.maskPoison = []) (d : BitVec 6) (mk : BitVec 4)
    (addr : Nat → Nat) (bound : Nat) : c.storePoison d mk (fun e => some (addr e)) bound = 0 := by
  have hnil : (c.activeBelow mk bound).filter (fun t => t.2 || (some (addr t.1)).isNone ||
      (c.vec.elem c.geo c.vw d.toNat t.1).2) = [] := List.filter_eq_nil_iff.2 fun t ht => by
    obtain ⟨i, -, hi⟩ := List.mem_filterMap.1 ht
    dsimp only at hi
    split at hi
    · cases hi
      simp [elem_clean h, selects_clean hm]
    · cases hi
  rw [Ctx.storePoison, hnil]
  rfl

end Sys2Proof.Machine
end

section
/-! PROOFS. Vector stores, settled: those of VSTX among equal addresses, what a store leaves pending, and where it faults. -/

open Sys2Proof Sys2Proof.Machine

namespace Sys2Proof.Machine

/-! ### The winners among stores at equal addresses (R209) -/

theorem winners_sublist (ts : List StoreElem) : (winners ts).Sublist ts := by
  induction ts with
  | nil => exact .slnil
  | cons t ts ih =>
    rw [winners]
    split
    · exact ih.cons t
    · exact ih.cons_cons t

/-- No two winners share an address. -/
theorem winners_apart (ts : List StoreElem) : (winners ts).Pairwise fun t u => t.addr ≠ u.addr := by
  induction ts with
  | nil => exact .nil
  | cons t ts ih =>
    rw [winners]
    split
    · exact ih
    · next h =>
      refine List.pairwise_cons.2 ⟨fun u hu he => h ?_, ih⟩
      exact List.any_eq_true.2 ⟨u, (winners_sublist ts).subset hu, beq_iff_eq.2 he.symm⟩

/-- Winners of one length put what all the stores put. -/
theorem winners_writes {ts : List StoreElem} {n : Nat} (hn : ∀ t ∈ ts, t.bytes.length = n) (l : Nat) (old : Byte) :
    storedAfter ((winners ts).map StoreElem.write) l old = storedAfter (ts.map StoreElem.write) l old := by
  induction ts generalizing old with
  | nil => rfl
  | cons t ts ih =>
    have ih := ih fun u hu => hn u (List.mem_cons_of_mem _ hu)
    rw [winners, List.map_cons, storedAfter_cons]
    split
    · next h =>
      rw [ih]
      obtain ⟨u, hu, ha⟩ := List.any_eq_true.1 h
      by_cases hc : t.write.1 ≤ l ∧ l < t.write.1 + t.write.2.length
      · refine storedAfter_covered ⟨u.write, List.mem_map_of_mem hu, ?_⟩ _ _
        have h1 : u.write.1 = t.write.1 := beq_iff_eq.1 ha
        have h2 : u.write.2.length = t.write.2.length :=
          (hn u (List.mem_cons_of_mem _ hu)).trans (hn t (List.mem_cons_self ..)).symm
        rwa [h1, h2]
      · exact congrArg _ (if_neg hc).symm
    · rw [List.map_cons, storedAfter_cons, ih]

/-- Of a list with distinct keys, the elements whose key occurs in a sublist are that sublist. -/
theorem filter_keys_of_sublist {α : Type} (key : α → Nat) {ks l : List α} (h : ks.Sublist l) (hd : (l.map key).Nodup) :
    l.filter (fun t => (ks.map key).contains (key t)) = ks := by
  induction h with
  | slnil => rfl
  | @cons ks l t hs ih =>
    rw [List.map_cons, List.nodup_cons] at hd
    have hnot : (ks.map key).contains (key t) = false := by
      rw [List.contains_eq_mem, decide_eq_false_iff_not]
      exact fun hm => hd.1 ((hs.map key).subset hm)
    rw [List.filter_cons_of_neg (by rw [hnot]; decide), ih hd.2]
  | @cons_cons ks l t hs ih =>
    rw [List.map_cons, List.nodup_cons] at hd
    rw [List.filter_cons_of_pos (by simp)]
    refine congrArg (t :: ·) (Eq.trans (List.filter_congr fun u hu => ?_) (ih hd.2))
    have hne : key u ≠ key t := fun he => hd.1 (he ▸ List.mem_map_of_mem hu)
    simp [hne]

/-! ### Overlaps (R209) -/

/-- The bytes held for a location inside a store that none of the others overlaps are its own. -/
theorem bytesFor_apart {n : Nat} {ts : List StoreElem} (hn : ∀ t ∈ ts, t.bytes.length = n)
    (hd : ∀ t ∈ ts, ∀ u ∈ ts, t = u ∨ t.addr + n ≤ u.addr ∨ u.addr + n ≤ t.addr) {t : StoreElem} (ht : t ∈ ts) {i : Nat}
    (hi : i < t.bytes.length) :
    bytesFor ts (t.addr + i) ≠ [] ∧ ∀ b ∈ bytesFor ts (t.addr + i), b = t.bytes[i] := by
  have hown : t.bytes[t.addr + i - t.addr]? = some t.bytes[i] := by
    rw [Nat.add_sub_cancel_left, List.getElem?_eq_getElem hi]
  refine ⟨List.ne_nil_of_mem (List.mem_filterMap.2 ⟨t, ht, (if_pos (Nat.le_add_right ..)).trans hown⟩), fun b hb => ?_⟩
  obtain ⟨u, hu, hub⟩ := List.mem_filterMap.1 hb
  have hlt := hn t ht
  have hlu := hn u hu
  split at hub
  · obtain ⟨hin, -⟩ := List.getElem?_eq_some_iff.1 hub
    rcases hd t ht u hu with rfl | hd | hd
    · exact Option.some.inj (hub.symm.trans hown)
    · omega
    · omega
  · cases hub

/-- Checked stores of one length, no two of which overlap, keep their bytes. -/
theorem settleOverlaps_apart {n : Nat} (k : Nat) {ts : List (StoreElem × List Part)} (hn : ∀ t ∈ ts, t.1.bytes.length = n)
    (hd : ∀ t ∈ ts, ∀ u ∈ ts, t.1 = u.1 ∨ t.1.addr + n ≤ u.1.addr ∨ u.1.addr + n ≤ t.1.addr) :
    settleOverlaps k ts = ts := by
  have hn' : ∀ t ∈ ts.map (·.1), t.bytes.length = n := fun t ht => by
    obtain ⟨u, hu, rfl⟩ := List.mem_map.1 ht
    exact hn u hu
  have hd' : ∀ t ∈ ts.map (·.1), ∀ u ∈ ts.map (·.1), t = u ∨ t.addr + n ≤ u.addr ∨ u.addr + n ≤ t.addr :=
    fun t ht u hu => by
      obtain ⟨t', ht', rfl⟩ := List.mem_map.1 ht
      obtain ⟨u', hu', rfl⟩ := List.mem_map.1 hu
      exact hd t' ht' u' hu'
  refine (List.map_congr_left fun t ht => ?_).trans (List.map_id ts)
  have hbytes : ((List.range t.1.bytes.length).map fun i =>
      ((bytesFor (ts.map (·.1)) (t.1.addr + i))[(Config.freeByte k (t.1.addr + i)).toNat %
        (bytesFor (ts.map (·.1)) (t.1.addr + i)).length]?).getD 0) = t.1.bytes := by
    refine List.ext_getElem (by simp) fun i h1 h2 => ?_
    obtain ⟨hne, hall⟩ := bytesFor_apart hn' hd' (List.mem_map_of_mem ht) h2
    have hlt := Nat.mod_lt (Config.freeByte k (t.1.addr + i)).toNat (List.length_pos_iff.2 hne)
    rw [List.getElem_map, List.getElem_range, List.getElem?_eq_getElem hlt, Option.getD_some]
    exact hall _ (List.getElem_mem hlt)
  exact Prod.ext (by dsimp only; rw [hbytes]; rfl) rfl

/-- The checked stores of VSTX that are performed, with their bytes. -/
def keptStores (k : Nat) (all : List StoreElem) (ts : List (StoreElem × List Part)) : List (StoreElem × List Part) :=
  settleOverlaps k (ts.filter fun t => ((winners all).map (·.e)).contains t.1.e)

/-- Where elements overlap only at equal addresses, VSTX puts what the stores of all its elements put. -/
theorem keptStores_clean {s : State} {c : Ctx} {d : BitVec 6} {oc : BitVec 4} {addr : Nat → Nat} {es : List Nat} (k : Nat)
    (hs : es.Nodup) (h : ∀ e ∈ es, addr e < 2 ^ 64 ∧ PlainBytes s (addr e) (c.vw / 8))
    (hd : ∀ e ∈ es, ∀ q ∈ es, addr e = addr q ∨ addr e + c.vw / 8 ≤ addr q ∨ addr q + c.vw / 8 ≤ addr e) :
    let ts := keptStores k (es.map (storeOf c d oc addr)) (es.map (checkedOf c d oc addr))
    (∀ t ∈ ts, Storable s t ∧ t.1.bytes.length = c.vw / 8) ∧
    ∀ l old, storedAfter (writesOf ts) l old = storedAfter (writesOf (es.map (checkedOf c d oc addr))) l old := by
  set all := es.map (storeOf c d oc addr) with hall
  set ts := (es.map (checkedOf c d oc addr)).filter fun t => ((winners all).map (·.e)).contains t.1.e with hts
  have hfst : ts.map (·.1) = winners all := by
    have hkeys : (all.map (·.e)).Nodup := by rw [hall, List.map_map]; exact (List.map_id es).symm ▸ hs
    have hproj : ∀ p : StoreElem → Bool, ((es.map (checkedOf c d oc addr)).filter fun t => p t.1).map (·.1) = all.filter p :=
      fun p => by rw [hall, List.filter_map, List.filter_map, List.map_map]; rfl
    exact (hproj _).trans (filter_keys_of_sublist (·.e) (winners_sublist all) hkeys)
  have hclean : ∀ t ∈ ts, Storable s t ∧ t.1.bytes.length = c.vw / 8 := fun t ht => by
    obtain ⟨e, he, rfl⟩ := List.mem_map.1 (List.mem_filter.1 ht).1
    exact checkedOf_storable d oc (h e he)
  have hmem : ∀ t ∈ ts, t.1 ∈ winners all := fun t ht => hfst ▸ List.mem_map_of_mem ht
  have hkept : keptStores k all (es.map (checkedOf c d oc addr)) = ts := by
    refine settleOverlaps_apart k (fun t ht => (hclean t ht).2) fun t ht u hu => ?_
    obtain ⟨e, he, het⟩ := List.mem_map.1 ((winners_sublist all).subset (hmem t ht))
    obtain ⟨q, hq, hqu⟩ := List.mem_map.1 ((winners_sublist all).subset (hmem u hu))
    have : Std.Symm fun t u : StoreElem => t.addr ≠ u.addr := ⟨fun _ _ h => h.symm⟩
    have hap := (winners_apart all).forall (hmem t ht) (hmem u hu)
    rw [← het, ← hqu] at hap ⊢
    rcases hd e he q hq with heq | hd
    · exact .inl (by_contra fun hne => hap hne heq)
    · exact .inr hd
  dsimp only
  rw [hkept]
  refine ⟨hclean, fun l old => ?_⟩
  have hw := winners_writes (ts := all) (n := c.vw / 8) (fun t ht => by
    obtain ⟨e, -, rfl⟩ := List.mem_map.1 ht
    exact leBytes_length _ _) l old
  rw [← hfst, List.map_map, hall, List.map_map] at hw
  rw [writesOf, writesOf, List.map_map]
  exact hw

/-! ### What a vector store does with its checks (R207 to R209) -/

/-- A store with the outcome of its checks: which stores it makes, and then its end or its trap. -/
def State.landStore (s : State) (ticks : Bool)
    (settle : Nat → List (StoreElem × List Part) → List (StoreElem × List Part)) (d : BitVec 6) (m : BitVec 4)
    (addr : Nat → Option Nat) (r : State × List (StoreElem × List Part) × Option (Nat × AccFault)) : State :=
  ((if ticks then r.1.tick else r.1).writeElems (settle r.1.freeCount r.2.1)).endStore d m addr s.me.stop r.2.2

/-- A vector store of the element addresses of `laneAccess`. -/
def LaneStore (i : Instr) (d : BitVec 6) (mk : BitVec 4) : Prop :=
  ∃ a k, i = .vst d a k mk ∨ (∃ x, i = .vsts d a k mk x) ∨ ∃ x, i = .vstx d a k mk x

/-- A store runs from the state past its decode: it checks its active elements in order, and stores. -/
theorem exec_of_laneStore {s : State} {i : Instr} {d d' : BitVec 6} {mk mk' : BitVec 4} {addr : Nat → Nat}
    (hv : VectorRuns s i) (hp : Unpoisoned s.me) (h : laneAccess s i = some (d, mk, addr)) (hi : LaneStore i d' mk') :
    ∃ u e oc ticks settle, Running s u i e ∧ (∀ n, settle n [] = []) ∧
      ((settle = fun _ ts => ts) ∨ (∃ a k x, i = .vstx d a k mk x) ∧
        settle = fun n => keptStores n ((activeOf s.me mk).map (storeOf s.me d oc addr))) ∧
      exec i s = .next (u.landStore ticks settle d mk (fun e => some (addr e))
        (u.checkElems ((activeOf s.me mk).map (storeOf s.me d oc addr)))) := by
  obtain ⟨u, e, hr, hb⟩ := vector_runs hv
  have hst := fun oc => storeElems_eq hr hv.1 hp d oc mk addr
  have hstop : u.me.stop = u.me.len := by
    obtain ⟨-, hm, -, -⟩ := hr
    rw [stop_of_uncut (by rw [hm]; exact hv.1)]
  have hbelow : ∀ oc, ((activeOf s.me mk).map (storeOf s.me d oc addr)).filter (fun t => decide (t.e < u.me.stop)) =
      (activeOf s.me mk).map (storeOf s.me d oc addr) := fun oc => List.filter_eq_self.2 fun t ht => by
    obtain ⟨q, hq, rfl⟩ := List.mem_map.1 ht
    obtain ⟨-, hm, -, -⟩ := hr
    rw [hstop, hm]
    exact decide_eq_true (mem_activeOf.1 hq).2.1
  obtain ⟨a, k, rfl | ⟨x, rfl⟩ | ⟨x, rfl⟩⟩ := hi <;> cases h
  · refine ⟨u, e, k, false, _, hr, fun _ => rfl, .inl rfl, ?_⟩
    rw [← hst, ← unitAddr_eq hr a]
    exact congrArg Host.Outcome.next (hb _)
  · refine ⟨u, e, k, false, _, hr, fun _ => rfl, .inl rfl, ?_⟩
    rw [← hst, ← strideAddr_eq hr a x]
    exact congrArg Host.Outcome.next (hb _)
  · refine ⟨u, e, k, true, _, hr, fun _ => ?_, .inr ⟨⟨a, k, x, rfl⟩, rfl⟩, ?_⟩
    · rfl
    · refine congrArg Host.Outcome.next ((hb _).trans ?_)
      dsimp only
      rw [indexAddr_eq hr hp a x, ← hstop, hst, hbelow]
      generalize u.checkElems _ = r
      rw [State.landStore, if_pos rfl, keptStores]

/-! ### A store's end -/

/-- Memory and everything that says who sees it are as before. -/
def MemoryKept (s t : State) : Prop :=
  t = { s with freeCount := t.freeCount, ctxs := t.ctxs, clusters := t.clusters, tlb := t.tlb }

theorem OnlyMe.memoryKept {s t : State} (h : OnlyMe s t) : MemoryKept s t := by rw [MemoryKept, h.1]

theorem MemoryKept.trans {s t u : State} (h : MemoryKept s t) (k : MemoryKept t u) : MemoryKept s u := by
  rw [MemoryKept, k, h]

theorem MemoryKept.sameBytes {s t : State} (h : MemoryKept s t) : SameBytes s t := by
  rw [h]; exact ⟨fun _ => rfl, fun _ => rfl⟩

theorem MemoryKept.plainBytes {s t : State} (h : MemoryKept s t) (a n : Nat) : PlainBytes t a n ↔ PlainBytes s a n := by
  rw [h]; exact Iff.rfl

/-- Clean stores left pending put the bytes of their elements once they are performed. -/
theorem drained_elementsStored {s t : State} {qs : List Pending} {es : List Nat} {addr : Nat → Nat} {bytes : Nat → List Byte}
    (h : MemoryKept s t) (hview : s.viewer = none) (hpend : t.me.pend = qs)
    (hq : CleanPend s qs (es.map fun e => (addr e, bytes e))) :
    (t.drainAll t.cur).me.pend = [] ∧ ElementsStored s (t.drainAll t.cur) es addr bytes := by
  have hp : (t.ctx t.cur).pend = qs := hpend
  have hv : t.viewDie = dieOf t.cur := by
    have : t.viewer = none := by rw [h]; exact hview
    rw [State.viewDie, this]; rfl
  obtain ⟨hnil, hcur, -, hst⟩ := drain_clean (q := fun _ => true) hv (fun _ _ => rfl) fun q hqm => by
    obtain ⟨h1, h2, h3, h4, h5⟩ := hq.1 q (hp ▸ hqm)
    exact ⟨h1, h2, h3, h4, (h.plainBytes _ _).2 h5⟩
  refine ⟨?_, elementsStored_iff.2 fun l => ?_⟩
  · rw [State.me, show (t.drainAll t.cur).cur = t.cur from hcur]
    exact hnil
  · rw [State.drainAll, hst, h.sameBytes.1, hp]
    exact hq.2 l _

/-- The stores of elements checked are made, from a running instruction. -/
theorem Running.writeElems {s u v : State} {i : Instr} {e : VqEntry} {n : Nat} {ts : List (StoreElem × List Part)}
    (hr : Running s u i e) (hpend : s.me.pend = []) (hv : v = u ∨ v = u.tick)
    (h : ∀ t ∈ ts, Storable s t ∧ t.1.bytes.length = n) :
    ∃ qs, MemoryKept s (v.writeElems ts) ∧ OnlyMe { s with freeCount := (v.writeElems ts).freeCount } (v.writeElems ts) ∧
      (v.writeElems ts).me = { u.me with pend := qs } ∧ CleanPend s qs (writesOf ts) := by
  obtain ⟨ho, hm, -, -⟩ := hr
  have hov : OnlyMe { s with freeCount := v.freeCount } v := by
    rcases hv with rfl | rfl
    · exact ⟨by rw [ho.1], ho.2⟩
    · exact ⟨by rw [State.tick, ho.1], ho.2⟩
  have hvm : v.me = u.me := by rcases hv with rfl | rfl <;> rfl
  have hsv : ∀ t, Storable v t ↔ Storable s t := fun t => hov.storable t
  obtain ⟨qs, h1, h2, h3⟩ := writeElems_clean (s := v) (n := n) fun t ht => ⟨(hsv t).2 (h t ht).1, (h t ht).2⟩
  have hf : (v.writeElems ts).freeCount = v.freeCount := by rw [h1.1]
  have hall : OnlyMe { s with freeCount := v.freeCount } (v.writeElems ts) := hov.trans h1
  refine ⟨qs, ?_, by rw [hf]; exact hall, ?_, hov.cleanPend.1 h3⟩
  · rw [MemoryKept, hall.1]
  · rw [h2, hvm, show u.me.pend = [] by rw [hm]; exact hpend, List.nil_append]

/-- A store of clean device memory at firmware level runs to its end, and puts its bytes when it is performed. -/
theorem laneStore_stored {s : State} {i : Instr} {d d' : BitVec 6} {mk mk' : BitVec 4} {addr : Nat → Nat}
    (hv : VectorRuns s i) (hl : s.agent.level = .firmware) (hpend : s.me.pend = [])
    (hp : Unpoisoned s.me) (h : laneAccess s i = some (d, mk, addr)) (hi : LaneStore i d' mk')
    (hb : ∀ e ∈ activeOf s.me mk, PlainBytes s (addr e) (s.me.vw / 8))
    (hd : ∀ a k x, i = .vstx d a k mk x → ∀ e ∈ activeOf s.me mk, ∀ q ∈ activeOf s.me mk,
      addr e = addr q ∨ addr e + s.me.vw / 8 ≤ addr q ∨ addr q + s.me.vw / 8 ≤ addr e) (hview : s.viewer = none) :
    Reaches (exec i s) fun t =>
      Retired { s with freeCount := t.freeCount } t { s.me with pend := t.me.pend } noFlags ∧ t.me.vec = s.me.vec ∧
      t.me.cir = s.me.cir ∧ (t.drainAll t.cur).me.pend = [] ∧
      ElementsStored s (t.drainAll t.cur) (activeOf s.me mk) addr
        fun e => leBytes (s.me.vw / 8) (s.me.vec.elem s.me.geo s.me.vw d.toNat e).1 := by
  obtain ⟨u, e, oc, ticks, settle, hr, -, hset, hexec⟩ := exec_of_laneStore hv hp h hi
  have hag := hr.agent
  obtain ⟨ho, hm, -, -⟩ := id hr
  have hclean : ∀ e ∈ activeOf s.me mk, addr e < 2 ^ 64 ∧ PlainBytes s (addr e) (s.me.vw / 8) := fun e he =>
    ⟨laneAccess_lt h e, hb e he⟩
  have hck := checkElems_all (s := u) (c := s.me) (d := d) (oc := oc) (by rw [hag]; exact hl)
    fun e he => ⟨(hclean e he).1, (ho.plainBytes _ _).2 (hclean e he).2⟩
  have hts : (∀ t ∈ settle u.freeCount ((activeOf s.me mk).map (checkedOf s.me d oc addr)),
      Storable s t ∧ t.1.bytes.length = s.me.vw / 8) ∧
      ∀ l old, storedAfter (writesOf (settle u.freeCount ((activeOf s.me mk).map (checkedOf s.me d oc addr)))) l old =
        storedAfter (writesOf ((activeOf s.me mk).map (checkedOf s.me d oc addr))) l old := by
    rcases hset with rfl | ⟨⟨a, k, x, hx⟩, rfl⟩
    · exact ⟨fun t ht => by
        obtain ⟨q, hq, rfl⟩ := List.mem_map.1 ht
        exact checkedOf_storable d oc (hclean q hq), fun _ _ => rfl⟩
    · exact keptStores_clean _ ((activeOf_sorted s.me mk).imp fun h => Nat.ne_of_lt h) hclean (hd a k x hx)
  have hwu : (if ticks then u.tick else u) = u ∨ (if ticks then u.tick else u) = u.tick := by
    cases ticks <;> simp
  obtain ⟨qs, hk, ho', hwm, hq⟩ := hr.writeElems hpend hwu hts.1
  rw [hexec, hck]
  refine ⟨_, rfl, ?_⟩
  unfold State.landStore
  dsimp only
  generalize (if ticks then u.tick else u).writeElems _ = w at hk ho' hwm
  have hzero : w.me.storePoison d mk (fun e => some (addr e)) u.me.stop = 0 :=
    storePoison_zero (by rw [hwm, hm]; exact hp.2.1) (by rw [hwm, hm]; exact hp.2.2.1) _ _ _ _
  have hstop : u.me.stop = w.me.len := by
    rw [stop_of_uncut (by rw [hm]; exact hv.1), hwm]; rfl
  rw [State.endStore, hzero, Ctx.consumeTimes, State.commitTo, State.me_setMe, hstop, if_pos (Nat.le_refl _)]
  have hom := onlyMe_setMe w w.me
  have hme : (w.setMe w.me).me = { u.me with pend := qs } := by rw [State.me_setMe, hwm]
  have hfree : (w.setMe w.me).freeCount = w.freeCount := rfl
  generalize w.setMe w.me = x at hom hme hfree
  have hrs : x.me.reissue.isSome = true := by rw [hme, hm]; rfl
  obtain ⟨h1, -, h3⟩ := retireVec_leaves noFlags hrs
  have hret := retired_of (c := { s.me with pend := qs }) noFlags (ho'.trans hom) hrs (by rw [hme, hm]; rfl)
    (by rw [hme, hm]; rfl) (by rw [hme, hm])
  have hpq : (x.retireVec noFlags).me.pend = qs := by rw [h3, hme]
  have hkt : MemoryKept s (x.retireVec noFlags) := (hk.trans hom.memoryKept).trans (by rw [MemoryKept, h1.1])
  have hft : (x.retireVec noFlags).freeCount = w.freeCount := by rw [h1.1]; exact hfree
  refine ⟨?_, by rw [h3, hme, hm], by rw [h3, hme, hm], drained_elementsStored hkt hview hpq ⟨hq.1, fun l old => ?_⟩⟩
  · rw [hft, hpq]; exact hret
  · rw [hq.2, hts.2, writesOf, List.map_map]; rfl

/-! ### Where a store faults -/

/-- Only what is pending changed in the context that stands at an instruction. -/
theorem AtInstr.of_pend {s v w : State} {i : Instr} {n : Nat} (h : AtInstr s v i)
    (ho : OnlyMe { s with freeCount := n } w) (hw : w.me = { v.me with pend := w.me.pend }) : AtInstr s w i := by
  obtain ⟨-, -, h3, h4⟩ := h
  refine ⟨ho.cur, ho.2, ?_, ?_⟩
  · generalize w.me.pend = q at hw
    rw [hw, h3]
  · rw [hw]; exact h4

/-- A store whose element faults takes the trap of the fault, with the stores of the elements below it pending. -/
theorem endStore_fault {s u w : State} {i : Instr} {e : VqEntry} {d : BitVec 6} {mk : BitVec 4} {addr : Nat → Nat}
    {f stop n : Nat} {x : AccFault} {qs : List Pending} (hr : Running s u i e) (hp : Unpoisoned s.me)
    (hi : ∀ e, s.me.reissue = some e → e.instr = i ∧ e.begun = none) (hk : MemoryKept s w)
    (ho : OnlyMe { s with freeCount := n } w) (hw : w.me = { u.me with pend := qs })
    (hc : TranslationCause x.fault.cause) (hh : x.fault.cause ≠ heldCause)
    (hd : (s.me.trapSet (faultLevel s x.fault.cause)).regs.depth ≠ 2) :
    let t := w.endStore d mk (fun e => some (addr e)) stop (some (f, x))
    t.me.vec = s.me.vec ∧ SameBytes s t ∧ t.me.vstart = BitVec.ofNat 64 f ∧ t.me.pend = qs ∧
    (x.fault.cause ≠ 0x089 → MemoryKept s t) ∧
    VectorTrapped s t i x.fault.cause (BitVec.ofNat 64 x.addr) (telemOf .store (some f) x.fault)
      (if 0x085 ≤ x.fault.cause ∧ x.fault.cause ≤ 0x087 then BitVec.ofNat 52 x.fault.gpa else 0) := by
  have hat := hr.atInstr hi
  obtain ⟨-, hm, -, -⟩ := hr
  have hzero : w.me.storePoison d mk (fun e => some (addr e)) f = 0 :=
    storePoison_zero (by rw [hw, hm]; exact hp.2.1) (by rw [hw, hm]; exact hp.2.2.1) _ _ _ _
  dsimp only
  rw [State.endStore, hzero, Ctx.consumeTimes]
  have hom := onlyMe_setMe w w.me
  have hme := w.me_setMe w.me
  generalize w.setMe w.me = v at hom hme
  have hat : AtInstr s v i := hat.of_pend (ho.trans hom) (by rw [hme, hw])
  obtain ⟨h1, ⟨h2, -, h3, h4, h5⟩, h6⟩ := faultAt_vectorTrapped hat .store f hc hh hd
  refine ⟨by rw [h3, hme, hw, hm], (hk.sameBytes.trans hom.sameBytes).trans h2, h6, by rw [h4, hme, hw], fun hne => ?_, h1⟩
  exact (hk.trans hom.memoryKept).trans (by rw [MemoryKept, h5 hne])

/-- A store whose first active element faults stores nothing and takes the trap of the fault. -/
theorem laneStore_firstFault {s : State} {i : Instr} {d d' : BitVec 6} {mk mk' : BitVec 4} {addr : Nat → Nat}
    {f cause stg lvl gpa : Nat} (hv : VectorRuns s i) (hpend : s.me.pend = [])
    (hp : Unpoisoned s.me) (hi : ∀ e, s.me.reissue = some e → e.instr = i ∧ e.begun = none)
    (h : laneAccess s i = some (d, mk, addr)) (hL : LaneStore i d' mk') (hf : (activeOf s.me mk).head? = some f)
    (hpage : addr f % 4096 + s.me.vw / 8 ≤ 4096) (hcov : ∀ e ∈ s.tlb, e.covers s.me.fn (addr f) = false)
    (hpf : pageFault s s.agent.level .store (addr f) = some (cause, stg, lvl, gpa))
    (hd : (s.me.trapSet (faultLevel s cause)).regs.depth ≠ 2) :
    Reaches (exec i s) fun t => t.me.vec = s.me.vec ∧ t.me.pend = [] ∧ SameBytes s t ∧ t.me.vstart = BitVec.ofNat 64 f ∧
      VectorTrapped s t i cause (BitVec.ofNat 64 (addr f)) (elementTelem f 2 stg lvl)
        (if 0x085 ≤ cause ∧ cause ≤ 0x087 then BitVec.ofNat 52 gpa else 0) := by
  obtain ⟨u, e, oc, ticks, settle, hr, hnil, -, hexec⟩ := exec_of_laneStore hv hp h hL
  obtain ⟨ho, hm, -, -⟩ := id hr
  obtain ⟨x, hres, hc, hfx⟩ := hr.resolve_fault (laneAccess_lt h f) (vw_bytes_pos _) hpage hcov hpf
  obtain ⟨rest, hrest⟩ := List.head?_eq_some_iff.1 hf
  have hck := checkElems_fault (s := u) (c := s.me) (d := d) (oc := oc) (es := []) (fun h => absurd rfl h)
    (fun _ h => (List.not_mem_nil h).elim) (by rw [hm]; exact hpend) hres rest
  have hw : ∃ n, OnlyMe { s with freeCount := n } ((if ticks then u.tick else u).writeElems []) ∧
      ((if ticks then u.tick else u).writeElems []).me = { u.me with pend := [] } := by
    have hup : u.me.pend = [] := by rw [hm]; exact hpend
    have hume : u.me = { u.me with pend := [] } := by rw [← hup]
    cases ticks
    · exact ⟨s.freeCount, ho, hume⟩
    · exact ⟨u.freeCount + 1, ⟨by rw [if_pos rfl, State.tick, ho.1]; rfl, ho.2⟩, hume⟩
  obtain ⟨n, how, hwm⟩ := hw
  have hk : MemoryKept s ((if ticks then u.tick else u).writeElems []) := by rw [MemoryKept, how.1]
  obtain ⟨h1, h2, h3, h4, -, h5⟩ := endStore_fault (d := d) (mk := mk) (addr := addr) (f := f) (stop := u.me.stop)
    (x := { fault := x, addr := addr f }) hr hp hi hk how hwm hc (by rw [hfx.1]; exact hfx.2.2.2.2)
    (by rw [show x.cause = cause from hfx.1]; exact hd)
  rw [hexec, hrest, show f :: rest = [] ++ f :: rest from rfl, hck]
  refine ⟨_, rfl, ?_⟩
  unfold State.landStore
  dsimp only
  rw [List.map_nil, hnil]
  exact ⟨h1, h4, h2, h3, vectorTrapped_of_faultIs (k := .store) hfx h5⟩

/-- A store at firmware level whose later element maps nothing traps there, with the elements below it stored. -/
theorem laneStore_laterFault {s : State} {i : Instr} {d d' : BitVec 6} {mk mk' : BitVec 4} {addr : Nat → Nat} {f : Nat}
    (hv : VectorRuns s i) (hpend : s.me.pend = []) (hp : Unpoisoned s.me)
    (hi : ∀ e, s.me.reissue = some e → e.instr = i ∧ e.begun = none) (h : laneAccess s i = some (d, mk, addr))
    (hL : ∃ a k, i = .vst d' a k mk' ∨ ∃ x, i = .vsts d' a k mk' x) (hl : s.agent.level = .firmware)
    (hf : f ∈ activeOf s.me mk) (hb : ∀ e ∈ activeOf s.me mk, e < f → PlainBytes s (addr e) (s.me.vw / 8))
    (hx : 2 ^ 52 ≤ addr f ∨ deviceEnd ≤ addr f ∧ addr f < peerBase) (hpage : addr f % 4096 + s.me.vw / 8 ≤ 4096)
    (hd : s.me.firm.regs.depth ≠ 2) (hview : s.viewer = none) :
    Reaches (exec i s) fun t => t.me.vec = s.me.vec ∧ SameBytes s t ∧
      (t.me.vstart = BitVec.ofNat 64 f ∧
        VectorTrapped s t i 0x088 (BitVec.ofNat 64 (addr f)) (elementTelem f 2 0 0) 0) ∧
      ElementsStored s (t.drainAll t.cur) ((activeOf s.me mk).filter fun e => decide (e < f)) addr
        fun e => leBytes (s.me.vw / 8) (s.me.vec.elem s.me.geo s.me.vw d.toNat e).1 := by
  obtain ⟨u, e, oc, ticks, settle, hr, -, hset, hexec⟩ := exec_of_laneStore hv hp h
    (by obtain ⟨a, k, h | h⟩ := hL; exacts [⟨a, k, .inl h⟩, ⟨a, k, .inr (.inl h)⟩] : LaneStore i d' mk')
  obtain rfl : settle = fun _ ts => ts := hset.resolve_right fun ⟨⟨a, k, x, hvx⟩, _⟩ => by
    obtain ⟨b, c, hvs | ⟨y, hvs⟩⟩ := hL <;> rw [hvx] at hvs <;> cases hvs
  have hag := hr.agent
  obtain ⟨ho, hm, -, -⟩ := id hr
  obtain ⟨rest, hrest⟩ := sorted_split (activeOf_sorted s.me mk) hf
  have hclean : ∀ e ∈ (activeOf s.me mk).filter (fun e => decide (e < f)),
      addr e < 2 ^ 64 ∧ PlainBytes s (addr e) (s.me.vw / 8) := fun e he => by
    obtain ⟨he, hlt⟩ := List.mem_filter.1 he
    exact ⟨laneAccess_lt h e, hb e he (of_decide_eq_true hlt)⟩
  have hck := checkElems_fault (s := u) (c := s.me) (d := d) (oc := oc) (fun _ => by rw [hag]; exact hl)
    (fun e he => ⟨(hclean e he).1, (ho.plainBytes _ _).2 (hclean e he).2⟩) (by rw [hm]; exact hpend)
    (resolve_nowhere (s := u) (k := .store) (by rw [hag]; exact hl) (laneAccess_lt h f) (vw_bytes_pos _) hpage hx) rest
  rw [← hrest] at hck
  have hwu : (if ticks then u.tick else u) = u ∨ (if ticks then u.tick else u) = u.tick := by
    cases ticks <;> simp
  obtain ⟨qs, hk, ho', hwm, hq⟩ := hr.writeElems hpend hwu
    (ts := ((activeOf s.me mk).filter fun e => decide (e < f)).map (checkedOf s.me d oc addr)) fun t ht => by
      obtain ⟨q, hq, rfl⟩ := List.mem_map.1 ht
      exact checkedOf_storable d oc (hclean q hq)
  obtain ⟨h1, h2, h3, h4, h5, h6⟩ := endStore_fault (d := d) (mk := mk) (addr := addr) (f := f) (stop := u.me.stop)
    (x := { fault := { rank := 6, cause := 0x088 }, addr := addr f }) hr hp hi hk ho' hwm translationCause_nowhere
    (by simp [heldCause]) hd
  rw [hexec, hck]
  refine ⟨_, rfl, ?_⟩
  unfold State.landStore
  dsimp only
  refine ⟨h1, h2, ⟨h3, h6⟩, (drained_elementsStored (h5 (show (0x088 : Nat) ≠ 0x089 by decide)) hview h4 ⟨hq.1, fun l old => ?_⟩).2⟩
  rw [hq.2, writesOf, List.map_map]; rfl

end Sys2Proof.Machine
end

section
/-! PROOFS. VSTXADD: its checks, the sums at one address, and one update for each address. -/

open Sys2Proof Sys2Proof.Machine

namespace Sys2Proof.Machine

/-! ### Bytes of a value -/

theorem leNat_leBytes (n v : Nat) : leNat (leBytes n v) = v % 256 ^ n := by
  induction n generalizing v with
  | zero => simp [leBytes, leNat, Nat.mod_one]
  | succ n ih =>
    rw [leBytes, leNat, ih, pow_succ', Nat.mod_mul, BitVec.toNat_ofNat]

theorem leNat_lt (bs : List Byte) : leNat bs < 256 ^ bs.length := by
  induction bs with
  | nil => exact Nat.one_pos
  | cons b bs ih =>
    have := b.isLt
    rw [leNat, List.length_cons, pow_succ']
    omega

/-- The bytes of an element's width hold its values. -/
theorem pow_vw (c : Ctx) : 256 ^ (c.vw / 8) = 2 ^ c.vw := by
  rcases vw_cases c with h | h | h | h <;> rw [h] <;> norm_num

/-! ### Sums under the type in force (R212) -/

/-- Two values that the statement adds, the model adds: INT ones where they fit the type. -/
theorem scatterAdd_eq {t x y : Nat} (rm : Nat) (h : t < 8 → x < 2 ^ typeWidth t ∧ y < 2 ^ typeWidth t) :
    scatterAdd t rm x y = if 8 ≤ t then addValues t rm (decodeFloat t x) (decodeFloat t y)
      else ((BitVec.ofInt (typeWidth t) (atKind t x + atKind t y)).toNat, noFlags) := by
  unfold scatterAdd
  by_cases ht : 8 ≤ t
  · rw [if_pos (by simpa [typeFloat] using ht), if_pos ht]
    rfl
  · obtain ⟨hx, hy⟩ := h (Nat.lt_of_not_le ht)
    rw [if_neg (by simpa [typeFloat] using ht), if_neg ht, vAdd_eq hx hy]

theorem scatterAdd_lt {t x y : Nat} (rm : Nat) (ht : t < 8) (hx : x < 2 ^ typeWidth t) (hy : y < 2 ^ typeWidth t) :
    (scatterAdd t rm x y).1 < 2 ^ typeWidth t := by
  rw [scatterAdd_eq rm fun _ => ⟨hx, hy⟩, if_neg (Nat.not_le.2 ht)]
  exact BitVec.isLt _

/-- The sum of values in their order, with its flags. -/
def sumOf (t rm : Nat) (a : Nat × Flags) (xs : List Nat) : Nat × Flags :=
  xs.foldl (fun a y => ((scatterAdd t rm a.1 y).1, a.2 ||| (scatterAdd t rm a.1 y).2)) a

theorem scattered_cons {t old x : Nat} (rm : Nat) {xs : List Nat}
    (h : t < 8 → old < 2 ^ typeWidth t ∧ x < 2 ^ typeWidth t ∧ ∀ y ∈ xs, y < 2 ^ typeWidth t) :
    scattered t rm old (x :: xs) =
      ((scatterAdd t rm old (sumOf t rm (x, noFlags) xs).1).1,
        (sumOf t rm (x, noFlags) xs).2 ||| (scatterAdd t rm old (sumOf t rm (x, noFlags) xs).1).2) := by
  have hfold : ∀ a : Nat × Flags, (t < 8 → a.1 < 2 ^ typeWidth t) → (t < 8 → ∀ y ∈ xs, y < 2 ^ typeWidth t) →
      xs.foldl (fun a y =>
        ((if 8 ≤ t then addValues t rm (decodeFloat t a.1) (decodeFloat t y)
          else ((BitVec.ofInt (typeWidth t) (atKind t a.1 + atKind t y)).toNat, noFlags)).1,
          a.2 ||| (if 8 ≤ t then addValues t rm (decodeFloat t a.1) (decodeFloat t y)
            else ((BitVec.ofInt (typeWidth t) (atKind t a.1 + atKind t y)).toNat, noFlags)).2)) a = sumOf t rm a xs ∧
      (t < 8 → (sumOf t rm a xs).1 < 2 ^ typeWidth t) := by
    clear h
    induction xs with
    | nil => exact fun a ha _ => ⟨rfl, ha⟩
    | cons y ys ih =>
      intro a ha hy
      have hadd := scatterAdd_eq (x := a.1) (y := y) rm fun ht => ⟨ha ht, hy ht y (List.mem_cons_self ..)⟩
      rw [List.foldl_cons, ← hadd]
      exact ih _ (fun ht => scatterAdd_lt rm ht (ha ht) (hy ht y (List.mem_cons_self ..)))
        fun ht z hz => hy ht z (List.mem_cons_of_mem _ hz)
  obtain ⟨h1, h2⟩ := hfold (x, noFlags) (fun ht => (h ht).2.1) fun ht => (h ht).2.2
  rw [scatterAdd_eq rm fun ht => ⟨(h ht).1, h2 ht⟩, ← h1]
  rfl

/-- Element stores combined: the sum of their values, unpoisoned. -/
theorem combine_eq (t rm : Nat) (x : StoreElem) (xs : List StoreElem) (hp : ∀ y ∈ x :: xs, y.poison = false) :
    combine t rm (x :: xs) =
      ((sumOf t rm (leNat x.bytes, noFlags) (xs.map fun y => leNat y.bytes)).1, false,
        (sumOf t rm (leNat x.bytes, noFlags) (xs.map fun y => leNat y.bytes)).2) := by
  have hfold : ∀ a : Nat × Flags, (∀ y ∈ xs, y.poison = false) → xs.foldl (fun a y =>
      let r := scatterAdd t rm a.1 (leNat y.bytes)
      (r.1, a.2.1 || y.poison, a.2.2 ||| r.2)) (a.1, false, a.2) =
      ((sumOf t rm a (xs.map fun y => leNat y.bytes)).1, false, (sumOf t rm a (xs.map fun y => leNat y.bytes)).2) := by
    clear hp
    induction xs with
    | nil => exact fun _ _ => rfl
    | cons y ys ih =>
      intro a hy
      rw [List.foldl_cons, hy y (List.mem_cons_self ..)]
      exact ih ((scatterAdd t rm a.1 (leNat y.bytes)).1, a.2 ||| (scatterAdd t rm a.1 (leNat y.bytes)).2)
        fun z hz => hy z (List.mem_cons_of_mem _ hz)
  rw [combine, hp x (List.mem_cons_self ..)]
  exact hfold (leNat x.bytes, noFlags) fun y hy => hp y (List.mem_cons_of_mem _ hy)

/-! ### One update at its home (R212) -/

/-- Only device memory, what lines carry, and the caches may differ. -/
def HomeOnly (s t : State) : Prop :=
  t = { s with mem := t.mem, lineKey := t.lineKey, tags := t.tags, cores := t.cores, l2 := t.l2 }

theorem HomeOnly.refl (s : State) : HomeOnly s s := rfl

theorem HomeOnly.trans {s t u : State} (h : HomeOnly s t) (k : HomeOnly t u) : HomeOnly s u := by rw [HomeOnly, k, h]

/-- An aligned element lies in one granule, and in one page. -/
theorem aligned_fits {c : Ctx} {a : Nat} (h : a % (c.vw / 8) = 0) :
    InGranule a (c.vw / 8) ∧ a % 4096 + c.vw / 8 ≤ 4096 ∧ c.vw / 8 < 64 := by
  unfold InGranule
  rcases vw_cases c with hw | hw | hw | hw <;> rw [hw] at h ⊢ <;> norm_num at h ⊢ <;> omega

/-- Two aligned elements at different addresses are apart. -/
theorem aligned_apart {c : Ctx} {a b : Nat} (ha : a % (c.vw / 8) = 0) (hb : b % (c.vw / 8) = 0) (h : a ≠ b) :
    a + c.vw / 8 ≤ b ∨ b + c.vw / 8 ≤ a := by
  rcases vw_cases c with hw | hw | hw | hw <;> rw [hw] at ha hb ⊢ <;> norm_num at ha hb ⊢ <;> omega

theorem writeHome_plain {s : State} {a : Nat} {bs : List Byte} (hg : InGranule a bs.length) (h : PlainBytes s a bs.length)
    (hn : bs.length < 64) : HomeOnly s (s.writeHome a bs false noKey) ∧
      (∀ b m, PlainBytes s b m → PlainBytes (s.writeHome a bs false noKey) b m) ∧
      StoredAt s (s.writeHome a bs false noKey) a bs := by
  obtain ⟨⟨-, hp⟩, hst, ht⟩ := storeLoc_plain hg h
  have ht := ht hn
  rw [State.writeHome, enterLines_plain h]
  have hc : CachesOnly (s.storeLoc a bs false noKey) ((granulesOf a bs.length).foldl
      (fun s g => (s.dropCopies g none).touchL2 (homeDie g) g true) (s.storeLoc a bs false noKey)) :=
    .foldl (fun s g => (dropCopies_caches s g none).trans (touchL2_l2 _ _ _ _).caches) _ _
  generalize (granulesOf a bs.length).foldl _ _ = u at hc
  generalize s.storeLoc a bs false noKey = w at *
  refine ⟨?_, fun b m hb => (hp b m hb).of_caches hc, fun l => ?_⟩
  · rw [HomeOnly, hc, ht]
  · rw [show u.stored l = w.stored l by rw [hc]; rfl]
    exact hst l

/-! ### The updates of one instruction (R212) -/

/-- The store of an element with the place that it updates. -/
def placedOf (c : Ctx) (d : BitVec 6) (oc : BitVec 4) (addr : Nat → Nat) (e : Nat) : StoreElem × Place :=
  (storeOf c d oc addr e, { loc := addr e, key := noKey })

/-- The value and the flags of the update at an address, from the bytes that stand there. -/
def updateAt (s : State) (c : Ctx) (d : BitVec 6) (addr : Nat → Nat) (es : List Nat) (p : Nat) : Nat × Flags :=
  scattered c.vt c.vrm (leNat (storedBytes s p (c.vw / 8)))
    ((es.filter fun e => addr e == p).map fun e => (c.vec.elem c.geo c.vw d.toNat e).1)

/-- The update at the address of the first element is the sum of the elements there, added to what stands there. -/
theorem updateAt_head (s : State) (c : Ctx) (d : BitVec 6) (oc : BitVec 4) (addr : Nat → Nat) (e : Nat) (es : List Nat) :
    let k := combine c.vt c.vrm (storeOf c d oc addr e ::
      (((es.map (placedOf c d oc addr)).filter fun y => y.1.addr == addr e).map (·.1)))
    let r := scatterAdd c.vt c.vrm (leNat (storedBytes s (addr e) (c.vw / 8))) k.1
    updateAt s c d addr (e :: es) (addr e) = (r.1, k.2.2 ||| r.2) ∧ k.2.1 = false := by
  have hw := vw_eq_typeWidth c
  have hval : ∀ q, leNat (storeOf c d oc addr q).bytes = (c.vec.elem c.geo c.vw d.toNat q).1 := fun q => by
    rw [storeOf, leNat_leBytes, pow_vw, Nat.mod_eq_of_lt (elem_lt _ _ _ _ _)]
  have hsame : ((es.map (placedOf c d oc addr)).filter fun y => y.1.addr == addr e).map (·.1) =
      (es.filter fun q => addr q == addr e).map (storeOf c d oc addr) := by
    rw [List.filter_map, List.map_map]; rfl
  have hvals : ((es.filter fun q => addr q == addr e).map (storeOf c d oc addr)).map (fun y => leNat y.bytes) =
      (es.filter fun q => addr q == addr e).map fun q => (c.vec.elem c.geo c.vw d.toNat q).1 := by
    rw [List.map_map]
    exact List.map_congr_left fun q _ => hval q
  have hold : leNat (storedBytes s (addr e) (c.vw / 8)) < 2 ^ c.vw := by
    have := leNat_lt (storedBytes s (addr e) (c.vw / 8))
    rwa [storedBytes, List.length_map, List.length_range, pow_vw] at this
  dsimp only
  rw [hsame, combine_eq _ _ _ _ (fun y hy => by
    rcases List.mem_cons.1 hy with rfl | hy
    · rfl
    · obtain ⟨q, -, rfl⟩ := List.mem_map.1 hy
      rfl), hvals, hval, updateAt, List.filter_cons_of_pos (by simp), List.map_cons]
  refine ⟨scattered_cons _ fun _ => ?_, rfl⟩
  rw [← hw]
  exact ⟨hold, elem_lt _ _ _ _ _, fun y hy => by
    obtain ⟨q, -, rfl⟩ := List.mem_map.1 hy
    exact elem_lt _ _ _ _ _⟩

/-- An update elsewhere does not depend on one that was made, nor on the elements that made it. -/
theorem updateAt_other {s t : State} {c : Ctx} {d : BitVec 6} {addr : Nat → Nat} {e p : Nat} {es : List Nat} {bs : List Byte}
    (h : StoredAt s t (addr e) bs) (ha : p + c.vw / 8 ≤ addr e ∨ addr e + bs.length ≤ p) (hne : p ≠ addr e) :
    updateAt t c d addr (es.filter fun q => addr q != addr e) p = updateAt s c d addr (e :: es) p := by
  have hb : storedBytes t p (c.vw / 8) = storedBytes s p (c.vw / 8) := List.map_congr_left fun i hi => by
    have := List.mem_range.1 hi
    exact (h _).trans (if_neg (by omega))
  have hf : ((es.filter fun q => addr q != addr e).filter fun q => addr q == p) =
      (e :: es).filter fun q => addr q == p := by
    rw [List.filter_cons_of_neg (by simpa using hne.symm), List.filter_filter]
    refine List.filter_congr fun q _ => ?_
    by_cases hq : addr q = p
    · simp [hq, hne]
    · simp [hq]
  rw [updateAt, updateAt, hb, hf]

/-- The first update: the elements at its address are combined, added to what stands there, and written at its home. -/
theorem addAll_cons {s t : State} {c : Ctx} {d : BitVec 6} (oc : BitVec 4) {addr : Nat → Nat} {fuel e : Nat} {es : List Nat}
    {fl : Flags} (hp : s.me.pend = []) (hb : PlainBytes s (addr e) (c.vw / 8)) (hn : 0 < c.vw / 8) :
    let k := combine c.vt c.vrm (storeOf c d oc addr e ::
      (((es.map (placedOf c d oc addr)).filter fun y => y.1.addr == addr e).map (·.1)))
    let r := scatterAdd c.vt c.vrm (leNat (storedBytes s (addr e) (c.vw / 8))) k.1
    (s.writeHome (addr e) (leBytes (c.vw / 8) r.1) k.2.1 noKey).addAll c.vt c.vrm oc.toNat fuel
        ((es.filter fun q => addr q != addr e).map (placedOf c d oc addr)) = (t, fl, false) →
    s.addAll c.vt c.vrm oc.toNat (fuel + 1) ((e :: es).map (placedOf c d oc addr)) =
      (t, k.2.2 ||| r.2 ||| fl, k.2.1) := by
  intro k r hnext
  have hread : s.readPlace { loc := addr e, key := noKey } (c.vw / 8) = (storedBytes s (addr e) (c.vw / 8), false) := by
    rw [State.readPlace, if_neg Bool.false_ne_true, readLoc_plain hn hb]
  have hfilter : ((es.map (placedOf c d oc addr)).filter fun y => y.1.addr != addr e) =
      (es.filter fun q => addr q != addr e).map (placedOf c d oc addr) := by
    rw [List.filter_map]; rfl
  have hlen : (storeOf c d oc addr e).bytes.length = c.vw / 8 := leBytes_length _ _
  have hplaced : placedOf c d oc addr e = (storeOf c d oc addr e, { loc := addr e, key := noKey }) := rfl
  rw [List.map_cons, hplaced, State.addAll, hlen]
  dsimp only
  rw [drain_nil hp, noteRead_plain (hb.sub (Nat.le_refl _) (by omega)), hread,
    show (storeOf c d oc addr e).addr = addr e from rfl, hfilter, Bool.false_or]
  refine (congrArg (fun x : State × Flags × Bool => (x.1, k.2.2 ||| r.2 ||| x.2.1, k.2.1 || x.2.2)) hnext).trans ?_
  rw [Bool.or_false]

/-- Updates at aligned clean places, one for each address, put their values and leave all but memory and the caches. -/
theorem addAll_clean (c : Ctx) (d : BitVec 6) (oc : BitVec 4) (addr : Nat → Nat) (fuel : Nat) {es : List Nat} {s : State}
    (hf : es.length ≤ fuel) (hp : s.me.pend = [])
    (h : ∀ e ∈ es, addr e % (c.vw / 8) = 0 ∧ PlainBytes s (addr e) (c.vw / 8)) :
    ∃ t, s.addAll c.vt c.vrm oc.toNat fuel (es.map (placedOf c d oc addr)) =
        (t, allFlags ((es.map addr).eraseDups.map fun p => (updateAt s c d addr es p).2), false) ∧ HomeOnly s t ∧
      ∀ l, t.stored l = storedAfter
        ((es.map addr).eraseDups.map fun p => (p, leBytes (c.vw / 8) (updateAt s c d addr es p).1)) l (s.stored l) := by
  induction fuel generalizing es s with
  | zero =>
    obtain rfl := List.length_eq_zero_iff.1 (Nat.le_zero.1 hf)
    exact ⟨s, rfl, .refl s, fun _ => rfl⟩
  | succ fuel ih =>
    cases es with
    | nil => exact ⟨s, rfl, .refl s, fun _ => rfl⟩
    | cons e es =>
      obtain ⟨hal, hb⟩ := h e (List.mem_cons_self ..)
      obtain ⟨hg, -, hlt⟩ := aligned_fits hal
      obtain ⟨hup, hbad⟩ := updateAt_head s c d oc addr e es
      set k := combine c.vt c.vrm (storeOf c d oc addr e ::
        (((es.map (placedOf c d oc addr)).filter fun y => y.1.addr == addr e).map (·.1))) with hk
      set r := scatterAdd c.vt c.vrm (leNat (storedBytes s (addr e) (c.vw / 8))) k.1 with hr
      have hlen : (leBytes (c.vw / 8) r.1).length = c.vw / 8 := leBytes_length _ _
      obtain ⟨hho, hpl, hst⟩ := writeHome_plain (s := s) (a := addr e) (bs := leBytes (c.vw / 8) r.1) (by rwa [hlen])
        (by rwa [hlen]) (by rwa [hlen])
      set v := s.writeHome (addr e) (leBytes (c.vw / 8) r.1) false noKey with hv
      have hvme : v.me = s.me := by rw [hho]; rfl
      have hrest : ∀ q ∈ es.filter (fun q => addr q != addr e), addr q % (c.vw / 8) = 0 ∧ addr q ≠ addr e ∧
          PlainBytes s (addr q) (c.vw / 8) := fun q hq => by
        obtain ⟨hq, hne⟩ := List.mem_filter.1 hq
        obtain ⟨h1, h2⟩ := h q (List.mem_cons_of_mem _ hq)
        exact ⟨h1, by simpa using hne, h2⟩
      obtain ⟨t, ht, hvt, hts⟩ := ih (es := es.filter fun q => addr q != addr e) (s := v)
        ((List.length_filter_le _ _).trans (Nat.le_of_succ_le_succ hf)) (by rw [hvme]; exact hp)
        fun q hq => ⟨(hrest q hq).1, hpl _ _ (hrest q hq).2.2⟩
      have hothers : ∀ p ∈ ((es.filter fun q => addr q != addr e).map addr).eraseDups,
          updateAt v c d addr (es.filter fun q => addr q != addr e) p = updateAt s c d addr (e :: es) p := fun p hp => by
        obtain ⟨q, hq, rfl⟩ := List.mem_map.1 (List.mem_eraseDups.1 hp)
        obtain ⟨hqa, hqe, -⟩ := hrest q hq
        exact updateAt_other hst (by rw [hlen]; exact aligned_apart hqa hal hqe) hqe
      have hplaces : ((e :: es).map addr).eraseDups =
          addr e :: ((es.filter fun q => addr q != addr e).map addr).eraseDups := by
        rw [List.map_cons, List.eraseDups_cons, List.filter_map]
        rfl
      have hstep := addAll_cons (fuel := fuel) oc hp hb hg.1 (by rw [hbad]; exact ht)
      rw [hbad] at hstep
      have hflags : ∀ p ∈ ((es.filter fun q => addr q != addr e).map addr).eraseDups,
          (updateAt v c d addr (es.filter fun q => addr q != addr e) p).2 = (updateAt s c d addr (e :: es) p).2 :=
        fun p hp => by rw [hothers p hp]
      have hbytes : ∀ p ∈ ((es.filter fun q => addr q != addr e).map addr).eraseDups,
          (p, leBytes (c.vw / 8) (updateAt v c d addr (es.filter fun q => addr q != addr e) p).1) =
            (p, leBytes (c.vw / 8) (updateAt s c d addr (e :: es) p).1) := fun p hp => by rw [hothers p hp]
      refine ⟨t, ?_, hho.trans hvt, fun l => ?_⟩
      · rw [hstep, hplaces, List.map_cons, allFlags_cons, hup, List.map_congr_left hflags]
      · rw [hts, hplaces, List.map_cons, storedAfter_cons, hup, ← storedAt_iff.1 hst, List.map_congr_left hbytes]

end Sys2Proof.Machine
end

section
/-! PROOFS. VSTXADD, settled: its updates, and where its checks fail. -/

open Sys2Proof Sys2Proof.Machine

namespace Sys2Proof.Machine

/-! ### The checks (R212) -/

theorem storeOf_length (c : Ctx) (d : BitVec 6) (oc : BitVec 4) (addr : Nat → Nat) (e : Nat) :
    (storeOf c d oc addr e).bytes.length = c.vw / 8 := leBytes_length _ _

/-- At firmware level an aligned place of clean device memory is its own. -/
theorem atomicPlace_plain {s : State} {c : Ctx} {a : Nat} (hl : s.agent.level = .firmware) (h64 : a < 2 ^ 64)
    (hal : a % (c.vw / 8) = 0) (hb : PlainBytes s a (c.vw / 8)) :
    s.atomicPlace s.cur s.agent a (c.vw / 8) = (s, .ok { loc := a, key := noKey }) := by
  obtain ⟨⟨hn, -⟩, hpage, -⟩ := aligned_fits hal
  have hd : a < deviceEnd := by simpa using (hb 0 hn).1
  have hw : s.beforeWalk s.cur s.agent .atomic a (c.vw / 8) = s := by rw [State.beforeWalk, if_pos hl]
  rw [State.atomicPlace, hw, resolve_plain .atomic hl h64 hb, partsOf_one h64 hn hpage]
  simp [outsidePackage, ownPart, hd]

theorem addPlaces_all {s : State} {c : Ctx} {d : BitVec 6} {oc : BitVec 4} {addr : Nat → Nat} {es : List Nat}
    (hl : s.agent.level = .firmware)
    (h : ∀ e ∈ es, addr e < 2 ^ 64 ∧ addr e % (c.vw / 8) = 0 ∧ PlainBytes s (addr e) (c.vw / 8)) :
    s.addPlaces (es.map (storeOf c d oc addr)) = (s, .ok (es.map (placedOf c d oc addr))) := by
  induction es with
  | nil => rfl
  | cons e es ih =>
    obtain ⟨h64, hal, hb⟩ := h e (List.mem_cons_self ..)
    rw [List.map_cons, State.addPlaces, storeOf_length, show (storeOf c d oc addr e).addr = addr e from rfl,
      if_neg (by simp [hal]), atomicPlace_plain hl h64 hal hb]
    dsimp only
    rw [ih fun f hf => h f (List.mem_cons_of_mem _ hf)]
    rfl

/-- The end of VSTXADD with the outcome of its checks. -/
def State.landAdd (oc : Nat) : State × Except State (List (StoreElem × Place)) → State
  | (_, .error t) => t
  | (s, .ok ps) =>
    let r := s.addAll s.me.vt s.me.vrm oc ps.length ps
    (r.1.setMe (r.1.me.consume r.2.2)).retireVec r.2.1

/-- VSTXADD runs from the state past its decode: it checks its active elements in order, and updates. -/
theorem exec_vstxadd {s : State} {d : BitVec 6} {a : BitVec 5} {k mk : BitVec 4} {x : BitVec 6} {addr : Nat → Nat}
    (hv : VectorRuns s (.vstxadd d a k mk x)) (hp : Unpoisoned s.me)
    (h : laneAccess s (.vstxadd d a k mk x) = some (d, mk, addr)) :
    ∃ u e, Running s u (.vstxadd d a k mk x) e ∧ exec (.vstxadd d a k mk x) s =
      .next (State.landAdd k.toNat (u.addPlaces ((activeOf s.me mk).map (storeOf s.me d k addr)))) := by
  obtain ⟨u, e, hr, hb⟩ := vector_runs hv
  have hst := storeElems_eq hr hv.1 hp d k mk addr
  have hstop : u.me.stop = u.me.len := by
    obtain ⟨-, hm, -, -⟩ := hr
    rw [stop_of_uncut (by rw [hm]; exact hv.1)]
  refine ⟨u, e, hr, congrArg Host.Outcome.next ((hb _).trans ?_)⟩
  cases h
  have hlost : ((u.me.active mk).any fun t => (u.me.indexAddr a x t.1).isNone) = false := by
    rw [indexAddr_eq hr hp a x]
    simp
  dsimp only
  rw [hlost, indexAddr_eq hr hp a x, ← hstop, hst]
  generalize u.addPlaces _ = r
  obtain ⟨t, _ | ps⟩ := r
  · rfl
  · simp only [Bool.or_false]
    rfl

/-! ### The updates -/

/-- VSTXADD on aligned clean device memory at firmware level updates each address once. -/
theorem vstxadd_updates {s : State} {d : BitVec 6} {a : BitVec 5} {k mk : BitVec 4} {x : BitVec 6} {addr : Nat → Nat}
    (hv : VectorRuns s (.vstxadd d a k mk x)) (hl : s.agent.level = .firmware) (hpend : s.me.pend = [])
    (hp : Unpoisoned s.me) (h : laneAccess s (.vstxadd d a k mk x) = some (d, mk, addr))
    (hb : ∀ e ∈ activeOf s.me mk, PlainBytes s (addr e) (s.me.vw / 8))
    (hal : ∀ e ∈ activeOf s.me mk, addr e % (s.me.vw / 8) = 0) :
    Reaches (exec (.vstxadd d a k mk x) s) fun t =>
      Retired { s with mem := t.mem, lineKey := t.lineKey, tags := t.tags, cores := t.cores, l2 := t.l2 } t s.me
        (allFlags (((activeOf s.me mk).map addr).eraseDups.map fun p => (updateAt s s.me d addr (activeOf s.me mk) p).2)) ∧
      t.me.vec = s.me.vec ∧ t.me.cir = s.me.cir ∧
      ElementsStored s t ((activeOf s.me mk).map addr).eraseDups id
        fun p => leBytes (s.me.vw / 8) (updateAt s s.me d addr (activeOf s.me mk) p).1 := by
  obtain ⟨u, e, hr, hexec⟩ := exec_vstxadd hv hp h
  have hag := hr.agent
  obtain ⟨ho, hm, -, -⟩ := id hr
  have hclean : ∀ e ∈ activeOf s.me mk, addr e < 2 ^ 64 ∧ addr e % (s.me.vw / 8) = 0 ∧
      PlainBytes u (addr e) (s.me.vw / 8) := fun e he =>
    ⟨laneAccess_lt h e, hal e he, (ho.plainBytes _ _).2 (hb e he)⟩
  have hups : ∀ p, updateAt u s.me d addr (activeOf s.me mk) p = updateAt s s.me d addr (activeOf s.me mk) p := fun p => by
    rw [updateAt, show storedBytes u p (s.me.vw / 8) = storedBytes s p (s.me.vw / 8) from
      List.map_congr_left fun i _ => ho.sameBytes.1 _]
    rfl
  obtain ⟨t, ht, hho, hst⟩ := addAll_clean s.me d k addr ((activeOf s.me mk).map (placedOf s.me d k addr)).length
    (es := activeOf s.me mk) (s := u) (by simp) (by rw [hm]; exact hpend) fun e he => (hclean e he).2
  simp only [hups] at ht hst
  rw [hexec, addPlaces_all (by rw [hag]; exact hl) hclean]
  refine ⟨_, rfl, ?_⟩
  unfold State.landAdd
  dsimp only
  rw [show u.me.vt = s.me.vt by rw [hm]; rfl, show u.me.vrm = s.me.vrm by rw [hm]; rfl, ht]
  dsimp only
  generalize hfl : allFlags _ = fl
  have hom := onlyMe_setMe t (t.me.consume false)
  have htm : (t.setMe (t.me.consume false)).me = u.me := by
    rw [State.me_setMe, hho]; rfl
  have hot : OnlyMe { s with mem := t.mem, lineKey := t.lineKey, tags := t.tags, cores := t.cores, l2 := t.l2 } t :=
    ⟨by rw [hho, ho.1], fun g hg => by rw [hho]; exact ho.2 g hg⟩
  have hst' : ∀ l, (t.setMe (t.me.consume false)).stored l = t.stored l := fun _ => rfl
  have hsame : (t.setMe (t.me.consume false)).mem = t.mem ∧ (t.setMe (t.me.consume false)).lineKey = t.lineKey ∧
      (t.setMe (t.me.consume false)).tags = t.tags ∧ (t.setMe (t.me.consume false)).cores = t.cores ∧
      (t.setMe (t.me.consume false)).l2 = t.l2 := ⟨rfl, rfl, rfl, rfl, rfl⟩
  generalize t.setMe (t.me.consume false) = w at hom htm hst' hsame
  obtain ⟨hmem, hline, htags, hcores, hl2⟩ := hsame
  have hrs : w.me.reissue.isSome = true := by rw [htm, hm]; rfl
  obtain ⟨h1, -, h3⟩ := retireVec_leaves fl hrs
  have hret := retired_of (c := s.me) fl (hot.trans hom) hrs (by rw [htm, hm]; rfl) (by rw [htm, hm]; rfl)
    (by rw [htm, hm])
  have hkeep : (w.retireVec fl).mem = t.mem ∧ (w.retireVec fl).lineKey = t.lineKey ∧ (w.retireVec fl).tags = t.tags ∧
      (w.retireVec fl).cores = t.cores ∧ (w.retireVec fl).l2 = t.l2 := by
    rw [h1.1]; exact ⟨hmem, hline, htags, hcores, hl2⟩
  obtain ⟨kmem, kline, ktags, kcores, kl2⟩ := hkeep
  refine ⟨?_, by rw [h3, htm, hm], by rw [h3, htm, hm], elementsStored_iff.2 fun l => ?_⟩
  · rw [kmem, kline, ktags, kcores, kl2]
    exact hret
  · rw [h1.sameBytes.1, show State.stored { w with clusters := (w.retireVec fl).clusters } l = w.stored l from rfl, hst', hst,
      ho.sameBytes.1]
    rfl

/-! ### Where the checks fail -/

theorem targetLevel_misaligned (s : State) : targetLevel 0x0E2 s.me.level = faultLevel s 0x0E2 := by
  unfold faultLevel trapLevel
  cases s.me.level <;> decide

/-- VSTXADD whose first active element is misaligned traps and updates nothing. -/
theorem vstxadd_misaligned {s : State} {d : BitVec 6} {a : BitVec 5} {k mk : BitVec 4} {x : BitVec 6} {addr : Nat → Nat}
    {f : Nat} (hv : VectorRuns s (.vstxadd d a k mk x)) (hpend : s.me.pend = []) (hp : Unpoisoned s.me)
    (hi : ∀ e, s.me.reissue = some e → e.instr = .vstxadd d a k mk x ∧ e.begun = none)
    (h : laneAccess s (.vstxadd d a k mk x) = some (d, mk, addr)) (hf : (activeOf s.me mk).head? = some f)
    (hal : addr f % (s.me.vw / 8) ≠ 0) (hd : (s.me.trapSet (trapLevel s)).regs.depth ≠ 2) :
    Reaches (exec (.vstxadd d a k mk x) s) fun t => t.me.vec = s.me.vec ∧ t.me.pend = [] ∧ SameBytes s t ∧
      t.me.vstart = s.me.vstart ∧
      VectorTrapped s t (.vstxadd d a k mk x) 0x0E2 (BitVec.ofNat 64 (addr f)) (elementTelem f 3 0 0) 0 := by
  obtain ⟨u, e, hr, hexec⟩ := exec_vstxadd hv hp h
  have hat := hr.atInstr hi
  obtain ⟨ho, hm, -, -⟩ := hr
  obtain ⟨rest, hrest⟩ := List.head?_eq_some_iff.1 hf
  obtain ⟨h1, h2, h3, h4, h5⟩ := vsideTrap_vectorTrapped hat (targetLevel_misaligned s) hd (addr f)
    (BitVec.ofNat 64 (2 ^ 31 + f + 3 * 2 ^ 28)) 0
  rw [hexec, hrest, List.map_cons, State.addPlaces, storeOf_length, show (storeOf s.me d k addr f).addr = addr f from rfl,
    if_pos hal]
  exact ⟨_, rfl, h3.trans (by rw [hm]), h4.trans (by rw [hm]; exact hpend), ho.sameBytes.trans h2.sameBytes,
    h5.trans (by rw [hm]), h1⟩

/-- VSTXADD whose first active element faults takes the trap of the fault and updates nothing. -/
theorem vstxadd_firstFault {s : State} {d : BitVec 6} {a : BitVec 5} {k mk : BitVec 4} {x : BitVec 6} {addr : Nat → Nat}
    {f cause stg lvl gpa : Nat} (hv : VectorRuns s (.vstxadd d a k mk x)) (hpend : s.me.pend = []) (hp : Unpoisoned s.me)
    (hi : ∀ e, s.me.reissue = some e → e.instr = .vstxadd d a k mk x ∧ e.begun = none)
    (h : laneAccess s (.vstxadd d a k mk x) = some (d, mk, addr)) (hf : (activeOf s.me mk).head? = some f)
    (hal : addr f % (s.me.vw / 8) = 0) (hcov : ∀ e ∈ s.tlb, e.covers s.me.fn (addr f) = false)
    (hpf : pageFault s s.agent.level .atomic (addr f) = some (cause, stg, lvl, gpa))
    (hd : (s.me.trapSet (faultLevel s cause)).regs.depth ≠ 2) :
    Reaches (exec (.vstxadd d a k mk x) s) fun t => t.me.vec = s.me.vec ∧ t.me.pend = [] ∧ SameBytes s t ∧
      t.me.vstart = s.me.vstart ∧
      VectorTrapped s t (.vstxadd d a k mk x) cause (BitVec.ofNat 64 (addr f)) (elementTelem f 3 stg lvl)
        (if 0x085 ≤ cause ∧ cause ≤ 0x087 then BitVec.ofNat 52 gpa else 0) := by
  obtain ⟨u, e, hr, hexec⟩ := exec_vstxadd hv hp h
  have hat := hr.atInstr hi
  obtain ⟨q, hres, hc, hfx⟩ := hr.resolve_fault (laneAccess_lt h f) (vw_bytes_pos s.me) (aligned_fits hal).2.1 hcov hpf
  obtain ⟨ho, hm, -, -⟩ := hr
  obtain ⟨rest, hrest⟩ := List.head?_eq_some_iff.1 hf
  have hplace : u.atomicPlace u.cur u.agent (addr f) (s.me.vw / 8) = (u, .error { fault := q, addr := addr f }) := by
    rw [State.atomicPlace, beforeWalk_nil (show u.me.pend = [] by rw [hm]; exact hpend), hres]
  obtain ⟨h1, ⟨h2, -, h3, h4, -⟩, h5⟩ := vsideFault_vectorTrapped hat .atomic f (x := { fault := q, addr := addr f }) hc
    (by rw [hfx.1]; exact hfx.2.2.2.2) (by rw [show q.cause = cause from hfx.1]; exact hd)
  rw [hexec, hrest, List.map_cons, State.addPlaces, storeOf_length, show (storeOf s.me d k addr f).addr = addr f from rfl,
    if_neg (by simp [hal]), hplace]
  exact ⟨_, rfl, h3.trans (by rw [hm]), h4.trans (by rw [hm]; exact hpend), ho.sameBytes.trans h2,
    h5.trans (by rw [hm]), vectorTrapped_of_faultIs (k := .atomic) hfx h1⟩

end Sys2Proof.Machine
end

section
/-! PROOFS. VLDP and the settlement of vector memory. -/

open Sys2Proof Sys2Proof.Machine

namespace Sys2Proof.Machine

/-! ### Planes (R211) -/

/-- The address of a plane's byte for an element. -/
def planeAt (s : State) (a : BitVec 5) (f : Fmt) (e j : Nat) : Nat := ((s.rv a).toNat + f.psb * j + e / 8) % 2 ^ 64

/-- What a plane's byte adds to an element. -/
def planeTerm (s : State) (a : BitVec 5) (f : Fmt) (e j : Nat) : Nat :=
  leNat (storedBytes s (planeAt s a f e j) 1) / 2 ^ (e % 8) % 2 * 2 ^ (f.p - 1 - j)

/-- At firmware level, with nothing pending, the planes of an element in clean device memory are read as they are stored. -/
theorem readPlanes_plain {s u v : State} {i : Instr} {q : VqEntry} (hr : Running s u i q) (hl : s.agent.level = .firmware)
    (hp : s.me.pend = []) (oc : BitVec 4) (f : Fmt) (a : BitVec 5) (e n k : Nat)
    (h : ∀ j, j < n → PlainBytes s (planeAt s a f e (k + j)) 1) (hv : L2Only u v) :
    ∃ t, v.readPlanes oc f (s.rv a) e n k = (t, .ok (((List.range n).map fun j => planeTerm s a f e (k + j)).sum, false)) ∧
      L2Only v t := by
  have hag := hr.agent
  obtain ⟨ho, hm, -, -⟩ := id hr
  induction n generalizing k v with
  | zero => exact ⟨v, rfl, .refl v⟩
  | succ n ih =>
    have haddr : (s.rv a + BitVec.ofNat 64 (f.psb * k + e / 8)).toNat = planeAt s a f e k := by
      rw [BitVec.toNat_add, BitVec.toNat_ofNat, Nat.add_mod_mod, ← Nat.add_assoc, planeAt]
    have hvm : v.me = u.me := hv.caches.still.me
    have hva : v.agent = u.agent := by rw [hv]; rfl
    have hb : PlainBytes v (planeAt s a f e k) 1 :=
      PlainBytes.of_caches ((ho.plainBytes _ _).2 (h 0 (Nat.succ_pos n))) hv.caches
    obtain ⟨t, ht, -, hvt⟩ := load_plain (s := v) (g := v.cur) (ag := v.agent) (a := planeAt s a f e k) .load .lane (v.me.portKey oc e)
      (show v.me.pend = [] by rw [hvm, hm]; exact hp) (by rw [hva, hag]; exact hl) (Nat.mod_lt _ (Nat.two_pow_pos 64)) hb
    have hvt := hvt (by decide)
    obtain ⟨w, hw, htw⟩ := ih (k + 1) (v := t) (fun j hj => by
      have := h (j + 1) (by omega)
      rwa [show k + (j + 1) = k + 1 + j by omega] at this) (hv.trans hvt)
    refine ⟨w, ?_, hvt.trans htw⟩
    have hsb : storedBytes v (planeAt s a f e k) 1 = storedBytes s (planeAt s a f e k) 1 := by
      rw [hv.caches.storedBytes]
      exact List.map_congr_left fun i _ => ho.sameBytes.1 _
    rw [State.readPlanes, haddr, ht]
    dsimp only
    rw [hw]
    dsimp only
    rw [hsb, bitsOf_one, List.range_succ_eq_map, List.map_cons, List.sum_cons, List.map_map, Nat.add_comm]
    refine congrArg (fun x => (w, Except.ok (x, false))) (congrArg₂ _ rfl (congrArg List.sum (List.map_congr_left fun j _ => ?_)))
    rw [Function.comp_apply, Nat.succ_eq_add_one, show k + (j + 1) = k + 1 + j by omega]

/-- VLDP at firmware level on clean device memory writes each active element the value of its planes. -/
theorem vldp_elementsAre {s : State} {d : BitVec 6} {a : BitVec 5} {k mk : BitVec 4} {p : BitVec 3}
    (hv : VectorRuns s (.vldp d a k mk p)) (hlen : s.me.len ≤ s.me.geo.vlmax) (hl : s.agent.level = .firmware)
    (hpend : s.me.pend = []) (hp : Unpoisoned s.me) (hbad : badFmtB s.me.fmtb = false) (hty : (Fmt.of s.me.fmtb).ty = 5)
    (hn : p.toNat + 1 ≤ (Fmt.of s.me.fmtb).p)
    (hb : ∀ e ∈ activeOf s.me mk, ∀ j, j < p.toNat + 1 → PlainBytes s (planeAt s a (Fmt.of s.me.fmtb) e j) 1) :
    Reaches (exec (.vldp d a k mk p) s) fun t => ElementsAre { s with l2 := t.l2 } t d s.me.vw mk fun e =>
      ((BitVec.ofInt s.me.vw (planeValue (Fmt.of s.me.fmtb).p (p.toNat + 1) (Fmt.of s.me.fmtb).c
        (((List.range (p.toNat + 1)).map (planeTerm s a (Fmt.of s.me.fmtb) e)).foldl (· + ·) 0))).toNat, noFlags) := by
  obtain ⟨u, q, hr, hbody⟩ := vector_runs hv
  obtain ⟨-, hm, ho, -⟩ := id hr
  have hu : u.me.fmtb = s.me.fmtb ∧ u.me.vw = s.me.vw := by rw [hm]; exact ⟨rfl, rfl⟩
  obtain ⟨hfmt, hvw⟩ := hu
  have hx := holds_of_legal hv.2.1 (d := d) rfl (List.mem_cons_self ..)
  refine ⟨_, congrArg Host.Outcome.next (hbody _), ?_⟩
  dsimp only
  rw [hfmt, if_neg (by simp [hbad]), if_neg (by omega), hvw, ho, vecLoad_eq, hr.active hv.1 hp mk]
  generalize hread : (fun (s' : State) (e : Nat) => _ : State → Nat → State × Except AccFault (Nat × Bool)) = read
  obtain ⟨t, ht, hreads⟩ := readElems_all (s := u) (es := activeOf s.me mk) (read := read)
    (val := fun e => (BitVec.ofInt s.me.vw (planeValue (Fmt.of s.me.fmtb).p (p.toNat + 1) (Fmt.of s.me.fmtb).c
      (((List.range (p.toNat + 1)).map (planeTerm s a (Fmt.of s.me.fmtb) e)).foldl (· + ·) 0))).toNat) fun e he v hvu => by
      obtain ⟨w, hw, hvw⟩ := readPlanes_plain hr hl hpend k (Fmt.of s.me.fmtb) a e (p.toNat + 1) 0
        (fun j hj => by rw [Nat.zero_add]; exact hb e he j hj) hvu
      refine ⟨w, ?_, hvw⟩
      simp only [Nat.zero_add] at hw
      rw [← hread]
      dsimp only
      rw [show (s.me.operand a).1 = s.rv a from rfl, hw]
      dsimp only
      rw [encodeInt, BitVec.toNat_ofInt, List.sum_eq_foldl]
  rw [hreads]
  exact landLoad_elementsAre hr hv.1 hp hx hlen ht

/-! ### The obligation -/

/-- Where an access of a vector memory instruction faults, its trap is taken. -/
theorem vectorMemoryFaults : VectorMemoryFaults := by
  intro s i d mk addr f hv hlen _ hpend hp hi h c n at_ loads stores adds telem
  refine ⟨fun hf => ⟨fun hpage hcov k kind hk cause stg lvl gpa hpf hd => ?_, ?_⟩, fun hl hf hb hx hpage => ?_⟩
  · rcases hk with ⟨hL, rfl, rfl⟩ | ⟨hS, rfl, rfl⟩ | ⟨⟨a, k, x, rfl⟩, rfl, rfl, hal⟩
    · exact laneLoad_firstFault hv hlen hpend hp hi h hL hf hpage hcov hpf hd
    · exact laneStore_firstFault hv hpend hp hi h hS hf hpage hcov hpf hd
    · exact vstxadd_firstFault hv hpend hp hi h hf hal hcov hpf hd
  · rintro ⟨a, k, x, rfl⟩ hal hd
    exact vstxadd_misaligned hv hpend hp hi h hf hal hd
  · intro below loaded traps
    refine ⟨fun hL hne hd => ?_, fun a k hi' hne => ?_, fun hS hd hview => ?_⟩
    · obtain ⟨t, ht, h1, h2, h3⟩ := (laneLoad_laterFault hv hlen hpend hp hi h hL hl hf hb hx hpage rfl).1 hne hd
      exact ⟨t, ht, h1, h2, h3⟩
    · exact (laneLoad_laterFault (d' := d) (mk' := mk) hv hlen hpend hp hi h ⟨a, k, .inr (.inl hi')⟩ hl hf hb hx hpage
        rfl).2 a k hi' hne
    · exact laneStore_laterFault hv hpend hp hi h hS hl hf hb hx hpage hd hview

/-- Settles O34: a vector access resolves its elements in order; clean ones are read, stored or updated as they stand, and
the first that faults takes its trap. -/
theorem vectorMemory : Obligations.VectorMemory := by
  refine ⟨vectorMemoryFaults, fun s i hv hlen hl hpend hp => ?_⟩
  intro c n at_
  refine ⟨fun d mk addr h hb => ⟨fun hL => ?_, fun hS hview => ?_, ?_⟩, ?_⟩
  · exact laneLoad_elementsAre hv hlen hl hpend hp h hL hb
  · obtain ⟨a, k, hS⟩ := hS
    refine laneStore_stored (d' := d) (mk' := mk) hv hl hpend hp h ⟨a, k, ?_⟩ hb (fun b m y hy => ?_) hview
    · exact hS.imp_right (Or.imp_right fun ⟨x, hx, _⟩ => ⟨x, hx⟩)
    · rcases hS with rfl | ⟨x, rfl⟩ | ⟨x, rfl, hd⟩
      · cases hy
      · cases hy
      · exact hd
  · rintro a k x rfl hal
    exact vstxadd_updates hv hl hpend hp h hb hal
  · rintro d a k mk p rfl hbad f planes place hty hn hb
    exact vldp_elementsAre hv hlen hl hpend hp hbad hty hn hb

end Sys2Proof.Machine
end

section
/-! PROOFS. Fields of a word: where an appended part stands, and what the last step of decoding checks. -/

namespace Sys2Proof

/-- The bits of `x` stand in `w` from bit `s` on. -/
def HasField {n l : Nat} (w : BitVec n) (s : Nat) (x : BitVec l) : Prop :=
  ∀ i k, i + k ≤ l → w.extractLsb' (i + s) k = x.extractLsb' i k

/-- A field is a run of bits of the word. -/
theorem hasField_iff {n l s : Nat} {w : BitVec n} {x : BitVec l} : HasField w s x ↔ w.extractLsb' s l = x := by
  constructor
  · intro h
    simpa using h 0 l (by omega)
  · rintro rfl i k hik
    ext j hj
    have : i + j < l := by omega
    simp [Nat.add_assoc, Nat.add_left_comm, this]

/-- Two parts side by side are two fields. -/
theorem hasField_append_iff {n v k s : Nat} {w : BitVec n} {x : BitVec v} {y : BitVec k} :
    HasField w s (x ++ y) ↔ HasField w (s + k) x ∧ HasField w s y := by
  simp only [hasField_iff]
  rw [← BitVec.extractLsb'_append_extractLsb'_eq_extractLsb' (rfl : s + k = s + k)]
  constructor
  · intro h
    have hx := congrArg (BitVec.extractLsb' k v) h
    have hy := congrArg (BitVec.extractLsb' 0 k) h
    simp only [BitVec.extractLsb'_append_eq_left, BitVec.extractLsb'_append_eq_right] at hx hy
    exact ⟨hx, hy⟩
  · rintro ⟨rfl, rfl⟩
    rfl

/-- A word is two parts side by side where each part is a field of it. -/
theorem append_eq_iff_hasField {v k : Nat} {x : BitVec v} {y : BitVec k} {w : BitVec (v + k)} :
    x ++ y = w ↔ HasField w k x ∧ HasField w 0 y := by
  have h := hasField_append_iff (w := w) (s := 0) (x := x) (y := y)
  rw [Nat.zero_add] at h
  rw [← h, hasField_iff, BitVec.extractLsb'_eq_self, eq_comm]

/-- `w` is the word of `i`, a well-formed instruction and the first of the rows that share the word. -/
def IsWordOf (w : BitVec 32) (i : Instr) : Prop := encode i = some w ∧ WellFormed i = true ∧ primary i = i

theorem firstFault_eq_ok {l : List (Bool × IllCause)} {i j : Instr} (h : firstFault l i = .ok j) :
    j = i ∧ l.all (fun p => !p.1) = true := by
  induction l with
  | nil => cases h; exact ⟨rfl, rfl⟩
  | cons p l ih =>
    obtain ⟨_ | _, c⟩ := p
    · exact ih h
    · cases h

theorem firstFault_of_all {l : List (Bool × IllCause)} (i : Instr) (h : l.all (fun p => !p.1) = true) :
    firstFault l i = .ok i := by
  induction l with
  | nil => rfl
  | cons p l ih =>
    obtain ⟨_ | _, c⟩ := p
    · exact ih h
    · cases h

theorem accept_eq_ok {z : Bool} {i j : Instr} (h : accept z i = .ok j) :
    z = true ∧ j = i ∧ i.checks.all (fun p => !p.1) = true := by
  unfold accept at h
  split_ifs at h with hz
  exact ⟨hz, firstFault_eq_ok h⟩

theorem accept_of_wellFormed {i : Instr} (h : WellFormed i = true) : accept true i = .ok i :=
  firstFault_of_all i (Bool.and_eq_true_iff.1 h).1

/-- No check of a well-formed instruction fails. -/
theorem check_of_wellFormed {i : Instr} {bad : Bool} {c : IllCause} (h : WellFormed i = true)
    (hp : (bad, c) ∈ i.checks) : bad = false := by
  simpa using List.all_eq_true.1 (Bool.and_eq_true_iff.1 h).1 _ hp

/-- What is accepted has its word where the row appends the fields that the row reads. -/
theorem isWordOf_of_accept {w : BitVec 32} {z : Bool} {i j : Instr} (h : accept z i = .ok j)
    (hw : z = true → encode i = some w) (hr : i.inRange = true) (hp : primary i = i) : IsWordOf w j := by
  obtain ⟨hz, rfl, hc⟩ := accept_eq_ok h
  exact ⟨hw hz, by rw [WellFormed, hc, hr]; rfl, hp⟩

end Sys2Proof
end

section
/-! PROOFS. Every word decodes to the first of the rows whose word it is. -/

namespace Sys2Proof

/-- The first of the rows that share a word is the instruction itself, or has its word, is well-formed and is its own
first. -/
theorem primary_cases {i j : Instr} (h : primary i = j) :
    j = i ∨ encode j = encode i ∧ WellFormed j = true ∧ primary j = j := by
  unfold primary at h
  split at h <;> subst h
  case h_18 => exact .inl rfl
  all_goals exact .inr ⟨rfl, rfl, rfl⟩

/-- Only majors other than 0 are fields of words other than 0. -/
theorem word_ne_zero {w : BitVec 32} {m : BitVec 6} (h : w.extractLsb' 0 6 = m) (hm : m ≠ 0#6) : w ≠ 0#32 := by
  rintro rfl
  exact hm (h.symm.trans (by simp))

theorem decode_of_low {w : BitVec 32} {m : BitVec 6} (h : w.extractLsb' 0 6 = m) (hm : m ≠ 0#6 ∧ m < 50#6) :
    decode w = decodeLow w := by
  obtain ⟨h0, hm⟩ := hm
  rw [decode, if_neg (word_ne_zero h h0)]
  have hm : (w.extractLsb' 0 6).toNat < 50 := h ▸ hm
  split
  case h_10 => rfl
  all_goals omega

/-- A TRAP that is well-formed is no service. -/
theorem serviceRow_of_wellFormed {imm : BitVec 16} (h : WellFormed (.trap imm) = true) :
    serviceRow imm = .trap imm := by
  unfold serviceRow
  split_ifs with h0 h1 h2 h3
  case neg => rfl
  all_goals
    subst imm
    cases h

/-- The first rows among the constructors from number `lo` up to `hi` decode back from their words. Each part of the
opcode table is a lemma of its own: in the word the fields of the row stand where its decoder reads them. -/
def DecodesBack (lo hi : Nat) : Prop :=
  ∀ i w, decide (lo ≤ i.ctorIdx ∧ i.ctorIdx < hi) = true → primary i = i → WellFormed i = true →
    encode i = some w → decode w = .ok i

/-- R36: which decoder takes a word of majors 0x01 to 0x0A. -/
theorem decode_arithmeticMajors {w : BitVec 32} :
    (w.extractLsb' 0 6 = 1#6 → decode w = decodeMajor01 w) ∧
    (w.extractLsb' 0 6 = 2#6 → decode w = decodeMajor02 w) ∧
    (w.extractLsb' 0 6 = 3#6 → decode w = decodeMajor03 w) ∧
    (w.extractLsb' 0 6 = 4#6 → decode w = decodeMajor04 w) ∧
    (w.extractLsb' 0 6 = 5#6 → decode w = decodeMajor05 w) ∧
    (w.extractLsb' 0 6 = 6#6 → decode w = decodeMajor06 w) ∧
    (w.extractLsb' 0 6 = 7#6 → decode w = decodeMajor07 w) ∧
    (w.extractLsb' 0 6 = 8#6 → decode w = decodeMajor08 w) ∧
    (w.extractLsb' 0 6 = 9#6 → decode w = decodeMajor09 w) ∧
    (w.extractLsb' 0 6 = 10#6 → decode w = decodeMajor0A w) := by
  refine ⟨?_, ?_, ?_, ?_, ?_, ?_, ?_, ?_, ?_, ?_⟩
  all_goals
    intro h
    rw [decode_of_low h (by decide), decodeLow, h]
    rfl

/-- R59 to R65: integer and float arithmetic, majors 0x01 to 0x0A. -/
theorem decodesBack_arithmetic : DecodesBack 0 49 := by
  intro i w hg hp hw h
  cases i
  all_goals cases hg
  all_goals cases hp
  case fcvt d a r x t =>
    have hxt : (x == t) = false := check_of_wellFormed hw (List.mem_cons_self ..)
    have h := append_eq_iff_hasField.1 (Option.some.inj h)
    simp only [hasField_append_iff] at h
    simp only [HasField, Nat.reduceAdd] at h
    simp only [h, decode_arithmeticMajors, decodeMajor0A, Nat.reduceLeDiff, Nat.reduceAdd, BitVec.extractLsb'_eq_self,
      hxt]
    exact accept_of_wellFormed hw
  all_goals
    have h := append_eq_iff_hasField.1 (Option.some.inj h)
    simp only [hasField_append_iff] at h
    simp only [HasField, Nat.reduceAdd] at h
    simp only [h, decode_arithmeticMajors, decodeMajor01, decodeMajor02, decodeMajor03, decodeMajor04, decodeMajor05,
      decodeMajor06, decodeMajor07, decodeMajor08, decodeMajor09, Nat.reduceLeDiff, Nat.reduceAdd,
      BitVec.extractLsb'_eq_self, BitVec.reduceExtractLsb', BitVec.reduceToNat, BitVec.ofNat_eq_ofNat]
    exact accept_of_wellFormed hw

/-- R36: which decoder takes a word of majors 0x0C to 0x16. -/
theorem decode_controlMajors {w : BitVec 32} :
    (w.extractLsb' 0 6 = 12#6 → decode w = decodeMajor0C w) ∧
    (w.extractLsb' 0 6 = 13#6 → decode w = decodeMajor0D w) ∧
    (w.extractLsb' 0 6 = 14#6 → decode w = decodeMajor0E w) ∧
    (w.extractLsb' 0 6 = 15#6 → decode w = decodeMajor0F w) ∧
    (w.extractLsb' 0 6 = 16#6 → decode w = decodeMajor10 w) ∧
    (w.extractLsb' 0 6 = 17#6 → decode w = decodeMajor11 w) ∧
    (w.extractLsb' 0 6 = 18#6 → decode w = decodeMajor12 w) ∧
    (w.extractLsb' 0 6 = 19#6 → decode w = decodeMajor13 w) ∧
    (w.extractLsb' 0 6 = 20#6 → decode w = decodeMajor14 w) ∧
    (w.extractLsb' 0 6 = 21#6 → decode w = decodeMajor15 w) ∧
    (w.extractLsb' 0 6 = 22#6 → decode w = decodeMajor16 w) := by
  refine ⟨?_, ?_, ?_, ?_, ?_, ?_, ?_, ?_, ?_, ?_, ?_⟩
  all_goals
    intro h
    rw [decode_of_low h (by decide), decodeLow, h]
    rfl

/-- R66 to R78: branches, loads and stores, atomics, control registers and crews, majors 0x0C to 0x16. -/
theorem decodesBack_control : DecodesBack 49 110 := by
  intro i w hg hp hw h
  cases i
  all_goals cases hg
  all_goals cases hp
  case preempt | resume | setvec | attest | eret | yield | exit =>
    cases h
    rfl
  case fenceC k =>
    obtain ⟨hk, hm⟩ := append_eq_iff_hasField.1 (Option.some.inj h)
    have hk : w.extractLsb' 16 16 = k := hasField_iff.1 hk
    simp only [HasField] at hm
    simp only [hk, hm 0 6, hm 6 5, hm 11 5, decode_controlMajors, decodeMajor15, Nat.reduceLeDiff, Nat.reduceAdd,
      BitVec.reduceExtractLsb', BitVec.reduceToNat]
    exact accept_of_wellFormed hw
  case trap k =>
    obtain ⟨hk, hm⟩ := append_eq_iff_hasField.1 (Option.some.inj h)
    have hk : w.extractLsb' 16 16 = k := hasField_iff.1 hk
    simp only [HasField] at hm
    simp only [hk, hm 0 6, hm 6 5, hm 11 5, decode_controlMajors, decodeMajor15, Nat.reduceLeDiff, Nat.reduceAdd,
      BitVec.reduceExtractLsb', BitVec.reduceToNat, serviceRow_of_wellFormed hw]
    exact accept_of_wellFormed hw
  all_goals
    have h := append_eq_iff_hasField.1 (Option.some.inj h)
    simp only [hasField_append_iff] at h
    simp only [HasField, Nat.reduceAdd] at h
    simp only [h, decode_controlMajors, decodeMajor0C, decodeMajor0D, decodeMajor0E, decodeMajor0F, decodeMajor10,
      decodeMajor11, decodeMajor12, decodeMajor13, decodeMajor14, decodeMajor15, decodeMajor16, Nat.reduceLeDiff,
      Nat.reduceAdd, BitVec.extractLsb'_eq_self, BitVec.reduceExtractLsb', BitVec.reduceToNat, BitVec.ofNat_eq_ofNat]
    exact accept_of_wellFormed hw

/-- R36: which decoder takes a word of majors 0x18 to 0x20. -/
theorem decode_vectorArithmeticMajors {w : BitVec 32} :
    (w.extractLsb' 0 6 = 24#6 → decode w = decodeMajor18 w) ∧
    (w.extractLsb' 0 6 = 25#6 → decode w = decodeMajor19 w) ∧
    (w.extractLsb' 0 6 = 26#6 → decode w = decodeMajor1A w) ∧
    (w.extractLsb' 0 6 = 27#6 → decode w = decodeMajor1B w) ∧
    (w.extractLsb' 0 6 = 28#6 → decode w = decodeMajor1C w) ∧
    (w.extractLsb' 0 6 = 29#6 → decode w = decodeMajor1D w) ∧
    (w.extractLsb' 0 6 = 30#6 → decode w = decodeMajor1E w) ∧
    (w.extractLsb' 0 6 = 31#6 → decode w = decodeMajor1F w) ∧
    (w.extractLsb' 0 6 = 32#6 → decode w = decodeMajor20 w) := by
  refine ⟨?_, ?_, ?_, ?_, ?_, ?_, ?_, ?_, ?_⟩
  all_goals
    intro h
    rw [decode_of_low h (by decide), decodeLow, h]
    rfl

/-- R139 to R144: vector set-up and arithmetic, majors 0x18 to 0x20. -/
theorem decodesBack_vectorArithmetic : DecodesBack 110 175 := by
  intro i w hg hp hw h
  cases i
  all_goals cases hg
  all_goals cases hp
  case vgive | vsave =>
    cases h
    rfl
  all_goals
    have h := append_eq_iff_hasField.1 (Option.some.inj h)
    simp only [hasField_append_iff] at h
    simp only [HasField, Nat.reduceAdd] at h
    simp only [h, decode_vectorArithmeticMajors, decodeMajor18, decodeMajor19, decodeMajor1A, decodeMajor1B,
      decodeMajor1C, decodeMajor1D, decodeMajor1E, decodeMajor1F, decodeMajor20, Nat.reduceLeDiff, Nat.reduceAdd,
      BitVec.extractLsb'_eq_self, BitVec.reduceExtractLsb', BitVec.reduceToNat, BitVec.ofNat_eq_ofNat]
    exact accept_of_wellFormed hw

/-- R36: which decoder takes a word of majors 0x21 to 0x29. -/
theorem decode_vectorMovesMajors {w : BitVec 32} :
    (w.extractLsb' 0 6 = 33#6 → decode w = decodeMajor21 w) ∧
    (w.extractLsb' 0 6 = 34#6 → decode w = decodeMajor22 w) ∧
    (w.extractLsb' 0 6 = 35#6 → decode w = decodeMajor23 w) ∧
    (w.extractLsb' 0 6 = 36#6 → decode w = decodeMajor24 w) ∧
    (w.extractLsb' 0 6 = 37#6 → decode w = decodeMajor25 w) ∧
    (w.extractLsb' 0 6 = 38#6 → decode w = decodeMajor26 w) ∧
    (w.extractLsb' 0 6 = 39#6 → decode w = decodeMajor27 w) ∧
    (w.extractLsb' 0 6 = 40#6 → decode w = decodeMajor28 w) ∧
    (w.extractLsb' 0 6 = 41#6 → decode w = decodeMajor29 w) := by
  refine ⟨?_, ?_, ?_, ?_, ?_, ?_, ?_, ?_, ?_⟩
  all_goals
    intro h
    rw [decode_of_low h (by decide), decodeLow, h]
    rfl

/-- R145 to R165: moves, compares, reductions, masks and lane crossing, majors 0x21 to 0x29. -/
theorem decodesBack_vectorMoves : DecodesBack 175 219 := by
  intro i w hg hp hw h
  cases i
  all_goals cases hg
  all_goals cases hp
  all_goals
    have h := append_eq_iff_hasField.1 (Option.some.inj h)
    simp only [hasField_append_iff] at h
    simp only [HasField, Nat.reduceAdd] at h
    simp only [h, decode_vectorMovesMajors, decodeMajor21, decodeMajor22, decodeMajor23, decodeMajor24,
      decodeMajor25, decodeMajor26, decodeMajor27, decodeMajor28, decodeMajor29, Nat.reduceLeDiff, Nat.reduceAdd,
      BitVec.extractLsb'_eq_self, BitVec.reduceExtractLsb', BitVec.reduceToNat, BitVec.ofNat_eq_ofNat]
    exact accept_of_wellFormed hw

/-- R36: which decoder takes a word of majors 0x2A to 0x30. -/
theorem decode_vectorMemoryMajors {w : BitVec 32} :
    (w.extractLsb' 0 6 = 42#6 → decode w = decodeMajor2A w) ∧
    (w.extractLsb' 0 6 = 43#6 → decode w = decodeMajor2B w) ∧
    (w.extractLsb' 0 6 = 44#6 → decode w = decodeMajor2C w) ∧
    (w.extractLsb' 0 6 = 45#6 → decode w = decodeMajor2D w) ∧
    (w.extractLsb' 0 6 = 46#6 → decode w = decodeMajor2E w) ∧
    (w.extractLsb' 0 6 = 47#6 → decode w = decodeMajor2F w) ∧
    (w.extractLsb' 0 6 = 48#6 → decode w = decodeMajor30 w) := by
  refine ⟨?_, ?_, ?_, ?_, ?_, ?_, ?_⟩
  all_goals
    intro h
    rw [decode_of_low h (by decide), decodeLow, h]
    rfl

/-- R175, R207: vector memory and weaves, majors 0x2A to 0x30. -/
theorem decodesBack_vectorMemory : DecodesBack 219 239 := by
  intro i w hg hp hw h
  cases i
  all_goals cases hg
  all_goals cases hp
  case wsplit =>
    cases h
    rfl
  all_goals
    have h := append_eq_iff_hasField.1 (Option.some.inj h)
    simp only [hasField_append_iff] at h
    simp only [HasField, Nat.reduceAdd] at h
    simp only [h, decode_vectorMemoryMajors, decodeMajor2A, decodeMajor2B, decodeMajor2C, decodeMajor2D,
      decodeMajor2E, decodeMajor2F, decodeMajor30, Nat.reduceLeDiff, Nat.reduceAdd, BitVec.extractLsb'_eq_self,
      BitVec.reduceExtractLsb', BitVec.reduceToNat, BitVec.ofNat_eq_ofNat]
    exact accept_of_wellFormed hw

/-- R36: which decoder takes a word of majors 0x32 to 0x3A. -/
theorem decode_packageMajors {w : BitVec 32} :
    (w.extractLsb' 0 6 = 50#6 → decode w = decodeMajor32 w) ∧
    (w.extractLsb' 0 6 = 51#6 → decode w = decodeMajor33 w) ∧
    (w.extractLsb' 0 6 = 52#6 → decode w = decodeMajor34 w) ∧
    (w.extractLsb' 0 6 = 53#6 → decode w = decodeMajor35 w) ∧
    (w.extractLsb' 0 6 = 54#6 → decode w = decodeMajor36 w) ∧
    (w.extractLsb' 0 6 = 55#6 → decode w = decodeMajor37 w) ∧
    (w.extractLsb' 0 6 = 56#6 → decode w = decodeMajor38 w) ∧
    (w.extractLsb' 0 6 = 57#6 → decode w = decodeMajor39 w) ∧
    (w.extractLsb' 0 6 = 58#6 → decode w = decodeMajor3A w) := by
  refine ⟨?_, ?_, ?_, ?_, ?_, ?_, ?_, ?_, ?_⟩
  all_goals
    intro h
    rw [decode, if_neg (word_ne_zero h (by decide)), h]
    rfl

/-- Messages, barriers, queues, directories and maintenance, majors 0x32 to 0x3A. -/
theorem decodesBack_package : DecodesBack 239 291 := by
  intro i w hg hp hw h
  cases i
  all_goals cases hg
  all_goals cases hp
  case mret =>
    cases h
    rfl
  all_goals
    have h := append_eq_iff_hasField.1 (Option.some.inj h)
    simp only [hasField_append_iff] at h
    simp only [HasField, Nat.reduceAdd] at h
    simp only [h, decode_packageMajors, decodeMajor32, decodeMajor33, decodeMajor34, decodeMajor35, decodeMajor36,
      decodeMajor37, decodeMajor38, decodeMajor39, decodeMajor3A, Nat.reduceLeDiff, Nat.reduceAdd,
      BitVec.extractLsb'_eq_self, BitVec.reduceExtractLsb', BitVec.reduceToNat, BitVec.ofNat_eq_ofNat]
    exact accept_of_wellFormed hw

/-- An event has no word. -/
theorem encode_event {i : Instr} (hg : decide (291 ≤ i.ctorIdx) = true) : encode i = none := by
  cases i
  all_goals cases hg
  all_goals rfl

/-- R33 to R43: the word of a well-formed instruction, the first of the rows that share it, decodes to it. -/
theorem decode_of_encode {i : Instr} {w : BitVec 32} (hp : primary i = i) (hw : WellFormed i = true)
    (h : encode i = some w) : decode w = .ok i := by
  rcases Nat.lt_or_ge i.ctorIdx 49 with h1 | h1
  · exact decodesBack_arithmetic i w (decide_eq_true (by omega)) hp hw h
  rcases Nat.lt_or_ge i.ctorIdx 110 with h2 | h2
  · exact decodesBack_control i w (decide_eq_true (by omega)) hp hw h
  rcases Nat.lt_or_ge i.ctorIdx 175 with h3 | h3
  · exact decodesBack_vectorArithmetic i w (decide_eq_true (by omega)) hp hw h
  rcases Nat.lt_or_ge i.ctorIdx 219 with h4 | h4
  · exact decodesBack_vectorMoves i w (decide_eq_true (by omega)) hp hw h
  rcases Nat.lt_or_ge i.ctorIdx 239 with h5 | h5
  · exact decodesBack_vectorMemory i w (decide_eq_true (by omega)) hp hw h
  rcases Nat.lt_or_ge i.ctorIdx 291 with h6 | h6
  · exact decodesBack_package i w (decide_eq_true (by omega)) hp hw h
  · cases (encode_event (decide_eq_true h6)).symm.trans h

end Sys2Proof
end

section
/-! PROOFS. A word that decodes to an instruction is the word of that instruction: its operands are the fields that the
row reads, and its code, its zero fields and its major the rest. -/

namespace Sys2Proof

/-- R330, R377: only the codes of the four services are no TRAP. -/
theorem trap_inRange {imm : BitVec 16} (h0 : imm ≠ 0x100#16) (h1 : imm ≠ 0x101#16) (h2 : imm ≠ 0x102#16)
    (h3 : imm ≠ 0x103#16) : (Instr.trap imm).inRange = true := by
  change (!(decide (0x100 ≤ imm.toNat) && decide (imm.toNat ≤ 0x103))) = true
  simp only [ne_eq, ← BitVec.toNat_inj, BitVec.toNat_ofNat] at h0 h1 h2 h3
  simp only [Bool.not_eq_true', Bool.and_eq_false_iff, decide_eq_false_iff_not]
  omega

/-- R330, R377: the codes of TRAP that are services have words of their own. -/
theorem isWordOf_of_serviceRow {w : BitVec 32} {i : Instr}
    (hm : (w.extractLsb' 0 6).toNat = 21)
    (hf : (w.extractLsb' 11 5).toNat = 3)
    (h : accept (w.extractLsb' 6 5 == 0) (serviceRow (w.extractLsb' 16 16)) = .ok i) : IsWordOf w i := by
  unfold serviceRow at h
  split_ifs at h with h0 h1 h2 h3
  case neg =>
    refine isWordOf_of_accept h (fun hz => congrArg some (append_eq_iff_hasField.2 ?_)) (trap_inRange h0 h1 h2 h3) rfl
    simp only [hasField_iff, beq_iff_eq, true_and, ← BitVec.toNat_inj, BitVec.extractLsb'_toNat, BitVec.toNat_ofNat,
      BitVec.ofNat_eq_ofNat] at *
    omega
  all_goals
    refine isWordOf_of_accept h (fun hz => congrArg some ?_) rfl rfl
    simp only [beq_iff_eq, ← BitVec.toNat_inj, BitVec.extractLsb'_toNat, BitVec.toNat_ofNat,
      BitVec.ofNat_eq_ofNat] at *
    omega

/-- Words of major 0x15: fences, TRAP and returns. -/
theorem isWordOf_of_decodeMajor15 {w : BitVec 32} {i : Instr}
    (hm : (w.extractLsb' 0 6).toNat = 21)
    (h : decodeMajor15 w = .ok i) : IsWordOf w i := by
  unfold decodeMajor15 at h
  split at h
  case h_4 hf => exact isWordOf_of_serviceRow hm hf h
  case h_8 => contradiction
  all_goals refine isWordOf_of_accept h (fun hz => congrArg some ?_) rfl rfl
  all_goals clear h
  any_goals refine append_eq_iff_hasField.2 ?_
  any_goals simp only [hasField_append_iff]
  all_goals
    simp only [hasField_iff, Nat.reduceAdd, and_true, true_and, Bool.and_eq_true, beq_iff_eq, ← BitVec.toNat_inj,
      BitVec.extractLsb'_toNat, BitVec.toNat_ofNat, BitVec.ofNat_eq_ofNat] at *
    omega

/-- Words of majors 0x01 to 0x0A. -/
theorem isWordOf_of_arithmetic {w : BitVec 32} {i : Instr}
    (hm : (w.extractLsb' 0 6).toNat ≤ 0x0A)
    (h : decodeLow w = .ok i) : IsWordOf w i := by
  unfold decodeLow at h
  split at h
  any_goals omega
  any_goals contradiction
  all_goals simp only [decodeMajor01, decodeMajor02, decodeMajor03, decodeMajor04, decodeMajor05, decodeMajor06,
    decodeMajor07, decodeMajor08, decodeMajor09, decodeMajor0A] at h
  any_goals split at h
  any_goals contradiction
  all_goals refine isWordOf_of_accept h (fun hz => congrArg some ?_) rfl rfl
  all_goals clear h
  all_goals refine append_eq_iff_hasField.2 ?_
  all_goals simp only [hasField_append_iff]
  all_goals
    simp only [hasField_iff, Nat.reduceAdd, and_true, true_and, beq_iff_eq, ← BitVec.toNat_inj,
      BitVec.extractLsb'_toNat, BitVec.toNat_ofNat, BitVec.ofNat_eq_ofNat] at *
    omega

/-- Words of majors 0x0C to 0x16. -/
theorem isWordOf_of_control {w : BitVec 32} {i : Instr}
    (hm : 0x0B ≤ (w.extractLsb' 0 6).toNat ∧ (w.extractLsb' 0 6).toNat ≤ 0x17)
    (h : decodeLow w = .ok i) : IsWordOf w i := by
  unfold decodeLow at h
  split at h
  any_goals omega
  any_goals contradiction
  case h_20 hm => exact isWordOf_of_decodeMajor15 hm h
  all_goals simp only [decodeMajor0C, decodeMajor0D, decodeMajor0E, decodeMajor0F, decodeMajor10, decodeMajor11,
    decodeMajor12, decodeMajor13, decodeMajor14, decodeMajor16] at h
  any_goals split at h
  any_goals contradiction
  all_goals refine isWordOf_of_accept h (fun hz => congrArg some ?_) rfl rfl
  all_goals clear h
  all_goals refine append_eq_iff_hasField.2 ?_
  all_goals simp only [hasField_append_iff]
  all_goals
    simp only [hasField_iff, Nat.reduceAdd, and_true, true_and, Bool.and_eq_true, beq_iff_eq, ← BitVec.toNat_inj,
      BitVec.extractLsb'_toNat, BitVec.toNat_ofNat, BitVec.ofNat_eq_ofNat] at *
    omega

/-- Words of majors 0x18 to 0x20. -/
theorem isWordOf_of_vectorArithmetic {w : BitVec 32} {i : Instr}
    (hm : 0x18 ≤ (w.extractLsb' 0 6).toNat ∧ (w.extractLsb' 0 6).toNat ≤ 0x20)
    (h : decodeLow w = .ok i) : IsWordOf w i := by
  unfold decodeLow at h
  split at h
  any_goals omega
  any_goals contradiction
  all_goals simp only [decodeMajor18, decodeMajor19, decodeMajor1A, decodeMajor1B, decodeMajor1C, decodeMajor1D,
    decodeMajor1E, decodeMajor1F, decodeMajor20] at h
  any_goals split at h
  any_goals split at h
  any_goals contradiction
  all_goals refine isWordOf_of_accept h (fun hz => congrArg some ?_) rfl rfl
  all_goals clear h
  any_goals refine append_eq_iff_hasField.2 ?_
  any_goals simp only [hasField_append_iff]
  all_goals
    simp only [hasField_iff, Nat.reduceAdd, and_true, true_and, Bool.and_eq_true, beq_iff_eq, ← BitVec.toNat_inj,
      BitVec.extractLsb'_toNat, BitVec.toNat_ofNat, BitVec.ofNat_eq_ofNat] at *
    omega

/-- Words of majors 0x21 to 0x29. -/
theorem isWordOf_of_vectorMoves {w : BitVec 32} {i : Instr}
    (hm : 0x21 ≤ (w.extractLsb' 0 6).toNat ∧ (w.extractLsb' 0 6).toNat ≤ 0x29)
    (h : decodeLow w = .ok i) : IsWordOf w i := by
  unfold decodeLow at h
  split at h
  any_goals omega
  any_goals contradiction
  all_goals simp only [decodeMajor21, decodeMajor22, decodeMajor23, decodeMajor24, decodeMajor25, decodeMajor26,
    decodeMajor27, decodeMajor28, decodeMajor29] at h
  any_goals split at h
  any_goals contradiction
  all_goals refine isWordOf_of_accept h (fun hz => congrArg some ?_) rfl rfl
  all_goals clear h
  all_goals refine append_eq_iff_hasField.2 ?_
  all_goals simp only [hasField_append_iff]
  all_goals
    simp only [hasField_iff, Nat.reduceAdd, and_true, Bool.and_eq_true, beq_iff_eq, ← BitVec.toNat_inj,
      BitVec.extractLsb'_toNat, BitVec.toNat_ofNat, BitVec.ofNat_eq_ofNat] at *
    omega

/-- Words of majors 0x2A to 0x3A. -/
theorem isWordOf_of_vectorMemory {w : BitVec 32} {i : Instr}
    (hm : 0x2A ≤ (w.extractLsb' 0 6).toNat ∧ (w.extractLsb' 0 6).toNat ≤ 0x3F)
    (h : decodeLow w = .ok i) : IsWordOf w i := by
  unfold decodeLow at h
  split at h
  any_goals omega
  any_goals contradiction
  all_goals simp only [decodeMajor2A, decodeMajor2B, decodeMajor2C, decodeMajor2D, decodeMajor2E, decodeMajor2F,
    decodeMajor30] at h
  any_goals split at h
  any_goals split at h
  any_goals contradiction
  all_goals refine isWordOf_of_accept h (fun hz => congrArg some ?_) rfl rfl
  all_goals clear h
  any_goals refine append_eq_iff_hasField.2 ?_
  any_goals simp only [hasField_append_iff]
  all_goals
    simp only [hasField_iff, Nat.reduceAdd, and_true, Bool.and_eq_true, beq_iff_eq, ← BitVec.toNat_inj,
      BitVec.extractLsb'_toNat, BitVec.toNat_ofNat, BitVec.ofNat_eq_ofNat] at *
    omega

theorem isWordOf_of_decodeLow {w : BitVec 32} {i : Instr} (h : decodeLow w = .ok i) : IsWordOf w i := by
  have hm : (w.extractLsb' 0 6).toNat < 2 ^ 6 := (w.extractLsb' 0 6).isLt
  rcases Nat.lt_or_ge (w.extractLsb' 0 6).toNat 0x0B with h1 | h1
  · exact isWordOf_of_arithmetic (by omega) h
  rcases Nat.lt_or_ge (w.extractLsb' 0 6).toNat 0x18 with h2 | h2
  · exact isWordOf_of_control (by omega) h
  rcases Nat.lt_or_ge (w.extractLsb' 0 6).toNat 0x21 with h3 | h3
  · exact isWordOf_of_vectorArithmetic (by omega) h
  rcases Nat.lt_or_ge (w.extractLsb' 0 6).toNat 0x2A with h4 | h4
  · exact isWordOf_of_vectorMoves (by omega) h
  · exact isWordOf_of_vectorMemory (by omega) h

/-- R33 to R43: a word that decodes to an instruction is its word. -/
theorem isWordOf_of_decode {w : BitVec 32} {i : Instr} (h : decode w = .ok i) : IsWordOf w i := by
  unfold decode at h
  split_ifs at h
  split at h
  case h_10 => exact isWordOf_of_decodeLow h
  all_goals simp only [decodeMajor32, decodeMajor33, decodeMajor34, decodeMajor35, decodeMajor36, decodeMajor37,
    decodeMajor38, decodeMajor39, decodeMajor3A] at h
  all_goals split at h
  any_goals contradiction
  all_goals refine isWordOf_of_accept h (fun hz => congrArg some ?_) rfl rfl
  all_goals clear h
  any_goals refine append_eq_iff_hasField.2 ?_
  any_goals simp only [hasField_append_iff]
  all_goals
    simp only [hasField_iff, Nat.reduceAdd, and_true, Bool.and_eq_true, beq_iff_eq, ← BitVec.toNat_inj,
      BitVec.extractLsb'_toNat, BitVec.toNat_ofNat, BitVec.ofNat_eq_ofNat] at *
    omega

/-- Settles O56: a word holds the fields that its row appends, and a row reads the fields that its word holds. -/
theorem decodingAndEncodingAgree : Obligations.DecodingAndEncodingAgree := by
  refine ⟨fun i w hw h => ?_, fun w i h => isWordOf_of_decode h⟩
  obtain hi | ⟨he, hpw, hp⟩ := primary_cases (rfl : primary i = primary i)
  · exact (decode_of_encode hi hw h).trans (congrArg _ hi.symm)
  · exact decode_of_encode hp hpw (he.trans h)

end Sys2Proof
end

section
/-! PROOFS. The words that the specification writes out (O57). -/

namespace Sys2Proof

/-- Settles O57: each word is the word of a well-formed instruction, which decoding gives back; the last two are no
instruction's word. -/
theorem specifiedWordsDecode : Obligations.SpecifiedWordsDecode :=
  ⟨decode_of_encode rfl rfl rfl, decode_of_encode rfl rfl rfl, decode_of_encode rfl rfl rfl,
    decode_of_encode rfl rfl rfl, decode_of_encode rfl rfl rfl, decode_of_encode rfl rfl rfl,
    decode_of_encode rfl rfl rfl, decode_of_encode rfl rfl rfl, decode_of_encode rfl rfl rfl,
    decode_of_encode rfl rfl rfl, decode_of_encode rfl rfl rfl, decode_of_encode rfl rfl rfl,
    decode_of_encode rfl rfl rfl, decode_of_encode rfl rfl rfl, decode_of_encode rfl rfl rfl,
    decode_of_encode rfl rfl rfl, rfl, rfl⟩

end Sys2Proof
end

section
/-! PROOFS. Accesses to control registers: the checks in their order, and what a read writes (O14, O11). -/

namespace Sys2Proof.Machine

/-! ### Precise traps of the running instruction (R310, R315) -/

theorem Ctx.here_pc {c : Ctx} (h : c.reissue = none) : c.here = c.pc := by
  unfold Ctx.here; rw [h]

/-- A precise trap is taken at its target level, with the instruction's own address. -/
theorem trapHere_trapped {s : State} {cause : Nat} {l : Level} (v : Word) (hr : s.me.reissue = none)
    (hl : targetLevel cause s.me.level = l) (hd : (s.me.trapSet l).regs.depth ≠ 2) :
    Trapped s (s.trapHere cause v) l cause v s.me.pc 0 := by
  subst hl
  have h := enter_trapped s (targetLevel cause s.me.level) { cause := cause, value := v, epc := s.me.pc } rfl
  have e : s.trapHere cause v = s.setMe (s.me.enter (targetLevel cause s.me.level)
      { cause := cause, value := v, epc := s.me.pc }) := by
    rw [State.trapHere, Ctx.here_pc hr]; exact trap_eq _ _ hd
  rw [e]; exact h

/-! ### The checks of an access (R45, R71) -/

/-- The level a register's number asks for is above the level in force. -/
def AboveLevel (s : State) (r : BitVec 12) : Prop :=
  bitsOf r.toNat 10 2 ≠ 3 ∧ s.me.level.code < bitsOf r.toNat 10 2

theorem aboveLevel_iff (s : State) (r : BitVec 12) :
    AboveLevel s r ↔ r.toNat / 1024 ≠ 3 ∧ s.me.level.code < r.toNat / 1024 := by
  have hr := r.isLt
  have h : bitsOf r.toNat 10 2 = r.toNat / 1024 := by rw [bitsOf_eq]; omega
  rw [AboveLevel, h]

/-- With no revocation pending, a point of R124 is no point. -/
theorem atPoint_eq {s : State} (h : s.me.revoke = none) (k : State → State) : s.atPoint k = k s := by
  unfold State.atPoint; rw [h]

section
variable {s : State} {word : BitVec 32} {r : BitVec 12} {write : Bool} {src : Option (BitVec 5)}
  {k : State → Word → State} {old : Word}

/-- With no revocation pending, an access begins with the checks of R45. -/
theorem crAccess_eq (h : s.me.revoke = none) : s.crAccess word r write src k =
    if bitsOf r.toNat 10 2 ≠ 3 ∧ s.me.level.code < bitsOf r.toNat 10 2 then s.trapHere 0x007 (word.zeroExtend 64)
    else
      match s.crRead r.toNat with
      | none => s.trapHere 0x008 (word.zeroExtend 64)
      | some old =>
        if write ∧ bitsOf r.toNat 8 1 = 1 then s.trapHere 0x009 (word.zeroExtend 64)
        else
          match src.filter fun a => s.rp a with
          | some a => s.poisonTrap a
          | none => k s old := by
  have hp : (if s.me.waitsForVector r.toNat then s.atPoint else fun k => k s) = fun k => k s := by
    split
    · exact funext (atPoint_eq h)
    · rfl
  exact congrFun hp _

theorem crAccess_above (h : s.me.revoke = none) (ha : AboveLevel s r) :
    s.crAccess word r write src k = s.trapHere 0x007 (word.zeroExtend 64) := by
  exact (crAccess_eq h).trans (if_pos ha)

theorem crAccess_absent (h : s.me.revoke = none) (ha : ¬ AboveLevel s r) (hn : s.crRead r.toNat = none) :
    s.crAccess word r write src k = s.trapHere 0x008 (word.zeroExtend 64) := by
  refine (crAccess_eq h).trans ((if_neg ha).trans ?_)
  rw [hn]

theorem crAccess_readOnly (h : s.me.revoke = none) (ha : ¬ AboveLevel s r) (hv : s.crRead r.toNat ≠ none)
    (hw : write = true) (hb : r.toNat / 256 % 2 = 1) :
    s.crAccess word r write src k = s.trapHere 0x009 (word.zeroExtend 64) := by
  obtain ⟨old, hold⟩ := Option.ne_none_iff_exists'.1 hv
  refine (crAccess_eq h).trans ((if_neg ha).trans ?_)
  rw [hold]
  exact if_pos ⟨hw, (bitsOf_one _ 8).trans hb⟩

theorem crAccess_passes (h : s.me.revoke = none) (ha : ¬ AboveLevel s r) (hv : s.crRead r.toNat = some old)
    (hw : write = true → r.toNat / 256 % 2 = 0) (hs : ∀ a, src = some a → s.rp a = false) :
    s.crAccess word r write src k = k s old := by
  refine (crAccess_eq h).trans ((if_neg ha).trans ?_)
  rw [hv]
  have hb : ¬(write ∧ bitsOf r.toNat 8 1 = 1) := fun ⟨h1, h2⟩ => by
    have h0 := hw h1; rw [bitsOf_one] at h2; omega
  have hc : src.filter (fun a => s.rp a) = none := by
    cases src with
    | none => rfl
    | some a => simp [hs a rfl]
  rw [hc]
  exact if_neg hb

end

/-! ### Accesses that the checks refuse (O14) -/

/-- A CRR, CRW, CRS or CRC is an access under its own word. -/
theorem exec_crAccess {s : State} {i : Instr} {a : BitVec 5} {r : BitVec 12} {w : BitVec 32}
    (hi : (∃ d, i = .crr d r) ∨ i = .crw a r ∨ (∃ d, i = .crs d a r) ∨ ∃ d, i = .crc d a r)
    (he : encode i = some w) :
    ∃ write src k, exec i s = .next (s.crAccess w r write src k) ∧ ((∀ d, i ≠ .crr d r) → write = true) := by
  have word : ∀ (b : Bool) src k, s.crAccess ((encode i).getD 0) r b src k = s.crAccess w r b src k := by
    rw [he]; exact fun _ _ _ => rfl
  rcases hi with ⟨d, rfl⟩ | rfl | ⟨d, rfl⟩ | ⟨d, rfl⟩
  · exact ⟨false, none, _, congrArg Host.Outcome.next (word ..), fun h => absurd rfl (h d)⟩
  · exact ⟨true, some a, _, congrArg Host.Outcome.next (word ..), fun _ => rfl⟩
  · exact ⟨true, some a, _, congrArg Host.Outcome.next (word ..), fun _ => rfl⟩
  · exact ⟨true, some a, _, congrArg Host.Outcome.next (word ..), fun _ => rfl⟩

/-- Settles O14: the three checks of `crAccess_eq` in their order, each a trap at the level of the supervisor or, from
firmware, of firmware. -/
theorem controlRegisterChecks : Obligations.ControlRegisterChecks := by
  intro s i a r w hr hv hi he l high hd
  obtain ⟨write, src, k, hx, hw⟩ := exec_crAccess (s := s) hi he
  have hhigh : high ↔ AboveLevel s r := (aboveLevel_iff s r).symm
  have trapped : ∀ cause, naturalLevel cause s.me.level = .supervisor →
      Trapped s (s.trapHere cause (w.zeroExtend 64)) l cause (w.zeroExtend 64) s.me.pc 0 :=
    fun cause h => trapHere_trapped _ hr (targetLevel_sup _ _ h) hd
  refine ⟨fun ha => ⟨_, hx, ?_⟩, fun ha hn => ⟨_, hx, ?_⟩, fun ha hn hc hb => ⟨_, hx, ?_⟩⟩
  · rw [crAccess_above hv (hhigh.1 ha)]; exact trapped _ rfl
  · rw [crAccess_absent hv (hhigh.not.1 ha) hn]; exact trapped _ rfl
  · rw [crAccess_readOnly hv (hhigh.not.1 ha) hn (hw hc) hb]; exact trapped _ rfl

/-! ### Reads (O11) -/

theorem afterRead_of_ne {s : State} {n : Nat} (h : n ≠ 0x912) : s.afterRead n = s := if_neg h

theorem afterRead_me (s : State) (n : Nat) : (s.afterRead n).me = s.me := by
  unfold State.afterRead; split <;> rfl

/-- Settles O11. -/
theorem controlRegisterReads : Obligations.ControlRegisterReads := by
  intro s d r v hr hv hl hc
  have ha : ¬ AboveLevel s r := by rw [aboveLevel_iff]; omega
  have he : s.crAccess ((encode (.crr d r)).getD 0) r false none
      (fun s old => (s.afterRead r.toNat).retire d old false false) = (s.afterRead r.toNat).retire d v false false :=
    crAccess_passes hv ha hc (fun h => absurd h (by decide)) (fun _ h => nomatch h)
  refine ⟨_, congrArg Host.Outcome.next he, ?_⟩
  have hs : (if r.toNat = 0x912 then s.afterRead r.toNat else s) = s.afterRead r.toNat := by
    split
    · rfl
    · next h => exact (afterRead_of_ne h).symm
  rw [hs]
  exact retire_wroteOne _ _ _ _ _ (by rw [afterRead_me]; exact hr)

end Sys2Proof.Machine
end

section
/-! PROOFS. A pending revocation is taken at every point of R124 before any effect of the instruction there (O15). -/

namespace Sys2Proof.Machine

/-! ### The bytes of a load -/

theorem cutPages_sum (fuel a n : Nat) : ((cutPages fuel a n).map (·.2)).sum ≤ n := by
  induction fuel generalizing a n with
  | zero => exact Nat.zero_le n
  | succ fuel ih =>
    rw [cutPages]
    split
    · exact Nat.zero_le n
    · have := ih (a + min n (4096 - a % 4096)) (n - min n (4096 - a % 4096))
      simp only [List.map_cons, List.sum_cons]
      omega

/-- The parts found cover no more than what was looked up. -/
theorem lookup_sum (s : State) (ag : Agent) (k : AccKind) (ps : List (Nat × Nat)) :
    ((s.lookup ag k ps).2.1.map (·.len)).sum ≤ (ps.map (·.2)).sum := by
  induction ps generalizing s with
  | nil => exact Nat.le_refl 0
  | cons p ps ih =>
    obtain ⟨va, len⟩ := p
    simp only [State.lookup, List.map_cons, List.sum_cons]
    split
    · next t _ _ => exact (ih t).trans (Nat.le_add_left _ _)
    · next t _ _ => simp only [List.map_cons, List.sum_cons]; exact Nat.add_le_add_left (ih t) len

theorem resolve_sum {s u : State} {ag : Agent} {k : AccKind} {a n : Nat} {ps : List Part}
    (h : s.resolve ag k a n = (u, .ok ps)) : (ps.map (·.len)).sum ≤ n := by
  have hl := (lookup_sum s ag k (partsOf a n)).trans (cutPages_sum _ _ _)
  unfold State.resolve at h
  split at h
  · cases h
  · split at h
    · next e => cases h; rwa [e] at hl
    · cases h

/-- A part reads as many bytes as it is long. -/
theorem forward_length (path : Path) (loc : Nat) (ps : List Pending) (r : List Byte × Bool) :
    (forward path loc ps r).1.length = r.1.length := by
  induction ps generalizing r with
  | nil => rfl
  | cons p ps ih =>
    rw [forward, ih]
    split
    · rw [List.length_map, List.length_range]
    · rfl

theorem readPlace_length (s : State) (p : Place) (n : Nat) : (s.readPlace p n).1.length = n := by
  unfold State.readPlace
  split
  · rw [List.length_map, List.length_range]
  · exact (List.length_map _).trans List.length_range

theorem loadParts_length (s : State) (g : Nat) (path : Path) (cls : Nat) (ps : List Part) :
    (s.loadParts g path cls ps).2.1.length = (ps.map (·.len)).sum := by
  induction ps generalizing s with
  | nil => rfl
  | cons p ps ih =>
    have hp : (s.loadPart g path cls p).2.1.length = p.len := (forward_length ..).trans (readPlace_length ..)
    simp only [State.loadParts, List.map_cons, List.sum_cons, List.length_append, hp, ih]

/-- A load of `n` bytes reads no more. -/
theorem load_length {s u : State} {g : Nat} {ag : Agent} {k : AccKind} {path : Path} {cls a n : Nat} {bs : List Byte}
    {p : Bool} (h : s.load g ag k path cls a n = (u, .ok (bs, p))) : bs.length ≤ n := by
  unfold State.load at h
  split at h
  · cases h
  · next t ps hr =>
    have hl := (loadParts_length t g path cls ps).trans_le (resolve_sum hr)
    have hb : (t.loadParts g path cls ps).2 = (bs, p) := Except.ok.inj (Prod.mk.inj h).2
    rwa [hb] at hl

/-- So the word that eight bytes make is 0 just where their number is. -/
theorem ofNat_leNat_eq_zero {bs : List Byte} (h : bs.length ≤ 8) : BitVec.ofNat 64 (leNat bs) = 0 ↔ leNat bs = 0 := by
  have hlt : leNat bs < 2 ^ 64 := (leNat_lt bs).trans_le (Nat.pow_le_pow_right (n := 256) (by decide) h)
  rw [← BitVec.toNat_inj, BitVec.toNat_ofNat, Nat.mod_eq_of_lt hlt]
  rfl

/-! ### The points of R124 -/

theorem atPoint_taken {s : State} {p : PendingRevoke} (hv : s.me.revoke = some p) (k : State → State) :
    s.atPoint k = s.takeRevoke p := by
  unfold State.atPoint; rw [hv]

theorem decodePoint_taken {s : State} {p : PendingRevoke} (hv : s.me.revoke = some p) (k : State → Decoded) :
    s.decodePoint k = .trapped (s.takeRevoke p) := by
  unfold State.decodePoint; rw [hv]

/-- Every instruction that scalar decode checks by R135 runs as a vector instruction: of the other rows `vecSpec` holds
nothing, and each of these is an operation of `State.vector` by its definition. -/
theorem exec_eq_vector (s : State) {i : Instr} {t : Nat} (h : (vecSpec i t).isSome) :
    ∃ body, exec i s = .next (s.vector i body) := by
  cases i <;> cases h <;> exact ⟨_, rfl⟩

section
variable {s : State} {p : PendingRevoke} (hr : s.me.reissue = none) (hw : s.me.wait = none)
  (hv : s.me.revoke = some p)

include hr hv in
/-- Scalar decode of a vector instruction takes it. -/
theorem vector_taken (i : Instr) (body : State → State) : s.vector i body = s.takeRevoke p := by
  rw [State.vector, if_neg (by simp [hr]), State.decodeVector, decodePoint_taken hv]

include hr hv in
/-- Scalar decode of SETVL and SETVLI takes it. -/
theorem lengthInsn_taken {i : Instr} {v : BitVec 9} {control : List (BitVec 5)} (body : State → State)
    (hi : s.decodeQueued i = s.decodeSetvl i v control) : s.lengthInsn i body = s.takeRevoke p := by
  rw [State.lengthInsn, if_neg (by simp [hr]), hi, State.decodeSetvl, decodePoint_taken hv]

include hv in
/-- So does an access to a control register that waits for the vector queue. -/
theorem crAccess_taken {r : BitVec 12} (h : (r == 0x001 || r == 0x100 || r == 0x103) = true) (word : BitVec 32)
    (write : Bool) (src : Option (BitVec 5)) (k : State → Word → State) :
    s.crAccess word r write src k = s.takeRevoke p := by
  have hwait : s.me.waitsForVector r.toNat = true := by
    simp only [Bool.or_eq_true, beq_iff_eq] at h
    unfold Ctx.waitsForVector
    rcases h with (rfl | rfl) | rfl <;> rfl
  unfold State.crAccess
  rw [if_pos hwait]
  exact atPoint_taken hv _

include hw hv in
/-- So does the start of TQPUSH and of TILEQ. -/
theorem pushInsn_taken (d a b : BitVec 5) (k : State → State) : s.pushInsn d a b k = s.takeRevoke p := by
  unfold State.pushInsn; rw [hw]; exact atPoint_taken hv _

include hv in
/-- A fence of a path whose accesses are those of the vector queue takes it. -/
theorem execFenceP_taken {m : BitVec 6} (h : (m.getLsbD 1 || m.getLsbD 3) = true) :
    execFenceP m s = .next (s.takeRevoke p) := by
  unfold execFenceP
  dsimp only
  rw [if_pos h, atPoint_taken hv]

include hw hv in
theorem execLaunch_taken (d a : BitVec 5) : execLaunch d a s = .next (s.takeRevoke p) := by
  unfold execLaunch; rw [hw]; exact congrArg _ (atPoint_taken hv _)

include hw hv in
theorem execCbar_taken (d a : BitVec 5) : execCbar d a s = .next (s.takeRevoke p) := by
  unfold execCbar; rw [hw]; exact congrArg _ (atPoint_taken hv _)

include hw hv in
theorem execTsleep_taken (d a : BitVec 5) : execTsleep d a s = .next (s.takeRevoke p) := by
  unfold execTsleep; rw [hw]; exact congrArg _ (atPoint_taken hv _)

include hw hv in
theorem execDmove_taken (d a b : BitVec 5) : execDmove d a b s = .next (s.takeRevoke p) := by
  unfold execDmove; rw [hw]; exact congrArg _ (atPoint_taken hv _)

include hr hw hv in
/-- Every instruction at a point of R124 takes the pending trap of the revocation, and does nothing else. -/
theorem exec_taken {i : Instr} (hi : isPoint s i = true) : exec i s = .next (s.takeRevoke p) := by
  rcases Bool.or_eq_true_iff.1 hi with h | h
  · obtain ⟨body, hx⟩ := exec_eq_vector s h
    rw [hx, vector_taken hr hv]
  · cases i
    case crr | crw | crs | crc => exact congrArg Host.Outcome.next (crAccess_taken hv h _ _ _ _)
    case fenceP => exact execFenceP_taken hv h
    case setvl | setvli => exact congrArg Host.Outcome.next (lengthInsn_taken hr hv _ rfl)
    case launch => exact execLaunch_taken hw hv _ _
    case cbar => exact execCbar_taken hw hv _ _
    case tsleep => exact execTsleep_taken hw hv _ _
    case dmove => exact execDmove_taken hw hv _ _ _
    case tqpush | tileq | queueOpen | queueClose | queueResume | queuePurge =>
      exact congrArg Host.Outcome.next (pushInsn_taken hw hv _ _ _ _)
    case fenceSv | fenceC | eret | twake | chkerr | stRel | barr | bexp | dreg | solicit | reply | tdone | tlbinvVa
        | tlbinvAll | tlbinvRoot | tlbinvGpa | tlbinvVfall | vdecl | vgeom =>
      exact congrArg Host.Outcome.next (atPoint_taken hv _)
    all_goals exact absurd h Bool.false_ne_true

end

end Sys2Proof.Machine
end

section
/-! PROOFS. What the pending trap of a revocation does where it is taken, and the traps of TRAP and of a word that is no
instruction (O15). -/

namespace Sys2Proof.Machine

/-! ### LANE_REVOKE and LANE_SPILL (R124, R125, R315, R317) -/

/-- The state in which the pending trap is taken: it pends no more, and owns what the revocation squashed. -/
abbrev State.taking (s : State) : State := s.setMe s.me.ownReplay

theorem taking_me (s : State) : s.taking.me = s.me.ownReplay := State.me_setMe ..

theorem taking_reissue {s : State} (hr : s.me.reissue = none) : s.taking.me.reissue = none := by
  rw [taking_me]; exact hr

theorem taking_trapLevel (s : State) : trapLevel s.taking = trapLevel s := by
  unfold trapLevel; rw [taking_me]; rfl

/-- LANE_REVOKE's natural level is the supervisor's. -/
theorem targetLevel_laneRevoke (s : State) : targetLevel 0x180 s.me.level = trapLevel s := targetLevel_sup _ _ rfl

/-- LANE_REVOKE is taken as the trap 0x180 at its target. -/
theorem laneRevoke_trapped {s : State} {l : Level} (v : Word) (hr : s.me.reissue = none) (hl : trapLevel s = l)
    (hd : (s.me.trapSet l).regs.depth ≠ 2) : Trapped s (s.trapHere 0x180 v) l 0x180 v s.me.pc 0 :=
  trapHere_trapped v hr ((targetLevel_laneRevoke s).trans hl) hd

/-- The level of a trap of natural level supervisor that is raised at user level. -/
theorem trapLevel_user {s : State} (h : s.me.level = .user) : trapLevel s = .supervisor := by
  rw [trapLevel, h]; rfl

/-- Above user level, or with a user trap in progress, LANE_REVOKE is a trap. -/
theorem takeRevoke_above {s : State} {c : Nat} (h : s.me.level ≠ .user ∨ s.me.uip = true) :
    s.takeRevoke (.revoke c) = s.taking.trapHere 0x180 s.me.vspill := by
  refine if_neg ?_
  rintro ⟨hl, hu⟩
  rcases h with h | h
  · exact h hl
  · simp [h] at hu

/-- At user level with none in progress, RVEC decides. -/
theorem takeRevoke_user {s : State} {c : Nat} (hl : s.me.level = .user) (hu : s.me.uip = false) :
    s.takeRevoke (.revoke c) = if s.taking.readRvec.2 = 0 then s.taking.readRvec.1.trapHere 0x180 s.me.vspill
      else s.taking.readRvec.1.userTrap s.taking.readRvec.2 :=
  if_pos ⟨hl, by simp [hu]⟩

section
variable {s u : State}

theorem taking_vspill (s : State) : s.taking.me.vspill = s.me.vspill := by
  rw [taking_me, Ctx.ownReplay]

/-- RVEC is read at the address of the spill area of VSPILL. -/
theorem readRvec_of_bytes {bytes : List Byte} {poison : Bool}
    (h : s.taking.load s.taking.cur (s.taking.userAgent s.taking.cur) .load .lane 15 s.me.vspill.toNat 8 =
      (u, .ok (bytes, poison))) :
    s.taking.readRvec = (u, if poison then 0 else BitVec.ofNat 64 (leNat bytes)) := by
  rw [State.readRvec, taking_vspill, h]

theorem readRvec_of_fault {x : AccFault}
    (h : s.taking.load s.taking.cur (s.taking.userAgent s.taking.cur) .load .lane 15 s.me.vspill.toNat 8 =
      (u, .error x)) : s.taking.readRvec = (u.unitFault x, 0) := by
  rw [State.readRvec, taking_vspill, h]

end

/-- The user handler is entered: only the running context differs, by UEPC, UIP and the PC. -/
theorem userTrap_enters {s : State} (v : Word) (hr : s.me.reissue = none) :
    OnlyMe s (s.userTrap v) ∧ (s.userTrap v).me = { s.me with
      uepc := (s.me.pc >>> 2) <<< 2, uip := true, pc := v, reissue := none, wait := none, cut := none } := by
  refine ⟨onlyMe_setMe _ _, ?_⟩
  rw [State.userTrap, State.me_setMe, Ctx.here_pc hr]

/-- A fault of the read leaves every context and every byte. -/
theorem unitFault_leaves (s : State) (x : AccFault) :
    (s.unitFault x).ctxs = s.ctxs ∧ (s.unitFault x).cur = s.cur ∧ SameBytes s (s.unitFault x) := by
  obtain ⟨⟨hc, hu⟩, hb, -⟩ := noteWalk_leaves s x
  exact ⟨hc, hu, hb⟩

/-- LANE_SPILL is a vector-side trap into the supervisor's level; the scalar stream resumes where it stood. -/
theorem takeRevoke_spill {s : State} {a telem : Word} (hr : s.me.reissue = none) (hd : s.me.sup.regs.depth ≠ 2) :
    s.takeRevoke (.spill a telem) = s.setMe ({ s.me.ownReplay with resume := s.me.pc }.enter .supervisor
      { cause := 0x181, value := a, epc := s.me.pc, telem := telem, vside := true }) := by
  have hme : (s.taking.setMe { s.taking.me with resume := s.me.here }).me =
      { s.me.ownReplay with resume := s.me.pc } := by
    rw [State.me_setMe, taking_me, Ctx.here_pc hr]
  have hdepth : ((s.taking.setMe { s.taking.me with resume := s.me.here }).me.trapSet .supervisor).regs.depth ≠ 2 := by
    rw [hme]; exact hd
  refine (if_pos (bne_iff_ne.2 hdepth)).trans ?_
  rw [hme, Ctx.here_pc hr]
  simp [State.setMe, State.setCtx, aset_aset]

/-- A pending revocation is taken, as its kind and the level in force say, before any effect of the instruction. -/
theorem revocationsTaken : RevocationsTaken := by
  intro s i p hr hw hv hi depth v
  have hx : exec i s = .next (s.takeRevoke p) := exec_taken hr hw hv hi
  have hvt : v = s.taking := rfl
  clear_value v
  subst hvt
  cases p with
  | revoke c =>
    refine ⟨fun hl hd => ⟨_, hx, ?_⟩, fun hl hu u r hload hru hlu hdu => ?_⟩
    · have h := laneRevoke_trapped (l := trapLevel s) s.me.vspill (taking_reissue hr) (taking_trapLevel s)
        (by rw [taking_me]; exact hd)
      rw [taking_me] at h
      rw [takeRevoke_above hl]
      exact h
    · rw [takeRevoke_user hl hu] at hx
      -- Whatever the read left, a trap at user level is the supervisor's.
      have trapped : ∀ w : State, w.ctxs = u.ctxs → w.cur = u.cur →
          Trapped w (w.trapHere 0x180 s.me.vspill) .supervisor 0x180 s.me.vspill u.me.pc 0 := fun w hc hcur => by
        have hme : w.me = u.me := by rw [State.me, State.me, State.ctx, State.ctx, hc, hcur]
        rw [← hme] at hru hlu hdu ⊢
        exact laneRevoke_trapped _ hru (trapLevel_user hlu) hdu
      match r, hload with
      | .ok (bytes, false), hload =>
        have hz := ofNat_leNat_eq_zero (load_length hload)
        rw [readRvec_of_bytes hload, if_neg (by decide : ¬ (false = true))] at hx
        dsimp only at hx ⊢
        split
        · next h0 => rw [if_pos (hz.2 h0)] at hx; exact ⟨_, hx, trapped u rfl rfl⟩
        · next h0 => rw [if_neg (hz.not.2 h0)] at hx; exact ⟨_, hx, userTrap_enters _ hru⟩
      | .ok (bytes, true), hload =>
        rw [readRvec_of_bytes hload, if_pos rfl, if_pos rfl] at hx
        exact ⟨_, hx, trapped u rfl rfl⟩
      | .error x, hload =>
        intro _
        rw [readRvec_of_fault hload, if_pos rfl] at hx
        obtain ⟨hc, hcur, hb⟩ := unitFault_leaves u x
        exact ⟨_, hx, _, hc, hcur, hb, trapped _ hc hcur⟩
  | spill a telem =>
    intro hd
    refine ⟨_, hx, ?_⟩
    rw [takeRevoke_spill hr hd]
    refine ⟨onlyMe_setMe _ _, ?_, ?_⟩
    · rw [State.me_setMe, taking_me]; rfl
    · rw [State.me_setMe]; rfl

/-! ### TRAP and words that are no instruction (R43, R74, R310) -/

theorem targetLevel_trapInsn (l : Level) : targetLevel 0x100 l = trapInsnLevel l := by cases l <;> rfl

/-- TRAP is taken at its level with the next word as the return address. -/
theorem trapInsn_trapped {s : State} (imm : BitVec 16) (hr : s.me.reissue = none)
    (hd : (s.me.trapSet (trapInsnLevel s.me.level)).regs.depth ≠ 2) :
    Trapped s (s.trapInsn imm) (trapInsnLevel s.me.level) 0x100 (BitVec.ofNat 64 imm.toNat) (s.me.pc + 4) 0 := by
  have h := enter_trapped s (trapInsnLevel s.me.level)
    { cause := 0x100, value := imm.zeroExtend 64, epc := s.me.pc + 4 } rfl
  rw [← targetLevel_trapInsn] at hd
  have e : s.trapInsn imm = s.setMe (s.me.enter (trapInsnLevel s.me.level)
      { cause := 0x100, value := imm.zeroExtend 64, epc := s.me.pc + 4 }) := by
    rw [State.trapInsn, Ctx.here_pc hr, ← targetLevel_trapInsn]; exact trap_eq _ _ hd
  rw [e, BitVec.ofNat_toNat]; exact h

/-- A TRAP at user level that meets two traps at supervisor level is doubled into firmware's. -/
theorem trapInsn_doubled {s : State} (imm : BitVec 16) (hr : s.me.reissue = none) (hl : s.me.level = .user)
    (hs : s.me.sup.regs.depth = 2) (hf : s.me.firm.regs.depth ≠ 2) :
    Trapped s (s.trapInsn imm) .firmware 0x0D0 0x100 (s.me.pc + 4) 0 := by
  have h := enter_trapped s .firmware
    (TrapInfo.doubled { cause := 0x100, value := imm.zeroExtend 64, epc := s.me.pc + 4 }) rfl
  have e : s.trapInsn imm = s.setMe (s.me.enter .firmware
      (TrapInfo.doubled { cause := 0x100, value := imm.zeroExtend 64, epc := s.me.pc + 4 })) := by
    rw [State.trapInsn, Ctx.here_pc hr, State.trap, hl, State.trapAt]
    exact (if_neg (by simpa [targetLevel_trapInsn, trapInsnLevel, Ctx.trapSet] using hs)).trans
      (if_pos (by simpa [targetLevel_trapInsn, trapInsnLevel] using hf))
  rw [e]; exact h

theorem illCode_eq (c : IllCause) : illCode c = illCauseOf c := by cases c <;> rfl

theorem naturalLevel_illCode (c : IllCause) (l : Level) : naturalLevel (illCode c) l = .supervisor := by
  cases c <;> rfl

/-- Settles O15: the revocations by `revocationsTaken`, TRAP and the illegal words by the entry into their levels. -/
theorem trapsEnterTheirLevel : Obligations.TrapsEnterTheirLevel := by
  refine ⟨revocationsTaken, fun s hr => ⟨fun imm hd => ⟨_, rfl, trapInsn_trapped imm hr hd⟩,
    fun imm hl hs hf => ⟨_, rfl, trapInsn_doubled imm hr hl hs hf⟩, ?_⟩⟩
  intro w c l hd
  refine ⟨_, rfl, ?_⟩
  have h := trapHere_trapped (w.zeroExtend 64) hr (targetLevel_sup _ _ (naturalLevel_illCode c s.me.level)) hd
  rw [← illCode_eq, BitVec.ofNat_toNat]; exact h

end Sys2Proof.Machine
end

section
/-! PROOFS. Writes of control registers: what a write leaves of the running instruction, and the old value (O12). A
write of PRQ may stop, resume or end threads, but none begins to run out of its queue. -/

namespace Sys2Proof.Machine

/-! ### Contexts that run no entry of their queue -/

/-- A context that runs no entry of its vector queue still runs none, and the same context is in force. -/
def KeepsIdle (s t : State) : Prop :=
  t.cur = s.cur ∧ ∀ g, (s.ctx g).reissue = none → (t.ctx g).reissue = none

theorem KeepsIdle.refl (s : State) : KeepsIdle s s := ⟨rfl, fun _ h => h⟩

theorem KeepsIdle.trans {s t u : State} (h : KeepsIdle s t) (k : KeepsIdle t u) : KeepsIdle s u :=
  ⟨k.1.trans h.1, fun g hg => k.2 g (h.2 g hg)⟩

theorem KeepsIdle.foldl {α : Type} {f : State → α → State} (hf : ∀ s a, KeepsIdle s (f s a)) (l : List α) (s : State) :
    KeepsIdle s (l.foldl f s) := by
  induction l generalizing s with
  | nil => exact .refl s
  | cons a l ih => exact (hf s a).trans (ih _)

theorem KeepsIdle.me {s t : State} (h : KeepsIdle s t) (hr : s.me.reissue = none) : t.me.reissue = none := by
  rw [State.me, h.1]; exact h.2 _ hr

theorem Still.keepsIdle {s t : State} (h : Still s t) : KeepsIdle s t :=
  ⟨h.2, fun g hg => by rw [h.ctx g]; exact hg⟩

/-- Whatever touches neither the contexts nor which one is in force. -/
theorem keepsIdle_of_eq {s t : State} (hc : t.ctxs = s.ctxs) (hu : t.cur = s.cur) : KeepsIdle s t :=
  Still.keepsIdle ⟨hc, hu⟩

theorem setCtx_keepsIdle (s : State) (g : Nat) {c : Ctx} (h : (s.ctx g).reissue = none → c.reissue = none) :
    KeepsIdle s (s.setCtx g c) := by
  refine ⟨rfl, fun k hk => ?_⟩
  rw [State.ctx, State.setCtx, aget_aset]
  split
  · next e => subst e; exact h hk
  · exact hk

theorem setCrews_keepsIdle (s : State) (c : Assoc Crew) : KeepsIdle s { s with crews := c } := keepsIdle_of_eq rfl rfl

/-! ### Units that read and write -/

theorem unitFault_keepsIdle (s : State) (x : AccFault) : KeepsIdle s (s.unitFault x) := by
  obtain ⟨hc, hu, -⟩ := unitFault_leaves s x
  exact keepsIdle_of_eq hc hu

theorem resolve_keepsIdle {s u : State} {ag : Agent} {k : AccKind} {a n : Nat} {r : Except AccFault (List Part)}
    (h : s.resolve ag k a n = (u, r)) : KeepsIdle s u := by
  have hs := (resolve_still s ag k a n).keepsIdle
  rwa [h] at hs

theorem devRead_keepsIdle (s : State) (ag : Agent) (k : AccKind) (a n : Nat) :
    KeepsIdle s (s.devRead ag k a n).1 := by
  unfold State.devRead
  split
  · next h => exact (resolve_keepsIdle h).trans (unitFault_keepsIdle _ _)
  · next h =>
    exact (resolve_keepsIdle h).trans (KeepsIdle.trans (t := State.blockParts _ _) (keepsIdle_of_eq rfl rfl)
      (.foldl (fun _ _ => (noteRead_still _ _).keepsIdle) _ _))

theorem noteStore_still (s : State) (p : Place) : Still s (s.noteStore p) := by
  unfold State.noteStore; split
  · exact noteDead_still _ _
  · exact noteRefused_still _ _

theorem writeParts_keepsIdle (s : State) (ps : List Part) (bs : List Byte) (p : Bool) :
    KeepsIdle s (s.writeParts ps bs p) := by
  induction ps generalizing s bs with
  | nil => exact .refl s
  | cons q ps ih =>
    refine (noteStore_still s q.place).keepsIdle.trans (KeepsIdle.trans ?_ (ih _ _))
    split
    · exact .refl _
    · exact (writeHome_still _ _ _ _ _).keepsIdle

theorem devWrite_keepsIdle (s : State) (ag : Agent) (k : AccKind) (a : Nat) (bs : List Byte) (p : Bool) :
    KeepsIdle s (s.devWrite ag k a bs p).1 := by
  unfold State.devWrite
  split
  · next h => exact (resolve_keepsIdle h).trans (unitFault_keepsIdle _ _)
  · next h =>
    exact (resolve_keepsIdle h).trans (KeepsIdle.trans (t := State.blockParts _ _) (keepsIdle_of_eq rfl rfl)
      (writeParts_keepsIdle _ _ _ _))

/-! ### Threads and crews that end -/

theorem freeCtx_keepsIdle (s : State) (g : Nat) : KeepsIdle s (s.freeCtx g) :=
  KeepsIdle.trans (t := (s.returnLanes g).forgetDraining g) (keepsIdle_of_eq rfl rfl)
    (setCtx_keepsIdle _ _ fun _ => rfl)

theorem honour_keepsIdle (s : State) (cl : Nat) : KeepsIdle s (s.honour cl) := by
  refine .foldl (fun t g => ?_) _ _
  dsimp only
  split
  · exact setCtx_keepsIdle _ _ id
  · exact .refl t

theorem endCensuses_keepsIdle (s : State) (p : Census → Bool) : KeepsIdle s (s.endCensuses p) := by
  refine .foldl (fun t k => ?_) _ _
  exact keepsIdle_of_eq rfl rfl

theorem cancelMovesOf_keepsIdle (s : State) (g : Nat) : KeepsIdle s (s.cancelMovesOf g) := by
  refine .foldl (fun t p => ?_) _ _
  exact keepsIdle_of_eq rfl rfl

theorem settleThread_keepsIdle (s : State) (g : Nat) : KeepsIdle s (s.settleThread g) := by
  have h : KeepsIdle s (s.leaveQueues g) := keepsIdle_of_eq rfl rfl
  exact ((h.trans (endCensuses_keepsIdle _ _)).trans (cancelMovesOf_keepsIdle _ _)).trans (keepsIdle_of_eq rfl rfl)

theorem endCrew_keepsIdle (s : State) (k : Nat) : KeepsIdle s (s.endCrew k) := by
  unfold State.endCrew
  split
  · exact .refl s
  · next c _ =>
    have h1 : ∀ t : State, KeepsIdle t ((List.range c.threads.length).foldl (fun s i =>
        s.endCensuses fun x => x.owner == savedOwner k i) t) :=
      fun t => .foldl (fun _ _ => endCensuses_keepsIdle _ _) _ _
    have h2 : ∀ t : State, KeepsIdle t (c.threads.foldl (fun s g =>
        if (s.ctx g).crew = some k then (s.settleThread g).freeCtx g else s) t) := fun t => .foldl (fun u g => by
      split
      · exact (settleThread_keepsIdle u g).trans (freeCtx_keepsIdle _ g)
      · exact .refl u) _ _
    have h3 : ∀ t : State, KeepsIdle t (c.cores.foldl (fun s n => s.freeRegion k n) t) :=
      .foldl (fun t n => keepsIdle_of_eq (s := t) (t := t.freeRegion k n) rfl rfl) _
    exact ((((h1 s).trans (h2 _)).trans (h3 _)).trans (honour_keepsIdle _ _)).trans (setCrews_keepsIdle _ _)

theorem updLaunch_keepsIdle (s : State) (k : Nat) (f : Launch → Launch) : KeepsIdle s (s.updLaunch k f) := by
  unfold State.updLaunch; split <;> exact keepsIdle_of_eq rfl rfl

theorem loseCrew_keepsIdle (s : State) (k cause : Nat) : KeepsIdle s (s.loseCrew k cause) := by
  unfold State.loseCrew
  split
  · exact .refl s
  · exact (endCrew_keepsIdle s k).trans (updLaunch_keepsIdle _ _ _)

/-! ### Requests at the port (R331, R332) -/

theorem served_reissue (c : Ctx) (d n : Nat) : (c.served d n).reissue = c.reissue := by
  unfold Ctx.served; split <;> rfl

/-- What every entry of a table reads as under a map that keeps the default. -/
theorem aget_map {α : Type} (d : α) (f : α → α) (hf : f d = d) (m : Assoc α) (i : Nat) :
    aget d (m.map fun p => (p.1, f p.2)) i = f (aget d m i) := by
  induction m with
  | nil => exact hf.symm
  | cons p m ih =>
    simp only [List.map_cons, aget]
    split
    · rfl
    · exact ih

theorem endRequest_keepsIdle (s : State) (d n start : Nat) : KeepsIdle s (s.endRequest d n start) := by
  refine ⟨rfl, fun g hg => ?_⟩
  have h : (s.endRequest d n start).ctx g = (s.ctx g).served d n :=
    aget_map (α := Ctx) {} (fun c => c.served d n) rfl s.ctxs g
  rw [h, served_reissue]; exact hg

theorem submitPreempt_keepsIdle (s : State) (d g area : Nat) (only : Option Nat) :
    KeepsIdle s (s.submitPreempt d g area only) := by
  unfold State.submitPreempt
  split
  · exact endRequest_keepsIdle _ _ _ _
  · split
    · exact endRequest_keepsIdle _ _ _ _
    · next k _ c _ =>
      split
      · exact endRequest_keepsIdle _ _ _ _
      · split
        · exact (unitFault_keepsIdle _ _).trans (endRequest_keepsIdle _ _ _ _)
        · next h =>
          refine ((resolve_keepsIdle h).trans (.foldl (fun t i => ?_) c.live _)).trans (keepsIdle_of_eq rfl rfl)
          split
          · exact .refl t
          · exact setCtx_keepsIdle _ _ id

/-! ### Resumption (R335) -/

theorem setAside_keepsIdle (s : State) (crew ng core : Nat) : KeepsIdle s (s.setAside crew ng core) := by
  unfold State.setAside
  dsimp only
  exact KeepsIdle.trans (writeBack_l2 s _).caches.still.keepsIdle (keepsIdle_of_eq rfl rfl)

theorem moveEntries_keepsIdle (s : State) (crew : Nat) (es : List (Nat × Nat)) :
    KeepsIdle s (s.moveEntries crew es) := by
  refine .foldl (fun t p => ?_) _ _
  dsimp only
  split <;> exact keepsIdle_of_eq rfl rfl

theorem restoreCore_keepsIdle (s : State) (ag : Agent) (key : Nat) (k : Crew) (gs : List Nat) (j core base scr : Nat) :
    KeepsIdle s (s.restoreCore ag key k gs j core base scr) := by
  have region : KeepsIdle s (if k.granules = 0 then s else s.setAside key k.granules core) := by
    split
    · exact .refl s
    · exact setAside_keepsIdle _ _ _ _
  have left : ∀ t : State, KeepsIdle t (if (k.cores[j]?).getD 0 = core then t
      else t.setCore ((k.cores[j]?).getD 0) { t.core ((k.cores[j]?).getD 0) with
        chans := (t.core ((k.cores[j]?).getD 0)).chans.map fun p => (p.1, p.2.left key) }) := fun t => by
    split
    · exact .refl t
    · exact keepsIdle_of_eq rfl rfl
  unfold State.restoreCore
  refine ((region.trans (.foldl (fun t i => ?_) _ _)).trans (left _)).trans (.foldl (fun t ch => ?_) _ _)
  · split
    · exact (storeLoc_still _ _ _ _ _).keepsIdle
    · exact .refl t
  · split
    · exact .refl t
    · dsimp only
      split
      · exact .refl t
      · exact keepsIdle_of_eq rfl rfl

theorem setOwnWait_reissue (c : Ctx) (w : Option Wait) : (c.setOwnWait w).reissue = c.reissue := by
  unfold Ctx.setOwnWait; split <;> rfl

theorem resumeThread_keepsIdle (s : State) (ag : Agent) (key : Nat) (k : Crew) (i g : Nat) :
    KeepsIdle s (s.resumeThread ag key k i g).1 :=
  KeepsIdle.trans (t := s.setCtx g _) (setCtx_keepsIdle _ _ fun _ => setOwnWait_reissue _ _) (keepsIdle_of_eq rfl rfl)

theorem resumeRegions_keepsIdle (s : State) (key : Nat) (k : Crew) (gs : List Nat) :
    KeepsIdle s (s.resumeRegions key k gs) := by
  have h1 : ∀ t : State, KeepsIdle t (gs.foldl (fun s g => s.readyContext key k g) t) :=
    .foldl (fun t g => keepsIdle_of_eq (s := t) (t := t.readyContext key k g) rfl rfl) _
  unfold State.resumeRegions
  dsimp only
  refine ((h1 s).trans (.foldl (fun t j => ?_) _ _)).trans (moveEntries_keepsIdle _ _ _)
  split
  · exact restoreCore_keepsIdle ..
  · exact .refl t

theorem resumeOn_keepsIdle (s : State) (key : Nat) (k : Crew) (cl : Nat) (gs : List Nat) :
    KeepsIdle s (s.resumeOn key k cl gs) := by
  have hthreads : ∀ (l : List Nat) (r : State × Bool), KeepsIdle r.1 (l.foldl (fun r i =>
      let u := r.1.resumeThread (saveAgent k.fn) key k i (((k.spread gs)[i]?).getD 0)
      (u.1, r.2 || u.2)) r).1 := fun l => by
    induction l with
    | nil => exact fun r => .refl _
    | cons i l ih => exact fun r => (resumeThread_keepsIdle ..).trans (ih _)
  have written : ∀ lost, KeepsIdle s ((k.live.foldl (fun r i =>
      let u := r.1.resumeThread (saveAgent k.fn) key k i (((k.spread gs)[i]?).getD 0)
      (u.1, r.2 || u.2)) (s.resumeRegions key k gs, lost)).1.devWrite (saveAgent k.fn) .store (k.area + 14) [2]
        false).1 :=
    fun lost => ((resumeRegions_keepsIdle s key k gs).trans (hthreads k.live (s.resumeRegions key k gs, lost))).trans
      (devWrite_keepsIdle _ _ _ _ _ _)
  unfold State.resumeOn
  dsimp only
  split
  · exact (((written _).trans (setCrews_keepsIdle _ _)).trans (record_still _ _ _).keepsIdle).trans
      (loseCrew_keepsIdle _ _ _)
  · exact (written _).trans (setCrews_keepsIdle _ _)

theorem tryResume_keepsIdle {s t : State} {d : Nat} {w : PrqWork} {target : Option Nat} {on : Nat}
    (h : s.tryResume d w target on = some t) : KeepsIdle s t := by
  unfold State.tryResume at h
  split at h
  · cases h; exact endRequest_keepsIdle _ _ _ _
  · split at h
    · cases h
    · split at h
      · cases h; exact endRequest_keepsIdle _ _ _ _
      · split at h
        · cases h
        · cases h; exact (resumeOn_keepsIdle ..).trans (endRequest_keepsIdle _ _ _ _)

theorem savedAt_keepsIdle (s : State) (f area : Nat) : KeepsIdle s (s.savedAt f area).1 := by
  have hd := devRead_keepsIdle s (saveAgent f) .load area 64
  unfold State.savedAt
  split
  · next h => rw [h] at hd; exact hd
  · next t r h =>
    rw [h] at hd
    have hb : ∀ b, KeepsIdle s (t.block b) := fun b => hd.trans (keepsIdle_of_eq rfl rfl)
    dsimp only
    split
    · exact hd
    · split
      · exact hd
      · split
        · exact hd
        · split <;> exact hb _

theorem submitResume_keepsIdle (s : State) (d f area : Nat) : KeepsIdle s (s.submitResume d f area) := by
  have hs := savedAt_keepsIdle s f area
  unfold State.submitResume
  split
  · next h => rw [h] at hs; exact hs.trans (endRequest_keepsIdle _ _ _ _)
  · next h =>
    rw [h] at hs
    dsimp only
    split
    · next h => exact hs.trans (tryResume_keepsIdle h)
    · exact hs.trans (keepsIdle_of_eq rfl rfl)

/-! ### Writes of control registers -/

theorem prqWrite_keepsIdle (s : State) (d : Nat) (v : Word) (g : Nat) : KeepsIdle s (s.prqWrite d v g) := by
  have hset : ∀ x : Die, KeepsIdle s (s.setDie d x) := fun _ => keepsIdle_of_eq rfl rfl
  unfold State.prqWrite
  dsimp only
  split
  · exact hset _
  · split
    · exact hset _
    · split
      · split
        · exact (hset _).trans (endRequest_keepsIdle _ _ _ _)
        · exact (hset _).trans (submitPreempt_keepsIdle _ _ _ _ _)
      · split
        · exact (hset _).trans (endRequest_keepsIdle _ _ _ _)
        · exact (hset _).trans (submitResume_keepsIdle _ _ _ _)
      · exact (hset _).trans (endRequest_keepsIdle _ _ _ _)

/-- The registers of the thread lie in its context, those of the die in the die (R45). -/
theorem crStore_keepsIdle (s : State) (g n : Nat) (v : Word) : KeepsIdle s (s.crStore g n v) := by
  unfold State.crStore
  dsimp only
  split
  iterate 21 exact setCtx_keepsIdle _ _ id
  iterate 3 exact keepsIdle_of_eq rfl rfl
  exact .refl s

theorem crWrite_keepsIdle (s : State) (n : Nat) (v : Word) : KeepsIdle s (s.crWrite n v) := by
  unfold State.crWrite
  split
  · exact prqWrite_keepsIdle _ _ _ _
  · split
    · unfold State.vftvecWrite
      dsimp only
      split <;> exact keepsIdle_of_eq rfl rfl
    · exact crStore_keepsIdle _ _ _ _

/-- Settles O12: the access passes its checks, and the end of the instruction is that of any that writes a register or
none, since the write leaves the running context without an entry of its queue. -/
theorem controlRegisterWritesAndReturnsOld : Obligations.ControlRegisterWritesAndReturnsOld := by
  intro s d a r v hr hv hl hro hc hp
  have ha : ¬ AboveLevel s r := by rw [aboveLevel_iff]; omega
  have passes : ∀ word k, s.crAccess word r true (some a) k = k s v := fun word k =>
    crAccess_passes hv ha hc (fun _ => hro) (fun b hb => by cases hb; exact hp)
  have idle : ∀ x, (s.crWrite r.toNat x).me.reissue = none := fun x => (crWrite_keepsIdle s _ x).me hr
  exact ⟨⟨_, congrArg Host.Outcome.next (passes _ _), advance_movedTo _ (idle _)⟩,
    ⟨_, congrArg Host.Outcome.next (passes _ _), retire_wroteOne _ _ _ _ _ (idle _)⟩,
    ⟨_, congrArg Host.Outcome.next (passes _ _), retire_wroteOne _ _ _ _ _ (idle _)⟩⟩

end Sys2Proof.Machine
end

section
/-! PROOFS. A step runs the instruction that the word at the PC decodes to, the queue head that runs instead, or the
trap of the fetch (O58). -/

namespace Sys2Proof.Machine

/-! ### The row that an operand selects (R33 to R43) -/

/-- The rows that share a word have one encoding, and one of them is what the word decodes to. -/
theorem refine_sharesWord (i : Instr) (s : State) :
    encode (refine i s) = encode i ∧ primary (refine i s) = primary i := by
  cases i
  case chpendRead | tqpush | tdepRead | cresResult | tlbinvVa | errqPop | poisonMark =>
    unfold refine
    dsimp only
    repeat' split
    all_goals exact ⟨rfl, rfl⟩
  all_goals exact ⟨rfl, rfl⟩

/-- So the row that runs is a row of the word that was fetched. -/
theorem refine_isWord {w : BitVec 32} {i : Instr} (h : decode w = .ok i) (s : State) :
    encode (refine i s) = some w ∧ primary (refine i s) = i := by
  obtain ⟨he, -, hp⟩ := isWordOf_of_decode h
  obtain ⟨h1, h2⟩ := refine_sharesWord i s
  exact ⟨h1.trans he, h2.trans hp⟩

/-! ### The word at the PC -/

theorem passQueue_of_nil {s : State} (h : s.me.vq = []) : s.passQueue = s := by
  unfold State.passQueue; rw [h]; rfl

theorem passQueue_revokesAt (s : State) (w : BitVec 32) : revokesAt s.passQueue.me w = revokesAt s.me w := by
  unfold State.passQueue
  split
  · rfl
  · rw [State.me_setMe]; rfl

section
variable {s : State} {w : BitVec 32} {i : Instr} {x : IllCause} {p : PendingRevoke}

theorem runWord_instr (hd : decode w = .ok i) (hp : revokesAt s.me w = none) : runWord s w = exec (refine i s) s := by
  unfold runWord; rw [hd]; dsimp only; rw [hp]

theorem runWord_revoked (hd : decode w = .ok i) (hp : revokesAt s.me w = some p) :
    runWord s w = .next (s.takeRevoke p) := by
  unfold runWord; rw [hd]; dsimp only; rw [hp]

/-- Only a word of VMAXIX's major has a cause that the decode type changes. -/
theorem illUnderType_of_ne (h : (w.extractLsb' 0 6).toNat ≠ 0x27) : illUnderType s w x = x := by
  unfold illUnderType
  split
  · split
    · exact if_neg fun hc => h hc.1
    · rfl
  · rfl

theorem runWord_illegal (hd : decode w = .error x) (hv : s.me.revoke = none ∨ vectorMajor w = false)
    (hm : (w.extractLsb' 0 6).toNat ≠ 0x27) : runWord s w = exec (.illegalInstruction w x) s := by
  have hf : s.me.revoke.filter (fun _ => vectorMajor w) = none := by
    rcases hv with h | h <;> simp [h]
  unfold runWord
  rw [hd]
  dsimp only
  rw [hf, illUnderType_of_ne hm]

theorem runWord_illegal_revoked (hd : decode w = .error x) (hp : s.me.revoke = some p) (hv : vectorMajor w = true) :
    runWord s w = .next (s.takeRevoke p) := by
  have hf : s.me.revoke.filter (fun _ => vectorMajor w) = some p := by simp [hp, hv]
  unfold runWord
  rw [hd]
  dsimp only
  rw [hf]

/-- A vector instruction that finds older ones in the queue, or a fill while another is pending, enters the queue. -/
abbrev entersQueue (s : State) (w : BitVec 32) (i : Instr) : Bool :=
  vectorMajor w && !(unqueued i) && (!s.me.vq.isEmpty || (isFill i && s.gatherRows.isSome))

/-- The state that scalar decode leaves of a word that enters the queue. -/
abbrev Decoded.state : Decoded → State
  | .trapped v => v
  | .queued v e => v.setMe { v.me with vq := v.me.vq ++ [e] }

theorem issueWord_runs (hd : decode w = .ok i) (hq : entersQueue s w i = false) :
    issueWord {} s w = runWord s.passQueue w := by
  unfold issueWord
  rw [hd]
  exact if_neg (Bool.not_eq_true _ ▸ hq)

theorem issueWord_queued (hd : decode w = .ok i) (hq : entersQueue s w i = true) :
    issueWord {} s w = .next ((s.decodeQueued i).state) := by
  unfold issueWord
  rw [hd]
  refine (if_pos hq).trans ?_
  cases s.decodeQueued i <;> rfl

theorem issueWord_illegal (hd : decode w = .error x) (m : IssueMode) : issueWord m s w = runWord s w := by
  unfold issueWord; rw [hd]

end

/-! ### The issue slot (R54, R56, R91) -/

section
variable {s t u : State} {core g : Nat} {w : BitVec 32} {i : Instr} {x : IllCause} {p : PendingRevoke}

/-- The step of a state with an empty agenda is the issue slot of the running core. -/
theorem step_issue (h : s.agenda = []) :
    step s = timed (issue {} (coreOf s.cur) (s.landLoads (coreOf s.cur))) := by
  unfold step; rw [h]; rfl

theorem issue_idle {m : IssueMode} (h : (s.boundaries core).pick core = none) :
    issue m core s = idleSlot core (s.boundaries core) := by
  unfold issue; rw [h]

theorem issue_picks {m : IssueMode} (h : (s.boundaries core).pick core = some g) :
    issue m core s = runFetched m { ((s.boundaries core).noteIssue core g) with cur := g } := by
  unfold issue; rw [h]

/-- No context is ready, and the oldest instruction of a vector queue runs. -/
theorem idleSlot_queue {e : VqEntry} {rest : List VqEntry}
    (hg : (contextsOf core).find? (s.noteIdle core).queueRuns = some g)
    (hq : ((s.noteIdle core).ctx ((s.noteIdle core).queueTurn g)).vq = e :: rest) :
    let y := { s.noteIdle core with cur := (s.noteIdle core).queueTurn g }
    idleSlot core s = (y.setMe { y.me with vq := rest, reissue := some e, cut := none }).orWait
      (exec e.instr (y.setMe { y.me with vq := rest, reissue := some e, cut := none })) := by
  intro y
  unfold idleSlot
  dsimp only
  rw [hg]
  dsimp only
  unfold runQueue
  rw [hq]

/-- No context is ready, and nothing of the core goes on. -/
theorem idleSlot_rests (h : ∀ g ∈ contextsOf core, (s.noteIdle core).queueRuns g = false ∧
    bufferedStores ((s.noteIdle core).ctx g).pend < 16) : idleSlot core s = .next (s.noteIdle core) := by
  have h1 : (contextsOf core).find? (s.noteIdle core).queueRuns = none :=
    List.find?_eq_none.2 fun g hg => by simp [(h g hg).1]
  have h2 : (contextsOf core).find? (fun g => decide (16 ≤ bufferedStores ((s.noteIdle core).ctx g).pend)) = none :=
    List.find?_eq_none.2 fun g hg => by simp [(h g hg).2]
  unfold idleSlot
  dsimp only
  rw [h1]
  dsimp only
  rw [h2]

theorem runFetched_word {m : IssueMode} (h : t.fetch = (u, .ok w)) : runFetched m t = t.orWait (issueWord m u w) := by
  unfold runFetched; rw [h]

theorem runFetched_fault {m : IssueMode} {k : TrapInfo} (h : t.fetch = (u, .error k)) :
    runFetched m t = t.orWait (.next (if k.cause = heldCause then u else u.trap k)) := by
  unfold runFetched; rw [h]

/-- The word of an instruction runs as the row that its operands select, or enters the queue. -/
theorem runFetched_instr (hf : t.fetch = (u, .ok w)) (hd : decode w = .ok i) (hq : entersQueue u w i = false)
    (hp : revokesAt u.me w = none) : runFetched {} t = t.orWait (exec (refine i u.passQueue) u.passQueue) := by
  rw [runFetched_word hf, issueWord_runs hd hq, runWord_instr hd ((passQueue_revokesAt u w).trans hp)]

theorem runFetched_revoked (hf : t.fetch = (u, .ok w)) (hd : decode w = .ok i) (hq : entersQueue u w i = false)
    (hp : revokesAt u.me w = some p) : runFetched {} t = t.orWait (.next (u.passQueue.takeRevoke p)) := by
  rw [runFetched_word hf, issueWord_runs hd hq, runWord_revoked hd ((passQueue_revokesAt u w).trans hp)]

theorem runFetched_queued (hf : t.fetch = (u, .ok w)) (hd : decode w = .ok i) (hq : entersQueue u w i = true) :
    runFetched {} t = t.orWait (.next ((u.decodeQueued i).state)) := by
  rw [runFetched_word hf, issueWord_queued hd hq]

theorem runFetched_illegal (hf : t.fetch = (u, .ok w)) (hd : decode w = .error x)
    (hv : u.me.revoke = none ∨ vectorMajor w = false) (hm : (w.extractLsb' 0 6).toNat ≠ 0x27) :
    runFetched {} t = t.orWait (exec (.illegalInstruction w x) u) := by
  rw [runFetched_word hf, issueWord_illegal hd, runWord_illegal hd hv hm]

theorem runFetched_illegal_revoked (hf : t.fetch = (u, .ok w)) (hd : decode w = .error x) (hp : u.me.revoke = some p)
    (hv : vectorMajor w = true) : runFetched {} t = t.orWait (.next (u.takeRevoke p)) := by
  rw [runFetched_word hf, issueWord_illegal hd, runWord_illegal_revoked hd hp hv]

end

/-! ### Boundaries (R98, R246) -/

section
variable {s : State} {g : Nat}

theorem boundary_rests (h : s.runs g = false) : s.boundary g = s := by
  unfold State.boundary; exact if_pos (by simp [h])

theorem boundary_runs (h : s.runs g = true) : s.boundary g =
    if (s.ctx g).stopsHere then reached s (exec (.threadPreemptionStop g) s)
    else if (s.eligibleChan g).isSome then reached s (exec (.handlerRun g) s)
    else if (s.ctx g).wait.any (s.waitOver g) && (s.ctx g).goesOn then
      { reached s (runFetched {} { s with cur := g }) with cur := s.cur }
    else s := by
  unfold State.boundary; exact if_neg (by simp [h])

/-- A context with no pre-emption, no eligible handler and no wait is left as it is. -/
theorem boundary_goesOn (h : s.runs g = true) (hs : (s.ctx g).stopsHere = false) (he : s.eligibleChan g = none)
    (hw : (s.ctx g).wait = none) : s.boundary g = s := by
  rw [boundary_runs h, if_neg (by simp [hs]), if_neg (by simp [he]), if_neg (by simp [hw])]

end

/-! ### The fetch (R32, R319, R329, R340) -/

/-- The trap of a fetch that faults at the PC: no description, and the PC both as value and as return address. -/
abbrev fetchTrap (cause : Nat) (pc : Word) : TrapInfo := { cause := cause, value := pc, epc := pc }

/-- A page that refuses the only part of an access is the fault of the access. -/
theorem resolve_of_page_error {t : State} {ag : Agent} {k : AccKind} {a n : Nat} {x : MemFault} (ha : a < 2 ^ 64)
    (hn : 0 < n) (hf : a % 4096 + n ≤ 4096) (h : t.page ag k a = (t, .error x)) :
    t.resolve ag k a n = (t, .error { fault := x, addr := a }) := by
  have hs : straddlesWindow a n = false := by
    rw [straddlesWindow, partsOf_one ha hn hf]; cases h : inWindow a <;> simp [h]
  rw [State.resolve, hs, partsOf_one ha hn hf]
  simp only [State.lookup, h]
  simp

/-- An aligned word lies in one page. -/
theorem word_fits_page {a : Nat} (h : a % 4 = 0) : a % 4096 + 4 ≤ 4096 := by omega

section
variable {s : State}

theorem fetch_misaligned (h : s.me.pc.toNat % 4 ≠ 0) : s.fetch = (s, .error (fetchTrap 0x080 s.me.pc)) := by
  unfold State.fetch; exact if_pos h

/-- A fetch whose translation ends in a fault that reads no table entry is the trap of the fault. -/
theorem fetch_fault {t : State} {r c : Nat} (h : s.me.pc.toNat % 4 = 0)
    (ht : s.beforeWalk s.cur s.agent .fetch s.me.pc.toNat 4 = t)
    (hx : t.resolve s.agent .fetch s.me.pc.toNat 4 =
      (t, .error { fault := { rank := r, cause := c }, addr := s.me.pc.toNat }))
    (hc : c = 0x081 ∨ c = 0x0E3 ∨ c = 0x088) : s.fetch = (s, .error (fetchTrap c s.me.pc)) := by
  unfold State.fetch
  refine (if_neg (not_not.2 h)).trans ?_
  rw [ht, hx]
  rcases hc with rfl | rfl | rfl <;> simp [State.noteWalk, AccFault.info, telemOf, kindCode, fetchTrap]

/-- Below firmware level a page that is refused before any walk is refused in every state. -/
theorem fetch_refused {r c : Nat} (h : s.me.pc.toNat % 4 = 0)
    (hp : ∀ t : State, t.page s.agent .fetch s.me.pc.toNat = (t, .error { rank := r, cause := c }))
    (hc : c = 0x081 ∨ c = 0x0E3 ∨ c = 0x088) : s.fetch = (s, .error (fetchTrap c s.me.pc)) :=
  fetch_fault h rfl (resolve_of_page_error s.me.pc.isLt (by decide) (word_fits_page h) (hp _)) hc

/-- The window lies in the canonical addresses. -/
theorem canonical_of_inWindow {a : Nat} (ha : a < 2 ^ 64) (h : inWindow a = true) : canonical a = true := by
  simp only [inWindow, Bool.and_eq_true, decide_eq_true_eq] at h
  have h511 : bitsOf a 55 9 = 511 := by rw [bitsOf_eq]; omega
  simp [canonical, h511]

theorem fetch_noncanonical (h : s.me.pc.toNat % 4 = 0) (hl : s.agent.level ≠ .firmware)
    (hc : canonical s.me.pc.toNat = false) : s.fetch = (s, .error (fetchTrap 0x081 s.me.pc)) :=
  fetch_refused h (fun t => by rw [State.page, if_neg hl, if_pos (by simp [hc])]) (.inl rfl)

theorem fetch_window (h : s.me.pc.toNat % 4 = 0) (hl : s.agent.level ≠ .firmware)
    (hw : inWindow s.me.pc.toNat = true) : s.fetch = (s, .error (fetchTrap 0x0E3 s.me.pc)) :=
  fetch_refused h (fun t => by
    rw [State.page, if_neg hl, if_neg (by simp [canonical_of_inWindow s.me.pc.isLt hw]), if_pos hw, if_pos rfl])
    (.inr (.inl rfl))

theorem beforeWalk_firmware {ag : Agent} (hl : ag.level = .firmware) (g : Nat) (k : AccKind) (a n : Nat) :
    s.beforeWalk g ag k a n = s := if_pos hl

theorem fetch_nowhere (h : s.me.pc.toNat % 4 = 0) (hl : s.agent.level = .firmware)
    (hx : 2 ^ 52 ≤ s.me.pc.toNat ∨ deviceEnd ≤ s.me.pc.toNat ∧ s.me.pc.toNat < peerBase) :
    s.fetch = (s, .error (fetchTrap 0x088 s.me.pc)) :=
  fetch_fault h (beforeWalk_firmware hl ..) (resolve_nowhere hl s.me.pc.isLt (by decide) (word_fits_page h) hx)
    (.inr (.inr rfl))

theorem toNat_append_byte {n : Nat} (x : BitVec n) (b : Byte) : (x ++ b).toNat = 256 * x.toNat + b.toNat := by
  rw [BitVec.toNat_append, ← Nat.shiftLeft_add_eq_or_of_lt b.isLt, Nat.shiftLeft_eq, Nat.mul_comm]

/-- The word of four bytes is their number. -/
theorem wordOfBytes_eq (b0 b1 b2 b3 : Byte) : wordOfBytes b0 b1 b2 b3 = BitVec.ofNat 32 (leNat [b0, b1, b2, b3]) := by
  have hlt : leNat [b0, b1, b2, b3] < 2 ^ 32 := (leNat_lt _).trans_eq (by norm_num)
  refine BitVec.eq_of_toNat_eq ?_
  rw [BitVec.toNat_ofNat, Nat.mod_eq_of_lt hlt]
  simp only [wordOfBytes, toNat_append_byte, leNat]
  omega

/-- The way through the L2 changes nothing else. -/
theorem passFetch_l2 (s : State) (ps : List Part) : L2Only s (s.passFetch ps) := by
  refine .foldl (fun t p => ?_) _ _
  split
  · exact .refl t
  · exact passLines_l2 _ _ _ _

/-- At firmware level, with nothing pending, the word is the four bytes at the PC. -/
theorem fetch_plain (h : s.me.pc.toNat % 4 = 0) (hl : s.agent.level = .firmware) (hpend : s.me.pend = [])
    (hb : PlainBytes s s.me.pc.toNat 4) :
    ∃ t, L2Only s t ∧ s.fetch = (t, .ok (BitVec.ofNat 32 (leNat (storedBytes s s.me.pc.toNat 4)))) := by
  have hpass := passFetch_l2 s ((partsOf s.me.pc.toNat 4).map ownPart)
  obtain ⟨t, ht, -, hts⟩ := loadParts_plain (s := s.passFetch ((partsOf s.me.pc.toNat 4).map ownPart)) (g := s.cur)
    .msg 0 (by rw [hpass.caches.still.ctx]; exact hpend) (partsOf_covers (hb.end_le s.me.pc.isLt))
    (hb.of_caches hpass.caches)
  refine ⟨t, hpass.trans (hts (by decide)), ?_⟩
  unfold State.fetch
  refine (if_neg (not_not.2 h)).trans ?_
  rw [beforeWalk_firmware hl, resolve_plain .fetch hl s.me.pc.isLt hb]
  dsimp only
  rw [ht, hpass.caches.storedBytes]
  exact congrArg (fun w => (t, Except.ok w)) (wordOfBytes_eq ..)

end

/-! ### The step -/

/-- Settles O58: the issue slot, the boundaries and the fetch, each by the lemmas above. -/
theorem aStepRunsTheDecodedInstruction : Obligations.AStepRunsTheDecodedInstruction := by
  refine ⟨?issue, ?boundary, ?fetch⟩
  case issue =>
    intro s h core b
    have hstep := step_issue h
    constructor
    · intro hp t
      rw [hstep, issue_idle hp]
      constructor
      · intro g e rest hg hq x y
        exact congrArg timed (idleSlot_queue hg hq)
      · intro hrest
        exact congrArg timed (idleSlot_rests hrest)
    · intro g hp t
      rw [hstep, issue_picks hp]
      refine ⟨?_, ?_, fun u k hf => congrArg timed (runFetched_fault hf)⟩
      · intro u w i hf hd queued v
        refine ⟨passQueue_of_nil, fun hq => ⟨fun hr => ?_, fun p hr => ?_⟩, fun hq => ?_⟩
        · exact ⟨congrArg timed (runFetched_instr hf hd hq hr), refine_isWord hd v⟩
        · exact congrArg timed (runFetched_revoked hf hd hq hr)
        · exact congrArg timed (runFetched_queued hf hd hq)
      · intro u w x hf hd
        exact ⟨fun hv hm => congrArg timed (runFetched_illegal hf hd hv hm),
          fun p hr hv => congrArg timed (runFetched_illegal_revoked hf hd hr hv)⟩
  case boundary =>
    intro s g
    refine ⟨boundary_rests, fun hr => ⟨fun hs => ?_, fun hs => ⟨fun he => ?_, boundary_goesOn hr hs⟩⟩⟩
    · rw [boundary_runs hr, if_pos hs]
    · rw [boundary_runs hr, if_neg (by simp [hs]), if_pos he]
  case fetch =>
    intro s pc faults
    refine ⟨fetch_misaligned, fun h hl => ⟨fetch_noncanonical h hl, fetch_window h hl⟩,
      fun h hl => ⟨fetch_nowhere h hl, fun hpend hb => ?_⟩⟩
    obtain ⟨t, ht, hf⟩ := fetch_plain h hl hpend hb
    exact ⟨t.l2, by rw [hf, ← ht]⟩

end Sys2Proof.Machine
end

section
/-! PROOFS. Scalar integers: the value of each row as R59 to R62 give it (O1). -/

namespace Sys2Proof.Machine

/-! ### Counting bits -/

/-- The place of the first element with a property, as the length of what comes before it. -/
theorem length_takeWhile_range {f : Nat → Bool} {n k : Nat} (hk : k ≤ n) (hlow : ∀ j, j < k → f j = false)
    (hat : k < n → f k = true) : (((List.range n).map f).takeWhile (!·)).length = k := by
  rw [List.takeWhile_eq_take_findIdx_not, List.length_take]
  simp only [Bool.not_not]
  rcases Nat.lt_or_ge k n with h | h
  · have : ((List.range n).map f).findIdx (fun a => a) = k := by
      rw [List.findIdx_eq (by simpa using h)]
      simp only [List.getElem_map, List.getElem_range]
      exact ⟨hat h, hlow⟩
    rw [this]; simp; omega
  · have : ((List.range n).map f).findIdx (fun a => a) = ((List.range n).map f).length := by
      rw [List.findIdx_eq_length]
      simp only [List.mem_map, List.mem_range]
      rintro _ ⟨j, hj, rfl⟩
      exact hlow j (by omega)
    rw [this]; simp; omega

theorem clzWord_eq (a : Word) : clzWord a = BitVec.ofNat 64 ((bitsDown a).takeWhile (!·)).length := by
  unfold clzWord bitsDown
  by_cases ha : a = 0
  · subst ha
    rw [length_takeWhile_range (k := 64) (le_refl _) (by simp) (by omega)]; rfl
  · have hn : a.toNat ≠ 0 := fun h => ha (BitVec.eq_of_toNat_eq h)
    have hlog : a.toNat.log2 < 64 := (Nat.log2_lt hn).2 a.isLt
    rw [if_neg ha, length_takeWhile_range (k := 63 - a.toNat.log2) (by omega)]
    · intro j hj
      rw [← BitVec.testBit_toNat, Nat.testBit_lt_two_pow]
      exact (Nat.log2_lt hn).1 (by omega)
    · intro _
      rw [← BitVec.testBit_toNat, show 63 - (63 - a.toNat.log2) = a.toNat.log2 by omega]
      exact Nat.testBit_log2 hn

theorem ctzWord_eq (a : Word) : ctzWord a = BitVec.ofNat 64 ((bitsUp a).takeWhile (!·)).length := by
  unfold ctzWord bitsUp findBelow
  cases h : (List.range 64).find? (bit a) with
  | none =>
    rw [length_takeWhile_range (k := 64) (le_refl _) (fun j hj => ?_) (by omega)]
    · rfl
    · simpa [bit] using List.find?_eq_none.1 h j (List.mem_range.2 hj)
  | some k =>
    obtain ⟨hat, hmem, hlow⟩ := List.find?_range_eq_some.1 h
    have hk := List.mem_range.1 hmem
    rw [length_takeWhile_range (f := fun i => a.getLsbD i) (k := k) hk.le (fun j hj => by simpa [bit] using hlow j hj)
      fun _ => hat]
    rfl

theorem popcWord_eq (a : Word) : popcWord a = BitVec.ofNat 64 ((bitsUp a).count true) := by
  unfold popcWord bitsUp
  rw [List.count, List.countP_map, List.countP_eq_length_filter]
  congr 3
  funext i
  simp [bit]

/-! ### Shifts, comparisons, products and quotients as numbers -/

theorem word_shiftLeft_eq (a : Word) (k : Nat) : a <<< k = BitVec.ofNat 64 (a.toNat * 2 ^ k) := by
  rw [← Nat.shiftLeft_eq]; rfl

theorem word_shiftRight_eq (a : Word) (k : Nat) : a >>> k = BitVec.ofNat 64 (a.toNat / 2 ^ k) := by
  apply BitVec.eq_of_toNat_eq
  rw [BitVec.toNat_ushiftRight, BitVec.toNat_ofNat, Nat.shiftRight_eq_div_pow,
    Nat.mod_eq_of_lt (lt_of_le_of_lt (Nat.div_le_self _ _) a.isLt)]

theorem word_sshiftRight_eq (a : Word) (k : Nat) : a.sshiftRight k = BitVec.ofInt 64 (a.toInt / 2 ^ k) := by
  rw [BitVec.sshiftRight, Int.shiftRight_eq_div_pow]; norm_cast

theorem truth_slt (a b : Word) : truth (a.slt b) = if a.toInt < b.toInt then 1 else 0 := by
  simp [truth, BitVec.slt]

theorem truth_ult (a b : Word) : truth (a.ult b) = if a.toNat < b.toNat then 1 else 0 := by
  simp [truth, BitVec.ult]

theorem word_smin_eq (a b : Word) : (if a.slt b then a else b) = BitVec.ofInt 64 (Min.min a.toInt b.toInt) := by
  simp only [BitVec.slt, decide_eq_true_eq]
  split
  · rw [min_eq_left (by omega), BitVec.ofInt_toInt]
  · rw [min_eq_right (by omega), BitVec.ofInt_toInt]

theorem word_smax_eq (a b : Word) : (if a.slt b then b else a) = BitVec.ofInt 64 (Max.max a.toInt b.toInt) := by
  simp only [BitVec.slt, decide_eq_true_eq]
  split
  · rw [max_eq_right (by omega), BitVec.ofInt_toInt]
  · rw [max_eq_left (by omega), BitVec.ofInt_toInt]

theorem word_umin_eq (a b : Word) : (if a.ult b then a else b) = BitVec.ofNat 64 (Min.min a.toNat b.toNat) := by
  simp only [BitVec.ult, decide_eq_true_eq]
  split
  · rw [min_eq_left (by omega), BitVec.ofNat_toNat, BitVec.setWidth_eq]
  · rw [min_eq_right (by omega), BitVec.ofNat_toNat, BitVec.setWidth_eq]

theorem word_umax_eq (a b : Word) : (if a.ult b then b else a) = BitVec.ofNat 64 (Max.max a.toNat b.toNat) := by
  simp only [BitVec.ult, decide_eq_true_eq]
  split
  · rw [max_eq_right (by omega), BitVec.ofNat_toNat, BitVec.setWidth_eq]
  · rw [max_eq_left (by omega), BitVec.ofNat_toNat, BitVec.setWidth_eq]

theorem word_sub_eq_ofInt (a b : Word) : a - b = BitVec.ofInt 64 (a.toInt - b.toInt) := by
  apply BitVec.eq_of_toInt_eq; rw [BitVec.toInt_sub, BitVec.toInt_ofInt]

theorem divWord_eq (a b : Word) :
    divWord a b = if b = 0 then BitVec.ofInt 64 (-1) else BitVec.ofInt 64 (a.toInt.tdiv b.toInt) := by
  unfold divWord
  split
  · rfl
  · apply BitVec.eq_of_toInt_eq; rw [BitVec.toInt_sdiv, BitVec.toInt_ofInt]

theorem divuWord_eq (a b : Word) :
    divuWord a b = if b = 0 then BitVec.ofNat 64 (2 ^ 64 - 1) else BitVec.ofNat 64 (a.toNat / b.toNat) := by
  unfold divuWord
  split
  · rfl
  · apply BitVec.eq_of_toNat_eq
    rw [BitVec.toNat_udiv, BitVec.toNat_ofNat, Nat.mod_eq_of_lt (lt_of_le_of_lt (Nat.div_le_self _ _) a.isLt)]

theorem remWord_eq (a b : Word) : remWord a b = if b = 0 then a else BitVec.ofInt 64 (a.toInt.tmod b.toInt) := by
  unfold remWord
  split
  · rfl
  · rw [← BitVec.toInt_srem, BitVec.ofInt_toInt]

theorem remuWord_eq (a b : Word) : remuWord a b = if b = 0 then a else BitVec.ofNat 64 (a.toNat % b.toNat) := by
  unfold remuWord
  split
  · rfl
  · rw [← BitVec.toNat_umod, BitVec.ofNat_toNat, BitVec.setWidth_eq]

/-! ### Immediates and bit fields -/

theorem simm_eq {n : Nat} (x : BitVec n) : simm x = BitVec.ofInt 64 x.toInt := rfl

theorem add_simm (a : Word) {n : Nat} (x : BitVec n) : a + simm x = BitVec.ofInt 64 (a.toNat + x.toInt) := by
  rw [BitVec.ofInt_add, simm_eq, BitVec.ofInt_natCast, BitVec.ofNat_toNat, BitVec.setWidth_eq]

theorem simm_shiftLeft {n : Nat} (x : BitVec n) (k : Nat) : simm x <<< k = BitVec.ofInt 64 (x.toInt * 2 ^ k) := by
  have hk : BitVec.ofInt 64 (2 ^ k : Int) = BitVec.ofNat 64 (2 ^ k) := by rw [← BitVec.ofInt_natCast]; norm_cast
  rw [word_shiftLeft_eq, BitVec.ofInt_mul, BitVec.ofNat_mul, BitVec.ofNat_toNat, BitVec.setWidth_eq, hk, simm_eq]

theorem slt_simm {n : Nat} (a : Word) (x : BitVec n) (h : n ≤ 64) : (a.slt (simm x)) = decide (a.toInt < x.toInt) := by
  rw [BitVec.slt, simm, BitVec.toInt_signExtend_of_le h]

/-- A field put in place of the bits of a word between its high and its low part. -/
theorem bfiWord_eq (old a : Word) (p l : Nat) :
    bfiWord old a p l = BitVec.ofNat 64 (old.toNat / 2 ^ (p + l) * 2 ^ (p + l) + a.toNat % 2 ^ l * 2 ^ p +
      old.toNat % 2 ^ p) := by
  have hsum : old.toNat / 2 ^ (p + l) * 2 ^ (p + l) + a.toNat % 2 ^ l * 2 ^ p + old.toNat % 2 ^ p =
      2 ^ p * (2 ^ l * (old.toNat / 2 ^ (p + l)) + a.toNat % 2 ^ l) + old.toNat % 2 ^ p := by
    rw [pow_add]; ring
  apply BitVec.eq_of_getLsbD_eq
  intro i hi
  unfold bfiWord
  rw [hsum]
  simp only [BitVec.getLsbD_or, BitVec.getLsbD_and, BitVec.getLsbD_not, BitVec.getLsbD_ofNat, BitVec.getLsbD_shiftLeft, hi,
    Nat.testBit_two_pow_mul_add _ (Nat.mod_lt _ (Nat.two_pow_pos _)), Nat.testBit_mul_two_pow, Nat.testBit_two_pow_sub_one,
    Nat.testBit_mod_two_pow, Nat.testBit_div_two_pow, decide_true, Bool.true_and]
  simp only [← BitVec.testBit_toNat]
  by_cases h1 : i < p
  · have : ¬ p ≤ i := by omega
    simp [h1, this]
  · have h2 : p ≤ i := by omega
    by_cases h3 : i - p < l
    · simp [h1, h2, h3]
    · have : i - p - l + (p + l) = i := by omega
      simp [h1, h2, h3, this]

theorem bfxWord_eq (a : Word) (p l : Nat) : bfxWord a p l = BitVec.ofNat 64 (a.toNat / 2 ^ p % 2 ^ l) := by
  rw [bfxWord, bitsOf, Nat.shiftRight_eq_div_pow]

/-! ### The rows of the tables -/

/-- Two ends that write the same value are one. -/
theorem next_retire_congr {s : State} {d : BitVec 5} {v w : Word} {p : Bool} (h : v = w) :
    (.next (s.retire d v p p) : Out) = .next (s.retire d w p p) := by rw [h]

/-- A scalar integer instruction ends by writing the value that the tables give it. -/
theorem exec_of_intResult {s : State} {i : Instr} {d : BitVec 5} {v : Word} {p : Bool} (hr : s.me.reissue = none)
    (h : intResult s i = some (d, v, p)) : exec i s = .next (s.retire d v p p) := by
  unfold intResult at h
  dsimp only at h
  split at h
  case h_25 d a b c =>
    obtain ⟨rfl, rfl, rfl⟩ := h
    show execSel d a b c s = _
    unfold execSel
    by_cases hc : s.rv c ≠ 0
    · rw [if_pos hc, if_pos hc, if_pos hc]
    · rw [if_neg hc, if_neg hc, if_neg hc]
  case h_34 =>
    split at h
    · obtain ⟨rfl, rfl, rfl⟩ := h
      exact next_retire_congr (bfxWord_eq ..)
    · cases h
  case h_35 =>
    split at h
    · obtain ⟨rfl, rfl, rfl⟩ := h
      exact next_retire_congr (bfiWord_eq ..)
    · cases h
  case h_37 imm =>
    obtain ⟨rfl, rfl, rfl⟩ := h
    refine next_retire_congr ?_
    rw [Ctx.here, hr, simm_shiftLeft, BitVec.ofInt_add, BitVec.ofInt_natCast, BitVec.ofNat_toNat, BitVec.setWidth_eq]
    rfl
  case h_38 => cases h
  all_goals obtain ⟨rfl, rfl, rfl⟩ := h
  case h_1 => exact next_retire_congr (by rw [BitVec.ofNat_add]; simp)
  case h_2 => exact next_retire_congr (word_sub_eq_ofInt ..)
  case h_6 | h_31 => exact next_retire_congr (word_shiftLeft_eq ..)
  case h_7 | h_32 => exact next_retire_congr (word_shiftRight_eq ..)
  case h_8 | h_33 => exact next_retire_congr (word_sshiftRight_eq ..)
  case h_9 => exact next_retire_congr (truth_slt ..)
  case h_10 => exact next_retire_congr (truth_ult ..)
  case h_11 => exact next_retire_congr (word_smin_eq ..)
  case h_12 => exact next_retire_congr (word_smax_eq ..)
  case h_13 => exact next_retire_congr (word_umin_eq ..)
  case h_14 => exact next_retire_congr (word_umax_eq ..)
  case h_15 => exact next_retire_congr (clzWord_eq ..)
  case h_16 => exact next_retire_congr (ctzWord_eq ..)
  case h_17 => exact next_retire_congr (popcWord_eq ..)
  case h_18 => exact next_retire_congr (by rw [BitVec.ofNat_mul]; simp)
  case h_21 => exact next_retire_congr (divWord_eq ..)
  case h_22 => exact next_retire_congr (divuWord_eq ..)
  case h_23 => exact next_retire_congr (remWord_eq ..)
  case h_24 => exact next_retire_congr (remuWord_eq ..)
  case h_26 => exact next_retire_congr (add_simm ..)
  case h_30 => exact next_retire_congr (by simp only [truth, slt_simm _ _ (by omega : 14 ≤ 64), decide_eq_true_eq])
  case h_36 => exact next_retire_congr (simm_shiftLeft ..)
  all_goals exact rfl

/-- Settles O1: every row ends in `State.retire` with the value of its table. -/
theorem scalarIntegerResults : Obligations.ScalarIntegerResults := by
  intro s i d v p hr hi
  exact ⟨_, exec_of_intResult hr hi, retire_wroteOne s d v p p hr⟩

end Sys2Proof.Machine
end

section
/-! PROOFS. Control transfer: where branches and jumps go (R67 to R69). -/

namespace Sys2Proof.Machine

/-! ### Targets -/

/-- The target of a branch or jump as a number (R67, R68). -/
theorem target_eq (pc : Word) {n : Nat} (o : BitVec n) :
    Machine.target pc o = BitVec.ofInt 64 (pc.toNat + 4 + 4 * o.toInt) := by
  unfold Machine.target
  rw [BitVec.ofInt_add, BitVec.ofInt_add, BitVec.ofInt_mul, BitVec.ofInt_natCast, BitVec.ofNat_toNat, BitVec.setWidth_eq,
    simm_eq]
  rfl

/-- The next word as a number. -/
theorem next_word_eq (pc : Word) : pc + 4 = BitVec.ofInt 64 (pc.toNat + 4 + 0) := by
  rw [add_zero, BitVec.ofInt_add, BitVec.ofInt_natCast, BitVec.ofNat_toNat, BitVec.setWidth_eq]
  rfl

/-! ### Branches -/

/-- A branch with clean operands goes to its target or to the next word, as its condition says. -/
theorem branch_movedTo {s : State} {a b : BitVec 5} {o : BitVec 13} {taken : Word → Word → Bool} {c : Bool}
    (hr : s.me.reissue = none) (ha : s.rp a = false) (hb : s.rp b = false) (hc : taken (s.rv a) (s.rv b) = c) :
    MovedTo s (s.branch a b o taken) (BitVec.ofInt 64 (s.me.pc.toNat + 4 + if c then 4 * o.toInt else 0)) := by
  unfold State.branch
  rw [if_neg (by simp [ha]), if_neg (by simp [hb]), hc]
  cases c with
  | true => rw [if_pos rfl, if_pos rfl, ← target_eq]; exact jump_movedTo s _
  | false =>
    rw [if_neg Bool.false_ne_true, if_neg Bool.false_ne_true, ← next_word_eq]
    exact advance_movedTo s hr

/-- Settles O4: each branch is `State.branch` with its own comparison. -/
theorem branchesFollowTheirCondition : Obligations.BranchesFollowTheirCondition := by
  intro s i a b o c hr hi ha hb
  unfold branchOf at hi
  split at hi
  case h_7 => cases hi
  all_goals obtain ⟨rfl, rfl, rfl, hc⟩ := hi
  case h_1 => exact ⟨_, rfl, branch_movedTo hr ha hb (by rw [beq_eq_decide])⟩
  case h_2 => exact ⟨_, rfl, branch_movedTo hr ha hb (by rw [bne, beq_eq_decide, decide_not])⟩
  case h_3 => exact ⟨_, rfl, branch_movedTo hr ha hb rfl⟩
  case h_4 => exact ⟨_, rfl, branch_movedTo hr ha hb (by rw [BitVec.slt, ← decide_not, decide_eq_decide, not_lt])⟩
  case h_5 => exact ⟨_, rfl, branch_movedTo hr ha hb rfl⟩
  case h_6 => exact ⟨_, rfl, branch_movedTo hr ha hb (by rw [BitVec.ult, ← decide_not, decide_eq_decide, not_lt])⟩

/-! ### Jumps -/

/-- The word after a table of `n` entries as a number. -/
theorem after_table_eq (base : Word) (n : BitVec 16) :
    base + 4 * BitVec.ofNat 64 n.toNat = BitVec.ofNat 64 (base.toNat + 4 * n.toNat) := by
  simp only [BitVec.ofNat_add, BitVec.ofNat_mul, BitVec.ofNat_toNat, BitVec.setWidth_eq]
  rfl

/-- JTAB with an index in range whose entry reads clean goes where the entry says (R69). -/
theorem execJtab_entry {s u : State} {d a : BitVec 5} {n : BitVec 16} {bytes : List Byte} (ha : s.rp a = false)
    (hn : (s.rv a).toNat < n.toNat)
    (hl : s.load s.cur s.agent .load .scalar 15 (s.me.pc + 4 + 4 * s.rv a).toNat 4 = (u, .ok (bytes, false))) :
    execJtab d a n s = .next (u.link d (s.me.pc + 4 + 4 * BitVec.ofNat 64 n.toNat)
      (s.me.pc + 4 + simm (BitVec.ofNat 32 (leNat bytes)))) := by
  unfold execJtab
  dsimp only
  rw [if_neg (by simp [ha]), if_neg (by omega), hl]
  rfl

/-- Settles O5: each jump ends in `State.link`, whose effect is `link_wroteAt`. -/
theorem jumpsLinkAndGo : Obligations.JumpsLinkAndGo := by
  intro s d a hr
  refine ⟨fun o => ?jal, fun ha => ⟨fun imm => ?jalr, fun n => ⟨fun hn => ?past, fun hn u bytes hl => ?entry⟩⟩⟩
  case jal =>
    rw [← target_eq]
    exact ⟨_, rfl, link_wroteAt s d _ _⟩
  case jalr =>
    rw [← add_simm]
    exact ⟨_, if_neg (by simp [ha]), link_wroteAt s d _ _⟩
  case past =>
    rw [← after_table_eq]
    refine ⟨_, ?_, link_wroteAt s d _ _⟩
    show execJtab d a n s = _
    unfold execJtab
    rw [if_neg (by simp [ha]), if_pos hn]
  case entry =>
    rw [← after_table_eq, ← add_simm]
    exact ⟨_, execJtab_entry ha hn hl, link_wroteAt u d _ _⟩

end Sys2Proof.Machine
end

section
/-! PROOFS. ERET: the return from a trap, its stray use, and the round trip of a TRAP (O16, O17). -/

namespace Sys2Proof.Machine

/-! ### The return (R75, R316) -/

@[simp] theorem Ctx.raw_leave (c : Ctx) (l : Level) (r : BitVec 5) : (c.leave l).raw r = c.raw r := by cases l <;> rfl

@[simp] theorem Ctx.leave_fstat (c : Ctx) (l : Level) : (c.leave l).fstat = c.fstat := by cases l <;> rfl

theorem Ctx.leave_pc (c : Ctx) (l : Level) :
    (c.leave l).pc = if (c.trapSet l).regs.vside then c.resume else (c.trapSet l).regs.epc := rfl

theorem Ctx.leave_trapSet (c : Ctx) (l : Level) : (c.leave l).trapSet l = { c.trapSet l with
    regs := if (c.trapSet l).regs.depth = 2 then (c.trapSet l).shadow
      else { (c.trapSet l).regs with depth := (c.trapSet l).regs.depth - 1 } } := by cases l <;> rfl

/-- A saved level is taken up to the code of firmware, but no higher than the level of the return (R316). -/
theorem Ctx.leave_level_code (c : Ctx) (l : Level) :
    (c.leave l).level.code = Nat.min (Nat.min (c.trapSet l).regs.ppl.toNat 2) l.code := by
  show (Level.ofCode (min (c.trapSet l).regs.ppl.toNat l.code)).code = _
  generalize (c.trapSet l).regs.ppl = p
  revert p
  cases l <;> decide

/-- Above user level, with a trap in progress there, ERET leaves it. -/
theorem eret_leaves {s : State} {l : Level} (hl : s.me.level = l) (hu : l ≠ .user)
    (hd : (s.me.trapSet l).regs.depth ≠ 0) : s.eret = s.setMe (s.me.leave l) := by
  subst hl
  unfold State.eret
  dsimp only
  split
  · next h => exact absurd h hu
  · exact if_neg hd

/-- At user level, with a user trap in progress, ERET goes to UEPC. -/
theorem eret_user {s : State} (hl : s.me.level = .user) (hu : s.me.uip = true) :
    s.eret = s.setMe { s.me.reissueReplay with pc := s.me.uepc, uip := false } := by
  unfold State.eret
  dsimp only
  rw [hl]
  exact if_pos hu

/-- Where no trap is in progress at the level in force, ERET is stray. -/
theorem eret_stray {s : State}
    (h : if s.me.level = .user then s.me.uip = false else (s.me.trapSet s.me.level).regs.depth = 0) :
    s.eret = s.trapHere 0x101 0 := by
  unfold State.eret
  dsimp only
  split
  · next hl => rw [if_pos hl] at h; exact if_neg (by simp [h])
  · next hl => rw [if_neg hl] at h; exact if_pos h

/-- With no revocation pending, ERET is `State.eret`. -/
theorem exec_eret {s : State} (hv : s.me.revoke = none) : exec .eret s = .next s.eret :=
  congrArg Host.Outcome.next (atPoint_eq hv _)

/-- Settles O16. -/
theorem eretReturnsOrTraps : Obligations.EretReturnsOrTraps := by
  intro s hr hv
  rw [exec_eret hv]
  refine ⟨fun l hl hu hd => ⟨_, rfl, ?_⟩, fun hl hu => ⟨_, rfl, ?_⟩, fun h hd => ⟨_, rfl, ?_⟩⟩
  · rw [eret_leaves hl hu hd]
    refine ⟨onlyMe_setMe _ _, ?_⟩
    rw [State.me_setMe]
    exact ⟨fun q => Ctx.raw_leave .., Ctx.leave_fstat .., Ctx.leave_pc .., Ctx.leave_level_code .., Ctx.leave_trapSet ..⟩
  · rw [eret_user hl hu]
    refine ⟨onlyMe_setMe _ _, ?_⟩
    rw [State.me_setMe]
    exact ⟨fun q => rfl, rfl, rfl, hl, rfl, rfl, rfl⟩
  · rw [eret_stray h]
    exact trapHere_trapped 0 hr (targetLevel_sup _ _ rfl) hd

/-! ### TRAP and its return (R74, R75) -/

/-- An aligned address loses nothing in a register that holds its upper 62 bits. -/
theorem aligned_next_word {pc : Word} (h : pc.toNat % 4 = 0) : ((pc + 4) >>> 2) <<< 2 = pc + 4 := by
  apply BitVec.eq_of_toNat_eq
  have h4 : (pc + 4).toNat % 4 = 0 := by
    rw [BitVec.toNat_add]
    have : (4 : Word).toNat = 4 := rfl
    omega
  rw [BitVec.toNat_shiftLeft, BitVec.toNat_ushiftRight, Nat.shiftRight_eq_div_pow, Nat.shiftLeft_eq]
  have := (pc + 4).isLt
  omega

/-- With nothing to reissue, the replay queue keeps its entries and the vector queue too. -/
theorem Ctx.reissueReplay_of_nil {c : Ctx} (h : c.replay = []) : c.reissueReplay = c := by
  unfold Ctx.reissueReplay
  rw [h, List.filter_nil, List.filter_nil, List.append_nil, ← h]

/-- A trap into the supervisor's level from user level, the first there, and the return from it. -/
theorem Ctx.leave_enter_user {c : Ctx} {t : TrapInfo} (hl : c.level = .user) (hp : c.replay = [])
    (hv : t.vside = false) :
    (c.enter .supervisor t).leave .supervisor = { c with
      pc := (t.epc >>> 2) <<< 2, reissue := none, wait := none, cut := none,
      sup := ((c.enter .supervisor t).leave .supervisor).sup } := by
  have hr : (c.enter .supervisor t).reissueReplay = c.enter .supervisor t := Ctx.reissueReplay_of_nil hp
  unfold Ctx.leave
  rw [hr]
  simp [Ctx.enter, Ctx.setTrapSet, Ctx.trapSet, hl, hv, Level.code, Level.ofCode]

/-- What the trap registers of the supervisor hold after that: no trap in progress, and the same vector. -/
theorem Ctx.sup_leave_enter_user {c : Ctx} {t : TrapInfo} (hd : c.sup.regs.depth = 0) :
    ((c.enter .supervisor t).leave .supervisor).sup.regs.depth = 0 ∧
      ((c.enter .supervisor t).leave .supervisor).sup.vec = c.sup.vec := by
  simp [Ctx.leave, Ctx.enter, Ctx.reissueReplay, Ctx.setTrapSet, Ctx.trapSet, hd]

/-- TRAP at user level with no trap in progress enters the supervisor's level. -/
theorem trapInsn_user {s : State} (imm : BitVec 16) (hr : s.me.reissue = none) (hl : s.me.level = .user)
    (hd : s.me.sup.regs.depth = 0) : s.trapInsn imm = s.setMe (s.me.enter .supervisor
      { cause := 0x100, value := imm.zeroExtend 64, epc := s.me.pc + 4 }) := by
  have ht : targetLevel 0x100 s.me.level = .supervisor := by rw [hl]; rfl
  have hroom : (s.me.trapSet .supervisor).regs.depth ≠ 2 := by
    show s.me.sup.regs.depth ≠ 2
    rw [hd]; decide
  rw [State.trapInsn, Ctx.here_pc hr, trap_eq _ _ (by rw [ht]; exact hroom), ht]

/-- Settles O17: the entry of the TRAP, and the return that undoes it. -/
theorem trapThenEretResumes : Obligations.TrapThenEretResumes := by
  intro s imm hr hw hc hl hd hv hp ha
  refine ⟨_, congrArg Host.Outcome.next (trapInsn_user imm hr hl hd), ?_⟩
  generalize ht : ({ cause := 0x100, value := imm.zeroExtend 64, epc := s.me.pc + 4 } : TrapInfo) = t
  have hepc : t.epc = s.me.pc + 4 := by rw [← ht]
  have hvs : t.vside = false := by rw [← ht]
  have hdepth : ((s.me.enter .supervisor t).trapSet .supervisor).regs.depth ≠ 0 := by
    rw [Ctx.enter_regs]; simp [Ctx.trapSet, hd]
  rw [exec_eret (by rw [State.me_setMe]; exact hv),
    eret_leaves (by rw [State.me_setMe]; rfl) (by decide : Level.supervisor ≠ .user) (by rw [State.me_setMe]; exact hdepth)]
  obtain ⟨hd0, hvec⟩ := Ctx.sup_leave_enter_user (t := t) hd
  refine ⟨_, rfl, (onlyMe_setMe _ _).trans (onlyMe_setMe _ _), ?_⟩
  simp only [State.me_setMe]
  refine ⟨?_, hd0, hvec⟩
  rw [Ctx.leave_enter_user hl hp hvs, hepc, aligned_next_word ha, ← hr, ← hw, ← hc]

end Sys2Proof.Machine
end

section
/-! PROOFS. Control registers without an effect of their own: what a write leaves in them and in every other (O13). -/

namespace Sys2Proof.Machine

/-! ### Fields of a word as numbers -/

/-- The low bits of a word. -/
theorem and_low (v : Word) (k : Nat) : v &&& BitVec.ofNat 64 (2 ^ k - 1) = BitVec.ofNat 64 (v.toNat % 2 ^ k) := by
  have h : v = BitVec.ofNat 64 v.toNat := by simp
  rw [← Nat.and_two_pow_sub_one_eq_mod, BitVec.ofNat_and, ← h]

/-- The bits of a word from one up. -/
theorem shiftDown_shiftUp (v : Word) (k : Nat) : (v >>> k) <<< k = BitVec.ofNat 64 (v.toNat / 2 ^ k * 2 ^ k) := by
  rw [word_shiftLeft_eq, BitVec.toNat_ushiftRight, Nat.shiftRight_eq_div_pow]

/-- The low bits of a number and `w` bits of it from a higher one up. -/
theorem and_two_fields (n lo mid w : Nat) (h : lo ≤ mid) :
    n &&& (2 ^ mid * (2 ^ w - 1) + (2 ^ lo - 1)) = n / 2 ^ mid % 2 ^ w * 2 ^ mid + n % 2 ^ lo := by
  have hle : 2 ^ lo ≤ 2 ^ mid := Nat.pow_le_pow_right (by decide) h
  have hlo : 2 ^ lo - 1 < 2 ^ mid := by have := Nat.two_pow_pos lo; omega
  have hmod : n % 2 ^ lo < 2 ^ mid := (Nat.mod_lt _ (Nat.two_pow_pos lo)).trans_le hle
  apply Nat.eq_of_testBit_eq
  intro i
  rw [Nat.mul_comm (n / 2 ^ mid % 2 ^ w), Nat.testBit_and, Nat.testBit_two_pow_mul_add _ hlo,
    Nat.testBit_two_pow_mul_add _ hmod]
  simp only [Nat.testBit_two_pow_sub_one, Nat.testBit_mod_two_pow, Nat.testBit_div_two_pow]
  split
  · rw [Bool.and_comm]
  · next hi => rw [Bool.and_comm, show i - mid + mid = i by omega]

theorem word_and_two_fields (v : Word) {lo mid w : Nat} (h : lo ≤ mid) :
    v &&& BitVec.ofNat 64 (2 ^ mid * (2 ^ w - 1) + (2 ^ lo - 1)) =
      BitVec.ofNat 64 (v.toNat / 2 ^ mid % 2 ^ w * 2 ^ mid + v.toNat % 2 ^ lo) := by
  have hv : v = BitVec.ofNat 64 v.toNat := by simp
  rw [← and_two_fields _ _ _ _ h, BitVec.ofNat_and, ← hv]

theorem extract_zeroExtend (v : Word) (k : Nat) : (v.extractLsb' 0 k).zeroExtend 64 = BitVec.ofNat 64 (v.toNat % 2 ^ k) := by
  apply BitVec.eq_of_toNat_eq
  simp

theorem vecWrite_eq (v : Word) : vecWrite v = BitVec.ofNat 64 (v.toNat / 256 * 256 + v.toNat % 2) := by
  have h := word_and_two_fields v (lo := 1) (mid := 8) (w := 56) (by decide)
  have hv : v.toNat / 2 ^ 8 % 2 ^ 56 = v.toNat / 256 := Nat.mod_eq_of_lt (by have := v.isLt; omega)
  rw [hv] at h
  exact h

theorem fstatWrite_eq (old v : Word) : fstatWrite old v = BitVec.ofNat 64 (v.toNat % 64 +
    (if 5 ≤ v.toNat / 256 % 8 then old.toNat / 256 % 8 else v.toNat / 256 % 8) * 256) := by
  unfold fstatWrite bitsOf
  simp only [Nat.shiftRight_eq_div_pow, pow_zero, Nat.div_one]
  rw [Nat.add_comm]
  rfl

/-! ### TSTAT and FTSTAT (R313) -/

/-- The parts of TSTAT above PPL. -/
def Ctx.tstatRest (c : Ctx) (l : Level) (r : TrapRegs) : Nat :=
  ofBool c.pdef * 2 + (if l = .firmware then 0 else ofBool c.uip * 4) + r.depth.toNat * 8 + ofBool r.vside * 32

theorem ofBool_le (b : Bool) : ofBool b ≤ 1 := by cases b <;> decide

theorem Ctx.tstat_eq (c : Ctx) (l : Level) (r : TrapRegs) :
    c.tstat l r = BitVec.ofNat 64 (r.ppl.toNat + 4 * c.tstatRest l r) := by
  unfold Ctx.tstat Ctx.tstatRest
  congr 1
  split <;> omega

theorem Ctx.tstatRest_le (c : Ctx) (l : Level) (r : TrapRegs) : c.tstatRest l r ≤ 64 := by
  have := ofBool_le c.pdef
  have := ofBool_le c.uip
  have := ofBool_le r.vside
  have := r.depth.isLt
  unfold Ctx.tstatRest
  split <;> omega

/-- PPL written under TSTAT: a value above the level leaves it, any other takes the place of its two bits. -/
theorem Ctx.tstat_pplWrite (c c' : Ctx) (l : Level) (r : TrapRegs) (v : Word) (hc : c'.tstatRest l r = c.tstatRest l r) :
    c'.tstat l { r with ppl := pplWrite r.ppl v l } = if l.code < v.toNat % 4 then c.tstat l r
      else BitVec.ofNat 64 ((c.tstat l r).toNat / 4 * 4 + v.toNat % 4) := by
  have hle := c.tstatRest_le l r
  have hp := r.ppl.isLt
  have hw : bitsOf v.toNat 0 2 = v.toNat % 4 := by unfold bitsOf; rfl
  have hrest : c'.tstatRest l { r with ppl := pplWrite r.ppl v l } = c.tstatRest l r := hc
  rw [Ctx.tstat_eq, Ctx.tstat_eq, hrest, pplWrite, hw]
  split
  · rfl
  · rw [BitVec.extractLsb'_toNat, BitVec.toNat_ofNat, Nat.shiftRight_zero]
    congr 1
    omega

/-! ### Registers of the thread (R45, R71) -/

/-- The words that the registers without an effect of their own show of a thread's context. -/
def Ctx.ownReg (c : Ctx) : Nat → Option Word
  | 0x000 => some c.fstat
  | 0x001 => some c.vstart
  | 0x002 => some c.vstat
  | 0x003 => some c.vspill
  | 0x004 => some c.fmta
  | 0x005 => some c.fmtb
  | 0x006 => some c.scla
  | 0x007 => some c.sclb
  | 0x400 => some c.sup.vec
  | 0x401 => some (c.sup.regs.cause.zeroExtend 64)
  | 0x402 => some c.sup.regs.val
  | 0x403 => some c.sup.regs.epc
  | 0x404 => some (c.tstat .supervisor c.sup.regs)
  | 0x405 => some c.sup.regs.telem
  | 0x800 => some c.firm.vec
  | 0x801 => some (c.firm.regs.cause.zeroExtend 64)
  | 0x802 => some c.firm.regs.val
  | 0x803 => some c.firm.regs.epc
  | 0x804 => some (c.tstat .firmware c.firm.regs)
  | 0x805 => some c.firm.regs.telem
  | 0x806 => some (c.firm.regs.gpa.zeroExtend 64)
  | _ => none

/-- Two contexts agree in the other registers that show something of a thread, in its scalar registers and in its PC. -/
structure Ctx.SameStatus (c c' : Ctx) : Prop where
  vl : c'.vl = c.vl
  vtype : c'.vtype = c.vtype
  vdecl : c'.vdecl = c.vdecl
  vgrant : c'.vgrant = c.vgrant
  cir : c'.cir = c.cir
  lanecyc : c'.lanecyc = c.lanecyc
  fn : c'.fn = c.fn
  tidx : c'.tidx = c.tidx
  prio : c'.prio = c.prio
  crew : c'.crew = c.crew
  regs : c'.regs = c.regs
  poison : c'.poison = c.poison
  pc : c'.pc = c.pc

/-- A read returns what the context shows. -/
theorem crRead_own {s : State} {n : Nat} {w : Word} (h : s.me.ownReg n = some w) : s.crRead n = some w := by
  unfold Ctx.ownReg at h
  split at h
  case h_22 => cases h
  all_goals exact h

/-- Any other register reads the same under another context of the same status. -/
theorem crRead_setMe_other {s : State} {c : Ctx} {m : Nat} (hc : s.me.SameStatus c) (hm : c.ownReg m = none) :
    (s.setMe c).crRead m = s.crRead m := by
  have hme : (s.setMe c).ctx s.cur = c := State.me_setMe s c
  have hold : s.ctx s.cur = s.me := rfl
  unfold State.crRead
  dsimp only
  rw [State.me_setMe]
  split
  case h_9 => rw [hc.vl]
  case h_10 => rw [hc.vtype]
  case h_11 => rw [hc.vdecl]
  case h_12 => rw [hc.vgrant]
  case h_13 => rw [hc.cir]
  case h_15 =>
    simp only [State.threadWord, State.setMe_cur, hme, hold, hc.fn, hc.tidx, hc.prio]
    rfl
  case h_16 =>
    simp only [State.crewWord, State.setMe_cur, hme, hold, hc.crew]
    rfl
  case h_18 => rw [hc.lanecyc]
  case h_25 => rw [hc.fn]; rfl
  case h_14 | h_17 | h_33 | h_34 | h_35 | h_36 | h_37 | h_38 | h_39 | h_40 | h_41 => rfl
  all_goals cases hm

/-- A register of the thread is written: the context changes in that register alone. -/
theorem crWrite_own {s : State} {n : Nat} {old v new : Word} (hn : n < 0x810) (h : storedField n old v = some new) :
    ∃ c, s.crWrite n v = s.setMe c ∧ s.me.SameStatus c ∧ ∀ m, m ≠ n → c.ownReg m = s.me.ownReg m := by
  unfold storedField at h
  dsimp only at h
  split at h
  case h_22 | h_23 | h_24 => exact absurd hn (by decide)
  case h_25 => cases h
  all_goals
    refine ⟨_, rfl, ⟨rfl, rfl, rfl, rfl, rfl, rfl, rfl, rfl, rfl, rfl, rfl, rfl, rfl⟩, fun m hm => ?_⟩
    unfold Ctx.ownReg
    split
    all_goals first
      | rfl
      | exact absurd rfl hm

/-- What the register then shows are the fields of its layout. -/
theorem crRead_crWrite_own {s : State} {n : Nat} {old v new : Word} (hn : n < 0x810) (ho : s.crRead n = some old)
    (h : storedField n old v = some new) : (s.crWrite n v).crRead n = some new := by
  have shows : ∀ c w, c.ownReg n = some w → (s.setMe c).crRead n = some w :=
    fun c w hc => crRead_own (by rw [State.me_setMe]; exact hc)
  unfold storedField at h
  dsimp only at h
  split at h
  case h_22 | h_23 | h_24 => exact absurd hn (by decide)
  case h_25 => cases h
  all_goals
    obtain rfl := Option.some.inj h
  case h_1 =>
    obtain rfl := Option.some.inj ho
    exact shows _ _ (congrArg some (fstatWrite_eq _ v))
  case h_2 => exact shows _ _ (congrArg some (and_low v 18))
  case h_3 => exact shows _ _ (congrArg some (and_low v 1))
  case h_4 => exact shows _ _ (congrArg some (shiftDown_shiftUp v 6))
  case h_7 | h_8 => exact shows _ _ (congrArg some (shiftDown_shiftUp v 1))
  case h_9 | h_10 => exact shows _ _ (congrArg some (vecWrite_eq v))
  case h_11 | h_12 => exact shows _ _ (congrArg some (extract_zeroExtend v 10))
  case h_15 | h_16 => exact shows _ _ (congrArg some (shiftDown_shiftUp v 2))
  case h_17 =>
    obtain rfl := Option.some.inj ho
    exact shows _ _ (congrArg some (Ctx.tstat_pplWrite s.me _ .supervisor s.me.sup.regs v rfl))
  case h_18 =>
    obtain rfl := Option.some.inj ho
    exact shows _ _ (congrArg some (Ctx.tstat_pplWrite s.me _ .firmware s.me.firm.regs v rfl))
  case h_19 | h_20 =>
    exact shows _ _ (congrArg some (word_and_two_fields v (lo := 18) (mid := 25) (w := 7) (by decide)))
  case h_21 => exact shows _ _ (congrArg some (extract_zeroExtend v 52))
  all_goals exact shows _ _ rfl

/-! ### Registers of the die (R318, R331, R354) -/

/-- Two dies agree in everything but PRQADDR, VFSEL and ERRTHR. -/
def Die.DiffersInOwn (x y : Die) : Prop := y = { x with prqaddr := y.prqaddr, vfsel := y.vfsel, errthr := y.errthr }

/-- A part of a die that a new version of it keeps, every die keeps. -/
theorem die_setDie_of_eq {α : Type} {s : State} {d : Nat} {x : Die} (f : Die → α) (h : f x = f (s.die d)) (e : Nat) :
    f ((s.setDie d x).die e) = f (s.die e) := by
  rcases eq_or_ne e d with rfl | he
  · rw [State.die_setDie_self, h]
  · rw [State.die_setDie_ne s x he]

/-- Memory is as before, where no die's values are lost or restored. -/
theorem setDie_sameBytes {s : State} {d : Nat} {x : Die} (h : x.lostMemory = (s.die d).lostMemory) :
    SameBytes s (s.setDie d x) := by
  refine ⟨fun _ => rfl, fun l => ?_⟩
  have hl : (s.setDie d x).lostHome l = s.lostHome l := by
    unfold State.lostHome
    rw [die_setDie_of_eq Die.lostMemory h]
  unfold State.granulePoison
  rw [hl]
  rfl

/-- The words that the registers without an effect of their own, and VFTVEC, show of a die. -/
def Die.ownReg (x : Die) : Nat → Option Word
  | 0x810 => some x.prqaddr
  | 0x814 => some x.vfsel
  | 0x815 => some (if x.vfsel.toNat ≤ 64 then aget 0 x.vftvec x.vfsel.toNat else 0)
  | 0x820 => some x.errthr
  | _ => none

/-- A read returns what the die shows. -/
theorem crRead_dieOwn {s : State} {n : Nat} {w : Word} (h : (s.die (dieOf s.cur)).ownReg n = some w) :
    s.crRead n = some w := by
  unfold Die.ownReg at h
  split at h
  case h_5 => cases h
  all_goals exact h

/-- Every other register reads the same. -/
theorem crRead_setDie_other {s : State} {x : Die} {m : Nat} (hx : (s.die (dieOf s.cur)).DiffersInOwn x)
    (hm : x.ownReg m = none) : (s.setDie (dieOf s.cur) x).crRead m = s.crRead m := by
  have keeps : ∀ {α : Type} (f : Die → α), f x = f (s.die (dieOf s.cur)) → ∀ e,
      f ((s.setDie (dieOf s.cur) x).die e) = f (s.die e) := fun f hf e => die_setDie_of_eq f hf e
  unfold State.crRead
  dsimp only
  split
  case h_14 =>
    unfold State.cycle
    rw [keeps Die.clockBase (by rw [hx])]
    rfl
  case h_34 => exact congrArg some (keeps Die.prqWord (by rw [hx]; rfl) _)
  case h_35 => exact congrArg some (keeps (fun y => y.prqstatFor s.cur) (by rw [hx]; rfl) _)
  case h_39 =>
    unfold State.readyA
    simp only [keeps Die.stile (by rw [hx]), keeps Die.stileFailed (by rw [hx]), keeps Die.islandBusy (by rw [hx]),
      keeps Die.state (by rw [hx])]
    rfl
  case h_40 =>
    unfold State.readyB
    simp only [keeps Die.engines (by rw [hx])]
  case h_33 | h_36 | h_37 | h_38 => cases hm
  all_goals rfl

/-- A register of the die is written: the die changes in that register alone, and in VFTVEC as VFSEL selects it. -/
theorem crWrite_die {s : State} {n : Nat} {old v new : Word} (hn : 0x810 ≤ n) (h : storedField n old v = some new) :
    ∃ x, s.crWrite n v = s.setDie (dieOf s.cur) x ∧ (s.die (dieOf s.cur)).DiffersInOwn x ∧
      ∀ m, m ≠ n → (n = 0x814 → m ≠ 0x815) → x.ownReg m = (s.die (dieOf s.cur)).ownReg m := by
  unfold storedField at h
  dsimp only at h
  split at h
  case h_25 => cases h
  case h_22 | h_23 | h_24 =>
    refine ⟨_, rfl, rfl, fun m hm hs => ?_⟩
    unfold Die.ownReg
    split
    all_goals first
      | rfl
      | exact absurd rfl hm
      | exact absurd rfl (hs rfl)
  all_goals exact absurd hn (by decide)

theorem errthr_eq (v : Word) : v &&& 0xFFFFFFFF0000FFFF#64 =
    BitVec.ofNat 64 (v.toNat / 2 ^ 32 * 2 ^ 32 + v.toNat % 2 ^ 16) := by
  have h := word_and_two_fields v (lo := 16) (mid := 32) (w := 32) (by decide)
  rw [Nat.mod_eq_of_lt (by have := v.isLt; omega : v.toNat / 2 ^ 32 < 2 ^ 32)] at h
  exact h

/-- What the register then shows are the fields of its layout. -/
theorem crRead_crWrite_die {s : State} {n : Nat} {old v new : Word} (hn : 0x810 ≤ n)
    (h : storedField n old v = some new) : (s.crWrite n v).crRead n = some new := by
  have shows : ∀ (x : Die) w, x.ownReg n = some w → (s.setDie (dieOf s.cur) x).crRead n = some w := fun x w hx =>
    crRead_dieOwn (by rw [State.setDie_cur, State.die_setDie_self]; exact hx)
  unfold storedField at h
  dsimp only at h
  split at h
  case h_25 => cases h
  case h_22 => obtain rfl := Option.some.inj h; exact shows _ _ (congrArg some (shiftDown_shiftUp v 12))
  case h_23 => obtain rfl := Option.some.inj h; exact shows _ _ (congrArg some (and_low v 7))
  case h_24 => obtain rfl := Option.some.inj h; exact shows _ _ (congrArg some (errthr_eq v))
  all_goals exact absurd hn (by decide)

/-! ### The obligation -/

/-- The event that writes such a register does what the thread's own write does (R71). -/
theorem exec_registerWrite {s : State} {n : Nat} {old v new : Word} (h : storedField n old v = some new)
    (hl : s.me.live = true) : exec (.registerWrite s.cur (BitVec.ofNat 12 n) v) s = .next (s.crWrite n v) := by
  have hlive : (s.ctx s.cur).live = true := hl
  unfold storedField at h
  dsimp only at h
  split at h
  case h_25 => cases h
  all_goals
    show whenEnabled _ ((s.ctx s.cur).live && _) _ = _
    rw [hlive]
    rfl

/-- Settles O13: a register of the thread is written in its context, one of the die in the die. -/
theorem controlRegisterFieldsHoldWhatWasWritten : Obligations.ControlRegisterFieldsHoldWhatWasWritten := by
  intro s n old v new ho h
  dsimp only
  rcases Nat.lt_or_ge n 0x810 with hn | hn
  · obtain ⟨c, hw, hs, hothers⟩ := crWrite_own hn h
    refine ⟨crRead_crWrite_own hn ho h, ?_⟩
    rw [hw]
    refine ⟨fun m hm _ => ?_, fun r => ?_, ?_, (onlyMe_setMe s c).sameBytes, (onlyMe_setMe s c).2, fun hl => ?_⟩
    · have hme : (s.setMe c).me.ownReg m = s.me.ownReg m := by rw [State.me_setMe, hothers m hm]
      cases hm' : s.me.ownReg m with
      | some w => rw [crRead_own hm', crRead_own (hme.trans hm')]
      | none => exact crRead_setMe_other hs ((hothers m hm).trans hm')
    · rw [State.me_setMe, Ctx.raw, hs.regs, hs.poison]
      rfl
    · rw [State.me_setMe, hs.pc]
    · rw [← hw]; exact exec_registerWrite h hl
  · have hnew := crRead_crWrite_die (s := s) hn h
    obtain ⟨x, hw, hx, hothers⟩ := crWrite_die (s := s) hn h
    have hdie : (s.setDie (dieOf s.cur) x).die (dieOf (s.setDie (dieOf s.cur) x).cur) = x := State.die_setDie_self ..
    refine ⟨hnew, ?_⟩
    rw [hw]
    refine ⟨fun m hm hs => ?_, fun _ => rfl, rfl,
      setDie_sameBytes (by rw [hx]), fun _ _ => rfl, fun hl => ?_⟩
    · cases hm' : (s.die (dieOf s.cur)).ownReg m with
      | some w =>
        rw [crRead_dieOwn hm', crRead_dieOwn (by rw [hdie]; exact (hothers m hm hs).trans hm')]
      | none => exact crRead_setDie_other hx ((hothers m hm hs).trans hm')
    · rw [← hw]; exact exec_registerWrite h hl

end Sys2Proof.Machine
end

section
/-! PROOFS. EXIT: what the thread leaves free, and what becomes of its crew (O39). -/

namespace Sys2Proof.Machine

/-! ### Tables searched by key -/

theorem find?_aset_self {α : Type} (m : Assoc α) (i : Nat) (x : α) :
    (aset m i x).find? (fun p => p.1 == i) = some (i, x) := by
  induction m with
  | nil => simp [aset]
  | cons p m ih =>
    obtain ⟨k, v⟩ := p
    simp only [aset]
    split_ifs with h h'
    · simp [h]
    · simp
    · rw [List.find?_cons_of_neg (by simpa using Ne.symm h)]
      exact ih

theorem find?_aerase_self {α : Type} (m : Assoc α) (i : Nat) : (aerase m i).find? (fun p => p.1 == i) = none := by
  unfold aerase
  rw [List.find?_eq_none]
  intro p hp
  simpa using (List.mem_filter.1 hp).2

/-- A table reads as the first entry of the key. -/
theorem aget_of_find? {α : Type} (d : α) {m : Assoc α} {i : Nat} {p : Nat × α}
    (h : m.find? (fun p => p.1 == i) = some p) : aget d m i = p.2 := by
  induction m with
  | nil => cases h
  | cons q m ih =>
    obtain ⟨k, v⟩ := q
    rw [List.find?_cons] at h
    rw [aget]
    rcases eq_or_ne i k with rfl | hk
    · rw [if_pos rfl]
      simp only [beq_self_eq_true] at h
      cases h; rfl
    · rw [if_neg hk]
      rw [beq_false_of_ne hk.symm] at h
      exact ih h

/-! ### What a free context leaves in its cluster (R77, R112) -/

theorem released_cases (x : Cluster) (g l : Nat) :
    x.released g l .free = .free ∨ x.released g l .free = .draining g none := by
  unfold Cluster.released
  split
  · exact .inl rfl
  · exact .inr rfl

/-- A lane returned to the pool is neither granted nor earmarked; it may still drain for the context. -/
theorem returnLanes_lanes (s : State) (g : Nat) : ∀ p ∈ ((s.returnLanes g).cluster (clusterOf g)).lanes,
    p.2 ≠ .granted g ∧ ∀ n, p.2 ≠ .earmarked g n := by
  unfold State.returnLanes
  rw [State.cluster_setCluster_self]
  intro p hp
  obtain ⟨hp, hfree⟩ := List.mem_filter.1 hp
  obtain ⟨⟨l, x⟩, -, rfl⟩ := List.mem_map.1 hp
  cases x with
  | granted h =>
    dsimp only
    split
    · rcases released_cases (s.cluster (clusterOf g)) g l with e | e <;> rw [e] <;> simp
    · next hne => simp [hne]
  | earmarked h n =>
    dsimp only
    split
    · simp
    · next hne => simp [hne]
  | free | draining | quarantined => simp

/-- A lane that drains belongs to nobody once the context is free (R102, R110). -/
theorem forgetDraining_lanes {s : State} {g : Nat} (h : ∀ p ∈ (s.cluster (clusterOf g)).lanes,
    p.2 ≠ .granted g ∧ ∀ n, p.2 ≠ .earmarked g n) :
    ∀ p ∈ ((s.forgetDraining g).cluster (clusterOf g)).lanes, p.2 ≠ .granted g ∧ p.2.markedFor g = false := by
  unfold State.forgetDraining
  rw [State.cluster_setCluster_self]
  intro p hp
  obtain ⟨⟨l, x⟩, hq, rfl⟩ := List.mem_map.1 hp
  obtain ⟨hgranted, hmarked⟩ := h _ hq
  cases x with
  | draining o d =>
    refine ⟨LaneState.noConfusion, ?_⟩
    dsimp only [LaneState.markedFor, LaneState.mark]
    split
    · rfl
    · next hne => exact beq_eq_false_iff_ne.2 hne
  | earmarked o n =>
    refine ⟨hgranted, ?_⟩
    have hne : o ≠ g := fun e => hmarked n (by rw [e])
    simpa [LaneState.markedFor, LaneState.mark] using hne
  | free | granted | quarantined => exact ⟨hgranted, rfl⟩

/-- No lane of a free context's cluster is granted to it or held for it. -/
theorem freeCtx_lanes (s : State) (g : Nat) : ∀ p ∈ ((s.freeCtx g).cluster (clusterOf g)).lanes,
    p.2 ≠ .granted g ∧ p.2.markedFor g = false := forgetDraining_lanes (returnLanes_lanes s g)

/-- Reservations taken up leave a context that no thread occupies. -/
theorem honour_free {s : State} {g : Nat} (h : s.ctx g = {}) (cl : Nat) : (s.honour cl).ctx g = {} := by
  unfold State.honour
  generalize clusterCtxs cl = gs
  induction gs generalizing s with
  | nil => exact h
  | cons j gs ih =>
    refine ih ?_
    dsimp only
    split
    · next hj =>
      have hne : g ≠ j := by
        rintro rfl
        rw [h] at hj
        cases hj
      rw [State.ctx_setCtx_ne _ _ hne, h]
    · exact h

/-- Reservations taken up change contexts alone. -/
theorem honour_eq (s : State) (cl : Nat) : ∃ cs, s.honour cl = { s with ctxs := cs } := by
  unfold State.honour
  generalize clusterCtxs cl = gs
  induction gs generalizing s with
  | nil => exact ⟨s.ctxs, rfl⟩
  | cons j gs ih =>
    rw [List.foldl_cons]
    dsimp only
    split <;> exact ih _

/-! ### What leaving a crew does (R77, R90, R93, R196) -/

theorem updLaunch_eq (s : State) (k : Nat) (f : Launch → Launch) : ∃ ls, s.updLaunch k f = { s with launches := ls } := by
  unfold State.updLaunch
  split
  · exact ⟨s.launches, rfl⟩
  · exact ⟨_, rfl⟩

/-- A launch that is listed is updated, and stays listed. -/
theorem updLaunch_launches {s : State} {k : Nat} {p : Nat × Launch} (f : Launch → Launch)
    (h : s.launches.find? (fun p => p.1 == k) = some p) :
    (s.updLaunch k f).launches.find? (fun p => p.1 == k) = some (k, f p.2) := by
  unfold State.updLaunch
  rw [h]
  exact find?_aset_self ..

theorem freeRegions_eq (k : Nat) (ns : List Nat) (s : State) :
    ∃ xs, ns.foldl (fun s n => s.freeRegion k n) s = { s with cores := xs } := by
  induction ns generalizing s with
  | nil => exact ⟨s.cores, rfl⟩
  | cons n ns ih =>
    obtain ⟨xs, hxs⟩ := ih (s.freeRegion k n)
    exact ⟨xs, hxs⟩

/-- The crew without one of its threads more. -/
abbrev Crew.without (x : Crew) (i : Nat) : Crew := Crew.settle { x with exited := i :: x.exited }

theorem Crew.mem_live_without {x : Crew} {i j : Nat} : j ∈ (x.without i).live ↔ j ∈ x.live ∧ j ≠ i := by
  show j ∈ ({ x with exited := i :: x.exited } : Crew).live ↔ _
  simp only [Crew.live, List.mem_filter, List.contains_cons, Bool.not_or, Bool.and_eq_true]
  rw [Bool.not_eq_true', beq_eq_false_iff_ne]
  tauto

/-- The launch notes the thread's poison, and its core's region is freed after the last thread there. -/
def State.departure (s : State) (k : Nat) (x : Crew) (i core : Nat) (p : Bool) : State :=
  let s := s.updLaunch (launchKey x.fn x.lid) fun l => { l with poison := l.poison || p }
  if (x.without i).live.any fun j => (x.threads[j]?).any fun g => coreOf g == core then s else s.freeRegion k core

/-- A launch counts a crew as ended. -/
def Launch.ended (cluster : Nat) (l : Launch) : Launch := { l with completed := l.completed + 1, lastDie := cluster / 16 }

section
variable {s : State} {k i : Nat} {x : Crew} (core : Nat) (p : Bool)

theorem leaveCrew_others (h : (x.without i).live.isEmpty = false) : s.leaveCrew k x i core p =
    { s.departure k x i core p with crews := aset (s.departure k x i core p).crews k (x.without i) } :=
  if_neg (by rw [h]; decide)

theorem leaveCrew_last (h : (x.without i).live.isEmpty = true) : ∃ t : State,
    t = (x.cores.foldl (fun s n => s.freeRegion k n) (s.departure k x i core p)).updLaunch (launchKey x.fn x.lid)
      (Launch.ended x.cluster) ∧ s.leaveCrew k x i core p = { t with crews := aerase t.crews k } :=
  ⟨_, rfl, if_pos h⟩

theorem departure_eq (s : State) (k : Nat) (x : Crew) (i : Nat) : ∃ xs, s.departure k x i core p =
    { s.updLaunch (launchKey x.fn x.lid) (fun l => { l with poison := l.poison || p }) with cores := xs } := by
  unfold State.departure
  dsimp only
  split
  · exact ⟨_, rfl⟩
  · exact ⟨_, rfl⟩

/-- Leaving a crew touches launches, cores and crews alone. -/
theorem leaveCrew_eq (s : State) (k : Nat) (x : Crew) (i : Nat) :
    ∃ ls xs cs, s.leaveCrew k x i core p = { s with launches := ls, cores := xs, crews := cs } := by
  obtain ⟨xs, hxs⟩ := departure_eq core p s k x i
  obtain ⟨ls, hls⟩ := updLaunch_eq s (launchKey x.fn x.lid) fun l => { l with poison := l.poison || p }
  rw [hls] at hxs
  cases h : (x.without i).live.isEmpty with
  | false =>
    rw [leaveCrew_others core p h, hxs]
    exact ⟨_, _, _, rfl⟩
  | true =>
    obtain ⟨t, ht, hleave⟩ := leaveCrew_last (s := s) (k := k) core p h
    obtain ⟨ys, hys⟩ := freeRegions_eq k x.cores (s.departure k x i core p)
    rw [hys, hxs] at ht
    obtain ⟨ms, hms⟩ := updLaunch_eq { s with launches := ls, cores := ys } (launchKey x.fn x.lid) (Launch.ended x.cluster)
    rw [hleave, ht]
    exact ⟨ms, ys, _, congrArg (fun t : State => { t with crews := aerase t.crews k }) hms⟩

/-- While others live, the crew stands without the thread. -/
theorem leaveCrew_stays (s : State) (k : Nat) (h : (x.without i).live.isEmpty = false) :
    (s.leaveCrew k x i core p).crewOf k = some (x.without i) := by
  rw [leaveCrew_others core p h]
  unfold State.crewOf
  rw [find?_aset_self]
  rfl

/-- After the last thread the crew is gone. -/
theorem leaveCrew_gone (s : State) (k : Nat) (h : (x.without i).live.isEmpty = true) :
    (s.leaveCrew k x i core p).crewOf k = none := by
  obtain ⟨t, -, hleave⟩ := leaveCrew_last (s := s) (k := k) core p h
  rw [hleave]
  unfold State.crewOf
  rw [find?_aerase_self]
  rfl

/-- Its launch counts one crew more as ended. -/
theorem leaveCrew_completed (k : Nat) {q : Nat × Launch} (h : (x.without i).live.isEmpty = true)
    (hq : s.launches.find? (fun q => q.1 == launchKey x.fn x.lid) = some q) :
    (aget { record := 0 } (s.leaveCrew k x i core p).launches (launchKey x.fn x.lid)).completed = q.2.completed + 1 := by
  obtain ⟨t, ht, hleave⟩ := leaveCrew_last (s := s) (k := k) core p h
  obtain ⟨xs, hxs⟩ := departure_eq core p s k x i
  obtain ⟨ys, hys⟩ := freeRegions_eq k x.cores (s.departure k x i core p)
  rw [hys] at ht
  have hnoted : (s.departure k x i core p).launches.find? (fun q => q.1 == launchKey x.fn x.lid) =
      some (launchKey x.fn x.lid, { q.2 with poison := q.2.poison || p }) := by
    rw [hxs]
    exact updLaunch_launches (fun l => { l with poison := l.poison || p }) hq
  have hended : t.launches.find? (fun q => q.1 == launchKey x.fn x.lid) =
      some (launchKey x.fn x.lid, Launch.ended x.cluster { q.2 with poison := q.2.poison || p }) := by
    rw [ht]
    exact updLaunch_launches (s := { s.departure k x i core p with cores := ys }) (Launch.ended x.cluster) hnoted
  rw [hleave]
  exact congrArg Launch.completed (aget_of_find? _ hended)

end

/-! ### What the end of a thread keeps (R77, R279, R295, R303) -/

/-- Every byte, the crews and the launches are as before. -/
structure KeepsCrews (s t : State) : Prop where
  bytes : SameBytes s t
  crews : t.crews = s.crews
  launches : t.launches = s.launches

theorem KeepsCrews.refl (s : State) : KeepsCrews s s := ⟨⟨fun _ => rfl, fun _ => rfl⟩, rfl, rfl⟩

theorem KeepsCrews.trans {s t u : State} (h : KeepsCrews s t) (k : KeepsCrews t u) : KeepsCrews s u :=
  ⟨h.bytes.trans k.bytes, k.crews.trans h.crews, k.launches.trans h.launches⟩

theorem KeepsCrews.foldl {α : Type} {f : State → α → State} (hf : ∀ s a, KeepsCrews s (f s a)) (l : List α) (s : State) :
    KeepsCrews s (l.foldl f s) := by
  induction l generalizing s with
  | nil => exact .refl s
  | cons a l ih => exact (hf s a).trans (ih _)

theorem setCtx_keepsCrews (s : State) (g : Nat) (c : Ctx) : KeepsCrews s (s.setCtx g c) :=
  ⟨⟨fun _ => rfl, fun _ => rfl⟩, rfl, rfl⟩

theorem setDie_keepsCrews {s : State} {d : Nat} {x : Die} (h : x.lostMemory = (s.die d).lostMemory) :
    KeepsCrews s (s.setDie d x) := ⟨setDie_sameBytes h, rfl, rfl⟩

theorem record_keepsCrews (s : State) (d : Nat) (r : Record) : KeepsCrews s (s.record d r) := by
  obtain ⟨x, ws, n, a, h⟩ := record_eq s d r
  exact ⟨record_sameBytes s d r, by rw [h]; rfl, by rw [h]; rfl⟩

theorem setQueueAt_keepsCrews (s : State) (q : Nat) (x : Queue) : KeepsCrews s (s.setQueueAt q x) := by
  unfold State.setQueueAt
  split
  · exact ⟨⟨fun _ => rfl, fun _ => rfl⟩, rfl, rfl⟩
  · exact setDie_keepsCrews rfl

theorem setQueueAt_still (s : State) (q : Nat) (x : Queue) : Still s (s.setQueueAt q x) := by
  unfold State.setQueueAt
  split <;> exact ⟨rfl, rfl⟩

theorem lostSignal_keepsCrews (s : State) (d f : Nat) : KeepsCrews s (s.lostSignal d f) :=
  (record_keepsCrews s d _).trans ⟨⟨fun _ => rfl, fun _ => rfl⟩, rfl, rfl⟩

theorem lostSignal_still (s : State) (d f : Nat) : Still s (s.lostSignal d f) :=
  (record_still s d _).trans ⟨rfl, rfl⟩

/-- A signal reaches a counter, or is recorded as lost. -/
theorem signal_keepsCrews (s : State) (f sigc d : Nat) : KeepsCrews s (s.signal f sigc d).1 := by
  unfold State.signal
  split
  · exact .refl s
  · split
    · exact setDie_keepsCrews rfl
    · exact lostSignal_keepsCrews _ _ _

theorem signal_still (s : State) (f sigc d : Nat) : Still s (s.signal f sigc d).1 := by
  unfold State.signal
  split
  · exact .refl s
  · split
    · exact ⟨rfl, rfl⟩
    · exact lostSignal_still _ _ _

/-- A tile counted done changes its queue and what it signals. -/
theorem tileDone_keeps (s : State) (t : TaskHold) (n : Nat) : KeepsCrews s (s.tileDone t n) ∧ Still s (s.tileDone t n) := by
  have hq : ∀ x, KeepsCrews s (s.setQueueAt t.queue x) ∧ Still s (s.setQueueAt t.queue x) := fun x =>
    ⟨setQueueAt_keepsCrews .., setQueueAt_still ..⟩
  unfold State.tileDone
  dsimp only
  split
  · exact ⟨lostSignal_keepsCrews .., lostSignal_still ..⟩
  · split
    · exact ⟨.refl s, .refl s⟩
    · split
      · exact hq _
      · split
        · split
          · exact ⟨(hq _).1.trans (signal_keepsCrews ..), (hq _).2.trans (signal_still ..)⟩
          · exact hq _
        · exact hq _

/-- The running context belongs to the same thread of the same crew. -/
def SameMember (s t : State) : Prop := t.cur = s.cur ∧ t.me.crew = s.me.crew ∧ t.me.tidx = s.me.tidx

theorem SameMember.trans {s t u : State} (h : SameMember s t) (k : SameMember t u) : SameMember s u :=
  ⟨k.1.trans h.1, k.2.1.trans h.2.1, k.2.2.trans h.2.2⟩

theorem Still.sameMember {s t : State} (h : Still s t) : SameMember s t := ⟨h.2, by rw [h.me], by rw [h.me]⟩

/-- A task that ends leaves the thread's crew and every byte. -/
theorem finishTask_keeps (s : State) (t : TaskHold) : KeepsCrews s (s.finishTask t).1 ∧ SameMember s (s.finishTask t).1 := by
  have hk : KeepsCrews s (s.setMe { s.me with task := none }) := setCtx_keepsCrews ..
  have hm : SameMember s (s.setMe { s.me with task := none }) := ⟨rfl, by rw [State.me_setMe], by rw [State.me_setMe]⟩
  unfold State.finishTask
  dsimp only
  split
  · next n _ => exact ⟨hk.trans (tileDone_keeps _ t n).1, hm.trans (tileDone_keeps _ t n).2.sameMember⟩
  · split
    · have h1 := signal_keepsCrews (s.setMe { s.me with task := none }) (s.setMe { s.me with task := none }).me.fn
        (bitsOf t.header.toNat 30 15) (dieOf (s.setMe { s.me with task := none }).cur)
      have h2 := signal_still (s.setMe { s.me with task := none }) (s.setMe { s.me with task := none }).me.fn
        (bitsOf t.header.toNat 30 15) (dieOf (s.setMe { s.me with task := none }).cur)
      split
      · next e => rw [e] at h1 h2; exact ⟨hk.trans h1, hm.trans h2.sameMember⟩
      · next u e =>
        rw [e] at h1 h2
        have ht : Still u u.tick := ⟨rfl, rfl⟩
        exact ⟨(hk.trans h1).trans ⟨⟨fun _ => rfl, fun _ => rfl⟩, rfl, rfl⟩, hm.trans (h2.trans ht).sameMember⟩
    · exact ⟨hk, hm⟩

theorem exitTask_keeps (s : State) : KeepsCrews s s.exitTask ∧ SameMember s s.exitTask := by
  unfold State.exitTask
  dsimp only
  generalize s.me.task.toList ++ (s.me.handed.toList ++ s.me.handlers.filterMap (·.handed)).map (·.1) = ts
  induction ts generalizing s with
  | nil => exact ⟨.refl s, rfl, rfl, rfl⟩
  | cons t ts ih =>
    have h := finishTask_keeps s t
    exact ⟨h.1.trans (ih _).1, h.2.trans (ih _).2⟩

theorem freeCensus_keepsCrews (s : State) (k : Nat) : KeepsCrews s (s.freeCensus k) :=
  KeepsCrews.trans (t := s.forgetCensus k) ⟨⟨fun _ => rfl, fun _ => rfl⟩, rfl, rfl⟩
    (setDie_keepsCrews (d := k / 256) (x := _) rfl)

theorem endCensuses_keepsCrews (s : State) (p : Census → Bool) : KeepsCrews s (s.endCensuses p) :=
  .foldl freeCensus_keepsCrews _ _

theorem cancelMovesOf_keepsCrews (s : State) (g : Nat) : KeepsCrews s (s.cancelMovesOf g) := by
  refine .foldl (fun t p => ?_) _ _
  exact ⟨⟨fun _ => rfl, fun _ => rfl⟩, rfl, rfl⟩

theorem leaveQueues_keepsCrews (s : State) (g : Nat) : KeepsCrews s (s.leaveQueues g) := by
  refine ⟨⟨fun _ => rfl, fun l => ?_⟩, rfl, rfl⟩
  have hl : (s.leaveQueues g).lostHome l = s.lostHome l := by
    unfold State.lostHome State.die State.leaveQueues
    rw [aget_map {} (fun x : Die => { x with queues := x.queues.map fun q =>
      (q.1, { q.2 with waiters := q.2.waiters.filter fun h => h.1 != g }) }) rfl]
  unfold State.granulePoison
  rw [hl]
  rfl

theorem settleThread_keepsCrews (s : State) (g : Nat) : KeepsCrews s (s.settleThread g) :=
  (((leaveQueues_keepsCrews s g).trans (endCensuses_keepsCrews _ _)).trans (cancelMovesOf_keepsCrews _ g)).trans
    ⟨⟨fun _ => rfl, fun _ => rfl⟩, rfl, rfl⟩

theorem freeCtx_keepsCrews (s : State) (g : Nat) : KeepsCrews s (s.freeCtx g) :=
  ⟨⟨fun _ => rfl, fun _ => rfl⟩, rfl, rfl⟩

theorem dropEarmarks_keepsCrews (s : State) (g : Nat) : KeepsCrews s (s.dropEarmarks g) :=
  ⟨⟨fun _ => rfl, fun _ => rfl⟩, rfl, rfl⟩

theorem honour_keepsCrews (s : State) (cl : Nat) : KeepsCrews s (s.honour cl) := by
  obtain ⟨cs, h⟩ := honour_eq s cl
  rw [h]
  exact ⟨⟨fun _ => rfl, fun _ => rfl⟩, rfl, rfl⟩

/-- What EXIT does before it looks at the crew: nothing of the thread is left in its context. -/
def State.vacated (s : State) (g : Nat) : State :=
  (((s.settleThread g).dropEarmarks g).freeCtx g).honour (clusterOf g)

theorem vacated_keepsCrews (s : State) (g : Nat) : KeepsCrews s (s.vacated g) :=
  (((settleThread_keepsCrews s g).trans (dropEarmarks_keepsCrews ..)).trans (freeCtx_keepsCrews ..)).trans
    (honour_keepsCrews ..)

/-- The context is free, and no lane of its cluster is left to it. -/
def Vacant (s : State) (g : Nat) : Prop := s.ctx g = {} ∧
  ∀ p ∈ (s.cluster (clusterOf g)).lanes, p.2 ≠ .granted g ∧ p.2.markedFor g = false

theorem honour_cluster (s : State) (cl n : Nat) : (s.honour cl).cluster n = s.cluster n := by
  obtain ⟨cs, h⟩ := honour_eq s cl
  rw [h]
  rfl

theorem vacated_vacant (s : State) (g : Nat) : Vacant (s.vacated g) g := by
  unfold State.vacated
  refine ⟨honour_free (State.ctx_setCtx_self ..) _, ?_⟩
  rw [honour_cluster]
  exact freeCtx_lanes _ g

theorem leaveCrew_vacant {s : State} {g : Nat} (h : Vacant s g) (k : Nat) (x : Crew) (i core : Nat) (p : Bool) :
    Vacant (s.leaveCrew k x i core p) g := by
  obtain ⟨ls, xs, cs, e⟩ := leaveCrew_eq core p s k x i
  rw [e]
  exact h

theorem leaveCrew_sameBytes (s : State) (k : Nat) (x : Crew) (i core : Nat) (p : Bool) :
    SameBytes s (s.leaveCrew k x i core p) := by
  obtain ⟨ls, xs, cs, e⟩ := leaveCrew_eq core p s k x i
  rw [e]
  exact ⟨fun _ => rfl, fun _ => rfl⟩

/-! ### EXIT (R77) -/

/-- EXIT leaves the thread's context vacant, and then leaves the crew where there is one. -/
theorem exitThread_cases (s : State) :
    let t := (s.drainAll s.cur).exitTask
    ((t.me.crew.bind (t.vacated s.cur).crewOf) = none ∧ s.exitThread = t.vacated s.cur) ∨
      ∃ k x, t.me.crew = some k ∧ (t.vacated s.cur).crewOf k = some x ∧
        s.exitThread = (t.vacated s.cur).leaveCrew k x t.me.tidx (coreOf s.cur) (bit t.me.cir 0) := by
  intro t
  have he : s.exitThread = match t.me.crew.bind fun k => ((t.vacated s.cur).crewOf k).map fun x => (k, x) with
      | none => t.vacated s.cur
      | some (k, x) => (t.vacated s.cur).leaveCrew k x t.me.tidx (coreOf s.cur) (bit t.me.cir 0) := rfl
  rw [he]
  cases hk : t.me.crew with
  | none => exact .inl ⟨rfl, rfl⟩
  | some k =>
    cases hx : (t.vacated s.cur).crewOf k with
    | none => left; simp [hx]
    | some x => right; exact ⟨k, x, rfl, hx, by simp [hx]⟩

/-- With no access pending, a thread of a crew leaves it over what EXIT keeps. -/
theorem exitThread_crew {s : State} {k : Nat} {x : Crew} (hp : s.me.pend = []) (hk : s.me.crew = some k)
    (hx : s.crewOf k = some x) :
    ∃ t core p, KeepsCrews s t ∧ s.exitThread = t.leaveCrew k x s.me.tidx core p := by
  have hd : s.drainAll s.cur = s := drain_nil hp _
  obtain ⟨hkeep, -, hcrew, htidx⟩ := exitTask_keeps s
  have hkeep := hkeep.trans (vacated_keepsCrews s.exitTask s.cur)
  have hx' : (s.exitTask.vacated s.cur).crewOf k = some x := by
    rw [← hx, State.crewOf, hkeep.crews, State.crewOf]
  have hcases := exitThread_cases s
  rw [hd] at hcases
  dsimp only at hcases
  rw [hcrew, hk] at hcases
  rcases hcases with ⟨hnone, -⟩ | ⟨k', x', hk', hx'', he⟩
  · rw [Option.bind_some, hx'] at hnone; cases hnone
  · cases hk'
    rw [hx'] at hx''
    cases hx''
    rw [htidx] at he
    exact ⟨_, _, _, hkeep, he⟩

/-- With no access pending, EXIT changes no byte. -/
theorem exitThread_sameBytes {s : State} (hp : s.me.pend = []) : SameBytes s s.exitThread := by
  have hd : s.drainAll s.cur = s := drain_nil hp _
  have hkeep := ((exitTask_keeps s).1.trans (vacated_keepsCrews s.exitTask s.cur)).bytes
  have hcases := exitThread_cases s
  rw [hd] at hcases
  rcases hcases with ⟨-, he⟩ | ⟨k, x, -, -, he⟩
  · rw [he]; exact hkeep
  · rw [he]; exact hkeep.trans (leaveCrew_sameBytes ..)

theorem exitThread_vacant (s : State) : Vacant s.exitThread s.cur := by
  rcases exitThread_cases s with ⟨-, he⟩ | ⟨k, x, -, -, he⟩
  · rw [he]; exact vacated_vacant ..
  · rw [he]; exact leaveCrew_vacant (vacated_vacant ..) ..

/-- Settles O39: what is left of the context by `exitThread_vacant`, and of the crew by what `State.leaveCrew` does. -/
theorem exitEndsTheThread : Obligations.ExitEndsTheThread := by
  intro s
  obtain ⟨hfree, hlanes⟩ := exitThread_vacant s
  refine ⟨_, rfl, hfree, hlanes, fun hp => ⟨exitThread_sameBytes hp, fun k x hk hx => ?_⟩⟩
  obtain ⟨t, core, p, hkeep, he⟩ := exitThread_crew hp hk hx
  rw [he]
  refine ⟨fun ⟨i, hi, hne⟩ => ⟨_, leaveCrew_stays core p t k ?_, rfl⟩, fun hall => ?_⟩
  · exact List.isEmpty_eq_false_iff_exists_mem.2 ⟨i, Crew.mem_live_without.2 ⟨hi, hne⟩⟩
  · have hlast : (x.without s.me.tidx).live.isEmpty = true := by
      rw [List.isEmpty_iff, List.eq_nil_iff_forall_not_mem]
      intro j hj
      obtain ⟨hj, hne⟩ := Crew.mem_live_without.1 hj
      exact hne (hall j hj)
    refine ⟨leaveCrew_gone core p t k hlast, fun l hl => ?_⟩
    obtain ⟨q, hq⟩ : ∃ q, s.launches.find? (fun q => q.1 == launchKey x.fn x.lid) = some q :=
      Option.isSome_iff_exists.1 (List.find?_isSome.2 ⟨_, hl, beq_self_eq_true _⟩)
    rw [aget_of_find? _ hq]
    exact leaveCrew_completed core p k hlast (by rw [hkeep.launches]; exact hq)

end Sys2Proof.Machine
end

section
/-! PROOFS. A sleep that goes on is a write of the running context over itself, which in a table of contexts that is not in
ascending order adds an entry (O20). -/

namespace Sys2Proof.Machine

/-- A thread sleeps in context 0, and the table of contexts lists context 1 ahead of it. -/
def unsortedSleeper : State := { ctxs := [(1, {}), (0, { wait := some (.tsleep 0) })] }

/-- Without the wake bit, a sleep that goes on writes its wait anew. -/
theorem exec_tsleep_waits {s : State} {n : Nat} (d a : BitVec 5) (hw : s.me.wait = some (.tsleep n))
    (hk : s.me.wake = false) : exec (.tsleep d a) s = .next (s.setMe { s.me with wait := some (.tsleep n) }) := by
  show execTsleep d a s = _
  unfold execTsleep State.sleep
  rw [hw, hk]
  rfl

/-- That write puts context 0 ahead of context 1, and leaves the old entry where it stood. -/
theorem unsortedSleeper_rewritten :
    (unsortedSleeper.setMe { unsortedSleeper.me with wait := some (.tsleep 0) }).ctxs =
      (0, { wait := some (.tsleep 0) }) :: unsortedSleeper.ctxs := rfl

/-- Refutes O20: the clause that a sleep without the wake bit leaves the very state it met fails in `unsortedSleeper`, where
the table of contexts grows by an entry; no other hypothesis of the clause keeps such a table out. -/
theorem not_yieldPrioSleepAndWake : ¬ Obligations.YieldPrioSleepAndWake := by
  intro h
  obtain ⟨-, -, -, -, -, hwaits, -⟩ := h unsortedSleeper 0 0 rfl
  obtain ⟨-, hsame, -⟩ := hwaits 0 rfl
  have hnext : unsortedSleeper.setMe { unsortedSleeper.me with wait := some (.tsleep 0) } = unsortedSleeper :=
    Host.Outcome.next.inj ((exec_tsleep_waits 0 0 rfl rfl).symm.trans (hsame rfl))
  have hlen := congrArg (fun t : State => t.ctxs.length) hnext
  rw [unsortedSleeper_rewritten, List.length_cons] at hlen
  omega

end Sys2Proof.Machine
end

section
/-! PROOFS. The poisoned-control trap (O9, R66, R340): what it leaves, and a trap for the first poisoned of some registers. -/

namespace Sys2Proof.Machine

/-! ### What the trap leaves -/

/-- The running thread consumes poison for control (R339, R340). -/
def Ctx.poisonUse (c : Ctx) : Ctx := { c.consume true with cir := (c.consume true).cir ||| 2#64 }

@[simp] theorem Ctx.poisonUse_trapSet (c : Ctx) (l : Level) : c.poisonUse.trapSet l = c.trapSet l := by cases l <;> rfl

@[simp] theorem Ctx.raw_poisonUse (c : Ctx) (r : BitVec 5) : c.poisonUse.raw r = c.raw r := rfl

theorem Ctx.poisonUse_cir (c : Ctx) : c.poisonUse.cir = cirAfter true c.cir ||| 2#64 :=
  congrArg (· ||| 2#64) (c.consume_cir true)

/-- The record of the poisoned-control trap leaves the running context and every byte. -/
theorem recordTrapped_me (s : State) (cause : Nat) : (s.recordTrapped cause).me = s.me := record_me _ _ _

theorem recordTrapped_sameBytes (s : State) (cause : Nat) : SameBytes s (s.recordTrapped cause) := record_sameBytes _ _ _

section
variable {s : State} (hr : s.me.reissue = none) (hd : (s.me.trapSet (trapLevel s)).regs.depth ≠ 2)

include hd in
/-- With room at its level, the trap for poison used for control is taken as R340 says. -/
theorem poisonTook (v telem : Word) :
    PoisonTook s (((s.recordTrapped 0x380).setMe s.me.poisonUse).trap
      { cause := 0x380, value := v, epc := s.me.pc, telem := telem }) v telem := by
  have hl : targetLevel 0x380 ((s.recordTrapped 0x380).setMe s.me.poisonUse).me.level = trapLevel s := by
    rw [State.me_setMe]; exact targetLevel_sup _ _ rfl
  rw [trap_eq _ _ (by rw [hl, State.me_setMe, Ctx.poisonUse_trapSet]; exact hd), hl, PoisonTook]
  simp only [State.me_setMe, Ctx.enter_level, Ctx.enter_regs, Ctx.enter_pc, Ctx.raw_enter, Ctx.enter_cir,
    Ctx.poisonUse_trapSet, Ctx.raw_poisonUse, Ctx.poisonUse_cir]
  exact ⟨trivial, rfl, trivial, trivial, trivial, rfl, trivial, fun _ => trivial, trivial,
    (recordTrapped_sameBytes s _).trans ((onlyMe_setMe _ _).trans (onlyMe_setMe _ _)).sameBytes⟩

include hr hd in
theorem poisonTrap_trapped (r : BitVec 5) : PoisonTrapped s (s.poisonTrap r) r := by
  have e : s.poisonTrap r = ((s.recordTrapped 0x380).setMe s.me.poisonUse).trap
      { cause := 0x380, value := BitVec.ofNat 64 r.toNat, epc := s.me.pc, telem := 0 } := by
    have hp : ((s.recordTrapped 0x380).setMe s.me.poisonUse).me.here = s.me.pc := by
      rw [State.me_setMe]; exact Ctx.here_pc hr
    rw [← hp, ← recordTrapped_me s 0x380]
    rfl
  rw [e]
  exact poisonTook hd _ _

include hr hd in
theorem poisonTrapAt_trapped (a : Word) : PoisonTrappedAt s (s.poisonTrapAt a) a := by
  have e : s.poisonTrapAt a = ((s.recordTrapped 0x380).setMe s.me.poisonUse).trap
      { cause := 0x380, value := BitVec.ofNat 64 (a.toNat / 2 ^ 6 * 2 ^ 6), epc := s.me.pc, telem := 0x10000000 } := by
    rw [← shiftDown_shiftUp, ← Ctx.here_pc hr, ← recordTrapped_me s 0x380]
    rfl
  rw [e]
  exact poisonTook hd _ _

end

/-! ### The first poisoned of some registers -/

section
variable {s : State} {r : BitVec 5} {k : State}

theorem rp_of_find? {a : BitVec 5} (h : [a].find? (fun q => s.rp q) = some r) : s.rp a = true ∧ a = r := by
  simpa [List.find?_singleton] using h

/-- A check of one register traps for it. -/
theorem one_poisoned {a : BitVec 5} (h : [a].find? (fun q => s.rp q) = some r) :
    (if s.rp a then s.poisonTrap a else k) = s.poisonTrap r := by
  obtain ⟨ha, rfl⟩ := rp_of_find? h
  exact if_pos ha

/-- Checks of two registers, one after the other, trap for the first that is poisoned. -/
theorem two_poisoned {a b : BitVec 5} (h : [a, b].find? (fun q => s.rp q) = some r) :
    (if s.rp a then s.poisonTrap a else if s.rp b then s.poisonTrap b else k) = s.poisonTrap r := by
  cases ha : s.rp a
  · rw [List.find?_cons_of_neg (by simp [ha])] at h
    rw [if_neg Bool.false_ne_true]
    exact one_poisoned h
  · rw [List.find?_cons_of_pos ha, Option.some.injEq] at h
    rw [if_pos rfl, h]

end

/-! ### Scalar operations with a poisoned control operand -/

section
variable {s : State} {r d a b e : BitVec 5}

theorem barrierChecks_poisoned (h : [a, b].find? (fun q => s.rp q) = some r) (k : State → State) :
    s.barrierChecks a [b] k = s.poisonTrap r := by
  unfold State.barrierChecks; rw [h]

theorem chanChecks_poisoned {others : List (BitVec 5)} (h : (a :: others).find? (fun q => s.rp q) = some r)
    (k : Nat → State → State) : s.chanChecks a others k = s.poisonTrap r := by
  unfold State.chanChecks; rw [h]

theorem put_poisoned (h : [a, b, e].find? (fun q => s.rp q) = some r) (multi : Bool) (cls : Nat) :
    s.put multi d a b e cls = s.poisonTrap r := by
  unfold State.put; rw [h]

theorem execXdisp_poisoned (h : [a, b, e].find? (fun q => s.rp q) = some r) (c : BitVec 4) :
    execXdisp d a b e c s = .next (s.poisonTrap r) := by
  unfold execXdisp; rw [h]

theorem execXcomb_poisoned (h : [a, b, e].find? (fun q => s.rp q) = some r) (c : BitVec 4) :
    execXcomb d a b e c s = .next (s.poisonTrap r) := by
  unfold execXcomb; rw [h]

theorem execJalr_poisoned (h : [a].find? (fun q => s.rp q) = some r) (imm : BitVec 16) :
    execJalr d a imm s = .next (s.poisonTrap r) := by
  obtain ⟨ha, rfl⟩ := rp_of_find? h
  exact if_pos ha

theorem execJtab_poisoned (h : [a].find? (fun q => s.rp q) = some r) (n : BitVec 16) :
    execJtab d a n s = .next (s.poisonTrap r) := by
  obtain ⟨ha, rfl⟩ := rp_of_find? h
  exact if_pos ha

theorem sendChecks_poisoned (h : [b].find? (fun q => s.rp q) = some r) (k : State → State) :
    s.sendChecks a b k = s.poisonTrap r := one_poisoned h

section
variable (hv : s.me.revoke = none) (hw : s.me.wait = none)

include hv in
theorem atPoint_poisoned {k : State → State} (h : k s = s.poisonTrap r) : s.atPoint k = s.poisonTrap r :=
  (atPoint_eq hv k).trans h

include hv in
theorem tdep_poisoned (h : [a, b].find? (fun q => s.rp q) = some r) (cls : Nat) : s.tdep d a b cls = s.poisonTrap r := by
  have hp : (if bitsOf (s.rv b).toNat 16 2 = 0 then fun k => k s else s.atPoint) = fun k => k s := by
    split
    · rfl
    · exact funext (atPoint_eq hv)
  exact (congrFun hp _).trans (two_poisoned h)

include hv hw in
theorem pushInsn_poisoned (h : [a, b].find? (fun q => s.rp q) = some r) (k : State → State) :
    s.pushInsn d a b k = s.poisonTrap r := by
  unfold State.pushInsn; rw [hw]; exact atPoint_poisoned hv (two_poisoned h)

include hw in
theorem execSend_poisoned (h : [b].find? (fun q => s.rp q) = some r) (c : BitVec 4) :
    execSend d a b c s = .next (s.poisonTrap r) := by
  unfold execSend; rw [hw]; exact congrArg _ (one_poisoned h)

include hw in
theorem execWaitm_poisoned (h : [a, b].find? (fun q => s.rp q) = some r) : execWaitm d a b s = .next (s.poisonTrap r) := by
  unfold execWaitm; rw [hw]; exact congrArg _ (chanChecks_poisoned h _)

include hw in
theorem execTget_poisoned (h : [a, b].find? (fun q => s.rp q) = some r) (c : BitVec 4) :
    execTget d a b c s = .next (s.poisonTrap r) := by
  unfold execTget; rw [hw]; exact congrArg _ (two_poisoned h)

include hw in
theorem execCwait_poisoned (h : [a, b].find? (fun q => s.rp q) = some r) : execCwait d a b s = .next (s.poisonTrap r) := by
  unfold execCwait; rw [hw]; exact congrArg _ (two_poisoned h)

include hv hw in
theorem execLaunch_poisoned (h : [a].find? (fun q => s.rp q) = some r) : execLaunch d a s = .next (s.poisonTrap r) := by
  unfold execLaunch; rw [hw]; exact congrArg _ (atPoint_poisoned hv (one_poisoned h))

include hv hw in
theorem execCbar_poisoned (h : [a].find? (fun q => s.rp q) = some r) : execCbar d a s = .next (s.poisonTrap r) := by
  unfold execCbar; rw [hw]; exact congrArg _ (atPoint_poisoned hv (one_poisoned h))

include hv hw in
theorem execTsleep_poisoned (h : [a].find? (fun q => s.rp q) = some r) : execTsleep d a s = .next (s.poisonTrap r) := by
  unfold execTsleep; rw [hw]; exact congrArg _ (atPoint_poisoned hv (one_poisoned h))

include hv hw in
theorem execDmove_poisoned (h : [a, b].find? (fun q => s.rp q) = some r) : execDmove d a b s = .next (s.poisonTrap r) := by
  unfold execDmove; rw [hw]; exact congrArg _ (atPoint_poisoned hv (two_poisoned h))

include hv hw in
/-- Every scalar instruction traps for the first poisoned register of its control uses. -/
theorem exec_controlUses {i : Instr} (h : (controlUses i).find? (fun q => s.rp q) = some r) :
    exec i s = .next (s.poisonTrap r) := by
  cases i
  case beq | bne | blt | bge | bltu | bgeu | cresResult | cresStatus | cresFree | cresAbandon =>
    exact congrArg Host.Outcome.next (two_poisoned h)
  case ldB | ldH | ldW | ldD | ldBu | ldHu | ldWu | stB | stH | stW | stD | ldAcq | cflush | cinv | prio | ddel | eng | sendP
      | amoaddW | amoaddD | amominW | amominD | amomaxW | amomaxD | amoandW | amoandD | amoorW | amoorD | amoxorW
      | amoxorD | amoswpW | amoswpD | amocasW | amocasD =>
    exact congrArg Host.Outcome.next (one_poisoned h)
  case stRel | twake | vgeom | dreg | chkerr | reply =>
    exact congrArg Host.Outcome.next (atPoint_poisoned hv (one_poisoned h))
  case solicit => exact congrArg Host.Outcome.next (atPoint_poisoned hv (two_poisoned h))
  case barr | bexp => exact congrArg Host.Outcome.next (atPoint_poisoned hv (barrierChecks_poisoned h _))
  case binit | bwait | bqry => exact congrArg Host.Outcome.next (barrierChecks_poisoned h _)
  case mpop | chbind | chpendRead | chpendSet | chpendClear | chen | chdis =>
    exact congrArg Host.Outcome.next (chanChecks_poisoned h _)
  case put | putm => exact congrArg Host.Outcome.next (put_poisoned h _ _)
  case tdepRead | tdepAdd | tdepSet => exact congrArg Host.Outcome.next (tdep_poisoned hv h _)
  case tqpush | queueOpen | queueClose | queueResume | queuePurge | tileq =>
    exact congrArg Host.Outcome.next (pushInsn_poisoned hv hw h _)
  case jalr => exact execJalr_poisoned h _
  case jtab => exact execJtab_poisoned h _
  case xdisp => exact execXdisp_poisoned h _
  case xcomb => exact execXcomb_poisoned h _
  case send => exact execSend_poisoned hw h _
  case waitm => exact execWaitm_poisoned hw h
  case tget => exact execTget_poisoned hw h _
  case cwait => exact execCwait_poisoned hw h
  case launch => exact execLaunch_poisoned hv hw h
  case cbar => exact execCbar_poisoned hv hw h
  case tsleep => exact execTsleep_poisoned hv hw h
  case dmove => exact execDmove_poisoned hv hw h
  all_goals cases h

end
end

end Sys2Proof.Machine
end

section
/-! PROOFS. Poisoned control operands above user level and of the vector queue, poison in what an instruction reads, and
misaligned atomic accesses (O9, R66, R204, R339, R340). -/

namespace Sys2Proof.Machine

/-! ### Maintenance above user level -/

section
variable {s : State} {r a b : BitVec 5} (hl : s.me.level ≠ .user) (h : [a, b].find? (fun q => s.rp q) = some r)

include hl h in
theorem tlbinv_poisoned (hv : s.me.revoke = none) (d : BitVec 5) : s.tlbinv d a b = s.poisonTrap r :=
  atPoint_poisoned hv ((if_neg hl).trans (two_poisoned h))

include hl h in
theorem errq_poisoned (d : BitVec 5) : s.errq d a b = s.poisonTrap r := (if_neg hl).trans (two_poisoned h)

include hl h in
theorem poisonInsn_poisoned : s.poisonInsn a b = s.poisonTrap r := (if_neg hl).trans (two_poisoned h)

end

/-! ### The vector queue, and payloads -/

section
variable {s : State} {r : BitVec 5}

theorem admitVec_poisoned {control : List (BitVec 5)} (hr : s.me.reissue = none)
    (h : control.find? (fun q => s.rp q) = some r) (e : VqEntry) (upd : Ctx → Ctx) :
    s.admitVec control e upd = .trapped (s.poisonTrap r) := by
  have hm : control.find? (fun q => (s.me.raw q).2) = some r := by
    simpa only [State.rp, Ctx.operand_raw _ hr] using h
  unfold State.admitVec; rw [hm]

theorem decodePoint_eq (hv : s.me.revoke = none) (k : State → Decoded) : s.decodePoint k = k s := by
  unfold State.decodePoint; rw [hv]

/-- A vector instruction that passes its checks traps for the first poisoned one of its control operands. -/
theorem exec_vecSpec_poisoned {i : Instr} {x : VecSpec} (hr : s.me.reissue = none) (hv : s.me.revoke = none)
    (hx : vecSpec i s.me.dcodeType = some x) (hc : x.cause (regCount s.me.dcode.toNat) = 0)
    (h : x.control.find? (fun q => s.rp q) = some r) : exec i s = .next (s.poisonTrap r) := by
  have hd : s.decodeVector i = .trapped (s.poisonTrap r) := by
    rw [State.decodeVector, decodePoint_eq hv, hx]
    exact (if_neg (not_not_intro hc)).trans (admitVec_poisoned hr h _ _)
  obtain ⟨body, hb⟩ := exec_eq_vector s (Option.isSome_of_eq_some hx)
  rw [hb, State.vector, hr, hd]
  rfl

/-- A declaration that fits leaves rows for each register. -/
theorem rowsPerReg_ne_zero {p t : Nat} (h : 8 * 2 ^ p + 16 * t ≤ 64) : rowsPerReg (regCount p) t ≠ 0 := by
  have hp : 0 < 8 * 2 ^ p := by positivity
  have hr : regCount p ≤ 64 - 16 * t := by
    show 8 * 2 ^ p ≤ _
    omega
  exact (Nat.div_pos hr hp).ne'

/-- SETVL traps for a poisoned request where its declaration stands (R107). -/
theorem exec_setvl_poisoned {d a : BitVec 5} {v : BitVec 9} (hr : s.me.reissue = none) (hv : s.me.revoke = none)
    (hg : 8 * 2 ^ s.me.pncode.toNat + 16 * s.me.ptl.toNat ≤ 64) (ha : s.rp a = true) :
    exec (.setvl d a v) s = .next (s.poisonTrap a) := by
  have hd : s.decodeQueued (.setvl d a v) = .trapped (s.poisonTrap a) := by
    show s.decodeSetvl _ v [a] = _
    rw [State.decodeSetvl, decodePoint_eq hv]
    exact (if_neg (rowsPerReg_ne_zero hg)).trans (admitVec_poisoned hr (List.find?_cons_of_pos ha) _ _)
  show execSetvl d a v s = _
  rw [execSetvl, State.lengthInsn, hr, hd]
  rfl

theorem exec_eng_poisoned {d a b : BitVec 5} {c : BitVec 4} (hb : s.rp b = false)
    (hw : wellFormedEndpoint (s.rv b).toNat = true) (h : (payloadRegs a).find? (fun q => s.rp q) = some r) :
    exec (.eng d a b c) s = .next (s.poisonTrap r) := by
  show execEng d a b c s = _
  rw [execEng, if_neg (by simp [hb]), if_neg (by simp [hw]), h]

end

/-! ### Poison in what an instruction reads -/

section
variable {s u : State} {d a b : BitVec 5} {bytes : List Byte} (ha : s.rp a = false)

include ha in
theorem exec_jtab_readPoison {n : BitVec 16} (hn : (s.rv a).toNat < n.toNat)
    (h : s.load s.cur s.agent .load .scalar 15 (s.me.pc + 4 + 4 * s.rv a).toNat 4 = (u, .ok (bytes, true))) :
    exec (.jtab d a n) s = .next (u.poisonTrapAt (s.me.pc + 4 + 4 * s.rv a)) := by
  show execJtab d a n s = _
  unfold execJtab
  dsimp only
  rw [if_neg (by simp [ha]), if_neg (by omega), h]
  rfl

theorem readDescriptor_poison {x : Word} {cls n : Nat}
    (h : s.load s.cur s.agent .load .scalar cls x.toNat (8 * n) = (u, .ok (bytes, true))) :
    s.readDescriptor x cls n = (u, .error (u.poisonTrapAt x)) := by
  unfold State.readDescriptor; rw [h]; rfl

theorem barObject_poison {v : State} {x : Word} {cls : Nat} {p : Place}
    (hp : s.atomicPlace s.cur s.agent x.toNat 16 = (v, .ok p)) (h : v.atomicRead v.cur cls p 16 = (u, bytes, true)) :
    s.barObject x cls = (u, .error (u.poisonTrapAt x)) := by
  unfold State.barObject; rw [hp]; dsimp only; rw [h]; rfl

section
variable (hv : s.me.revoke = none) (hw : s.me.wait = none)

include ha hv hw in
theorem exec_launch_readPoison (hm : (s.rv a).toNat % 64 = 0)
    (h : ((s.drainAll s.cur).flushMsg s.cur fun _ => true).load s.cur s.agent .load .scalar 15 (s.rv a).toNat 64 =
      (u, .ok (bytes, true))) :
    exec (.launch d a) s = .next (u.poisonTrapAt (u.rv a)) := by
  show execLaunch d a s = _
  unfold execLaunch
  rw [hw]
  refine congrArg Host.Outcome.next ?_
  rw [State.launchFrom, atPoint_eq hv, if_neg (by simp [ha]), if_neg (by simp [hm]), h]
  rfl

include ha hv in
theorem exec_dreg_readPoison (hm : (s.rv a).toNat % 32 = 0)
    (h : s.load s.cur s.agent .load .scalar 15 (s.rv a).toNat 32 = (u, .ok (bytes, true))) :
    exec (.dreg d a) s = .next (u.poisonTrapAt (s.rv a)) := by
  refine congrArg Host.Outcome.next ((atPoint_eq hv _).trans ?_)
  rw [if_neg (by simp [ha]), if_neg (by simp [hm]), readDescriptor_poison h]

include ha hv in
theorem exec_solicit_readPoison {o : BitVec 3} (hb : s.rp b = false) (hm : (s.rv a).toNat % 32 = 0)
    (h : s.load s.cur s.agent .load .scalar 15 (s.rv a).toNat 32 = (u, .ok (bytes, true))) :
    exec (.solicit d a b o) s = .next (u.poisonTrapAt (s.rv a)) := by
  refine congrArg Host.Outcome.next ((atPoint_eq hv _).trans ?_)
  rw [if_neg (by simp [ha]), if_neg (by simp [hb]), if_neg (by simp [hm]), readDescriptor_poison h]

include ha hv hw in
theorem pushInsn_clean (hb : s.rp b = false) (k : State → State) : s.pushInsn d a b k = k s := by
  unfold State.pushInsn
  rw [hw]
  exact (atPoint_eq hv _).trans (by rw [if_neg (by simp [ha]), if_neg (by simp [hb])])

theorem pushTask_readPoison {x : Word} {cls q : Nat} (hq : s.queueOf s.me.fn x false = some q)
    (ht : (s.queueAt q).tile = false) (h : s.load s.cur s.agent .load .scalar cls (s.rv a).toNat 8 = (u, .ok (bytes, true))) :
    s.pushTask d a x cls = u.poisonTrapAt (s.rv a) := by
  unfold State.pushTask
  rw [hq]
  dsimp only
  rw [if_neg (by simp [ht]), readDescriptor_poison h]

theorem pushTile_readPoison {x : Word} {cls q : Nat} (hq : s.queueOf s.me.fn x false = some q)
    (ht : (s.queueAt q).tile = true) (h : s.load s.cur s.agent .load .scalar cls (s.rv a).toNat 32 = (u, .ok (bytes, true))) :
    s.pushTile d a x cls = u.poisonTrapAt (s.rv a) := by
  unfold State.pushTile
  rw [hq]
  dsimp only
  rw [if_neg (by simp [ht]), readDescriptor_poison h]

theorem barrierChecks_clean (ha : s.rp a = false) (hb : s.rp b = false) (hm : (s.rv a).toNat % 16 = 0) (k : State → State) :
    s.barrierChecks a [b] k = k s := by
  unfold State.barrierChecks
  rw [List.find?_eq_none.2 (by simp [ha, hb])]
  exact if_neg (by simp [hm])

include ha hv hw in
theorem exec_tqpush_readPoison {c : BitVec 4} {q : Nat} (hb : s.rp b = false) (h63 : (s.rv b).getLsbD 63 = false)
    (hq : s.queueOf s.me.fn (s.rv b) false = some q) (ht : (s.queueAt q).tile = false)
    (h : s.load s.cur s.agent .load .scalar c.toNat (s.rv a).toNat 8 = (u, .ok (bytes, true))) :
    exec (.tqpush d a b c) s = .next (u.poisonTrapAt (s.rv a)) := by
  have hbit : ¬ bit (s.rv b) 63 = true := by simpa [bit] using h63
  exact congrArg Host.Outcome.next ((pushInsn_clean ha hv hw hb _).trans ((if_neg hbit).trans (pushTask_readPoison hq ht h)))

include ha hv hw in
theorem exec_tileq_readPoison {c : BitVec 4} {q : Nat} (hb : s.rp b = false)
    (hq : s.queueOf s.me.fn (s.rv b) false = some q) (ht : (s.queueAt q).tile = true)
    (h : s.load s.cur s.agent .load .scalar c.toNat (s.rv a).toNat 32 = (u, .ok (bytes, true))) :
    exec (.tileq d a b c) s = .next (u.poisonTrapAt (s.rv a)) :=
  congrArg Host.Outcome.next ((pushInsn_clean ha hv hw hb _).trans (pushTile_readPoison hq ht h))

include ha hv in
/-- The barrier instructions that read an object trap where it is poisoned. -/
theorem exec_barrier_readPoison {i : Instr} {c : BitVec 4} {v : State} {p : Place} (hb : s.rp b = false)
    (hi : i = .barr d a b c ∧ 1 ≤ (s.rv b).toNat ∧ (s.rv b).toNat ≤ 65535 ∨ i = .bexp d a b c ∨
      i = .bwait d a b c ∨ i = .bqry d a b c ∧ (s.rv b).toNat ≤ 1) (hm : (s.rv a).toNat % 16 = 0) :
    let w := if i = .barr d a b c ∨ i = .bexp d a b c then s.barrierRelease else s
    w.atomicPlace w.cur w.agent (s.rv a).toNat 16 = (v, .ok p) → v.atomicRead v.cur c.toNat p 16 = (u, bytes, true) →
    exec i s = .next (u.poisonTrapAt (s.rv a)) := by
  intro w hp hx
  have ho := barObject_poison hp hx
  rcases hi with ⟨rfl, hlo, hhi⟩ | rfl | rfl | ⟨rfl, hq⟩
  · have hw : w = s.barrierRelease := if_pos (.inl rfl)
    refine congrArg Host.Outcome.next ((atPoint_eq hv _).trans ((barrierChecks_clean ha hb hm _).trans ?_))
    rw [if_neg (by simp [barCount, hlo, hhi]), ← hw, ho]
  · have hw : w = s.barrierRelease := if_pos (.inr rfl)
    refine congrArg Host.Outcome.next ((atPoint_eq hv _).trans ((barrierChecks_clean ha hb hm _).trans ?_))
    rw [← hw, ho]
  · have hw : w = s := if_neg (by simp)
    refine congrArg Host.Outcome.next ((barrierChecks_clean ha hb hm _).trans ?_)
    rw [hw] at ho
    rw [ho]
  · have hw : w = s := if_neg (by simp)
    refine congrArg Host.Outcome.next ((barrierChecks_clean ha hb hm _).trans ?_)
    rw [hw] at ho
    rw [if_neg (by omega), ho]

end
end

/-! ### Misaligned atomic accesses (R204, R232, R235) -/

section
variable {s : State} {a : BitVec 5} (ha : s.rp a = false)

include ha in
theorem amo_misaligned {n : Nat} (hm : (s.rv a).toNat % n ≠ 0) (d : BitVec 5) (cls : Nat) (sources : Bool)
    (f : Nat → Bool → Option (Nat × Bool)) : s.amo d a n cls sources f = s.trapHere 0x0F0 (s.rv a) :=
  (if_neg (by simp [ha])).trans (if_pos hm)

include ha in
theorem exec_amoForm_misaligned {i : Instr} {n : Nat} {d b : BitVec 5} {c : BitVec 4} {f : Nat → Nat → Nat → Nat}
    (hm : (s.rv a).toNat % n ≠ 0) (h : amoForm i = some (d, a, b, c, n, f)) :
    exec i s = .next (s.trapHere 0x0F0 (s.rv a)) := by
  unfold amoForm at h
  split at h
  case h_17 => cases h
  all_goals
    cases h
    exact congrArg Host.Outcome.next (amo_misaligned ha hm _ _ _ _)

include ha in
theorem exec_ldAcq_misaligned (hm : (s.rv a).toNat % 8 ≠ 0) (d : BitVec 5) (x : BitVec 2) (c : BitVec 4) :
    exec (.ldAcq d a x c) s = .next (s.trapHere 0x0F0 (s.rv a)) :=
  congrArg Host.Outcome.next ((if_neg (by simp [ha])).trans (if_pos hm))

include ha in
theorem exec_stRel_misaligned (hv : s.me.revoke = none) (hm : (s.rv a).toNat % 8 ≠ 0) (d : BitVec 5) (x : BitVec 2)
    (c : BitVec 4) : exec (.stRel d a x c) s = .next (s.trapHere 0x0F0 (s.rv a)) :=
  congrArg Host.Outcome.next ((atPoint_eq hv _).trans ((if_neg (by simp [ha])).trans (if_pos hm)))

end

/-! ### The clauses of the statement -/

section
variable {s : State}

/-- The instructions that look at the level before their operands. -/
theorem exec_privileged_poisoned {i : Instr} {r d a b : BitVec 5} (hl : s.me.level ≠ .user) (hv : s.me.revoke = none)
    (hi : i = .tlbinvVa d a b ∨ i = .tlbinvAll d a b ∨ i = .tlbinvRoot d a b ∨ i = .tlbinvGpa d a b ∨
      i = .tlbinvVfall d a b ∨ i = .errqPop d a b ∨ i = .errqNotice d a b ∨ i = .poisonMark a b ∨ i = .poisonClear a b)
    (h : [a, b].find? (fun q => s.rp q) = some r) : exec i s = .next (s.poisonTrap r) := by
  have htlb := congrArg (β := Out) .next (tlbinv_poisoned hl h hv d)
  have herr := congrArg (β := Out) .next (errq_poisoned hl h d)
  have hpoi := congrArg (β := Out) .next (poisonInsn_poisoned hl h)
  rcases hi with rfl | rfl | rfl | rfl | rfl | rfl | rfl | rfl | rfl
  exacts [htlb, htlb, htlb, htlb, htlb, herr, herr, hpoi, hpoi]

end

/-- Settles O9: each clause leads to `State.poisonTrap`, `State.poisonTrapAt` or the precise trap 0x0F0. -/
theorem poisonedControlAndMisalignedAtomicsTrap : Obligations.PoisonedControlAndMisalignedAtomicsTrap := by
  unfold Obligations.PoisonedControlAndMisalignedAtomicsTrap
  refine ⟨fun s i r hr hv hw hd => ?_, fun s u i d a bytes hr hv hw ha hd => ?_, fun s i a n hi hr hv ha hm hd => ?_⟩
  · have ht := poisonTrap_trapped hr hd r
    refine ⟨fun h => ⟨_, exec_controlUses hv hw h, ht⟩,
      fun hl ⟨d, a, b, hi, h⟩ => ⟨_, exec_privileged_poisoned hl hv hi h, ht⟩,
      fun x hx hc h => ⟨_, exec_vecSpec_poisoned hr hv hx hc h, ht⟩, fun d a v hi hg ha hra => ?_,
      fun d a b c hi hb he h => ⟨_, by rw [hi]; exact exec_eng_poisoned hb he h, ht⟩⟩
    subst hi hra
    exact ⟨_, exec_setvl_poisoned hr hv hg ha, ht⟩
  · have ht (x : Word) (hu : u.me.reissue = none) : PoisonTrappedAt u (u.poisonTrapAt x) x := poisonTrapAt_trapped hu hd x
    refine ⟨fun n hi hn h hu => ⟨_, by rw [hi]; exact exec_jtab_readPoison ha hn h, ht _ hu⟩,
      fun hi hm h _ hu => ⟨_, by rw [hi]; exact exec_launch_readPoison ha hv hw hm h, ht _ hu⟩,
      fun hi hm h hu => ⟨_, ?_, ht _ hu⟩, fun b c q n hi hb h63 hq hn h hu => ⟨_, ?_, ht _ hu⟩,
      fun b c v p hi hb hm hp hx hu => ⟨_, exec_barrier_readPoison ha hv hb hi hm hp hx, ht _ hu⟩⟩
    · rcases hi with rfl | ⟨b, o, rfl, hb⟩
      · exact exec_dreg_readPoison ha hv hm h
      · exact exec_solicit_readPoison ha hv hb hm h
    · rcases hi with ⟨rfl, rfl⟩ | ⟨rfl, rfl⟩
      · exact exec_tqpush_readPoison ha hv hw hb h63 hq hn h
      · exact exec_tileq_readPoison ha hv hw hb hq hn h
  · refine ⟨_, ?_, trapHere_trapped (s.rv a) hr (targetLevel_sup 0x0F0 s.me.level rfl) hd⟩
    obtain ⟨d, b, c, f, h⟩ | ⟨d, x, c, rfl | rfl, rfl⟩ := hi
    · exact exec_amoForm_misaligned ha hm h
    · exact exec_ldAcq_misaligned ha hm d x c
    · exact exec_stRel_misaligned ha hv hm d x c

end Sys2Proof.Machine
end

section
/-! PROOFS. What stands right after reset: every table is empty, so every entry reads as its default (O60). -/

namespace Sys2Proof.Machine

/-! ### The state after reset -/

theorem reset_reservedOf (g : Nat) : State.reset.reservedOf g = 0 := rfl

theorem reset_reservedIn (cl : Nat) : State.reset.reservedIn cl = 0 := by
  unfold State.reservedIn
  generalize clusterCtxs cl = gs
  induction gs with
  | nil => rfl
  | cons g gs ih => rw [List.foldl_cons, reset_reservedOf, ih]

/-- Nothing is ready (R379): no Stile, C-die, stack, link or host link is up, and no engine. -/
theorem reset_readyA : State.reset.readyA = 0 := by decide

theorem reset_readyB : State.reset.readyB = 0 := by decide

/-- An unoccupied context's registers hold 0 (log 5). -/
theorem reset_raw (g : Nat) (r : BitVec 5) : (State.reset.ctx g).raw r = (0, false) := by
  show Ctx.raw {} r = _
  unfold Ctx.raw
  split
  · rfl
  · exact congrArg (Prod.mk _) BitVec.getLsbD_zero

theorem reset_stored (l : Nat) : State.reset.stored l = 0 ∧ State.reset.granulePoison l = false := by
  constructor
  · unfold State.stored; split <;> rfl
  · unfold State.granulePoison
    split
    · exact Bool.and_false _
    · rfl

/-- Settles O60. -/
theorem whatResetLeaves : Obligations.WhatResetLeaves :=
  ⟨reset_ok, rfl, rfl, rfl, rfl, rfl, rfl, fun g => ⟨rfl, rfl, rfl, rfl, rfl, rfl, rfl, rfl, reset_raw g⟩, reset_stored,
    fun _ => ⟨rfl, rfl, rfl, rfl, rfl, rfl, rfl, fun _ => rfl, fun _ => rfl, fun _ => rfl⟩,
    congrArg some reset_readyA, congrArg some reset_readyB, fun _ _ => rfl, fun _ _ => ⟨rfl, fun _ => rfl⟩,
    fun c => ⟨rfl, reset_reservedIn c⟩, fun _ => ⟨rfl, rfl, rfl, rfl⟩, fun _ => rfl, fun _ => rfl, fun _ => rfl, rfl⟩

end Sys2Proof.Machine
end

section
/-! PROOFS. CBAR: the last arrival passes, any other waits (O21). -/

namespace Sys2Proof.Machine

/-! ### Arrivals at a crew barrier (R93) -/

/-- All live threads of a crew have arrived. -/
def Crew.fullAt (c : Crew) (a : List Nat) : Bool := a.length != 0 && a.length == c.live.length

theorem settle_arrivals (c : Crew) (b : Nat) :
    c.settle.arrivals[b]? = (c.arrivals[b]?).map fun a => if c.fullAt a then [] else a := List.getElem?_map ..

/-- The four flags of which the parity's change is made, bit by bit. -/
theorem parityBits (w x y z : Bool) :
    let v := BitVec.ofNat 4 ([(0, w), (1, x), (2, y), (3, z)].foldl (fun n p => if p.2 then n + 2 ^ p.1 else n) 0)
    v.getLsbD 0 = w ∧ v.getLsbD 1 = x ∧ v.getLsbD 2 = y ∧ v.getLsbD 3 = z := by
  revert w x y z
  decide

/-- The parity of a barrier turns where its generation completes. -/
theorem settle_parity (c : Crew) {b : Nat} (h : b ≤ 3) :
    c.settle.parity.getLsbD b = (c.parity.getLsbD b ^^ c.fullAt ((c.arrivals[b]?).getD [])) := by
  let full (b : Nat) : Bool := c.fullAt ((c.arrivals[b]?).getD [])
  obtain ⟨h0, h1, h2, h3⟩ := parityBits (full 0) (full 1) (full 2) (full 3)
  refine BitVec.getLsbD_xor.trans (congrArg _ ?_)
  obtain rfl | rfl | rfl | rfl : b = 0 ∨ b = 1 ∨ b = 2 ∨ b = 3 := by omega
  exacts [h0, h1, h2, h3]

/-- The crew after the thread `i` arrived at barrier `b`, where `xs` had arrived. -/
def Crew.arrived (c : Crew) (b i : Nat) (xs : List Nat) : Crew :=
  Crew.settle { c with arrivals := c.arrivals.set b (i :: xs) }

section
variable {c : Crew} {b i : Nat} {xs : List Nat} (h : c.arrivals[b]? = some xs)

include h in
theorem arrived_arrivals :
    (c.arrived b i xs).arrivals[b]? = some (if xs.length + 1 = c.live.length then [] else i :: xs) := by
  obtain ⟨hb, -⟩ := List.getElem?_eq_some_iff.1 h
  unfold Crew.arrived
  rw [settle_arrivals, List.getElem?_set_self hb]
  simp [Crew.fullAt, Crew.live]

include h in
/-- The last arrival turns the parity. -/
theorem arrived_parity (hb : b ≤ 3) (hl : xs.length + 1 = c.live.length) :
    (c.arrived b i xs).parity.getLsbD b = !(c.parity.getLsbD b) := by
  obtain ⟨hlt, -⟩ := List.getElem?_eq_some_iff.1 h
  unfold Crew.arrived
  rw [settle_parity _ hb]
  have hfull : Crew.fullAt { c with arrivals := c.arrivals.set b (i :: xs) } (i :: xs) = true := by
    simpa [Crew.fullAt, Crew.live] using hl
  rw [show ({ c with arrivals := c.arrivals.set b (i :: xs) } : Crew).arrivals[b]? = some (i :: xs) from
    List.getElem?_set_self hlt, Option.getD_some, hfull, Bool.xor_true]

end

theorem arrive_eq {s : State} {k b : Nat} {c : Crew} {xs : List Nat} (h : c.arrivals[b]? = some xs) (d : BitVec 5) :
    let t := { s with crews := aset s.crews k (c.arrived b s.me.tidx xs) }
    s.arrive d k b c = if xs.length + 1 = c.live.length then t.answerWith d xs.length else t.waitOn (.cbar b xs.length) := by
  intro t
  have ha := arrived_arrivals (i := s.me.tidx) h
  unfold State.arrive
  dsimp only
  rw [h, Option.getD_some]
  change (if (((c.arrived b s.me.tidx xs).arrivals[b]?).getD []).isEmpty = true then t.answerWith d xs.length
    else t.waitOn (.cbar b xs.length)) = _
  rw [ha, Option.getD_some]
  split_ifs <;> simp_all

theorem exec_cbar_arrives {s : State} {a : BitVec 5} {k : Nat} {c : Crew} (hv : s.me.revoke = none)
    (hp : s.me.pend = []) (hw : s.me.wait = none) (hh : s.me.handlers = []) (ha : s.rp a = false)
    (hb : (s.rv a).toNat ≤ 3) (hk : s.me.crew = some k) (hc : s.crewOf k = some c) (d : BitVec 5) :
    exec (.cbar d a) s = .next (s.arrive d k (s.rv a).toNat c) := by
  have hd : s.drainAll s.cur = s := drain_nil hp _
  show execCbar d a s = _
  unfold execCbar
  rw [hw]
  refine congrArg Host.Outcome.next ?_
  rw [State.cbarFrom, atPoint_eq hv, if_neg (by simp [ha]), if_neg (by omega), if_neg (by simp [State.inHandler, hh])]
  dsimp only
  rw [hd, hk]
  simp [hc]

/-- A crew that was just written reads as written. -/
theorem crewOf_aset (s : State) (k : Nat) (c : Crew) : State.crewOf { s with crews := aset s.crews k c } k = some c :=
  congrArg (Option.map _) (find?_aset_self ..)

/-- Settles O21: CBAR is the arrival of the thread, which passes or waits as `arrive_eq` says. -/
theorem crewBarrierLastArrivalPasses : Obligations.CrewBarrierLastArrivalPasses := by
  intro s d a k c xs hr hv hp hw hh ha hb hk hc hx
  have hexec := exec_cbar_arrives hv hp hw hh ha hb hk hc d
  rw [arrive_eq hx] at hexec
  refine ⟨fun hl => ?_, fun hl => ?_⟩
  · rw [if_pos hl] at hexec
    exact ⟨_, hexec, retire_wroteOne _ _ _ _ _ hr, _, crewOf_aset .., (arrived_arrivals hx).trans (by rw [if_pos hl]),
      arrived_parity hx hb hl⟩
  · rw [if_neg hl] at hexec
    exact ⟨_, hexec, onlyMe_setMe _ _, State.me_setMe .., _, crewOf_aset .., (arrived_arrivals hx).trans (by rw [if_neg hl])⟩

end Sys2Proof.Machine
end

section
/-! PROOFS. Messages, deliveries and queue entries leave every thread where it stands, but for the waits they answer. -/

namespace Sys2Proof.Machine

/-! ### Messages and deliveries (R248, R257, R369) -/

theorem SamePlace.keepsIdle {s t : State} (h : SamePlace s t) : KeepsIdle s t :=
  ⟨h.1, fun g hg => (h.2 g).1.trans hg⟩

theorem putPieces_still (s : State) (j : PutJob) : Still s (s.putPieces j) := by
  refine .foldl (fun t p => ?_) _ _
  split
  · exact .refl t
  · exact storeLoc_still ..

theorem putDecrement_still (s : State) (loc : Nat) (key : Key) (n : Nat) : Still s (s.putDecrement loc key n).1 := by
  unfold State.putDecrement
  dsimp only
  split
  · exact .refl s
  · split
    · exact .refl s
    · exact writeHome_still ..

theorem putBarrier_still (s : State) (j : PutJob) : Still s (s.putBarrier j).1 := by
  unfold State.putBarrier
  dsimp only
  split
  · exact .refl s
  · exact putDecrement_still ..
  · split
    · exact .refl s
    · exact putDecrement_still ..

theorem completePut_still (s : State) (k : Nat) (j : PutJob) : Still s (s.completePut k j) := by
  have h : Still s ((State.putPieces { s with puts := aerase s.puts k } j).putBarrier j).1 :=
    Still.trans (t := { s with puts := aerase s.puts k }) ⟨rfl, rfl⟩ ((putPieces_still ..).trans (putBarrier_still ..))
  unfold State.completePut
  dsimp only
  split
  · exact h
  · exact h.trans ⟨rfl, rfl⟩

theorem raiseMsix_still (s : State) (f v : Nat) : Still s (s.raiseMsix f v) := by
  unfold State.raiseMsix
  dsimp only
  split
  · exact ⟨rfl, rfl⟩
  · exact .refl s

theorem hostNotice_still (s : State) (f v : Nat) (x : BitVec 256) (p : Bool) : Still s (s.hostNotice f v x p) := by
  have hw : ∀ (t : State) (a : Nat) (bs : List Byte) (p : Bool), Still t (t.hostWrite a bs p) :=
    fun _ _ _ _ => storeLoc_still ..
  unfold State.hostNotice
  dsimp only
  refine Still.trans ?_ (raiseMsix_still ..)
  split
  · exact .refl s
  · exact ((hw ..).trans (hw ..)).trans (hw ..)

theorem stray_still (s : State) (f die : Nat) : Still s (s.stray f die).1 :=
  (record_still ..).trans ⟨rfl, rfl⟩

theorem enter_still (s : State) (core ch : Nat) (m : Msg) : Still s (s.enter core ch m).1 := by
  unfold State.enter
  dsimp only
  repeat' split
  all_goals exact ⟨rfl, rfl⟩

theorem enterEngine_still (s : State) (d u : Nat) (c : Command) : Still s (s.enterEngine d u c).1 := by
  unfold State.enterEngine
  dsimp only
  repeat' split
  all_goals exact ⟨rfl, rfl⟩

theorem offer_still (s : State) (w : Wire) : Still s (s.offer w).1 := by
  unfold State.offer
  split
  · split
    · exact stray_still ..
    · split
      · exact enter_still ..
      · exact .refl s
  · split
    · exact stray_still ..
    · split
      · exact enterEngine_still ..
      · exact .refl s
  · split
    · exact hostNotice_still ..
    · exact .refl s
  · exact .refl s
  · exact .refl s

theorem passLink_still (s : State) (g p c dev : Nat) : Still s (s.passLink g p c dev) := by
  unfold State.passLink
  split
  · exact .refl s
  · split
    · exact .refl s
    · exact ⟨rfl, rfl⟩

theorem offerRemote_still (s : State) (w : Wire) (dev : Nat) : Still s (s.offerRemote w dev).1 := by
  unfold State.offerRemote
  split
  · exact .refl s
  · refine Still.trans (passLink_still s (w.sender.getD w.src) (pathCode .msg) w.cls dev) ?_
    dsimp only
    split
    · exact (record_still ..).trans ⟨rfl, rfl⟩
    · exact ⟨rfl, rfl⟩

theorem offerAny_still (s : State) (w : Wire) : Still s (s.offerAny w).1 := by
  unfold State.offerAny
  dsimp only
  refine Still.trans ?_ ⟨rfl, rfl⟩
  split
  · exact offerRemote_still ..
  · exact offer_still ..

theorem nullReply_still (s : State) (w : Wire) : Still s (s.nullReply w) := by
  unfold State.nullReply
  repeat' split
  all_goals exact ⟨rfl, rfl⟩

theorem dropWire_still (s : State) (k : Nat) (w : Wire) : Still s (s.dropWire k w) :=
  Still.trans (t := s.unwire k) ⟨rfl, rfl⟩ ((nullReply_still ..).trans ⟨rfl, rfl⟩)

/-- Of the threads, a status answers at most the wait of its sender. -/
theorem settleWire_keepsIdle (s : State) (k : Nat) (w : Wire) (st : Nat) : KeepsIdle s (s.settleWire k w st) := by
  unfold State.settleWire
  split
  · dsimp only
    split
    · exact KeepsIdle.trans (t := s.unwire k) (keepsIdle_of_eq rfl rfl) (setCtx_keepsIdle _ _ id)
    · exact keepsIdle_of_eq rfl rfl
  · split
    · exact keepsIdle_of_eq rfl rfl
    · split
      · exact keepsIdle_of_eq rfl rfl
      · split
        · exact keepsIdle_of_eq rfl rfl
        · exact (dropWire_still ..).keepsIdle

theorem bounceWire_still (s : State) (k : Nat) (w : Wire) (st : Nat) : Still s (s.bounceWire k w st) := by
  unfold State.bounceWire
  dsimp only
  repeat' split
  all_goals exact ⟨rfl, rfl⟩

theorem performMsg_keepsIdle (s : State) (k : Nat) : KeepsIdle s (s.performMsg k) := by
  have hb : ∀ (t : State) (b : Bool), Still t (t.block b) := fun _ _ => ⟨rfl, rfl⟩
  unfold State.performMsg
  split
  · exact ((hb ..).trans (completePut_still ..)).keepsIdle
  · split
    · exact .refl s
    · next w _ =>
      dsimp only
      have hs : KeepsIdle s (if (w.refused.isSome || w.retry) = true then s
          else (s.block (s.linkWaits w || s.wireHeld w)).arriveWire k w) := by
        split
        · exact .refl s
        · exact ((hb ..).trans (offerAny_still ..)).keepsIdle.trans (settleWire_keepsIdle ..)
      split
      · exact hs
      · split
        · exact hs.trans (bounceWire_still ..).keepsIdle
        · exact hs

theorem flushMsg_keepsIdle (s : State) (g : Nat) (q : Nat → Bool) : KeepsIdle s (s.flushMsg g q) :=
  (KeepsIdle.foldl performMsg_keepsIdle _ s).trans (.foldl performMsg_keepsIdle _ _)

/-! ### Queue entries (R274) -/

theorem devWriteWords_keepsIdle (s : State) (ag : Agent) (a : Nat) (ws : List (Word × Bool)) :
    KeepsIdle s (s.devWriteWords ag a ws).1 := by
  induction ws generalizing s a with
  | nil => exact .refl s
  | cons w ws ih =>
    have h := devWrite_keepsIdle s ag .store a (leBytes 8 w.1.toNat) w.2
    unfold State.devWriteWords
    split
    · next e => rw [e] at h; exact h
    · next e => rw [e] at h; exact h.trans (ih _ _)

theorem ringWriteHere_keepsIdle (s : State) (q off : Nat) (ws : List (Word × Bool)) :
    KeepsIdle s (s.ringWriteHere q off ws).1 := by
  unfold State.ringWriteHere
  dsimp only
  split
  · exact unitFault_keepsIdle ..
  · exact unitFault_keepsIdle ..
  · have h := devWriteWords_keepsIdle s (s.ringAgent q) ((s.queueAt q).ringAddr off)
      (ws.take ((s.queueAt q).ringSplit off ws.length))
    split
    · next e => rw [e] at h; exact h
    · next e => rw [e] at h; exact h.trans (devWriteWords_keepsIdle ..)

theorem seenFrom_keepsIdle {α : Type} {act : State → State × α} (h : ∀ t, KeepsIdle t (act t).1) (s : State) (d : Nat) :
    KeepsIdle s (s.seenFrom d act).1 :=
  KeepsIdle.trans (t := { s with viewer := some d }) (keepsIdle_of_eq rfl rfl)
    ((h _).trans (keepsIdle_of_eq rfl rfl))

theorem appendEntry_keepsIdle (s : State) (q : Nat) (ws : List (Word × Bool)) (l : Level) (lid : Nat) :
    KeepsIdle s (s.appendEntry q ws l lid).1 := by
  have hset : ∀ (t : State) (x : Queue), KeepsIdle t (t.setQueueAt q x) := fun t x => (setQueueAt_still t q x).keepsIdle
  have hcount : ∀ (t : State) (u : Usage → Usage), KeepsIdle t (t.count (s.queueFn q) u) :=
    fun _ _ => keepsIdle_of_eq rfl rfl
  have hring := seenFrom_keepsIdle (fun t => ringWriteHere_keepsIdle t q ((s.queueAt q).head + (s.queueAt q).used) ws) s
    (s.queueDie q)
  unfold State.appendEntry
  dsimp only
  split
  · exact (hset ..).trans (hcount ..)
  · split
    · exact hcount ..
    · split
      · next e =>
        rw [State.ringWrite] at e
        rw [e] at hring
        exact hring.trans ((hset ..).trans (keepsIdle_of_eq rfl rfl))
      · next e =>
        rw [State.ringWrite] at e
        rw [e] at hring
        exact (hring.trans (hset ..)).trans (hcount ..)

end Sys2Proof.Machine
end

section
/-! PROOFS. LAUNCH of a good record (O22). -/

namespace Sys2Proof.Machine

/-- The state after a record entered its queue: it stands under the function's number, and the next launch takes the next
(R85). -/
def State.submitted (s : State) (f lid : Nat) (l : Level) (r : BitVec 512) : State :=
  { s.setFn f { s.fnOf f with lid := (lid + 1) % 2 ^ 32 } with
    launches := aset s.launches (launchKey f lid) { record := r, level := l } }

theorem submitted_fnOf (s : State) (f lid : Nat) (l : Level) (r : BitVec 512) :
    (s.submitted f lid l r).fnOf f = { s.fnOf f with lid := (lid + 1) % 2 ^ 32 } := State.fnOf_setFn_self ..

theorem submitted_launch (s : State) (f lid : Nat) (l : Level) (r : BitVec 512) :
    aget { record := 0 } (s.submitted f lid l r).launches (launchKey f lid) = { record := r, level := l } :=
  aget_aset_self ..

/-- A record that passes its checks and enters its queue is submitted (R82, R85). -/
theorem submit_appended {s v : State} {f : Nat} {l : Level} {r : BitVec 512} (hc : s.launchCheck f r = 0)
    (h : s.appendEntry (launchQueue f (recLevel r)) (recWords r) l (s.fnOf f).lid = (v, 0)) :
    s.submit f l r = (v.submitted f (s.fnOf f).lid l r, 0) := by
  unfold State.submit
  dsimp only
  rw [hc, if_neg (by decide), if_neg (by decide), h]
  rfl

/-- What ends with 0 in a register reads 0 there. -/
theorem raw_answered_zero (s : State) (d : BitVec 5) : (s.answerWith d 0).me.raw d = (0, false) := by
  rw [State.answerWith, State.retire, State.me_setMe, Ctx.raw_advance, Ctx.raw_consume, Ctx.raw_setReg]
  split
  · rfl
  · next h => rw [Ctx.raw, if_pos (by simpa using h)]

theorem retire_me_pc {s : State} (hr : s.me.reissue = none) (d : BitVec 5) (v : Word) (p c : Bool) :
    (s.retire d v p c).me.pc = s.me.pc + 4 := by
  rw [State.retire, State.me_setMe, Ctx.advance_pc _ (by simpa using hr)]
  simp

theorem retire_me_level (s : State) (d : BitVec 5) (v : Word) (p c : Bool) : (s.retire d v p c).me.level = s.me.level := by
  rw [State.retire, State.me_setMe]
  simp

/-- LAUNCH of a clean record is what becomes of the record. -/
theorem exec_launch_record {s u : State} {a : BitVec 5} {bytes : List Byte} (hv : s.me.revoke = none)
    (hw : s.me.wait = none) (ha : s.rp a = false) (hm : (s.rv a).toNat % 64 = 0)
    (h : ((s.drainAll s.cur).flushMsg s.cur fun _ => true).load s.cur s.agent .load .scalar 15 (s.rv a).toNat 64 =
      (u, .ok (bytes, false))) (d : BitVec 5) :
    exec (.launch d a) s = .next (u.launchRecord d (BitVec.ofNat 512 (leNat bytes))) := by
  show execLaunch d a s = _
  unfold execLaunch
  rw [hw]
  refine congrArg Host.Outcome.next ?_
  rw [State.launchFrom, atPoint_eq hv, if_neg (by simp [ha]), if_neg (by simp [hm]), h]
  rfl

/-- The release of LAUNCH and the read of its record start no entry of a queue. -/
theorem launchRead_keepsIdle {s u : State} {ag : Agent} {a n : Nat} {r : Except AccFault (List Byte × Bool)}
    (h : ((s.drainAll s.cur).flushMsg s.cur fun _ => true).load s.cur ag .load .scalar 15 a n = (u, r)) :
    KeepsIdle s u := by
  have hload := (load_place ((s.drainAll s.cur).flushMsg s.cur fun _ => true) s.cur ag .load .scalar 15 a n).keepsIdle
  rw [h] at hload
  exact ((drain_place s s.cur _).keepsIdle.trans (flushMsg_keepsIdle ..)).trans hload

/-- Settles O22: the record is submitted as `submit_appended` says, over a thread that ran no entry of its queue. -/
theorem launchSubmitsTheRecord : Obligations.LaunchSubmitsTheRecord := by
  intro s u v d a bytes hr hv hw ha hm r f lid hload hway hcheck hreach hwaits happend
  have hexec := exec_launch_record hv hw ha hm hload d
  have hidle : v.me.reissue = none := by
    have happ := appendEntry_keepsIdle u (launchQueue f (recLevel r)) (recWords r) u.me.level lid
    rw [happend] at happ
    exact ((launchRead_keepsIdle hload).trans happ).me hr
  have hrec : u.launchRecord d r = (v.submitted f lid u.me.level r).answerWith d 0 := by
    unfold State.launchRecord
    dsimp only
    rw [if_neg (by rw [hway]; decide), if_neg (fun h => by rw [hreach] at h; exact absurd h.2 (by decide)),
      if_neg (by rw [hwaits]; decide), submit_appended hcheck happend]
  refine ⟨_, hexec.trans (congrArg _ hrec), raw_answered_zero .., retire_me_pc hidle .., retire_me_level ..,
    submitted_launch .., congrArg Fn.lid (submitted_fnOf v f lid u.me.level r)⟩

end Sys2Proof.Machine
end

section
/-! PROOFS. Deliveries into scratch regions: each byte stands where the region has its place, and nothing else changes
(R257, R338). -/

namespace Sys2Proof.Machine

/-! ### A store into the scratch store -/

/-- The regions, the deliveries on their way and which C-dies are present stay as they are. -/
def KeepsRegions (s t : State) : Prop :=
  t.cores = s.cores ∧ t.puts = s.puts ∧ ∀ n, (t.die n).state = (s.die n).state

theorem KeepsRegions.refl (s : State) : KeepsRegions s s := ⟨rfl, rfl, fun _ => rfl⟩

theorem KeepsRegions.trans {s t u : State} (h : KeepsRegions s t) (k : KeepsRegions t u) : KeepsRegions s u :=
  ⟨k.1.trans h.1, k.2.1.trans h.2.1, fun n => (k.2.2 n).trans (h.2.2 n)⟩

theorem record_keepsRegions (s : State) (d : Nat) (r : Record) : KeepsRegions s (s.record d r) := by
  obtain ⟨x, ws, n, a, h⟩ := record_eq s d r
  rw [h]
  exact ⟨rfl, rfl, die_setDie_of_eq (s := s) (d := d) (x := { s.die d with errors := x }) Die.state rfl⟩

theorem storeBytes_keepsRegions (s : State) (a : Nat) (bs : List Byte) : KeepsRegions s (s.storeBytes a bs) := by
  induction bs generalizing s a with
  | nil => exact .refl s
  | cons b bs ih =>
    refine KeepsRegions.trans ?_ (ih (s.storeByte a b) (a + 1))
    unfold State.storeByte
    split <;> exact ⟨rfl, rfl, fun _ => rfl⟩

theorem setPoison_keepsRegions (s : State) (a : Nat) (p : Bool) : KeepsRegions s (s.setPoison a p) := by
  unfold State.setPoison
  split <;> exact ⟨rfl, rfl, fun _ => rfl⟩

theorem setPoison_stored (s : State) (a : Nat) (p : Bool) (l : Nat) : (s.setPoison a p).stored l = s.stored l := by
  unfold State.setPoison
  split <;> rfl

theorem locAbsent_scratch {s : State} {l : Nat} (h : scratchBase ≤ l) :
    s.locAbsent l = ((s.die ((l - scratchBase) / arrayBytes / 256)).state != .present) := by
  have hd : ¬ l < deviceEnd := by simp only [scratchBase, deviceEnd] at *; omega
  rw [State.locAbsent, if_neg hd, if_pos h]

/-- The bytes of a granule of the scratch store are present together. -/
theorem locAbsent_scratch_congr (s : State) {a b : Nat} (ha : scratchBase ≤ a) (h : a / 64 = b / 64) :
    s.locAbsent a = s.locAbsent b := by
  have hb : scratchBase ≤ b := by simp only [scratchBase] at *; omega
  have hd : (a - scratchBase) / arrayBytes = (b - scratchBase) / arrayBytes := by
    simp only [scratchBase, arrayBytes] at *; omega
  rw [locAbsent_scratch ha, locAbsent_scratch hb, hd]

theorem KeepsRegions.locAbsent {s t : State} (h : KeepsRegions s t) {l : Nat} (hl : scratchBase ≤ l) :
    t.locAbsent l = s.locAbsent l := by
  rw [locAbsent_scratch hl, locAbsent_scratch hl, h.2.2]

/-- A store inside one granule of the scratch store puts its bytes, or is discarded where the region's die is absent. -/
theorem storeLoc_scratch (s : State) {a : Nat} {bs : List Byte} (hg : InGranule a bs.length) (ha : scratchBase ≤ a) (p : Bool) :
    KeepsRegions s (s.storeLoc a bs p noKey) ∧ ∀ l, (s.storeLoc a bs p noKey).stored l =
      if s.locAbsent a = false ∧ a ≤ l ∧ l < a + bs.length then (bs[l - a]?).getD 0 else s.stored l := by
  have hbase : scratchBase ≤ a / 64 * 64 := by simp only [scratchBase] at *; omega
  have hdev : ¬ a / 64 * 64 < deviceEnd := by simp only [scratchBase, deviceEnd] at *; omega
  have hpeer : ¬ ((decide (peerBase ≤ a / 64 * 64) && decide (a / 64 * 64 < hostBase)) = true) := by
    rw [Bool.and_eq_true, decide_eq_true_eq, decide_eq_true_eq]
    rintro ⟨-, h⟩
    simp only [scratchBase, hostBase] at *
    omega
  have habs : s.locAbsent (a / 64 * 64) = s.locAbsent a := locAbsent_scratch_congr s hbase (by omega)
  rw [State.storeLoc, granulesOf_inGranule hg, List.foldl_cons, List.foldl_nil, State.storeGranule, sliceFor_inGranule hg,
    habs, State.retag, if_neg hdev]
  cases hc : s.locAbsent a with
  | true =>
    rw [if_pos rfl]
    exact ⟨record_keepsRegions .., fun l => by rw [if_neg (by simp)]; exact (record_sameBytes ..).1 l⟩
  | false =>
    rw [if_neg Bool.false_ne_true, if_neg hpeer]
    have hput : KeepsRegions s (s.storeBytes a bs) := storeBytes_keepsRegions ..
    have hbytes : ∀ l, (s.storeBytes a bs).stored l =
        if false = false ∧ a ≤ l ∧ l < a + bs.length then (bs[l - a]?).getD 0 else s.stored l := fun l => by
      rw [storeBytes_storedAt s a bs l]
      simp only [true_and]
    dsimp only
    split
    · exact ⟨hput.trans (setPoison_keepsRegions ..), fun l => (setPoison_stored ..).trans (hbytes l)⟩
    · split
      · exact ⟨hput.trans (setPoison_keepsRegions ..), fun l => (setPoison_stored ..).trans (hbytes l)⟩
      · exact ⟨hput, hbytes⟩

/-! ### Where the bytes of a delivery lie (R257) -/

theorem putLoc_congr {s t : State} (h : KeepsRegions s t) (j : PutJob) (i : Nat) : t.putLoc j i = s.putLoc j i := by
  unfold State.putLoc State.core
  rw [h.1]

theorem putLoc_base {s : State} {j : PutJob} {i l : Nat} (h : s.putLoc j i = some l) :
    scratchBase ≤ l ∧ l % 64 = (j.offset + i) % 64 := by
  unfold State.putLoc at h
  obtain ⟨g, -, rfl⟩ := Option.map_eq_some_iff.1 h
  simp only [scratchLoc, scratchBase, arrayBytes]
  omega

/-- The bytes of a delivery that lie in one granule stand one after the other. -/
theorem putLoc_next (s : State) (j : PutJob) {i m : Nat} (h : (j.offset + i) % 64 + m < 64) :
    s.putLoc j (i + m) = (s.putLoc j i).map (· + m) := by
  have hq : (j.offset + (i + m)) / 16384 = (j.offset + i) / 16384 := by omega
  have hr : (j.offset + (i + m)) % 16384 = (j.offset + i) % 16384 + m := by omega
  unfold State.putLoc
  rw [hq, hr, Option.map_map]
  exact congrArg (Option.map · _) (funext fun g => (Nat.add_assoc ..).symm)

/-! ### The pieces of a delivery (R338) -/

/-- A run of a delivery's bytes inside one granule: the first byte, and how many. -/
def PieceOf (off n : Nat) (p : Nat × Nat) : Prop := 0 < p.2 ∧ p.1 + p.2 ≤ n ∧ (off + p.1) % 64 + p.2 ≤ 64

theorem pieceOf_putGranules {off n : Nat} {p : Nat × Nat} (h : p ∈ putGranules off n) : PieceOf off n p := by
  unfold putGranules granulesOf at h
  split at h
  · cases h
  · obtain ⟨g, hg, rfl⟩ := List.mem_map.1 h
    obtain ⟨i, hi, rfl⟩ := List.mem_map.1 hg
    rw [List.mem_range] at hi
    dsimp only [PieceOf]
    omega

/-- Every byte of a delivery is in a piece. -/
theorem exists_putGranules {off n i : Nat} (h : i < n) : ∃ p ∈ putGranules off n, p.1 ≤ i ∧ i < p.1 + p.2 := by
  unfold putGranules granulesOf
  rw [if_neg (by omega)]
  refine ⟨_, List.mem_map_of_mem (List.mem_map_of_mem (List.mem_range.2 (?_ : (off + i) / 64 - off / 64 < _))), ?_⟩
  · omega
  · dsimp only
    omega

/-- A piece of a delivery stored where the region still stands. -/
def State.putPiece (s : State) (j : PutJob) (p : Nat × Nat) : State :=
  match s.putLoc j p.1 with
  | none => s
  | some loc => s.storeLoc loc ((j.bytes.drop p.1).take p.2) (((j.poison.drop p.1).take p.2).any id) noKey

theorem putPieces_eq (s : State) (j : PutJob) :
    s.putPieces j = (putGranules j.offset j.bytes.length).foldl (fun s p => s.putPiece j p) s := rfl

/-- A piece puts its bytes at their places, where these are present, and changes no other. -/
theorem putPiece_stored (s : State) {j : PutJob} {p : Nat × Nat} (hp : PieceOf j.offset j.bytes.length p) :
    KeepsRegions s (s.putPiece j p) ∧
    (∀ l, (∀ i, p.1 ≤ i → i < p.1 + p.2 → s.putLoc j i ≠ some l) → (s.putPiece j p).stored l = s.stored l) ∧
    ∀ i l, p.1 ≤ i → i < p.1 + p.2 → s.putLoc j i = some l → s.locAbsent l = false →
      (s.putPiece j p).stored l = (j.bytes[i]?).getD 0 := by
  obtain ⟨h0, hn, h64⟩ := hp
  have hat : ∀ i, p.1 ≤ i → i < p.1 + p.2 → s.putLoc j i = (s.putLoc j p.1).map (· + (i - p.1)) := fun i h1 h2 => by
    rw [← putLoc_next s j (by omega), show p.1 + (i - p.1) = i by omega]
  unfold State.putPiece
  cases hl : s.putLoc j p.1 with
  | none =>
    refine ⟨.refl s, fun _ _ => rfl, fun i l h1 h2 h => ?_⟩
    rw [hat i h1 h2, hl] at h
    cases h
  | some a =>
    obtain ⟨hbase, hmod⟩ := putLoc_base hl
    have hlen : ((j.bytes.drop p.1).take p.2).length = p.2 := by rw [List.length_take, List.length_drop]; omega
    obtain ⟨hkeep, hst⟩ := storeLoc_scratch s (a := a) (bs := (j.bytes.drop p.1).take p.2) ⟨by omega, by omega⟩ hbase
      (((j.poison.drop p.1).take p.2).any id)
    rw [hlen] at hst
    refine ⟨hkeep, fun l h => ?_, fun i l h1 h2 h hpres => ?_⟩
    · refine (hst l).trans (if_neg fun ⟨_, h1, h2⟩ => h (p.1 + (l - a)) (by omega) (by omega) ?_)
      rw [hat _ (by omega) (by omega), hl, Option.map_some]
      congr 1
      omega
    · rw [hat i h1 h2, hl, Option.map_some, Option.some_inj] at h
      rw [← locAbsent_scratch_congr s hbase (by omega)] at hpres
      refine (hst l).trans ((if_pos ⟨hpres, by omega, by omega⟩).trans ?_)
      rw [List.getElem?_take_of_lt (by omega), List.getElem?_drop, show p.1 + (l - a) = i by omega]

/-- What the pieces of a delivery leave, one after the other. -/
theorem foldl_putPiece_stored {j : PutJob} (ps : List (Nat × Nat)) (hps : ∀ p ∈ ps, PieceOf j.offset j.bytes.length p)
    (s : State) :
    KeepsRegions s (ps.foldl (fun s p => s.putPiece j p) s) ∧
    (∀ l, (∀ i, i < j.bytes.length → s.putLoc j i ≠ some l) →
      (ps.foldl (fun s p => s.putPiece j p) s).stored l = s.stored l) ∧
    ∀ i l, s.putLoc j i = some l → (∀ h, h < j.bytes.length → s.putLoc j h = some l → h = i) → s.locAbsent l = false →
      (s.stored l = (j.bytes[i]?).getD 0 ∨ ∃ p ∈ ps, p.1 ≤ i ∧ i < p.1 + p.2) →
      (ps.foldl (fun s p => s.putPiece j p) s).stored l = (j.bytes[i]?).getD 0 := by
  induction ps generalizing s with
  | nil => exact ⟨.refl s, fun _ _ => rfl, fun i l _ _ _ h => h.resolve_right (by simp)⟩
  | cons p ps ih =>
    have hp := hps p (List.mem_cons_self ..)
    obtain ⟨hkeep, hframe, hput⟩ := putPiece_stored s hp
    obtain ⟨hkeep', hframe', hput'⟩ := ih (fun q hq => hps q (List.mem_cons_of_mem _ hq)) (s.putPiece j p)
    refine ⟨hkeep.trans hkeep', fun l h => ?_, fun i l hl huniq hpres h => ?_⟩
    · refine (hframe' l fun i hi => by rw [putLoc_congr hkeep]; exact h i hi).trans (hframe l fun i _ hi => h i ?_)
      have := hp.2.1
      omega
    · refine hput' i l ((putLoc_congr hkeep ..).trans hl) (fun k hk e => huniq k hk ((putLoc_congr hkeep ..).symm.trans e))
        ((hkeep.locAbsent (putLoc_base hl).1).trans hpres) ?_
      by_cases hi : p.1 ≤ i ∧ i < p.1 + p.2
      · exact .inl (hput i l hi.1 hi.2 hl hpres)
      · rcases h with h | ⟨q, hq, h1, h2⟩
        · refine .inl ((hframe l fun k h1 h2 e => hi ?_).trans h)
          have := hp.2.1
          rw [huniq k (by omega) e] at h1 h2
          exact ⟨h1, h2⟩
        · rcases List.mem_cons.1 hq with rfl | hq
          · exact absurd ⟨h1, h2⟩ hi
          · exact .inr ⟨q, hq, h1, h2⟩

/-- A delivery puts each of its bytes at its place, and changes no other byte. -/
theorem putPieces_stored (s : State) (j : PutJob) :
    KeepsRegions s (s.putPieces j) ∧
    (∀ i l, i < j.bytes.length → s.putLoc j i = some l → (∀ h, h < j.bytes.length → s.putLoc j h = some l → h = i) →
      s.locAbsent l = false → (s.putPieces j).stored l = (j.bytes[i]?).getD 0) ∧
    ∀ l, (∀ i, i < j.bytes.length → s.putLoc j i ≠ some l) → (s.putPieces j).stored l = s.stored l := by
  rw [putPieces_eq]
  obtain ⟨hkeep, hframe, hput⟩ := foldl_putPiece_stored (j := j) _ (fun p hp => pieceOf_putGranules hp) s
  exact ⟨hkeep, fun i l hi hl hu ha => hput i l hl hu ha (.inr (exists_putGranules hi)), hframe⟩

/-- A delivery without a barrier and a message is its pieces. -/
theorem exec_putDeliveryComplete {s : State} {k : Nat} {j : PutJob} (hj : s.putAt k = some j)
    (hw : s.deliveryWaits k j = false) (hh : s.routeHeld (dieOf j.sender) (j.core / 256) = false)
    (hb : j.barrier = .none) (hm : j.message = none) :
    exec (.putDeliveryComplete k) s = .next (State.putPieces { s with puts := aerase s.puts k } j) := by
  show execPutDeliveryComplete k s = _
  unfold execPutDeliveryComplete
  rw [hj]
  dsimp only
  rw [hw, hh]
  refine congrArg Host.Outcome.next ?_
  unfold State.completePut State.putBarrier
  dsimp only
  rw [hb, hm]

end Sys2Proof.Machine
end

section
/-! PROOFS. The launch port, and the queues that its records enter (R82 to R85, R368). -/

namespace Sys2Proof.Machine

/-! ### Launch queues (R85) -/

theorem field_lt (r : BitVec 512) (lo n : Nat) : field r lo n < 2 ^ n := Nat.mod_lt _ (Nat.two_pow_pos n)

section
variable {f lvl : Nat} (h : lvl < 4)

include h in
theorem launchQueue_parts : isLaunchQueue (launchQueue f lvl) = true ∧ (launchQueue f lvl - 65536) / 4 = f ∧
    (launchQueue f lvl - 65536) % 4 = lvl := by
  refine ⟨decide_eq_true ?_, ?_, ?_⟩ <;> unfold launchQueue <;> omega

include h in
theorem queueAt_launch (s : State) : s.queueAt (launchQueue f lvl) = aget {} (s.fnOf f).lqueues lvl := by
  obtain ⟨h1, h2, h3⟩ := launchQueue_parts (f := f) h
  rw [State.queueAt, if_pos h1, h2, h3]

include h in
theorem setQueueAt_launch (s : State) (x : Queue) : s.setQueueAt (launchQueue f lvl) x =
    s.setFn f { s.fnOf f with lqueues := aset (s.fnOf f).lqueues lvl x } := by
  obtain ⟨h1, h2, h3⟩ := launchQueue_parts (f := f) h
  rw [State.setQueueAt, if_pos h1]
  dsimp only
  rw [h2, h3]

include h in
/-- An entry that finds room on chip, with nothing in the ring, is appended there (R274). -/
theorem appendEntry_onChip {s : State} (ws : List (Word × Bool)) (l : Level) (lid : Nat)
    (hroom : (s.queueAt (launchQueue f lvl)).chip.length < 16) (hring : (s.queueAt (launchQueue f lvl)).used = 0) :
    let x := s.queueAt (launchQueue f lvl)
    s.appendEntry (launchQueue f lvl) ws l lid = ((s.setQueueAt (launchQueue f lvl)
      { x with chip := x.chip ++ [{ words := ws, level := l, lid := lid }] }).count f
        fun u => { u with pushes := u.pushes + 1 }, 0) := by
  obtain ⟨h1, h2, -⟩ := launchQueue_parts (f := f) h
  have hchip : chipRoom (launchQueue f lvl) = 16 := if_pos h1
  have hfn : s.queueFn (launchQueue f lvl) = f := (if_pos h1).trans h2
  unfold State.appendEntry
  dsimp only
  rw [hchip, hfn, if_pos ⟨hroom, hring⟩]

end

theorem count_sameBytes (s : State) (f : Nat) (u : Usage → Usage) : SameBytes s (s.count f u) :=
  ⟨fun _ => rfl, fun _ => rfl⟩

theorem submitted_sameBytes (s : State) (f lid : Nat) (l : Level) (r : BitVec 512) :
    SameBytes s (s.submitted f lid l r) := ⟨fun _ => rfl, fun _ => rfl⟩

/-- A record that passes its checks and finds room on chip stands in its queue, under the function's next number. -/
theorem submit_onChip {s : State} {f : Nat} {l : Level} {r : BitVec 512} (hc : s.launchCheck f r = 0)
    (hroom : (s.queueAt (launchQueue f (recLevel r))).chip.length < 16)
    (hring : (s.queueAt (launchQueue f (recLevel r))).used = 0) :
    let q := s.queueAt (launchQueue f (recLevel r))
    ∃ t, s.submit f l r = (t, 0) ∧ SameBytes s t ∧ (t.fnOf f).lid = ((s.fnOf f).lid + 1) % 2 ^ 32 ∧
      aget { record := 0 } t.launches (launchKey f (s.fnOf f).lid) = { record := r, level := l } ∧
      t.queueAt (launchQueue f (recLevel r)) = { q with
        chip := q.chip ++ [{ words := recWords r, level := l, lid := (s.fnOf f).lid }] } := by
  intro q
  have hl : recLevel r < 4 := field_lt r 185 2
  have happ := appendEntry_onChip hl (recWords r) l (s.fnOf f).lid hroom hring
  have hsubmit := submit_appended hc happ
  generalize hv : (s.setQueueAt _ _).count f _ = v at hsubmit
  have hfn := submitted_fnOf v f (s.fnOf f).lid l r
  refine ⟨_, hsubmit, ?_, by rw [hfn], submitted_launch v f _ l r, ?_⟩
  · rw [← hv]
    exact ((setQueueAt_keepsCrews s _ _).bytes.trans (count_sameBytes ..)).trans (submitted_sameBytes ..)
  · rw [queueAt_launch hl, hfn, ← hv, setQueueAt_launch hl, State.count, State.fnOf_setFn_self, State.fnOf_setFn_self]
    exact aget_aset_self ..

/-! ### NBASE written byte by byte (R368) -/

theorem testBit_leNat_cons (b : Byte) (bs : List Byte) (i : Nat) :
    (leNat (b :: bs)).testBit i = if i < 8 then b.getLsbD i else (leNat bs).testBit (i - 8) := by
  rw [leNat, Nat.add_comm, show (256 : Nat) = 2 ^ 8 from rfl, Nat.testBit_two_pow_mul_add _ b.isLt, BitVec.testBit_toNat]

/-- NBASE after one of its bytes was written: its low 12 bits stay 0. -/
def nbaseByte (w : Word) (k : Nat) (b : Byte) : Word :=
  ((BitVec.ofNat 64 (w.toNat - bitsOf w.toNat k 8 * 2 ^ k + b.toNat * 2 ^ k)) >>> 12) <<< 12

theorem getLsbD_nbaseByte (w : Word) {k : Nat} (b : Byte) (hk : k + 8 ≤ 64) {i : Nat} (hi : i < 64) :
    (nbaseByte w k b).getLsbD i =
      (decide (12 ≤ i) && if k ≤ i ∧ i < k + 8 then b.getLsbD (i - k) else w.getLsbD i) := by
  have hrow := testBit_setBits (w.setWidth 512) (lo := k) (w := 8) b.toNat i (by omega)
  have hw : (w.setWidth 512).toNat = w.toNat := BitVec.toNat_setWidth_of_le (by decide)
  rw [setBits, Nat.mod_eq_of_lt b.isLt, hw, BitVec.testBit_toNat, BitVec.getLsbD_ofNat, decide_eq_true (by omega : i < 512),
    Bool.true_and, BitVec.testBit_toNat, BitVec.testBit_toNat] at hrow
  rw [nbaseByte, BitVec.getLsbD_shiftLeft, BitVec.getLsbD_ushiftRight, BitVec.getLsbD_ofNat]
  by_cases h : 12 ≤ i
  · rw [show 12 + (i - 12) = i by omega, hrow]
    simp [hi, h]
  · simp [h]

/-- NBASE after bytes from the `k`-th on were written. -/
def nbaseBytes (w : Word) : Nat → List Byte → Word
  | _, [] => w
  | k, b :: bs => nbaseBytes (nbaseByte w (8 * k) b) (k + 1) bs

theorem getLsbD_nbaseBytes (bs : List Byte) (w : Word) {k : Nat} (hk : k + bs.length ≤ 8) {i : Nat} (hi : i < 64) :
    (nbaseBytes w k bs).getLsbD i = ((decide (12 ≤ i) || bs.isEmpty) &&
      if 8 * k ≤ i ∧ i < 8 * (k + bs.length) then (leNat bs).testBit (i - 8 * k) else w.getLsbD i) := by
  induction bs generalizing w k with
  | nil => rw [if_neg (by simp)]; simp [nbaseBytes]
  | cons b bs ih =>
    rw [List.length_cons] at hk
    rw [nbaseBytes, ih _ (by omega), getLsbD_nbaseByte w b (by omega) hi, testBit_leNat_cons, List.length_cons]
    by_cases h12 : 12 ≤ i
    · simp only [h12, decide_true, Bool.true_or, Bool.true_and]
      by_cases hlow : 8 * k ≤ i ∧ i < 8 * k + 8
      · rw [if_neg (by omega), if_pos hlow, if_pos (by omega), if_pos (by omega)]
      · rw [if_neg hlow]
        by_cases hin : 8 * (k + 1) ≤ i ∧ i < 8 * (k + 1 + bs.length)
        · rw [if_pos hin, if_pos (by omega), if_neg (by omega), show i - 8 * (k + 1) = i - 8 * k - 8 by omega]
        · rw [if_neg hin, if_neg (by omega)]
    · cases bs with
      | nil => simp [h12]
      | cons b' bs => simp [h12]

/-- Eight bytes give NBASE whole, but for its low 12 bits. -/
theorem nbaseBytes_all {bs : List Byte} (h : bs.length = 8) (w : Word) :
    nbaseBytes w 0 bs = (BitVec.ofNat 64 (leNat bs) >>> 12) <<< 12 := by
  refine BitVec.eq_of_getLsbD_eq fun i hi => ?_
  have hne : bs.isEmpty = false := by cases bs with
    | nil => cases h
    | cons => rfl
  rw [getLsbD_nbaseBytes bs w (by omega) hi, if_pos (by omega), hne, BitVec.getLsbD_shiftLeft, BitVec.getLsbD_ushiftRight,
    BitVec.getLsbD_ofNat]
  by_cases h12 : 12 ≤ i
  · rw [show 12 + (i - 12) = i by omega]
    simp [hi, h12]
  · simp [h12]

@[simp] theorem State.setFn_setFn (s : State) (f : Nat) (x y : Fn) : (s.setFn f x).setFn f y = s.setFn f y := by
  simp [State.setFn]

theorem barByte_nbase (s : State) (f : Nat) {k : Nat} (b : Byte) (h : k < 8) :
    s.barByte f (0x1000 + k) b = s.setFn f { s.fnOf f with nbase := nbaseByte (s.fnOf f).nbase (8 * k) b } := by
  unfold State.barByte
  rw [if_pos (by omega), show 0x1000 + k - 0x1000 = k by omega]
  rfl

theorem barBytes_nbase (s : State) (f : Nat) (bs : List Byte) (x : Fn) {k : Nat} (h : k + bs.length ≤ 8) :
    (s.setFn f x).barBytes f (0x1000 + k) bs = s.setFn f { x with nbase := nbaseBytes x.nbase k bs } := by
  induction bs generalizing x k with
  | nil => rfl
  | cons b bs ih =>
    rw [List.length_cons] at h
    rw [State.barBytes, barByte_nbase _ _ _ (by omega), State.fnOf_setFn_self, State.setFn_setFn, Nat.add_assoc,
      ih _ (by omega)]
    rfl

/-- Eight bytes at 0x1000 set NBASE. -/
theorem barBytes_setNbase (s : State) (f : Nat) {bs : List Byte} (h : bs.length = 8) :
    s.barBytes f 0x1000 bs =
      s.setFn f { s.fnOf f with nbase := (BitVec.ofNat 64 (leNat bs) >>> 12) <<< 12 } := by
  rw [← nbaseBytes_all h (s.fnOf f).nbase]
  cases bs with
  | nil => cases h
  | cons b bs =>
    rw [List.length_cons] at h
    rw [State.barBytes, show (0x1000 : Nat) = 0x1000 + 0 from rfl, barByte_nbase _ _ _ (by decide), Nat.add_assoc,
      barBytes_nbase _ _ _ _ (by omega)]
    rfl

/-! ### The launch port (R84) -/

section
variable {s : State} {f off : Nat} {data : List Byte} (hup : s.hostUp f = true) (hf : f ≤ 64)
  (hr : (s.fnOf f).resetting = false)

include hup hf hr in
theorem exec_launchPortWrite_rest (hoff : 4096 ≤ off) (hlen : off + data.length ≤ 65536) (hne : data ≠ []) :
    exec (.launchPortWrite f off data) s = .next (s.barBytes f off data) := by
  show execLaunchPortWrite f off data s = _
  unfold execLaunchPortWrite
  dsimp only
  rw [if_neg (by simp [hup, hf, hr, hlen, hne, hoff]), if_pos hoff]

section
variable (hlen : off + data.length ≤ 4096) (hne : data ≠ [])

include hup hf hr hlen hne in
theorem exec_launchPortWrite_part (hw : ¬(data.length = 64 ∧ off % 64 = 0)) :
    exec (.launchPortWrite f off data) s = .next (s.setFn f { s.fnOf f with portPart := true }) := by
  have hpos : 0 < data.length := List.length_pos_of_ne_nil hne
  show execLaunchPortWrite f off data s = _
  unfold execLaunchPortWrite
  dsimp only
  rw [if_neg (by simp [hup, hf, hr, hne]; omega), if_neg (by omega),
    if_pos (by rw [Bool.not_eq_true', decide_eq_false_iff_not]; exact hw)]

include hup hf hr hlen hne in
/-- A whole slot is submitted at supervisor level, and a status other than 0 stands in LAST. -/
theorem exec_launchPortWrite_slot (hw : data.length = 64 ∧ off % 64 = 0)
    (hwaits : s.submitWaits f (BitVec.ofNat 512 (leNat data)) = false)
    (hbusy : (s.dieById f 0).any (fun d => (s.die d).islandBusy) = false) {t : State} {st : Nat}
    (hsub : s.submit f .supervisor (BitVec.ofNat 512 (leNat data)) = (t, st)) :
    exec (.launchPortWrite f off data) s = .next (if st = 0 then t else t.setFn f { t.fnOf f with last := st }) := by
  have hpos : 0 < data.length := List.length_pos_of_ne_nil hne
  show execLaunchPortWrite f off data s = _
  unfold execLaunchPortWrite
  dsimp only
  rw [if_neg (by simp [hup, hf, hr, hne]; omega), if_neg (by omega), if_neg (by simp [hw]),
    if_neg (by rw [hwaits, hbusy]; decide), hsub]
  cases st <;> rfl

/-- A malformed record is refused with its cause, and nothing of it is queued (R82). -/
theorem submit_malformed {l : Level} {r : BitVec 512} (hc : s.launchCheck f r = 0x2C0) :
    s.submit f l r = (s, 0x2C0) := by
  unfold State.submit
  dsimp only
  rw [hc, if_pos rfl]

end
end

end Sys2Proof.Machine
end

section
/-! PROOFS. Waits whose bound passed, and launches placed and completed (R84 to R90, R252, R257, R266, R365). -/

namespace Sys2Proof.Machine

/-! ### Bounds of waits (R252, R266, R365) -/

/-- The bound of a live context's own wait passed: the wait is answered, and nothing else changed. -/
theorem endWait_answers {s : State} {g : Nat} {w : Wait} {mine : Wait → Bool} (hl : (s.ctx g).live = true)
    (hw : (s.ctx g).wait = some w) (hm : mine w = true) (v : Word) (name : String) :
    Reaches (s.endWait g mine v name) fun t => WaitAnswered s t g v := by
  have hown : (s.ctx g).answerWait mine v = some { s.ctx g with wait := some (.answered v) } := by
    rw [Ctx.answerWait, hw, if_pos (by simpa using hm)]
  refine ⟨_, ?_, rfl⟩
  rw [State.endWait, hown]
  dsimp only
  rw [whenEnabled, if_pos hl]

/-- A status that does not come is answered with 2. -/
theorem exec_remoteStatusTimeout {s : State} {g : Nat} (hl : (s.ctx g).live = true)
    (hw : (s.ctx g).wait = some .remoteStatus) :
    Reaches (exec (.remoteStatusTimeout g) s) fun t => WaitAnswered { s with wires := t.wires, fns := t.fns } t g 2 := by
  refine ⟨_, (if_pos ?_ : execRemoteStatusTimeout g s = _), rfl⟩
  rw [hl, hw]
  decide

/-! ### Deliveries (R257) -/

/-- A delivery without a barrier and a message puts its bytes into the region, and is gone. -/
theorem exec_putDeliveryComplete_stored {s : State} {k : Nat} {j : PutJob} (hj : s.putAt k = some j)
    (hw : s.deliveryWaits k j = false) (hh : s.routeHeld (dieOf j.sender) (j.core / 256) = false)
    (hb : j.barrier = .none) (hm : j.message = none) :
    Reaches (exec (.putDeliveryComplete k) s) fun t => t.putAt k = none ∧
      (∀ i l, i < j.bytes.length → s.putLoc j i = some l →
        (∀ h, h < j.bytes.length → s.putLoc j h = some l → h = i) → s.locAbsent l = false →
        t.stored l = (j.bytes[i]?).getD 0) ∧
      ∀ l, (∀ i, i < j.bytes.length → s.putLoc j i ≠ some l) → t.stored l = s.stored l := by
  obtain ⟨hkeep, hput, hframe⟩ := putPieces_stored { s with puts := aerase s.puts k } j
  refine ⟨_, exec_putDeliveryComplete hj hw hh hb hm, ?_, hput, hframe⟩
  rw [State.putAt, hkeep.2.1, find?_aerase_self]
  rfl

/-! ### Completion of a launch (R90) -/

/-- A completion that writes no count is its message, where the record asked for one. -/
theorem deliver_noCount {s : State} {f : Nat} {l : Level} {r : BitVec 512} (h : field r 275 1 = 0) (status n die : Nat) :
    s.deliver f l r status n die = if field r 274 1 = 1 then s.post
      { src := s.unitEndpoint f die 9, fn := f, dest := field r 256 18, cls := field r 276 4, kind := 4, device := true,
        payload := BitVec.ofNat 256 (field r 288 32 + n % 2 ^ 32 * 2 ^ 32 + status * 2 ^ 64) } else s := by
  unfold State.deliver
  rw [if_neg (by omega : ¬ field r 275 1 = 1)]
  rfl

theorem wireAt_post (s : State) (w : Wire) : (s.post w).wireAt s.serial = some w :=
  congrArg (Option.map _) (find?_aset_self ..)

/-- A complete launch is gone, with its message on the way. -/
theorem exec_launchCompletion {s : State} {f lid : Nat} {l : Launch}
    (hl : s.launches.find? (fun p => p.1 == launchKey f lid) = some (launchKey f lid, l))
    (hp : l.placed = recCrews l.record) (hc : l.completed + l.lost = l.placed) (ht : l.tainted = false) :
    exec (.launchCompletion f lid) s = .next
      { s.deliver f l.level l.record l.status l.completed l.lastDie with
        launches := aerase (s.deliver f l.level l.record l.status l.completed l.lastDie).launches (launchKey f lid) } := by
  show execLaunchCompletion f lid s = _
  unfold execLaunchCompletion
  rw [hl]
  dsimp only
  rw [ht, whenEnabled, if_pos (by rw [Launch.complete]; simp [hc, hp])]

/-! ### Placement of a crew (R85 to R87) -/

/-- The launches and the launch queues of every function stay as they are. -/
def KeepsLaunches (s t : State) : Prop :=
  t.launches = s.launches ∧ ∀ f, (t.fnOf f).lqueues = (s.fnOf f).lqueues

theorem KeepsLaunches.refl (s : State) : KeepsLaunches s s := ⟨rfl, fun _ => rfl⟩

theorem KeepsLaunches.trans {s t u : State} (h : KeepsLaunches s t) (k : KeepsLaunches t u) : KeepsLaunches s u :=
  ⟨k.1.trans h.1, fun f => (k.2 f).trans (h.2 f)⟩

theorem KeepsLaunches.foldl {α : Type} {f : State → α → State} (hf : ∀ s a, KeepsLaunches s (f s a)) (l : List α)
    (s : State) : KeepsLaunches s (l.foldl f s) := by
  induction l generalizing s with
  | nil => exact .refl s
  | cons a l ih => exact (hf s a).trans (ih _)

theorem KeepsLaunches.queueAt {s t : State} (h : KeepsLaunches s t) {f lvl : Nat} (hlvl : lvl < 4) :
    t.queueAt (launchQueue f lvl) = s.queueAt (launchQueue f lvl) := by
  rw [queueAt_launch hlvl, queueAt_launch hlvl, h.2]

theorem setAside_keepsLaunches (s : State) (crew ng core : Nat) : KeepsLaunches s (s.setAside crew ng core) := by
  unfold State.setAside
  dsimp only
  rw [writeBack_l2 s _]
  exact ⟨rfl, fun _ => rfl⟩

theorem reclaimChannels_keepsLaunches (s : State) (g f : Nat) : KeepsLaunches s (s.reclaimChannels g f) := by
  refine ⟨rfl, fun n => ?_⟩
  rw [State.reclaimChannels, State.count]
  by_cases h : n = f
  · subst h
    rw [State.fnOf_setFn_self]
    rfl
  · rw [State.fnOf_setFn_ne _ _ h]
    rfl

/-- The threads of a crew start, each on its context. -/
def State.startThreads (s : State) (f crew : Nat) (r : BitVec 512) (c : Nat) (gs : List Nat) : State :=
  (gs.zip (List.range gs.length)).foldl (fun s p => s.setCtx p.1 (s.startCtx f crew r false c p.2 p.1)) s

/-- A crew of a clean record is placed: it is listed with its threads started. -/
theorem placeCrew_eq (s : State) (f lid c : Nat) (r : BitVec 512) (cl : Nat) (gs : List Nat) :
    ∃ t, KeepsLaunches s t ∧ s.placeCrew f lid c r false cl gs =
      { t.startThreads f s.serial r c gs with
        crews := aset (t.startThreads f s.serial r c gs).crews s.serial
          { fn := f, lid := lid, cidx := c, cluster := cl, threads := gs, cores := coresOf gs, granules := recGranules r } } := by
  refine ⟨_, ?_, rfl⟩
  refine KeepsLaunches.trans ?_ (.foldl (fun s g => reclaimChannels_keepsLaunches s g f) _ _)
  split
  · exact ⟨rfl, fun _ => rfl⟩
  · exact KeepsLaunches.trans (t := { s with serial := s.serial + 1 }) ⟨rfl, fun _ => rfl⟩
      (.foldl (fun s n => setAside_keepsLaunches s _ _ n) _ _)

/-- A context is some state's start state of a thread. -/
def Started (x : Ctx) (f crew : Nat) (r : BitVec 512) (c i g : Nat) : Prop :=
  ∃ u : State, x = u.startCtx f crew r false c i g

theorem foldl_start {f crew c : Nat} {r : BitVec 512} (ps : List (Nat × Nat)) (hd : (ps.map Prod.fst).Nodup) (s : State) :
    let t := ps.foldl (fun s p => s.setCtx p.1 (s.startCtx f crew r false c p.2 p.1)) s
    KeepsLaunches s t ∧ (∀ g, g ∉ ps.map Prod.fst → t.ctx g = s.ctx g) ∧
      ∀ p ∈ ps, Started (t.ctx p.1) f crew r c p.2 p.1 := by
  induction ps generalizing s with
  | nil => exact ⟨.refl s, fun _ _ => rfl, fun _ h => absurd h (by simp)⟩
  | cons p ps ih =>
    rw [List.map_cons, List.nodup_cons] at hd
    obtain ⟨hkeep, hframe, hstart⟩ := ih hd.2 (s.setCtx p.1 (s.startCtx f crew r false c p.2 p.1))
    refine ⟨KeepsLaunches.trans ⟨rfl, fun _ => rfl⟩ hkeep, fun g hg => ?_, fun q hq => ?_⟩
    · rw [List.map_cons, List.mem_cons, not_or] at hg
      exact (hframe g hg.2).trans (State.ctx_setCtx_ne _ _ hg.1)
    · rcases List.mem_cons.1 hq with rfl | hq
      · exact ⟨s, (hframe q.1 hd.1).trans (State.ctx_setCtx_self ..)⟩
      · exact hstart q hq

/-- Each thread stands on its own context in its start state. -/
theorem startThreads_started {f crew c : Nat} {r : BitVec 512} {gs : List Nat} (hd : gs.Nodup) (s : State) :
    KeepsLaunches s (s.startThreads f crew r c gs) ∧
    ∀ (i g : Nat), gs[i]? = some g → Started ((s.startThreads f crew r c gs).ctx g) f crew r c i g := by
  have hfst : (gs.zip (List.range gs.length)).map Prod.fst = gs := List.map_fst_zip (by simp)
  obtain ⟨hkeep, -, hstart⟩ := foldl_start (f := f) (crew := crew) (c := c) (r := r)
    (gs.zip (List.range gs.length)) (by rw [hfst]; exact hd) s
  refine ⟨hkeep, fun i g h => hstart (g, i) (List.mem_iff_getElem?.2 ⟨i, ?_⟩)⟩
  have hi : i < gs.length := (List.getElem?_eq_some_iff.1 h).1
  rw [List.getElem?_zip_eq_some]
  exact ⟨h, List.getElem?_range hi⟩

theorem aget_of_not_listed {α : Type} (d : α) {m : Assoc α} {i : Nat} (h : i ∉ m.map Prod.fst) : aget d m i = d := by
  induction m with
  | nil => rfl
  | cons p m ih =>
    rw [List.map_cons, List.mem_cons, not_or] at h
    rw [aget, if_neg h.1, ih h.2]

/-- A table reads the same without the entries at its default, where no key stands twice. -/
theorem aget_filter_ne_default (m : Assoc Word) (hd : (m.map Prod.fst).Nodup) (i : Nat) :
    aget 0 (m.filter fun p => p.2 != 0) i = aget 0 m i := by
  induction m with
  | nil => rfl
  | cons p m ih =>
    obtain ⟨k, v⟩ := p
    rw [List.map_cons, List.nodup_cons] at hd
    by_cases hv : v = 0
    · rw [List.filter_cons_of_neg (by simp [hv]), ih hd.2, aget]
      split
      · next h =>
        rw [h]
        refine Eq.trans ?_ hv.symm
        exact aget_of_not_listed 0 hd.1
      · rfl
    · rw [List.filter_cons, if_pos (bne_iff_ne.2 hv), aget, aget, ih hd.2]

/-- The registers a thread starts with (R87). -/
def startRegs (r : BitVec 512) (c i : Nat) : Assoc Word :=
  [(2, BitVec.ofNat 64 (field r 320 64 + (c * recThreads r + i + 1) * field r 448 32)), (3, BitVec.ofNat 64 (field r 64 64)),
    (4, BitVec.ofNat 64 c), (5, BitVec.ofNat 64 i), (6, BitVec.ofNat 64 (recThreads r)), (7, BitVec.ofNat 64 (recCrews r))]

theorem Started.raw {x : Ctx} {f crew c i g : Nat} {r : BitVec 512} (h : Started x f crew r c i g) {n : BitVec 5}
    (hn : n ≠ 0) : x.raw n = (aget 0 (startRegs r c i) n.toNat, false) := by
  obtain ⟨u, rfl⟩ := h
  have hregs := aget_filter_ne_default (startRegs r c i) (List.nodup_iff_pairwise_ne.2 (by simp [startRegs])) n.toNat
  rw [Ctx.raw, if_neg hn, ← hregs]
  exact Prod.ext rfl BitVec.getLsbD_zero

/-- What the record gives a thread to start with (R87): its PC, its level, its crew and its place in it, ARG, the crew's
index and its own. -/
theorem Started.facts {x : Ctx} {f crew c i g : Nat} {r : BitVec 512} (h : Started x f crew r c i g) :
    x.live = true ∧ x.pc = BitVec.ofNat 64 (field r 0 64) ∧ x.level = .user ∧ x.crew = some crew ∧ x.tidx = i ∧ x.fn = f ∧
    x.raw 3 = (BitVec.ofNat 64 (field r 64 64), false) ∧ x.raw 4 = (BitVec.ofNat 64 c, false) ∧
    x.raw 5 = (BitVec.ofNat 64 i, false) := by
  have hraw := fun {n : BitVec 5} => h.raw (n := n)
  obtain ⟨u, rfl⟩ := h
  exact ⟨rfl, rfl, rfl, rfl, rfl, rfl, hraw (by decide), hraw (by decide), hraw (by decide)⟩

/-- A crew of a clean record is placed: it is listed under the next serial number, and each of its threads is started. -/
theorem placeCrew_placed {s : State} {f lid c cl : Nat} {r : BitVec 512} {gs : List Nat} (hd : gs.Nodup) :
    let t := s.placeCrew f lid c r false cl gs
    KeepsLaunches s t ∧
    t.crewOf s.serial = some
      { fn := f, lid := lid, cidx := c, cluster := cl, threads := gs, cores := coresOf gs, granules := recGranules r } ∧
    ∀ (i g : Nat), gs[i]? = some g → Started (t.ctx g) f s.serial r c i g := by
  obtain ⟨t, hkeep, h⟩ := placeCrew_eq s f lid c r cl gs
  obtain ⟨hkeep', hstart⟩ := startThreads_started (f := f) (crew := s.serial) (c := c) (r := r) hd t
  rw [h]
  exact ⟨hkeep.trans hkeep', crewOf_aset .., hstart⟩

/-- A crew of a level's head record was placed: the launch counts it, the head is young again, and the record leaves with
its last crew (R85). -/
def State.crewTaken (s : State) (f lvl : Nat) (e : QEntry) (rest : List QEntry) (c : Nat) : State :=
  let v := s.updLaunch (launchKey f e.lid) fun l =>
    { l with record := recOf e.words, tainted := l.tainted || recPoison e.words, placed := c + 1 }
  let w := v.setFn f { v.fnOf f with headAge := aput false (v.fnOf f).headAge lvl false }
  if c + 1 = recCrews (recOf e.words) then
    w.setQueueAt (launchQueue f lvl) { w.queueAt (launchQueue f lvl) with chip := rest }
  else w

theorem crewTaken_facts {s : State} {f lvl : Nat} {e : QEntry} {rest : List QEntry} {c : Nat} {p : Nat × Launch}
    (hlvl : lvl < 4) (hchip : (s.queueAt (launchQueue f lvl)).chip = e :: rest)
    (hp : s.launches.find? (fun p => p.1 == launchKey f e.lid) = some p) :
    let t := s.crewTaken f lvl e rest c
    t.crews = s.crews ∧ t.ctxs = s.ctxs ∧ (aget { record := 0 } t.launches (launchKey f e.lid)).placed = c + 1 ∧
      (t.queueAt (launchQueue f lvl)).chip = if c + 1 = recCrews (recOf e.words) then rest else e :: rest := by
  have hupd := updLaunch_launches (fun l : Launch =>
    { l with record := recOf e.words, tainted := l.tainted || recPoison e.words, placed := c + 1 }) hp
  obtain ⟨ls, hv⟩ := updLaunch_eq s (launchKey f e.lid) fun l =>
    { l with record := recOf e.words, tainted := l.tainted || recPoison e.words, placed := c + 1 }
  rw [hv] at hupd
  have hplaced := aget_of_find? { record := 0 } hupd
  unfold State.crewTaken
  dsimp only
  rw [hv]
  rw [queueAt_launch hlvl] at hchip
  by_cases hlast : c + 1 = recCrews (recOf e.words)
  · rw [if_pos hlast, if_pos hlast, setQueueAt_launch hlvl]
    refine ⟨rfl, rfl, congrArg Launch.placed hplaced, ?_⟩
    rw [queueAt_launch hlvl, State.fnOf_setFn_self]
    exact congrArg Queue.chip (aget_aset_self ..)
  · rw [if_neg hlast, if_neg hlast]
    refine ⟨rfl, rfl, congrArg Launch.placed hplaced, ?_⟩
    rw [queueAt_launch hlvl, State.fnOf_setFn_self]
    exact hchip

section
variable {s : State} {die f lvl : Nat} {e : QEntry} {rest : List QEntry} {l : Launch} {cl : Nat} {gs : List Nat}
  (hchip : (s.queueAt (launchQueue f lvl)).chip = e :: rest)
  (hl : s.launches.find? (fun p => p.1 == launchKey f e.lid) = some (launchKey f e.lid, l))
  (hclean : recPoison e.words = false)
  (hfind : s.findCluster f die (recThreads (recOf e.words)) (recLaneMin (recOf e.words)) (recGranules (recOf e.words)) =
    some (cl, gs))
  (hlow : s.lowerDieFits f die (recThreads (recOf e.words)) (recLaneMin (recOf e.words)) (recGranules (recOf e.words)) = false)

include hchip hl hclean hfind hlow in
theorem placeLevel_eq : s.placeLevel die f lvl =
    some ((s.placeCrew f e.lid l.placed (recOf e.words) false cl gs).crewTaken f lvl e rest l.placed) := by
  unfold State.placeLevel
  dsimp only
  rw [hchip]
  dsimp only
  rw [hl, hfind]
  dsimp only
  rw [hlow, hclean, State.crewTaken, hclean]
  rfl

variable (hres : s.resumptions f = []) (hserved : s.servedLevels f = [lvl])

include hres hserved hchip hl hclean hfind hlow in
/-- With no resumption waiting, the placer takes the next crew of the level it serves. -/
theorem exec_crewPlacement : exec (.crewPlacement die f) s =
    .next ((s.placeCrew f e.lid l.placed (recOf e.words) false cl gs).crewTaken f lvl e rest l.placed) := by
  have hhere : s.resumeHere die f = none := by rw [State.resumeHere, hres]; rfl
  have hfirst : ∀ n, s.resumeFirst f n = false := fun n => by rw [State.resumeFirst, hres]; rfl
  show execCrewPlacement die f s = _
  unfold execCrewPlacement State.placeNext
  rw [hhere, hserved, List.filter_cons, if_pos (by rw [hfirst]; rfl), List.filter_nil, List.findSome?_cons,
    placeLevel_eq hchip hl hclean hfind hlow]

end

theorem lowerDieFits_false {s : State} {f die t laneMin ng : Nat}
    (h : ∀ p, (s.fnOf f).part = some p → ∀ d, d ∈ p.dies.takeWhile (· != die) → s.findCluster f d t laneMin ng = none) :
    s.lowerDieFits f die t laneMin ng = false := by
  unfold State.lowerDieFits
  split
  · rfl
  · next p hp =>
    rw [List.any_eq_false]
    intro d hd
    rw [h p hp d hd]
    decide

end Sys2Proof.Machine
end

section
/-! PROOFS. Waits, deliveries and launches together (O49). -/

namespace Sys2Proof.Machine

section
variable {s : State} {f : Nat} (hup : s.hostUp f = true) (hf : f ≤ 64)

include hup hf in
theorem exec_portstatRead : exec (.portstatRead f) s =
    .next { s.setFn f { s.fnOf f with last := 0, portPart := false } with answer := s.portstat f } :=
  if_pos (by rw [hup, decide_eq_true hf]; rfl)

section
variable {off : Nat} {data : List Byte} (hr : (s.fnOf f).resetting = false) (hlen : off + data.length ≤ 4096)
  (hne : data ≠ []) (hw : data.length = 64 ∧ off % 64 = 0)
  (hbusy : (s.dieById f 0).any (fun d => (s.die d).islandBusy) = false)

include hup hf hr hlen hne hw hbusy in
/-- A malformed record in a whole slot leaves its cause in LAST. -/
theorem exec_launchPortWrite_malformed (hc : s.launchCheck f (BitVec.ofNat 512 (leNat data)) = 0x2C0) :
    exec (.launchPortWrite f off data) s = .next (s.setFn f { s.fnOf f with last := 0x2C0 }) := by
  have hwaits : s.submitWaits f (BitVec.ofNat 512 (leNat data)) = false := by rw [State.submitWaits, hc]; rfl
  rw [exec_launchPortWrite_slot hup hf hr hlen hne hw hwaits hbusy (submit_malformed hc), if_neg (by decide)]

include hup hf hr hlen hne hw hbusy in
/-- A good record in a whole slot is queued under the function's next number, at supervisor level. -/
theorem exec_launchPortWrite_good :
    let r := BitVec.ofNat 512 (leNat data)
    let q := s.queueAt (launchQueue f (recLevel r))
    s.launchCheck f r = 0 → q.stopped = false → q.chip.length < 16 → q.used = 0 →
    Reaches (exec (.launchPortWrite f off data) s) fun t => SameBytes s t ∧
      (t.fnOf f).lid = ((s.fnOf f).lid + 1) % 2 ^ 32 ∧
      aget { record := 0 } t.launches (launchKey f (s.fnOf f).lid) = { record := r, level := .supervisor } ∧
      t.queueAt (launchQueue f (recLevel r)) = { q with
        chip := q.chip ++ [{ words := recWords r, level := .supervisor, lid := (s.fnOf f).lid }] } := by
  intro r q hc hstop hroom hring
  obtain ⟨t, hsub, hfacts⟩ := submit_onChip (l := .supervisor) hc hroom hring
  have hwaits : s.submitWaits f r = false := by rw [State.submitWaits, hstop, Bool.and_false]
  exact ⟨t, (exec_launchPortWrite_slot hup hf hr hlen hne hw hwaits hbusy hsub).trans (by rw [if_pos rfl]), hfacts⟩

end
end

/-- Settles O49: each clause is the lemma about its event. -/
theorem waitDeliveryAndLaunchEvents : Obligations.WaitDeliveryAndLaunchEvents := by
  intro s g f k
  refine ⟨fun hl => ⟨fun ch n hw hn => ?_, fun at_ key phase n hw hn => ?_, exec_remoteStatusTimeout hl⟩,
    fun j hj hw hh hb hm => ?_, fun hup hf => ⟨⟨_, exec_portstatRead hup hf, rfl⟩, fun hr hbusy off data hne =>
      ⟨fun hlen hpart => ?_, fun hlen h64 halign => ⟨fun hc => ?_, ?_⟩, fun hoff h8 => ?_⟩⟩,
    fun lvl hlvl hchip => ?_, ?_, ?_⟩
  · exact endWait_answers hl hw ((bne_iff_ne (a := n)).2 hn) 1 _
  · exact endWait_answers hl hw ((bne_iff_ne (a := n)).2 hn) 1 _
  · obtain ⟨t, hexec, hgone, hput, hframe⟩ := exec_putDeliveryComplete_stored hj hw hh hb hm
    exact ⟨t, hexec, hgone, hput, hframe⟩
  · exact ⟨_, exec_launchPortWrite_part hup hf hr hlen hne hpart, rfl⟩
  · exact ⟨_, exec_launchPortWrite_malformed hup hf hr hlen hne ⟨h64, halign⟩ hbusy hc, rfl⟩
  · exact exec_launchPortWrite_good hup hf hr hlen hne ⟨h64, halign⟩ hbusy
  · subst hoff
    rw [← barBytes_setNbase s f h8]
    exact ⟨_, exec_launchPortWrite_rest hup hf hr (by decide) (by omega) hne, rfl⟩
  · have hlist : (s.queueAt (launchQueue f lvl)).chip.isEmpty = false := by simpa using hchip
    exact ⟨_, if_pos (by rw [decide_eq_true hlvl, hlist]; rfl), rfl⟩
  · intro die lvl e rest l cl gs hres hserved hlvl hchip hl hclean r hfind hd hlow
    obtain ⟨hkeep, hcrew, hstart⟩ := placeCrew_placed (s := s) (f := f) (lid := e.lid) (c := l.placed) (cl := cl) (r := r) hd
    obtain ⟨hcrews, hctxs, hplaced, hleft⟩ := crewTaken_facts (c := l.placed) hlvl
      ((congrArg Queue.chip (hkeep.queueAt hlvl)).trans hchip) ((congrArg _ hkeep.1).trans hl)
    refine ⟨_, exec_crewPlacement hchip hl hclean hfind (lowerDieFits_false hlow) hres hserved,
      ⟨_, by rw [State.crewOf, hcrews]; exact hcrew, rfl, rfl, rfl, rfl, rfl⟩, hplaced, hleft, fun i h hi => ?_⟩
    rw [State.ctx, hctxs]
    exact (hstart i h hi).facts
  · intro lid l hl hp hc hcount ht
    refine ⟨_, exec_launchCompletion hl hp hc ht, ?_⟩
    rw [deliver_noCount hcount]
    have hgone : ∀ p ∈ aerase s.launches (launchKey f lid), p.1 ≠ launchKey f lid := fun p hp =>
      bne_iff_ne.1 (List.mem_filter.1 hp).2
    by_cases hm : field l.record 274 1 = 1
    · rw [if_pos hm]
      exact ⟨⟨fun _ => rfl, fun _ => rfl⟩, hgone, fun h => absurd (hm.symm.trans h) (by decide),
        fun _ => ⟨_, wireAt_post .., rfl, rfl, rfl, rfl⟩⟩
    · rw [if_neg hm]
      exact ⟨⟨fun _ => rfl, fun _ => rfl⟩, hgone, fun _ => rfl, fun h => absurd h hm⟩

end Sys2Proof.Machine
end

section
/-! PROOFS. Threads that stop, and the requests at a port (R97, R98, R318, R331, R332). -/

namespace Sys2Proof.Machine

/-! ### A thread stops (R97, R274, R277) -/

@[simp] theorem State.setCtx_setCtx (s : State) (g : Nat) (c c' : Ctx) : (s.setCtx g c).setCtx g c' = s.setCtx g c' := by
  simp [State.setCtx]

/-- A context that was handed nothing gives nothing back. -/
theorem handBack_setCtx (s : State) (g : Nat) {c : Ctx} (hc : c.handed = none) (hh : ∀ h ∈ c.handlers, h.handed = none) :
    (s.setCtx g c).handBack g = s.setCtx g c := by
  have hitems : c.handed.toList ++ c.handlers.filterMap (·.handed) = [] := by
    rw [hc, List.append_eq_nil_iff, List.filterMap_eq_nil_iff]
    exact ⟨rfl, hh⟩
  have hframes : (c.handlers.map fun h : HandlerFrame => { h with handed := none }) = c.handlers := by
    rw [List.map_congr_left fun h hm => by rw [← hh h hm], List.map_id']
  rw [State.handBack, State.ctx_setCtx_self]
  rw [hitems, hframes, ← hc, State.setCtx_setCtx]
  rfl

theorem mayStop_iff (c : Ctx) : c.mayStop = true ↔
    c.preempt = .asked ∧ (c.vq = [] ∨ c.vec.lanes ≠ []) ∧ c.holdsPreempt = false := by
  simp [Ctx.mayStop, and_assoc]

/-! ### A request ends (R331) -/

theorem endRequest_ctx (s : State) (d n start g : Nat) : (s.endRequest d n start).ctx g = (s.ctx g).served d n :=
  aget_map (α := Ctx) {} (fun c => c.served d n) rfl s.ctxs g

theorem endRequest_die (s : State) (d n start : Nat) : (s.endRequest d n start).die d = { s.die d with
    prqWork := none, prqstat := BitVec.ofNat 64 (2 ^ 63 + n * 2 ^ 60 + (s.clock - start) % 2 ^ 32) } :=
  State.die_setDie_self ..

theorem endRequest_sameBytes (s : State) (d n start : Nat) : SameBytes s (s.endRequest d n start) := by
  have h := setDie_sameBytes (s := s) (d := d) (x := { s.die d with
    prqWork := none, prqstat := BitVec.ofNat 64 (2 ^ 63 + n * 2 ^ 60 + (s.clock - start) % 2 ^ 32) }) rfl
  exact ⟨h.1, h.2⟩

theorem find?_map_value {α : Type} (f : α → α) (m : Assoc α) (k : Nat) :
    (m.map fun p => (p.1, f p.2)).find? (fun p => p.1 == k) = (m.find? (fun p => p.1 == k)).map fun p => (p.1, f p.2) := by
  rw [List.find?_map]
  rfl

theorem endRequest_crewOf (s : State) (d n start k : Nat) : (s.endRequest d n start).crewOf k =
    (s.crewOf k).map fun c => { c with kept := c.kept.map fun x => x.served d n } := by
  unfold State.crewOf
  rw [State.endRequest]
  dsimp only
  rw [find?_map_value (fun c : Crew => { c with kept := c.kept.map fun x => x.served d n }), Option.map_map, Option.map_map]
  rfl

/-! ### A request of management (R331, R332) -/

/-- The writes of PRQ with GO and KIND 0. -/
theorem prqKind {v : Word} {k : Nat} (hk : k < 4) (h : v.toNat / 2 ^ 61 = 4 + k) :
    bit v 63 = true ∧ bitsOf v.toNat 61 2 = k := by
  constructor
  · rw [bit, ← BitVec.testBit_toNat, Nat.testBit_eq_decide_div_mod_eq]
    have := Nat.div_div_eq_div_mul v.toNat (2 ^ 61) (2 ^ 2)
    exact decide_eq_true (by omega)
  · rw [bitsOf_eq]
    omega

/-- The port after PRQ was written: its stored word, with nothing in progress yet. -/
def State.withPrq (s : State) (d : Nat) (v : Word) : State :=
  s.setDie d { s.die d with prq := v &&& 0x6000000000001FFF#64 }

section
variable {s : State} {d : Nat} {v : Word} (hw : (s.die d).prqWork = none) (g : Nat)

include hw in
theorem prqWrite_preempt (hv : v.toNat / 2 ^ 61 = 4) (hdie : v.toNat / 256 % 8 = d) :
    s.prqWrite d v g = (s.withPrq d v).submitPreempt d (4 * (v.toNat % 2048) + v.toNat / 2048 % 4)
      (s.die d).prqaddr.toNat none := by
  obtain ⟨hgo, hkind⟩ := prqKind (k := 0) (by decide) hv
  have hname : 4 * bitsOf v.toNat 0 11 + bitsOf v.toNat 11 2 = 4 * (v.toNat % 2048) + v.toNat / 2048 % 4 := by
    rw [bitsOf_eq, bitsOf_eq]; omega
  have hnum : bitsOf v.toNat 8 3 = d := by rw [bitsOf_eq]; exact hdie
  unfold State.prqWrite
  dsimp only
  rw [if_neg (by simp [hw]), if_neg (by simp [hgo]), hkind]
  rw [if_neg (not_not.2 hnum), hname]
  rfl

include hw in
theorem prqWrite_resume (hv : v.toNat / 2 ^ 61 = 5) {f : Nat}
    (hf : (s.withPrq d v).fnOfArea (s.die d).prqaddr.toNat = some f) :
    s.prqWrite d v g = (s.withPrq d v).submitResume d f (s.die d).prqaddr.toNat := by
  obtain ⟨hgo, hkind⟩ := prqKind (k := 1) (by decide) hv
  rw [State.withPrq] at hf
  unfold State.prqWrite
  dsimp only
  rw [if_neg (by simp [hw]), if_neg (by simp [hgo]), hkind]
  rw [hf]
  rfl

end

section
variable {s : State} {d : Nat} {v : Word} (hd : d < 8) (hp : (s.die d).state = .present) (hm : s.mgmt = true)
  (hb : s.mgmtBusy = false)

include hb in
theorem mgmtPrq_eq : s.mgmtPrq d v = { s.prqWrite d v mgmtWriter with answer := 0 } := if_neg (by simp [hb])

include hd hp hm hb in
theorem exec_prqPreempt (hv : v.toNat / 2 ^ 61 = 4) :
    exec (.prqPreempt d v) s = .next { s.prqWrite d v mgmtWriter with answer := 0 } := by
  obtain ⟨hgo, hkind⟩ := prqKind (k := 0) (by decide) hv
  rw [← mgmtPrq_eq hb]
  exact if_pos (by simp [hgo, hkind, hd, hm, hp])

include hd hp hm hb in
theorem exec_prqResume (hv : v.toNat / 2 ^ 61 = 5) :
    exec (.prqResume d v) s = .next { s.prqWrite d v mgmtWriter with answer := 0 } := by
  obtain ⟨hgo, hkind⟩ := prqKind (k := 1) (by decide) hv
  rw [← mgmtPrq_eq hb]
  exact if_pos (by simp [hgo, hkind, hd, hm, hp])

end

/-- Nothing of the machine but the port's stored word changed. -/
theorem withPrq_sameBytes (s : State) (d : Nat) (v : Word) : SameBytes s (s.withPrq d v) := setDie_sameBytes rfl

/-! ### A PREEMPT request (R332, step 1) -/

/-- A request that names no resident crew ends with RESULT 1. -/
theorem submitPreempt_none {s : State} {g : Nat} (h : s.crewAt g = none) (d area : Nat) (only : Option Nat) :
    s.submitPreempt d g area only = s.endRequest d 1 s.clock := by
  unfold State.submitPreempt
  rw [h]

/-- The thread is asked to stop. -/
def State.ask (s : State) (x : Nat) : State := s.setCtx x { s.ctx x with preempt := .asked }

theorem foldl_ask (gs : List Nat) (s : State) : (∃ cs, gs.foldl State.ask s = { s with ctxs := cs }) ∧
    ∀ x, (gs.foldl State.ask s).ctx x = if x ∈ gs then { s.ctx x with preempt := .asked } else s.ctx x := by
  induction gs generalizing s with
  | nil => exact ⟨⟨s.ctxs, rfl⟩, fun x => (if_neg (by simp)).symm⟩
  | cons g gs ih =>
    obtain ⟨⟨cs, hcs⟩, hctx⟩ := ih (s.ask g)
    refine ⟨⟨cs, hcs⟩, fun x => (hctx x).trans ?_⟩
    rw [State.ask, State.ctx_setCtx]
    by_cases hx : x = g
    · subst hx
      simp
    · simp [hx]

/-- What runs over the numbers of a crew's threads runs over their contexts. -/
theorem foldl_contexts {threads : List Nat} {f g : State → Nat → State} (hnone : ∀ s i, threads[i]? = none → f s i = s)
    (hsome : ∀ s i x, threads[i]? = some x → f s i = g s x) (l : List Nat) (s : State) :
    l.foldl f s = (l.filterMap fun i => threads[i]?).foldl g s := by
  induction l generalizing s with
  | nil => rfl
  | cons i l ih =>
    rw [List.foldl_cons, List.filterMap_cons]
    cases hx : threads[i]? with
    | none => rw [hnone s i hx, ih]
    | some x => rw [hsome s i x hx, ih, List.foldl_cons]

/-- A request for a resident crew whose save area translates asks every live thread. -/
theorem submitPreempt_asks {s u : State} {g k d area : Nat} {c : Crew} {ps : List Part} (hk : s.crewAt g = some k)
    (hc : s.crewOf k = some c)
    (hr : s.resolve (saveAgent c.fn) .spill area (areaSize c.threads.length c.cores.length c.granules) = (u, .ok ps)) :
    let t := s.submitPreempt d g area none
    (t.die d).prqWork = some { resume := false, crew := k, area := BitVec.ofNat 64 area, start := u.clock } ∧
    ∀ x ∈ c.held, t.ctx x = { u.ctx x with preempt := .asked } := by
  obtain ⟨⟨cs, hcs⟩, hctx⟩ := foldl_ask c.held u
  unfold State.submitPreempt
  rw [hk]
  dsimp only
  rw [hc]
  dsimp only
  rw [if_neg (by simp), hr]
  dsimp only
  rw [foldl_contexts (g := State.ask) (fun s i h => by rw [h]) (fun s i x h => by rw [h]; rfl), ← Crew.held]
  refine ⟨?_, fun x hx => ?_⟩
  · rw [State.die_setDie_self, hcs]
  · exact (hctx x).trans (if_pos hx)

end Sys2Proof.Machine
end

section
/-! PROOFS. A crew saved: its threads have stopped and hold nothing, its image is written, and its contexts are free
(R332). -/

namespace Sys2Proof.Machine

theorem forceRevoke_noLanes {s : State} {g : Nat} (h : (s.ctx g).lanes = 0) (cause : Nat) (waiter : Option Nat) :
    s.forceRevoke g cause waiter = s := if_pos h

theorem flushMsg_nothing {s : State} {g : Nat} {q : Nat → Bool} (h : s.ownMsgs g q = []) : s.flushMsg g q = s := by
  have hone : s.flushOnce g q = s := by rw [State.flushOnce, h]; rfl
  rw [State.flushMsg, hone, hone]

theorem foldl_fixed {α : Type} {f : State → α → State} {s : State} (l : List α) (h : ∀ a ∈ l, f s a = s) :
    l.foldl f s = s := by
  induction l with
  | nil => rfl
  | cons a l ih => rw [List.foldl_cons, h a (List.mem_cons_self ..), ih fun b hb => h b (List.mem_cons_of_mem _ hb)]

/-- The tables of contexts and the clock stay as they are. -/
def KeepsCtxs (s t : State) : Prop := t.ctxs = s.ctxs ∧ t.clock = s.clock

theorem KeepsCtxs.foldl {α : Type} {f : State → α → State} (hf : ∀ s a, KeepsCtxs s (f s a)) (l : List α) (s : State) :
    KeepsCtxs s (l.foldl f s) := by
  induction l generalizing s with
  | nil => exact ⟨rfl, rfl⟩
  | cons a l ih => exact ⟨(ih _).1.trans (hf s a).1, (ih _).2.trans (hf s a).2⟩

/-- The contexts of a saved crew become free, each if it is the crew's. -/
def State.freeThread (s : State) (key : Nat) (p : Nat × Nat) : State :=
  if (s.ctx p.1).crew = some key then ((s.leaveQueues p.1).renameOwner p.1 (savedOwner key p.2)).freeCtx p.1 else s

theorem freeCtx_clock (s : State) (g : Nat) : (s.freeCtx g).clock = s.clock := rfl

theorem freeThread_ctx (s : State) (key : Nat) (p : Nat × Nat) : (s.freeThread key p).clock = s.clock ∧
    ∀ g, (s.freeThread key p).ctx g = if g = p.1 ∧ (s.ctx g).crew = some key then {} else s.ctx g := by
  unfold State.freeThread
  by_cases hk : (s.ctx p.1).crew = some key
  · rw [if_pos hk]
    refine ⟨freeCtx_clock .., fun g => ?_⟩
    rw [State.freeCtx, State.ctx_setCtx]
    by_cases hg : g = p.1
    · subst hg
      simp [hk]
    · simp only [hg, if_false, false_and]
      rfl
  · rw [if_neg hk]
    refine ⟨rfl, fun g => (if_neg ?_).symm⟩
    rintro ⟨rfl, h⟩
    exact hk h

theorem foldl_freeThread (key : Nat) (ps : List (Nat × Nat)) (s : State) :
    (ps.foldl (fun s p => s.freeThread key p) s).clock = s.clock ∧
    ∀ g, (ps.foldl (fun s p => s.freeThread key p) s).ctx g =
      if g ∈ ps.map Prod.fst ∧ (s.ctx g).crew = some key then {} else s.ctx g := by
  induction ps generalizing s with
  | nil => exact ⟨rfl, fun g => (if_neg (by simp)).symm⟩
  | cons p ps ih =>
    obtain ⟨hclock, hctx⟩ := freeThread_ctx s key p
    obtain ⟨hclock', hctx'⟩ := ih (s.freeThread key p)
    refine ⟨hclock'.trans hclock, fun g => (hctx' g).trans ?_⟩
    rw [hctx g]
    by_cases h : g = p.1 ∧ (s.ctx g).crew = some key
    · rw [if_pos h, ite_self, if_pos ⟨by simp [h.1], h.2⟩]
    · rw [if_neg h]
      refine if_congr (and_congr_left fun hk => ?_) rfl rfl
      rw [List.map_cons, List.mem_cons, or_iff_right fun hg => h ⟨hg, hk⟩]

theorem honour_clock (s : State) (cl : Nat) : (s.honour cl).clock = s.clock := by
  obtain ⟨cs, h⟩ := honour_eq s cl
  rw [h]

/-- What the cores and the contexts of a saved crew give back. -/
def State.freeThreads (s : State) (key : Nat) (k : Crew) : State :=
  (k.threads.zip (List.range k.threads.length)).foldl (fun s p => s.freeThread key p)
    (k.cores.foldl (fun s n => (s.releaseGranules key n).holdChannels k.held key n) s)

theorem freeThreads_freed (s : State) (key : Nat) (k : Crew) : (s.freeThreads key k).clock = s.clock ∧
    ∀ g ∈ k.threads, (s.ctx g).crew = some key → (s.freeThreads key k).ctx g = {} := by
  have hcores := KeepsCtxs.foldl (f := fun s n => (s.releaseGranules key n).holdChannels k.held key n)
    (fun _ _ => ⟨rfl, rfl⟩) k.cores s
  have hfst : (k.threads.zip (List.range k.threads.length)).map Prod.fst = k.threads := List.map_fst_zip (by simp)
  unfold State.freeThreads
  generalize k.cores.foldl (fun s n => (s.releaseGranules key n).holdChannels k.held key n) s = v at hcores
  obtain ⟨hclock, hctx⟩ := foldl_freeThread key (k.threads.zip (List.range k.threads.length)) v
  refine ⟨hclock.trans hcores.2, fun g hg hk => (hctx g).trans (if_pos ⟨by rw [hfst]; exact hg, ?_⟩)⟩
  rw [State.ctx, hcores.1]
  exact hk

theorem releaseCrew_eq (s : State) (key a : Nat) (k : Crew) : ∃ kept, s.releaseCrew key a k =
    { (s.freeThreads key k).honour k.cluster with
      crews := aset ((s.freeThreads key k).honour k.cluster).crews key { k with saved := true, area := a, kept := kept } } :=
  ⟨_, rfl⟩

/-- A crew whose image stands in its save area is listed as saved, and its contexts are free. -/
theorem releaseCrew_released (s : State) (key a : Nat) (k : Crew) :
    let t := s.releaseCrew key a k
    t.clock = s.clock ∧ (∃ kept, t.crewOf key = some { k with saved := true, area := a, kept := kept }) ∧
    ∀ g ∈ k.threads, (s.ctx g).crew = some key → t.ctx g = {} := by
  obtain ⟨kept, h⟩ := releaseCrew_eq s key a k
  obtain ⟨hclock, hfree⟩ := freeThreads_freed s key k
  rw [h]
  have hclock' := (honour_clock (s.freeThreads key k) k.cluster).trans hclock
  have hfree' := fun g hg hk => honour_free (hfree g hg hk) k.cluster
  generalize (s.freeThreads key k).honour k.cluster = v at hclock' hfree'
  exact ⟨hclock', ⟨kept, crewOf_aset ..⟩, hfree'⟩

section
variable {s u : State} {die : Nat} {w : PrqWork} {k : Crew}
  (hstop : ∀ g ∈ k.held, (s.ctx g).preempt = .stopped ∧ (s.ctx g).lanes = 0 ∧ (s.ctx g).pend = [] ∧
    s.ownMsgs g (fun _ => true) = []) (hputs : s.puts = [])
  (hsave : s.seenFrom (k.cluster / 16) (fun v => v.savePieces (saveAgent k.fn) (v.areaPieces k w.crew w.area.toNat)) =
    (u, true))

include hstop hputs hsave in
/-- Threads that hold nothing have nothing taken, and what is left of the save is the image and the release. -/
theorem saveCrew_eq : s.saveCrew die w k = (u.releaseCrew w.crew w.area.toNat k).endRequest die 0 w.start := by
  have hrevoke : k.held.foldl (fun s g => s.forceRevoke g 0 none) s = s :=
    foldl_fixed _ fun g hg => forceRevoke_noLanes (hstop g hg).2.1 ..
  have hflush : k.held.foldl (fun s g => (s.drainAll g).flushMsg g fun _ => true) s = s := foldl_fixed _ fun g hg => by
    obtain ⟨-, -, hpend, hmsgs⟩ := hstop g hg
    rw [State.drainAll, drain_nil hpend, flushMsg_nothing hmsgs]
  have hinto : s.flushInto w.crew = s := by rw [State.flushInto, hputs]; rfl
  unfold State.saveCrew
  dsimp only
  rw [← Crew.held, hrevoke, hflush, hinto, hsave]

include hstop hputs hsave in
theorem exec_crewSave (hw : (s.die die).prqWork = some w) (hr : w.resume = false) (hk : s.crewOf w.crew = some k) :
    exec (.crewSave die) s = .next ((u.releaseCrew w.crew w.area.toNat k).endRequest die 0 w.start) := by
  rw [← saveCrew_eq hstop hputs hsave]
  show execCrewSave die s = _
  unfold execCrewSave
  rw [hw]
  dsimp only
  rw [hk]
  dsimp only
  rw [hr, if_neg (by decide), whenEnabled, if_pos]
  rw [List.all_eq_true]
  intro i hi
  cases hx : k.threads[i]? with
  | none => rfl
  | some g => exact beq_iff_eq.2 (hstop g (List.mem_filterMap.2 ⟨i, hi, hx⟩)).1

end

end Sys2Proof.Machine
end

section
/-! PROOFS. Registers of management, and lanes that come free: earmarks that lapse, lanes that have drained (R119, R122,
R318). -/

namespace Sys2Proof.Machine

/-! ### VFTVEC (R311, R318) -/

theorem vecWrite_halves (v : Word) : vecWrite v = ((v >>> 8) <<< 8) ||| (v &&& 1) := by
  have hmask : 0xFFFFFFFFFFFFFF01#64 = (BitVec.allOnes 64 <<< 8) ||| 1#64 := by decide
  have hhigh : v &&& (BitVec.allOnes 64 <<< 8) = (v >>> 8) <<< 8 := BitVec.eq_of_getLsbD_eq fun i hi => by
    rw [BitVec.getLsbD_and, BitVec.getLsbD_shiftLeft, BitVec.getLsbD_allOnes, BitVec.getLsbD_shiftLeft,
      BitVec.getLsbD_ushiftRight]
    by_cases h8 : i < 8
    · simp [h8]
    · rw [show 8 + (i - 8) = i by omega, decide_eq_true (by omega : i - 8 < 64), decide_eq_true hi, decide_eq_false h8]
      simp
  rw [vecWrite, hmask, BitVec.and_or_distrib_left, hhigh]
  rfl

theorem exec_vftvecWrite {s : State} {d : Nat} (hd : d < 8) (hp : (s.die d).state = .present) (v : Word) :
    exec (.vftvecWrite d v) s = .next (s.vftvecWrite d v) :=
  if_pos (by simp [hd, hp])

theorem vftvecWrite_vftvec (s : State) (d : Nat) (v : Word) (n : Nat) :
    aget 0 ((s.vftvecWrite d v).die n).vftvec (s.die d).vfsel.toNat =
      if n = d ∧ (s.die d).vfsel.toNat ≤ 64 then ((v >>> 8) <<< 8) ||| (v &&& 1)
      else aget 0 (s.die n).vftvec (s.die d).vfsel.toNat := by
  unfold State.vftvecWrite
  by_cases hsel : (s.die d).vfsel.toNat ≤ 64
  · by_cases hn : n = d
    · subst hn
      rw [if_pos hsel, if_pos ⟨rfl, hsel⟩, State.die_setDie_self, aget_aset_self, vecWrite_halves]
    · rw [if_pos hsel, if_neg fun h => hn h.1, State.die_setDie_ne _ _ hn]
  · rw [if_neg hsel, if_neg fun h => hsel h.2]

/-! ### Lanes that come free (R119, R122) -/

/-- Reservations that meet free lanes change nothing of a context but its share. -/
theorem honour_ctx (s : State) (cl h : Nat) :
    (s.honour cl).ctx h = { s.ctx h with gres := ((s.honour cl).ctx h).gres } := by
  unfold State.honour
  generalize clusterCtxs cl = gs
  induction gs generalizing s with
  | nil => rfl
  | cons j gs ih =>
    rw [List.foldl_cons]
    refine (ih _).trans ?_
    dsimp only
    split
    · rw [State.ctx_setCtx]
      split
      · next h => subst h; rfl
      · rfl
    · rfl

theorem honour_sameBytes (s : State) (cl : Nat) : SameBytes s (s.honour cl) := (honour_keepsCrews s cl).bytes

theorem endEarmarks_lanes (s : State) (cl : Nat) (which : Nat × Nat → Bool) (p : Nat × LaneState) :
    p ∈ ((s.endEarmarks cl which).cluster cl).lanes ↔ p.2 ≠ .free ∧ ∃ q ∈ (s.cluster cl).lanes,
      p = (q.1, if q.2.mark.any which then q.2.unmarked else q.2) := by
  rw [State.endEarmarks, State.cluster_setCluster_self, List.mem_filter, List.mem_map, bne_iff_ne, and_comm]
  simp only [eq_comm]

theorem mark_unmarked (x : LaneState) : x.unmarked.mark = none := by cases x <;> rfl

/-- An earmark of the waiter made 65,536 cycles ago lapses, and no other lane changes. -/
theorem earmarkLapse_lapses (s : State) (g : Nat) (hany : ∃ p ∈ (s.cluster (clusterOf g)).lanes,
      ∃ n, p.2.mark = some (g, n) ∧ n + 65536 ≤ s.clock) :
    Reaches (exec (.earmarkLapse g) s) fun t => SameBytes s t ∧
      (∀ p ∈ (t.cluster (clusterOf g)).lanes, ¬∃ n, p.2.mark = some (g, n) ∧ n + 65536 ≤ s.clock) ∧
      (∀ p ∈ (s.cluster (clusterOf g)).lanes, (¬∃ n, p.2.mark = some (g, n) ∧ n + 65536 ≤ s.clock) → p.2 ≠ .free →
        p ∈ (t.cluster (clusterOf g)).lanes) ∧
      ∀ h, t.ctx h = { s.ctx h with gres := (t.ctx h).gres } := by
  have hold : ∀ x : LaneState, x.mark.any (fun m => m.1 == g && s.lapsed m) = true ↔
      ∃ n, x.mark = some (g, n) ∧ n + 65536 ≤ s.clock := fun x => by
    rw [Option.any_eq_true]
    constructor
    · rintro ⟨⟨i, n⟩, hm, h⟩
      rw [Bool.and_eq_true, beq_iff_eq, State.lapsed, decide_eq_true_eq] at h
      exact ⟨n, by rw [hm, ← h.1], h.2⟩
    · rintro ⟨n, hm, hn⟩
      exact ⟨_, hm, by simp [State.lapsed, hn]⟩
  obtain ⟨p, hp, hlapsed⟩ := hany
  refine ⟨_, if_pos (List.any_eq_true.2 ⟨p, hp, (hold _).2 hlapsed⟩), ?_, fun q hq h => ?_, fun q hq h hne => ?_,
    fun h => honour_ctx _ _ h⟩
  · exact SameBytes.trans (t := s.endEarmarks _ _) ⟨fun _ => rfl, fun _ => rfl⟩ (honour_sameBytes ..)
  · rw [honour_cluster, endEarmarks_lanes] at hq
    obtain ⟨-, r, -, rfl⟩ := hq
    dsimp only at h
    split at h
    · rw [mark_unmarked] at h
      exact nomatch h
    · next hr => exact hr ((hold _).2 h)
  · rw [honour_cluster, endEarmarks_lanes]
    exact ⟨hne, q, hq, by rw [if_neg fun hx => h ((hold _).1 hx)]⟩

/-- A lane that has drained goes to the waiter it is earmarked for, or is free. -/
theorem exec_laneDrainComplete {s : State} {cl l h : Nat} {to_ : Option (Nat × Nat)}
    (hl : aget .free (s.cluster cl).lanes l = .draining h to_) : exec (.laneDrainComplete cl l) s =
    .next ((s.setCluster cl { s.cluster cl with
      lanes := aput .free (s.cluster cl).lanes l (to_.elim .free fun w => .earmarked w.1 w.2),
      creels := aerase (s.cluster cl).creels l }).honour cl) := by
  show execLaneDrainComplete cl l s = _
  unfold execLaneDrainComplete
  dsimp only
  rw [hl]
  cases to_ <;> rfl

theorem laneDrainComplete_frees {s : State} {cl l h : Nat} {to_ : Option (Nat × Nat)}
    (hl : aget .free (s.cluster cl).lanes l = .draining h to_) :
    Reaches (exec (.laneDrainComplete cl l) s) fun t =>
      SameBytes s t ∧ (∀ x, t.ctx x = { s.ctx x with gres := (t.ctx x).gres }) ∧
      aget .free (t.cluster cl).lanes l = (to_.elim .free fun w => .earmarked w.1 w.2) ∧
      ∀ m, m ≠ l → aget .free (t.cluster cl).lanes m = aget .free (s.cluster cl).lanes m := by
  refine ⟨_, exec_laneDrainComplete hl, ?_, fun x => honour_ctx _ _ x, ?_, fun m hm => ?_⟩
  · exact SameBytes.trans (t := s.setCluster _ _) ⟨fun _ => rfl, fun _ => rfl⟩ (honour_sameBytes ..)
  · rw [honour_cluster, State.cluster_setCluster_self]
    exact aget_aput_self ..
  · rw [honour_cluster, State.cluster_setCluster_self]
    exact aget_aput_ne _ _ _ hm

end Sys2Proof.Machine
end

section
/-! PROOFS. What performing a thread's pending accesses leaves of the contexts: late loads fill registers of that thread,
and nothing else changes (R203, R217, R219). -/

namespace Sys2Proof.Machine

/-- Pending accesses of thread `g` were performed, or entered: of the contexts, only that one's pending accesses, the
registers `L` that late loads fill, and its count of consumed poison changed. -/
structure Fills (g : Nat) (L : List (BitVec 5)) (s t : State) : Prop where
  others : ∀ h, h ≠ g → t.ctx h = s.ctx h
  same : t.ctx g = { s.ctx g with
    regs := (t.ctx g).regs, poison := (t.ctx g).poison, cir := (t.ctx g).cir, pend := (t.ctx g).pend }
  raw : ∀ r, r ∉ L → (t.ctx g).raw r = (s.ctx g).raw r
  late : (s.ctx g).lateRegs ⊆ L → (t.ctx g).lateRegs ⊆ L

variable {g : Nat} {L : List (BitVec 5)}

theorem Fills.of_ctxs {s t : State} (h : t.ctxs = s.ctxs) : Fills g L s t := by
  have hc : ∀ n, t.ctx n = s.ctx n := fun n => by rw [State.ctx, h]; rfl
  exact ⟨fun n _ => hc n, by rw [hc g], fun r _ => by rw [hc g], fun k => by rw [hc g]; exact k⟩

theorem Fills.refl (s : State) : Fills g L s s := .of_ctxs rfl

theorem Fills.trans {s t u : State} (h : Fills g L s t) (k : Fills g L t u) : Fills g L s u where
  others n hn := (k.others n hn).trans (h.others n hn)
  same := by rw [k.same, h.same]
  raw r hr := (k.raw r hr).trans (h.raw r hr)
  late hl := k.late (h.late hl)

theorem Fills.of_same {s s' t t' : State} (h : Fills g L s t) (hs : s'.ctxs = s.ctxs) (ht : t'.ctxs = t.ctxs) :
    Fills g L s' t' := ((Fills.of_ctxs hs.symm).trans h).trans (.of_ctxs ht)

/-- Only the list of pending accesses changes, and no late load enters it. -/
theorem setPend_fills (s : State) {ps : List Pending}
    (h : (s.ctx g).lateRegs ⊆ L → (ps.filterMap fun p => p.load.map (·.dest)) ⊆ L) :
    Fills g L s (s.setCtx g { s.ctx g with pend := ps }) where
  others n hn := State.ctx_setCtx_ne _ _ hn
  same := by rw [State.ctx_setCtx_self]
  raw r _ := by rw [State.ctx_setCtx_self]; rfl
  late hl := by rw [State.ctx_setCtx_self]; exact h hl

/-- A piece of a late load fills its register. -/
theorem setLate_fills (s : State) {l : LatePiece} (hl : l.dest ∈ L) (bs : List Byte) (p : Bool) :
    Fills g L s (s.setCtx g ((s.ctx g).late l bs p)) := by
  obtain ⟨rs, ps, n, h⟩ : ∃ rs ps n, (s.ctx g).late l bs p = { s.ctx g with regs := rs, poison := ps, cir := n } := by
    unfold Ctx.late Ctx.setReg Ctx.consume
    dsimp only
    split <;> split <;> exact ⟨_, _, _, rfl⟩
  refine ⟨fun n hn => State.ctx_setCtx_ne _ _ hn, ?_, fun r hr => ?_, fun k => ?_⟩
  · rw [State.ctx_setCtx_self, h]
  · rw [State.ctx_setCtx_self, Ctx.late, Ctx.raw_consume, Ctx.raw_setReg, if_neg]
    rintro ⟨rfl, -⟩
    exact hr hl
  · rw [State.ctx_setCtx_self, h]
    exact k

theorem performHere_fills (s : State) {p : Pending} (hp : ∀ l, p.load = some l → l.dest ∈ L) :
    Fills g L s (s.performHere g p) := by
  have hl := (passLinkFor_still s g p.path p.cls p.loc).trans (unload_still _ g p)
  unfold State.performHere
  dsimp only
  split
  · next l hload =>
    refine Fills.trans (.of_ctxs ?_) (setLate_fills _ (hp l hload) _ _)
    have hread := hl.trans ((noteRead_still _ { loc := p.loc, key := p.key }).trans (enterLines_still _ p.loc l.len p.key))
    split
    · exact (hread.trans (touchLines_caches ..).still).1
    · exact hread.1
  · have ho : Still s (((s.passLinkFor g p.path p.cls p.loc).unload g p).noteRefused p.loc |>.enterLines p.loc
        p.bytes.length p.key) := hl.trans ((noteRefused_still ..).trans (enterLines_still ..))
    have hone : ∀ own, Still s (State.performOne ((granulesOf p.loc p.bytes.length).foldl (fun s l => s.dropCopies l own)
        (((s.passLinkFor g p.path p.cls p.loc).unload g p).noteRefused p.loc |>.enterLines p.loc p.bytes.length p.key)) p) :=
      fun own => (ho.trans (CachesOnly.foldl (fun _ _ => dropCopies_caches ..) _ _).still).trans (storeLoc_still ..)
    refine .of_ctxs ?_
    split
    · exact ((hone _).trans (touchLines_caches ..).still).1
    · exact ((hone _).trans (L2Only.foldl (fun _ _ => touchL2_l2 ..) _ _).caches.still).1

theorem performFor_fills (s : State) {p : Pending} (hp : ∀ l, p.load = some l → l.dest ∈ L) :
    Fills g L s (s.performFor g p) := by
  have h := performHere_fills (g := g) { s.block (s.heldFrom (dieOf g) p.loc) with viewer := some (dieOf g) } hp
  exact ⟨h.others, h.same, h.raw, h.late⟩

theorem performList_fills (s : State) {ps : List Pending} (hp : ∀ p ∈ ps, ∀ l, p.load = some l → l.dest ∈ L) :
    Fills g L s (s.performList g ps) := by
  induction ps generalizing s with
  | nil => exact .refl s
  | cons p ps ih =>
    exact (performFor_fills s (hp p (List.mem_cons_self ..))).trans (ih _ fun q hq => hp q (List.mem_cons_of_mem _ hq))

theorem map_fst_neededFor (q : Pending → Bool) (ps : List Pending) : (neededFor q ps).map Prod.fst = ps := by
  induction ps with
  | nil => rfl
  | cons p ps ih => rw [neededFor, List.map_cons, ih]

theorem mem_of_neededFor {q : Pending → Bool} {ps : List Pending} {x : Pending × Bool} (h : x ∈ neededFor q ps) :
    x.1 ∈ ps := map_fst_neededFor q ps ▸ List.mem_map_of_mem h

theorem mem_lateRegs {c : Ctx} {p : Pending} {l : LatePiece} (hp : p ∈ c.pend) (hl : p.load = some l) :
    l.dest ∈ c.lateRegs := List.mem_filterMap.2 ⟨p, hp, by rw [hl]; rfl⟩

/-- Performing pending accesses, in their order, fills at most the registers of late loads. -/
theorem drain_fills (s : State) (q : Pending → Bool) (h : (s.ctx g).lateRegs ⊆ L) : Fills g L s (s.drain g q) := by
  have hsplit : ∀ keep : Pending × Bool → Bool, ∀ p ∈ ((neededFor q (s.ctx g).pend).filter keep).map (·.1),
      p ∈ (s.ctx g).pend := fun keep p hp => by
    obtain ⟨x, hx, rfl⟩ := List.mem_map.1 hp
    exact mem_of_neededFor (List.mem_filter.1 hx).1
  unfold State.drain
  dsimp only
  split
  · refine (setPend_fills s fun _ r hr => ?_).trans (performList_fills _ fun p hp l hl => h (mem_lateRegs (hsplit _ p hp) hl))
    obtain ⟨p, hp, hr⟩ := List.mem_filterMap.1 hr
    exact h (List.mem_filterMap.2 ⟨p, hsplit _ p hp, hr⟩)
  · exact .refl s

theorem beforeWalk_fills (s : State) (ag : Agent) (k : AccKind) (a n : Nat) (h : (s.ctx g).lateRegs ⊆ L) :
    Fills g L s (s.beforeWalk g ag k a n) := by
  unfold State.beforeWalk
  split
  · exact .refl s
  · split
    · exact .refl s
    · exact drain_fills s _ h

theorem storeEntries_load {path : Path} {cls : Nat} {poison : Bool} {parts : List Part} {bs : List Byte} {e : Pending}
    (h : e ∈ storeEntries path cls poison parts bs) : e.load = none := by
  induction parts generalizing bs with
  | nil => cases h
  | cons p ps ih =>
    unfold storeEntries at h
    dsimp only at h
    split at h
    · exact ih h
    · rcases List.mem_cons.1 h with rfl | h
      · rfl
      · exact ih h

/-- A divided access is a late load of a register only if it was one before. -/
theorem mem_addAccess {ps es : List Pending} {p : Pending} (h : p ∈ addAccess ps es) (hes : ∀ e ∈ es, e.load = none) :
    p ∈ ps ∨ p.load = none := by
  have hdiv : ∀ q ∈ es.flatMap Pending.divide, q.load = none := fun q hq => by
    obtain ⟨e, he, hq⟩ := List.mem_flatMap.1 hq
    obtain ⟨x, -, rfl⟩ := List.mem_map.1 hq
    dsimp only
    rw [hes e he]
    rfl
  unfold addAccess at h
  split at h
  · next e he =>
    rw [List.mem_append, List.mem_singleton] at h
    exact h.imp_right fun hp => by rw [hp]; exact hdiv e (he ▸ List.mem_singleton_self e)
  · rw [List.mem_append, List.mem_map] at h
    refine h.imp_right ?_
    rintro ⟨q, hq, rfl⟩
    exact hdiv q hq

/-- The parts of a store of a vector row enter the pending accesses. -/
theorem storeParts_fills (s : State) (cls : Nat) (parts : List Part) (bs : List Byte) (p : Bool) :
    Fills g L s (s.storeParts g .lane cls parts bs p) := by
  unfold State.storeParts
  dsimp only
  rw [if_neg (by decide)]
  refine Fills.trans (.of_ctxs (Still.foldl (fun t x => noteDead_still t _) _ _).1) (setPend_fills _ fun h r hr => ?_)
  obtain ⟨e, he, hr⟩ := List.mem_filterMap.1 hr
  rcases mem_addAccess he fun _ => storeEntries_load with he | he
  · exact h (List.mem_filterMap.2 ⟨e, he, hr⟩)
  · rw [he] at hr
    cases hr

theorem store_fills (s : State) (ag : Agent) (k : AccKind) (cls a : Nat) (bs : List Byte) (p : Bool)
    (h : (s.ctx g).lateRegs ⊆ L) : Fills g L s (s.store g ag k .lane cls a bs p).1 := by
  have hr := (beforeWalk_fills s ag k a bs.length h).trans (.of_ctxs (resolve_still _ ag k a bs.length).1)
  unfold State.store
  split
  · exact .refl s
  · next e =>
    rw [e] at hr
    exact hr.trans (storeParts_fills ..)

theorem storeLines_fills (s : State) (ag : Agent) (a : Nat) (rows : List (Row × Bool)) (h : (s.ctx g).lateRegs ⊆ L) :
    Fills g L s (s.storeLines g ag a rows).1 := by
  induction rows generalizing s a with
  | nil => exact .refl s
  | cons x rows ih =>
    have hx := store_fills s ag .spill 15 a (leBytes 64 x.1.toNat) x.2 h
    unfold State.storeLines
    split
    · next e => rw [e] at hx; exact hx
    · next e => rw [e] at hx; exact hx.trans (ih _ _ (hx.late h))

/-- A spill stores the thread's vector state, and leaves every context but for late loads; the pending trap is LANE_REVOKE
under its cause, or LANE_SPILL. -/
theorem spill_fills (s : State) (cause : Nat) (h : (s.ctx g).lateRegs ⊆ L) : Fills g L s (s.spill g cause).1 ∧
    ((s.spill g cause).2 = .revoke cause ∨ ∃ a m, (s.spill g cause).2 = .spill a m) := by
  have hunit : ∀ (t : State) (x : AccFault), Fills g L t (t.unitFault x) := fun t x => .of_ctxs (unitFault_leaves t x).1
  have hlines := storeLines_fills s (s.userAgent g) (((s.ctx g).vspill.toNat + 64) % 2 ^ 64) (s.ctx g).spillLines h
  unfold State.spill
  dsimp only
  split
  · next t f e =>
    rw [e] at hlines
    have hu := hlines.trans (hunit t f)
    have hst := store_fills (t.unitFault f) (s.userAgent g) .spill 15 (((s.ctx g).vspill.toNat + 8) % 2 ^ 64)
      ((s.ctx g).spillHeader 3 cause) false (hu.late h)
    dsimp only
    exact ⟨hu.trans hst, .inr ⟨_, _, rfl⟩⟩
  · next t e =>
    rw [e] at hlines
    have hst := store_fills t (s.userAgent g) .spill 15 (((s.ctx g).vspill.toNat + 8) % 2 ^ 64)
      ((s.ctx g).spillHeader 1 cause) false (hlines.late h)
    split
    · next e => rw [e] at hst; exact ⟨hlines.trans hst, .inl rfl⟩
    · next f e => rw [e] at hst; exact ⟨(hlines.trans hst).trans (hunit _ f), .inr ⟨_, _, rfl⟩⟩

theorem seenFrom_ctxs {α : Type} (s : State) (d : Nat) (act : State → State × α) :
    (s.seenFrom d act).1.ctxs = (act { s with viewer := some d }).1.ctxs := rfl

theorem seenFrom_snd {α : Type} (s : State) (d : Nat) (act : State → State × α) :
    (s.seenFrom d act).2 = (act { s with viewer := some d }).2 := rfl

end Sys2Proof.Machine
end

section
/-! PROOFS. The revocation of a thread's lanes (R119 to R122, R126). -/

namespace Sys2Proof.Machine

/-! ### The SETVL at the allocator (R126) -/

theorem setsLength_iff (i : Instr) :
    setsLength i = true ↔ (∃ d a v, i = .setvl d a v) ∨ ∃ d v l, i = .setvli d v l := by
  unfold setsLength
  split
  · next d a v => exact iff_of_true rfl (.inl ⟨d, a, v, rfl⟩)
  · next d v l => exact iff_of_true rfl (.inr ⟨d, v, l, rfl⟩)
  · next h1 h2 =>
    refine iff_of_false (by decide) ?_
    rintro (⟨d, a, v, rfl⟩ | ⟨d, v, l, rfl⟩)
    · exact h1 d a v rfl
    · exact h2 d v l rfl

theorem runOn_iff (c : Ctx) (a : Word) (es : List VqEntry) : c.runOn a es = true ↔
    (∀ j x, es[j]? = some x → x.addr = a + BitVec.ofNat 64 (4 * j)) ∧ c.pc = a + BitVec.ofNat 64 (4 * es.length) := by
  induction es generalizing a with
  | nil =>
    rw [Ctx.runOn, beq_iff_eq, List.length_nil, Nat.mul_zero, BitVec.add_zero, eq_comm]
    exact ⟨fun h => ⟨fun j x hx => absurd hx (by simp), h⟩, And.right⟩
  | cons e es ih =>
    have hstep : ∀ n : Nat, a + 4 + BitVec.ofNat 64 (4 * n) = a + BitVec.ofNat 64 (4 * (n + 1)) := fun n => by
      rw [show 4 * (n + 1) = 4 + 4 * n by ring, BitVec.ofNat_add, BitVec.add_assoc]
      rfl
    rw [Ctx.runOn, Bool.and_eq_true, beq_iff_eq, ih, List.length_cons, hstep]
    constructor
    · rintro ⟨he, hrun, hpc⟩
      refine ⟨fun j x hx => ?_, hpc⟩
      cases j with
      | zero =>
        rw [List.getElem?_cons_zero, Option.some_inj] at hx
        rw [← hx, he]
        simp
      | succ j => rw [hrun j x hx, hstep]
    · rintro ⟨hrun, hpc⟩
      refine ⟨by rw [hrun 0 e rfl]; simp, fun j x hx => ?_, hpc⟩
      rw [hrun (j + 1) x hx, hstep]

/-- A list is cut before its first element with a property. -/
theorem cut_iff {α : Type} (p : α → Bool) (l older rest : List α) (e : α) :
    l.takeWhile (fun x => !(p x)) = older ∧ l.dropWhile (fun x => !(p x)) = e :: rest ↔
      l = older ++ e :: rest ∧ (∀ x ∈ older, ¬p x = true) ∧ p e = true := by
  constructor
  · rintro ⟨rfl, hdrop⟩
    refine ⟨by rw [← hdrop, List.takeWhile_append_dropWhile], fun x hx => ?_, ?_⟩
    · simpa using List.mem_takeWhile_imp hx
    · have h := List.head?_dropWhile_not (fun x => !(p x)) l
      rw [hdrop] at h
      simpa using h
  · rintro ⟨rfl, holder, he⟩
    have hpos : ∀ x ∈ older, (!(p x)) = true := fun x hx => by simpa using holder x hx
    rw [List.takeWhile_append_of_pos hpos, List.dropWhile_append_of_pos hpos, List.takeWhile_cons_of_neg (by simp [he]),
      List.dropWhile_cons_of_neg (by simp [he]), List.append_nil]
    exact ⟨rfl, rfl⟩

/-- What the model finds at the allocator is the oldest SETVL of the queue, where scalar decode stands behind it. -/
theorem atAllocator_iff (c : Ctx) (older : List VqEntry) (e : VqEntry) (rest : List VqEntry) :
    c.atAllocator = some (older, e :: rest) ↔ AtAllocator c older e rest := by
  have hcut := cut_iff (fun x : VqEntry => setsLength x.instr) c.vq older rest e
  have hrun := runOn_iff c e.addr (e :: rest)
  simp only [setsLength_iff] at hcut
  unfold Ctx.atAllocator AtAllocator
  dsimp only
  constructor
  · intro h
    split at h
    · cases h
    · next x xs hdrop =>
      split at h
      · next hgo =>
        rw [Option.some_inj, Prod.mk.injEq, hdrop] at h
        obtain ⟨htake, hx⟩ := h
        obtain ⟨rfl, rfl⟩ := List.cons.inj hx
        obtain ⟨hvq, holder, he⟩ := hcut.1 ⟨htake, hdrop⟩
        rw [hdrop, Bool.and_eq_true, hrun, Bool.not_eq_true'] at hgo
        exact ⟨hvq, holder, he, hgo.1, hgo.2.1, hgo.2.2⟩
      · cases h
  · rintro ⟨hvq, holder, he, hpassed, haddr, hpc⟩
    obtain ⟨htake, hdrop⟩ := hcut.2 ⟨hvq, holder, he⟩
    rw [hdrop, htake]
    dsimp only
    rw [hpassed, hrun.2 ⟨haddr, hpc⟩]
    rfl

theorem markLanes_get (lanes : Assoc LaneState) (which : List Nat) (x : LaneState) (l : Nat) :
    aget .free (markLanes lanes which x) l = if l ∈ which then x else aget .free lanes l := by
  unfold markLanes
  induction which generalizing lanes with
  | nil => rw [if_neg (by simp)]; rfl
  | cons n which ih =>
    rw [List.foldl_cons, ih, aget_aput]
    by_cases hl : l ∈ which
    · simp [hl]
    · by_cases hn : l = n <;> simp [hl, hn]

/-- The thread after its revocation squashed its queue. -/
def Ctx.squashed (c : Ctx) : Ctx := { c.unissue.toReplay c.unissue.vq 0 with vq := [] }

/-- An instruction squashed into the replay queue. -/
def VqEntry.squashed (e : VqEntry) : VqEntry := { e with depth := 0, begun := none, part := (0, false) }

theorem squashed_atAllocator {c : Ctx} {older rest : List VqEntry} {e : VqEntry} (h : AtAllocator c older e rest) :
    c.squashed.replay = c.replay ++ older.map VqEntry.squashed ∧ c.squashed.pc = e.addr ∧ c.squashed.dtype = c.vtype ∧
      c.squashed.dcode = c.ncode := by
  unfold Ctx.squashed Ctx.unissue
  rw [(atAllocator_iff c older e rest).2 h]
  exact ⟨rfl, rfl, rfl, rfl⟩

theorem squashed_notAtAllocator {c : Ctx} (h : ∀ older e rest, ¬AtAllocator c older e rest) :
    c.squashed.pc = c.pc ∧ c.squashed.replay = c.replay ++ c.vq.map VqEntry.squashed ∧ c.squashed.dtype = c.dtype ∧
      c.squashed.dcode = c.dcode := by
  unfold Ctx.squashed Ctx.unissue
  split
  · next older e rest he => exact absurd ((atAllocator_iff c older e rest).1 he) (h older e rest)
  · exact ⟨rfl, rfl, rfl, rfl⟩

theorem squashed_keeps (c : Ctx) : c.squashed.vq = [] ∧ c.squashed.level = c.level ∧ ∀ r, c.squashed.raw r = c.raw r := by
  unfold Ctx.squashed Ctx.unissue
  split <;> exact ⟨rfl, rfl, fun _ => rfl⟩

theorem squashed_lateRegs (c : Ctx) : c.squashed.lateRegs = c.lateRegs := by
  unfold Ctx.squashed Ctx.unissue
  split <;> rfl

/-- A thread's queue is squashed and its state spilled, seen from its die (R122, R126): the state, and the pending trap. -/
def State.spillFrom (s : State) (g cause : Nat) : State × PendingRevoke :=
  ((s.setCtx g (s.ctx g).squashed).drain g fun p => p.path == .lane).seenFrom (dieOf g) fun s => s.spill g cause

/-- What a revocation leaves of the contexts before it takes the lanes. -/
theorem spillFrom_fills (s : State) (g cause : Nat) :
    Fills g (s.ctx g).lateRegs (s.setCtx g (s.ctx g).squashed) ((s.spillFrom g cause).1.drain g fun p => p.path == .lane) ∧
    ((s.spillFrom g cause).2 = .revoke cause ∨ ∃ a m, (s.spillFrom g cause).2 = .spill a m) := by
  have hlate : ((s.setCtx g (s.ctx g).squashed).ctx g).lateRegs ⊆ (s.ctx g).lateRegs := by
    rw [State.ctx_setCtx_self, squashed_lateRegs]
    exact List.Subset.refl _
  have hdrain := drain_fills (s.setCtx g (s.ctx g).squashed) (fun p => p.path == .lane) hlate
  unfold State.spillFrom
  generalize (s.setCtx g (s.ctx g).squashed).drain g _ = u at hdrain ⊢
  obtain ⟨hspill, hpending⟩ := spill_fills (g := g) { u with viewer := some (dieOf g) } cause (hdrain.late hlate)
  have hseen : Fills g (s.ctx g).lateRegs u (u.seenFrom (dieOf g) fun s => s.spill g cause).1 :=
    hspill.of_same rfl (seenFrom_ctxs ..)
  have hto := hdrain.trans hseen
  rw [seenFrom_snd]
  exact ⟨hto.trans (drain_fills _ _ (hto.late hlate)), hpending⟩

/-- The lanes of a revoked thread drain, those beyond its share for the waiter they are earmarked for. -/
def drained (lanes : Assoc LaneState) (g : Nat) (held : List Nat) (kept : Nat) (dest : Option (Nat × Nat)) : Assoc LaneState :=
  markLanes (markLanes lanes (held.take kept) (.draining g none)) (held.drop kept) (.draining g dest)

theorem drained_draining (lanes : Assoc LaneState) (g : Nat) {held : List Nat} {kept l : Nat} (dest : Option (Nat × Nat))
    (h : l ∈ held) : ∃ d, aget .free (drained lanes g held kept dest) l = .draining g d := by
  rw [drained, markLanes_get, markLanes_get]
  rw [← List.take_append_drop kept held, List.mem_append] at h
  by_cases hl : l ∈ held.drop kept
  · exact ⟨dest, if_pos hl⟩
  · exact ⟨none, (if_neg hl).trans (if_pos (h.resolve_right hl))⟩

/-- A thread that holds lanes is revoked: its queue is squashed and its state spilled, its lanes drain, and it holds none. -/
theorem forceRevoke_eq {s t : State} {g cause : Nat} {pending : PendingRevoke} (hl : (s.ctx g).lanes ≠ 0)
    (waiter : Option Nat) (h : s.spillFrom g (s.causeFor g cause) = (t, pending)) :
    let u := t.drain g fun p => p.path == .lane
    ∃ kept dest creels f, s.forceRevoke g cause waiter =
      ((u.setCluster (clusterOf g) { u.cluster (clusterOf g) with
        lanes := drained (u.cluster (clusterOf g)).lanes g (s.ctx g).vec.lanes kept dest, creels := creels }).setCtx g
          { u.ctx g with vec := {}, vl := 0, revoke := some pending }).count (u.ctx g).fn f := by
  rw [State.spillFrom, Ctx.squashed] at h
  unfold State.forceRevoke
  rw [if_neg hl]
  dsimp only at h ⊢
  rw [h]
  exact ⟨_, _, _, _, rfl⟩

theorem causeFor_cases (s : State) (g cause : Nat) :
    s.causeFor g cause = cause ∨ s.causeFor g cause = 0 ∧ (s.ctx g).preempt ≠ .none := by
  unfold State.causeFor
  split
  · next h => exact .inr ⟨rfl, by simpa using (Bool.and_eq_true_iff.1 h).1⟩
  · exact .inl rfl

theorem State.ctx_count (s : State) (f : Nat) (u : Usage → Usage) (g : Nat) : (s.count f u).ctx g = s.ctx g := rfl

/-- What a revocation leaves (R119 to R122). -/
theorem forceRevoke_revokes {s : State} {g : Nat} (hl : (s.ctx g).lanes ≠ 0) (cause : Nat) (waiter : Option Nat) :
    RevokedFrom s (s.forceRevoke g cause waiter) g cause := by
  obtain ⟨hfills, hpending⟩ := spillFrom_fills s g (s.causeFor g cause)
  generalize hr : s.spillFrom g (s.causeFor g cause) = r at hfills hpending
  obtain ⟨t, pending⟩ := r
  obtain ⟨kept, dest, creels, f, h⟩ := forceRevoke_eq hl waiter hr
  rw [h]
  generalize t.drain g _ = u at hfills
  have hother : ∀ n, n ≠ g → u.ctx n = s.ctx n := fun n hn => (hfills.others n hn).trans (State.ctx_setCtx_ne _ _ hn)
  have hsame := hfills.same
  have hraw := hfills.raw
  rw [State.ctx_setCtx_self] at hsame hraw
  obtain ⟨hvq, hlevel, hregs⟩ := squashed_keeps (s.ctx g)
  unfold RevokedFrom
  dsimp only
  rw [State.ctx_count, State.ctx_setCtx_self]
  refine ⟨rfl, rfl, (congrArg Ctx.vq hsame).trans hvq, fun older e rest he => ?_, fun hnot => ?_, ?_,
    fun r hr => (hraw r hr).trans (hregs r), (congrArg Ctx.level hsame).trans hlevel, fun n hn => ?_, fun l hmem => ?_⟩
  · obtain ⟨hreplay, hpc, hdtype, hdcode⟩ := squashed_atAllocator he
    exact ⟨(congrArg Ctx.replay hsame).trans hreplay, (congrArg Ctx.pc hsame).trans hpc,
      (congrArg Ctx.dtype hsame).trans hdtype, (congrArg Ctx.dcode hsame).trans hdcode⟩
  · obtain ⟨hpc, hreplay, hdtype, hdcode⟩ := squashed_notAtAllocator hnot
    exact ⟨(congrArg Ctx.pc hsame).trans hpc, (congrArg Ctx.replay hsame).trans hreplay,
      (congrArg Ctx.dtype hsame).trans hdtype, (congrArg Ctx.dcode hsame).trans hdcode⟩
  · refine hpending.imp (fun hp => ⟨_, congrArg some hp, causeFor_cases s g cause⟩) ?_
    rintro ⟨a, m, hp⟩
    exact ⟨a, m, congrArg some hp⟩
  · rw [State.ctx_count, State.ctx_setCtx_ne _ _ hn]
    exact hother n hn
  · obtain ⟨d, hd⟩ := drained_draining (u.cluster (clusterOf g)).lanes g (kept := kept) dest hmem
    exact ⟨d, (congrArg (fun x : Cluster => aget LaneState.free x.lanes l)
      (State.cluster_setCluster_self u (clusterOf g) _)).trans hd⟩

/-! ### The events (R119) -/

theorem exec_forcedRevocation {s : State} {g cause : Nat} (hlive : (s.ctx g).live = true) (hl : (s.ctx g).lanes ≠ 0)
    (hr : s.revocable g cause = true) :
    Reaches (exec (.forcedRevocation g cause) s) fun t => RevokedFrom s t g cause :=
  ⟨_, if_pos (by simp [hlive, hl, hr]), forceRevoke_revokes hl cause _⟩

/-- A fold that keeps its pick or takes the element at hand picks an element. -/
theorem foldl_pick_mem {α : Type} {pick : Option α → α → Option α} (hp : ∀ b a, pick b a = b ∨ pick b a = some a)
    {l : List α} {o : Option α} {x : α} (h : l.foldl pick o = some x) : o = some x ∨ x ∈ l := by
  induction l generalizing o with
  | nil => exact .inl h
  | cons a l ih =>
    rcases ih h with hx | hx
    · rcases hp o a with hpick | hpick
      · exact .inl (hpick.symm.trans hx)
      · exact .inr (by rw [hpick, Option.some_inj] at hx; simp [hx])
    · exact .inr (List.mem_cons_of_mem _ hx)

/-- The victim of a waiter holds lanes. -/
theorem victim_lanes {s : State} {w x : Nat} (h : s.victim w = some x) : (s.ctx x).lanes ≠ 0 := by
  unfold State.victim at h
  have hmem := (foldl_pick_mem (fun b a => by
    cases b with
    | none => exact .inr rfl
    | some b =>
      dsimp only
      split
      · exact .inr rfl
      · exact .inl rfl) h).resolve_left (by simp)
  have hless := (List.mem_filter.1 hmem).2
  simp only [Bool.and_eq_true, decide_eq_true_eq] at hless
  omega

theorem starve_revokes {s : State} {w x : Nat} (hv : s.victim w = some x) (hs : s.starving w = true) (name : String) :
    Reaches (s.starve w name) fun t => RevokedFrom s t x 2 := by
  refine ⟨_, ?_, forceRevoke_revokes (victim_lanes hv) 2 (some w)⟩
  unfold State.starve
  rw [hv]
  exact if_pos hs

end Sys2Proof.Machine
end

section
/-! PROOFS. Translation and reads depend on no context, no census and no move: a state and what is left of it without them
read the same (R319 to R325, R337). -/

namespace Sys2Proof.Machine

/-- The state without contexts, moves and censuses: all that a unit's read depends on. -/
def State.bare (s : State) : State :=
  { s with ctxs := [], moves := [], dies := s.dies.map fun p => (p.1, { p.2 with censuses := [] }) }

theorem die_bare (s : State) (n : Nat) : s.bare.die n = { s.die n with censuses := [] } :=
  aget_map (α := Die) {} (fun d => { d with censuses := [] }) rfl s.dies n

theorem aset_map {α : Type} (f : α → α) (m : Assoc α) (i : Nat) (x : α) :
    aset (m.map fun p => (p.1, f p.2)) i (f x) = (aset m i x).map fun p => (p.1, f p.2) := by
  induction m with
  | nil => rfl
  | cons p m ih =>
    simp only [List.map_cons, aset]
    split
    · rfl
    · split
      · rfl
      · rw [List.map_cons, ih]

theorem setDie_bare (s : State) (n : Nat) (x : Die) : s.bare.setDie n { x with censuses := [] } = (s.setDie n x).bare :=
  congrArg (fun ds => { s with ctxs := [], moves := [], dies := ds })
    (aset_map (fun d : Die => { d with censuses := [] }) s.dies n x)

/-! ### What reads depend on -/

theorem locAbsent_bare (s : State) (a : Nat) : s.bare.locAbsent a = s.locAbsent a := by
  simp only [State.locAbsent, State.homeAbsent, State.homeServes, State.routeOpen, die_bare]
  rfl

theorem homeServes_bare (s : State) (a : Nat) : s.bare.homeServes a = s.homeServes a := by
  simp only [State.homeServes, die_bare]
  rfl

theorem lostHome_bare (s : State) (a : Nat) : s.bare.lostHome a = s.lostHome a := by
  simp only [State.lostHome, die_bare]

theorem heldAt_bare (s : State) (a : Nat) : s.bare.heldAt a = s.heldAt a := by
  have hwalk : s.bare.awaitsWalk a = s.awaitsWalk a := by
    unfold State.awaitsWalk State.bare
    rw [List.any_map]
    rfl
  simp only [State.heldAt, State.heldFrom, State.routeHeld, die_bare, hwalk]
  rfl

theorem granulePoison_bare (s : State) (a : Nat) : s.bare.granulePoison a = s.granulePoison a := by
  simp only [State.granulePoison, lostHome_bare]
  rfl

theorem byteAt_bare (s : State) (a : Nat) (k : Key) : s.bare.byteAt a k = s.byteAt a k := by
  simp only [State.byteAt, locAbsent_bare, lostHome_bare, granulePoison_bare]
  rfl

theorem readLoc_bare (s : State) (a n : Nat) (k : Key) : s.bare.readLoc a n k = s.readLoc a n k := by
  simp only [State.readLoc, byteAt_bare, granulePoison_bare, locAbsent_bare]
  rfl

theorem entryAt_bare (s : State) (a : Nat) (k : Key) : s.bare.entryAt a k = s.entryAt a k := by
  rw [State.entryAt, readLoc_bare]
  rfl

/-! ### The walks -/

theorem walk2_bare (s : State) (fn gpa fuel table : Nat) (used : List WalkEntry) :
    s.bare.walk2 fn gpa fuel table used = s.walk2 fn gpa fuel table used := by
  induction fuel generalizing table used with
  | zero => rfl
  | succ fuel ih =>
    simp only [State.walk2, ih, heldAt_bare, entryAt_bare]
    rfl

theorem stage2Path_bare (s : State) (fn gpa : Nat) : s.bare.stage2Path fn gpa = s.stage2Path fn gpa := by
  simp only [State.stage2Path, walk2_bare]
  rfl

theorem walk1_bare (s : State) (fn va fuel table : Nat) (used : Trail) :
    s.bare.walk1 fn va fuel table used = s.walk1 fn va fuel table used := by
  induction fuel generalizing table used with
  | zero => rfl
  | succ fuel ih =>
    simp only [State.walk1, ih, stage2Path_bare, heldAt_bare, entryAt_bare]
    rfl

theorem walk_bare (s : State) (fn : Nat) (l : Level) (k : AccKind) (va : Nat) :
    s.bare.walk fn l k va = s.walk fn l k va := by
  simp only [State.walk, State.seenEntry, State.stage2, walk1_bare, stage2Path_bare]
  rfl

theorem staleHit_bare (s : State) (fn : Nat) (l : Level) (k : AccKind) (va : Nat) :
    s.bare.staleHit fn l k va = s.staleHit fn l k va := by
  simp only [State.staleHit, State.staleFor, walk_bare]
  rfl

/-! ### What a walk stores -/

theorem setErrors_bare (s : State) (d : Nat) (es : Assoc ErrQueue) :
    s.bare.setDie d { s.bare.die d with errors := es } = (s.setDie d { s.die d with errors := es }).bare := by
  rw [die_bare]
  exact setDie_bare s d { s.die d with errors := es }

theorem pushRecord_bare (s : State) (d key : Nat) (r : Record) (w : BitVec 512) :
    s.bare.pushRecord d key r w = (s.pushRecord d key r w).bare := by
  have herr : (s.bare.die d).errors = (s.die d).errors := by rw [die_bare]
  unfold State.pushRecord
  dsimp only
  rw [setErrors_bare, setErrors_bare, herr]
  split
  · rfl
  · split <;> rfl

theorem record_bare (s : State) (d : Nat) (r : Record) : s.bare.record d r = (s.record d r).bare := by
  have hcarry : ∀ w, s.bare.carryAer w = (s.carryAer w).bare := fun w => by
    unfold State.carryAer
    rw [apply_ite State.bare]
    rfl
  have hcycle : s.bare.cycle d = s.cycle d := by rw [State.cycle, die_bare]; rfl
  unfold State.record
  dsimp only
  rw [hcycle, hcarry, pushRecord_bare]
  split
  · exact pushRecord_bare ..
  · rfl

theorem foldl_bare {α : Type} {f : State → α → State} (h : ∀ s a, f s.bare a = (f s a).bare) (l : List α) (s : State) :
    l.foldl f s.bare = (l.foldl f s).bare := by
  induction l generalizing s with
  | nil => rfl
  | cons a l ih => rw [List.foldl_cons, h, ih, List.foldl_cons]

theorem touchL2_bare (s : State) (d a : Nat) (w : Bool) : s.bare.touchL2 d a w = (s.touchL2 d a w).bare := by
  unfold State.touchL2
  dsimp only
  rw [apply_ite State.bare]
  refine if_congr Iff.rfl ?_ rfl
  have hat : ∀ i, s.bare.l2At i = s.l2At i := fun _ => rfl
  simp only [hat]
  split <;> rfl

theorem dropCopies_bare (s : State) (a : Nat) (k : Option Nat) : s.bare.dropCopies a k = (s.dropCopies a k).bare := by
  unfold State.dropCopies
  rw [apply_ite State.bare]
  rfl

theorem enterLine_bare (s : State) (a : Nat) (k : Key) : s.bare.enterLine a k = (s.enterLine a k).bare := by
  unfold State.enterLine
  dsimp only
  rw [apply_ite State.bare, apply_ite State.bare, apply_ite State.bare, dropCopies_bare]
  rfl

theorem storeBytes_bare (s : State) (a : Nat) (bs : List Byte) : s.bare.storeBytes a bs = (s.storeBytes a bs).bare := by
  induction bs generalizing s a with
  | nil => rfl
  | cons b bs ih =>
    have hone : s.bare.storeByte a b = (s.storeByte a b).bare := by
      unfold State.storeByte
      rw [apply_ite State.bare]
      rfl
    rw [State.storeBytes, hone, ih]
    rfl

theorem setPoison_bare (s : State) (a : Nat) (p : Bool) : s.bare.setPoison a p = (s.setPoison a p).bare := by
  unfold State.setPoison
  rw [apply_ite State.bare, lostHome_bare]
  rfl

theorem retag_bare (s : State) (a : Nat) (k : Key) : s.bare.retag a k = (s.retag a k).bare := by
  have hview : s.bare.viewKey a k = s.viewKey a k := rfl
  have hline : s.bare.lineUnder a (s.viewKey a k) = s.lineUnder a (s.viewKey a k) := rfl
  have hstored : (if aget (s.viewKey a k) s.bare.lineKey (a / 64) = s.viewKey a k then s.bare
      else s.bare.storeBytes (a / 64 * 64) (s.lineUnder a (s.viewKey a k))) =
      (if aget (s.viewKey a k) s.lineKey (a / 64) = s.viewKey a k then s
        else s.storeBytes (a / 64 * 64) (s.lineUnder a (s.viewKey a k))).bare := by
    rw [storeBytes_bare, apply_ite State.bare]
    rfl
  unfold State.retag
  dsimp only
  rw [apply_ite State.bare, hview, hline, hstored]
  rfl

theorem setLog_bare (s : State) (d : Nat) (x : List Nat) :
    s.bare.setDie d { s.bare.die d with log := x } = (s.setDie d { s.die d with log := x }).bare := by
  rw [die_bare]
  exact setDie_bare s d { s.die d with log := x }

theorem setOverflow_bare (s : State) (d : Nat) (x : Bool) :
    s.bare.setDie d { s.bare.die d with overflow := x } = (s.setDie d { s.die d with overflow := x }).bare := by
  rw [die_bare]
  exact setDie_bare s d { s.die d with overflow := x }

theorem storeGranule_bare (s : State) (a : Nat) (bs : List Byte) (p : Bool) (k : Key) (g : Nat) :
    s.bare.storeGranule a bs p k g = (s.storeGranule a bs p k g).bare := by
  have hlog : (s.bare.die (homeDie g)).log = (s.die (homeDie g)).log := by rw [die_bare]
  have hover : (s.bare.die (homeDie g)).overflow = (s.die (homeDie g)).overflow := by rw [die_bare]
  have hcause : s.bare.freeCause g = s.freeCause g := rfl
  unfold State.storeGranule
  dsimp only
  rw [setLog_bare, setOverflow_bare, hlog, hover, hcause]
  simp only [apply_ite State.bare, locAbsent_bare, homeServes_bare, setPoison_bare, record_bare, retag_bare, storeBytes_bare]

theorem writeHome_bare (s : State) (a : Nat) (bs : List Byte) (p : Bool) (k : Key) :
    s.bare.writeHome a bs p k = (s.writeHome a bs p k).bare := by
  unfold State.writeHome State.enterLines State.storeLoc
  rw [foldl_bare fun s g => enterLine_bare s g k, foldl_bare fun s g => storeGranule_bare s a bs p k g]
  exact foldl_bare (fun s g => by rw [dropCopies_bare, touchL2_bare]) _ _

theorem orEntry_bare (s : State) (l : Leaf) (bits : Nat) : s.bare.orEntry l bits = (s.orEntry l bits).bare := by
  unfold State.orEntry
  dsimp only
  rw [entryAt_bare, writeHome_bare, apply_ite State.bare]

theorem setAD_bare (s : State) (k : AccKind) (x : Walked) : s.bare.setAD k x = (s.setAD k x).bare := by
  unfold State.setAD
  dsimp only
  rw [foldl_bare fun s l => orEntry_bare s l 0x40]
  cases x.used with
  | nil => rw [orEntry_bare, orEntry_bare]
  | cons l ls =>
    dsimp only
    rw [orEntry_bare, ← apply_ite State.bare, orEntry_bare, orEntry_bare]

/-! ### Reads -/

theorem translate_bare (s : State) (fn : Nat) (l : Level) (k : AccKind) (va : Nat) :
    s.bare.translate fn l k va = ((s.translate fn l k va).1.bare, (s.translate fn l k va).2) := by
  unfold State.translate
  rw [staleHit_bare, walk_bare]
  split
  · rfl
  · split
    · rfl
    · rw [setAD_bare]
      rfl

theorem page_bare (s : State) (ag : Agent) (k : AccKind) (va : Nat) :
    s.bare.page ag k va = ((s.page ag k va).1.bare, (s.page ag k va).2) := by
  have hwait : ∀ (t : State) (p : Place), t.bare.waitAt ag p = t.waitAt ag p := fun t p => by
    rw [State.waitAt, heldAt_bare]
    rfl
  have hmap : s.bare.unmapped ag.fn va = s.unmapped ag.fn va := rfl
  unfold State.page
  rw [translate_bare, hwait, hmap]
  split
  · split <;> rfl
  · split
    · rfl
    · split
      · rfl
      · generalize s.translate ag.fn ag.level k va = r
        obtain ⟨t, x⟩ := r
        cases x with
        | error x => rfl
        | ok p => exact congrArg (Prod.mk _) (hwait t p)

theorem lookup_bare (s : State) (ag : Agent) (k : AccKind) (ps : List (Nat × Nat)) :
    s.bare.lookup ag k ps = ((s.lookup ag k ps).1.bare, (s.lookup ag k ps).2) := by
  induction ps generalizing s with
  | nil => rfl
  | cons p ps ih =>
    unfold State.lookup
    rw [page_bare]
    generalize s.page ag k p.1 = r
    obtain ⟨t, x⟩ := r
    cases x with
    | error x => simp only [ih]
    | ok p => simp only [ih]

theorem resolve_bare (s : State) (ag : Agent) (k : AccKind) (a n : Nat) :
    s.bare.resolve ag k a n = ((s.resolve ag k a n).1.bare, (s.resolve ag k a n).2) := by
  unfold State.resolve
  rw [lookup_bare]
  split
  · rfl
  · generalize s.lookup ag k (partsOf a n) = r
    obtain ⟨t, parts, x⟩ := r
    cases x <;> rfl

theorem readParts_bare (s : State) (ps : List Part) : s.bare.readParts ps = s.readParts ps := by
  induction ps with
  | nil => rfl
  | cons p ps ih =>
    have hplace : s.bare.readPlace p.place p.len = s.readPlace p.place p.len := by
      rw [State.readPlace, readLoc_bare]
      rfl
    rw [State.readParts, hplace, ih, State.readParts]

/-- A unit's read gives the same bytes, or the same fault. -/
theorem devRead_bare (s : State) (ag : Agent) (k : AccKind) (a n : Nat) :
    (s.bare.devRead ag k a n).2 = (s.devRead ag k a n).2 := by
  unfold State.devRead
  rw [resolve_bare]
  generalize s.resolve ag k a n = r
  obtain ⟨t, x⟩ := r
  cases x with
  | error x => rfl
  | ok ps => exact congrArg Except.ok (readParts_bare t ps)

theorem readRecord_bare (s : State) (ag : Agent) (a : Nat) : s.bare.readRecord ag a = s.readRecord ag a := by
  simp only [State.readRecord, devRead_bare]

end Sys2Proof.Machine
end

section
/-! PROOFS. A saved crew starts again: on the contexts found, in the order of its live threads (R99, R335). -/

namespace Sys2Proof.Machine

/-! ### Which context stands for which thread (R335) -/

theorem live_lt {k : Crew} {i : Nat} (h : i ∈ k.live) : i < k.threads.length := List.mem_range.1 (List.mem_filter.1 h).1

theorem live_nodup (k : Crew) : k.live.Nodup := List.nodup_range.filter _

/-- A live thread stands on the context that was found for its place among them. -/
theorem spread_live {k : Crew} {i j : Nat} (h : k.live[j]? = some i) (gs : List Nat) :
    (k.spread gs)[i]? = some ((gs[j]?).getD 0) := by
  obtain ⟨hj, hi⟩ := List.getElem?_eq_some_iff.1 h
  have hfind : k.live.findIdx? (· == i) = some j := by
    rw [List.findIdx?_eq_some_iff_getElem]
    refine ⟨hj, by rw [hi]; exact beq_self_eq_true i, fun n hn => ?_⟩
    rw [← hi, beq_iff_eq, (live_nodup k).getElem_inj_iff]
    omega
  rw [Crew.spread, List.getElem?_map, List.getElem?_range (live_lt (hi ▸ List.getElem_mem hj)), Option.map_some, hfind]

/-! ### No record is lost (R352) -/

theorem resumeThread_bare (s : State) (ag : Agent) (key : Nat) (k : Crew) (i g : Nat) :
    (s.resumeThread ag key k i g).1.bare = s.bare := by
  unfold State.resumeThread State.renameOwner State.bare
  dsimp only
  rw [List.map_map]
  rfl

/-- The threads whose records read whole start one after the other, and none is lost. -/
theorem foldl_resumeThread {s₀ : State} {ag : Agent} {key : Nat} {k : Crew} (at_ : Nat → Nat) {lost : Bool} (l : List Nat)
    (h : ∀ i ∈ l, recordLost (s₀.readRecord ag (k.area + 256 + 2048 * i)).2 = false) (s : State) (hs : s.bare = s₀.bare) :
    (l.foldl (fun r i => ((r.1.resumeThread ag key k i (at_ i)).1, r.2 || (r.1.resumeThread ag key k i (at_ i)).2))
      (s, lost)).2 = lost := by
  induction l generalizing s with
  | nil => rfl
  | cons i l ih =>
    have hi : (s.resumeThread ag key k i (at_ i)).2 = false := by
      refine Eq.trans ?_ (h i (List.mem_cons_self ..))
      rw [State.resumeThread, ← readRecord_bare s, hs, readRecord_bare]
    rw [List.foldl_cons, hi, Bool.or_false]
    exact ih (fun j hj => h j (List.mem_cons_of_mem _ hj)) _ ((resumeThread_bare ..).trans hs)

theorem channelsLost_noLive {s : State} {ag : Agent} {k : Crew} (h : k.live = []) : s.channelsLost ag k = false := by
  have hcores : k.liveCores = [] := by
    rw [Crew.liveCores, Crew.held, h, List.filter_eq_nil_iff]
    simp
  rw [State.channelsLost, List.any_eq_false]
  intro j hj
  simp [hcores]

/-! ### The crew runs (R335) -/

/-- The crew as it runs again. -/
def Crew.resumed (k : Crew) (cl : Nat) (gs : List Nat) : Crew :=
  { k with saved := false, kept := [], cluster := cl, threads := k.spread gs, cores := k.newCores gs, area := 0 }

/-- A crew whose image reads whole is listed as running again. -/
theorem resumeOn_crewOf {s : State} {key : Nat} {k : Crew} {cl : Nat} {gs : List Nat}
    (h : ∀ i ∈ k.live, recordLost ((s.resumeRegions key k gs).readRecord (saveAgent k.fn) (k.area + 256 + 2048 * i)).2 = false ∧
      s.channelsLost (saveAgent k.fn) k = false) :
    (s.resumeOn key k cl gs).crewOf key = some (k.resumed cl gs) := by
  have hchans : s.channelsLost (saveAgent k.fn) k = false := by
    cases hl : k.live with
    | nil => exact channelsLost_noLive hl
    | cons i l => exact (h i (by rw [hl]; exact List.mem_cons_self ..)).2
  have hlost := foldl_resumeThread (key := key) (k := k) (fun i => ((k.spread gs)[i]?).getD 0) (lost := false) k.live
    (fun i hi => (h i hi).1) _ rfl
  unfold State.resumeOn
  dsimp only
  rw [hchans, hlost, if_neg (by decide)]
  exact crewOf_aset ..

theorem resumeOn_runs {s : State} {key d n start : Nat} {k : Crew} {cl : Nat} {gs : List Nat}
    (h : ∀ i ∈ k.live, recordLost ((s.resumeRegions key k gs).readRecord (saveAgent k.fn) (k.area + 256 + 2048 * i)).2 = false ∧
      s.channelsLost (saveAgent k.fn) k = false) :
    ∃ y, ((s.resumeOn key k cl gs).endRequest d n start).crewOf key = some y ∧ y.saved = false ∧ y.cluster = cl ∧
      ∀ i j : Nat, k.live[j]? = some i → y.threads[i]? = some ((gs[j]?).getD 0) :=
  ⟨_, (endRequest_crewOf ..).trans (congrArg (Option.map _) (resumeOn_crewOf h)), rfl, rfl,
    fun _ _ hij => spread_live hij gs⟩

/-! ### A RESUME request (R335) -/

/-- A saved crew that is found has its area read and its STATE written through its translation. -/
theorem savedAt_serves {s u : State} {f area key : Nat} {k : Crew} (h : s.savedAt f area = (u, .ok (key, k))) :
    u.areaServes k area = true := by
  unfold State.savedAt at h
  split at h
  · cases h
  · dsimp only at h
    split at h
    · cases h
    · split at h
      · cases h
      · split at h
        · cases h
        · split at h
          · next hserves => cases h; exact hserves
          · cases h

/-- Where a crew may not move, the die it is tried on makes no difference. -/
theorem resumePlace_resumeDie (s : State) (k : Crew) (d : Nat) :
    s.resumePlace k (s.recordOf k) none (s.resumeDie d k) = s.resumePlace k (s.recordOf k) none d := by
  unfold State.resumeDie
  split
  · next h =>
    unfold State.resumePlace
    dsimp only
    rw [if_pos h, if_pos h]
  · rfl

/-- A request for a saved crew whose area serves and that finds its contexts starts it. -/
theorem submitResume_resumes {s u : State} {d f area key cl : Nat} {k : Crew} {gs : List Nat} (ha : area < 2 ^ 64)
    (h : s.savedAt f area = (u, .ok (key, k))) (hk : u.crewOf key = some k)
    (hp : u.resumePlace k (u.recordOf k) none d = some (cl, gs)) (harea : k.area = area) (hheld : u.areaHeld k area = false) :
    ∃ start, s.submitResume d f area = (u.resumeOn key k cl gs).endRequest d 0 start := by
  have hto : (BitVec.ofNat 64 area).toNat = area := by rw [BitVec.toNat_ofNat]; exact Nat.mod_eq_of_lt ha
  have hsame : { k with area := area } = k := by rw [← harea]
  refine ⟨u.clock, ?_⟩
  unfold State.submitResume
  rw [h]
  dsimp only
  unfold State.tryResume
  dsimp only
  rw [hk, hto]
  dsimp only
  rw [hheld, savedAt_serves h, resumePlace_resumeDie, hp, hsame]
  rfl

/-! ### The scheduler moves a crew (R99) -/

theorem exec_crewMove {s u : State} {key to_ cl : Nat} {k : Crew} {gs : List Nat} (hk : s.crewOf key = some k)
    (hsaved : k.saved = true) (hm : s.mgmt = true) (hw : (s.die (to_ / 16)).prqWork = none)
    (h : (s.setDie (to_ / 16) { s.die (to_ / 16) with
      prqaddr := BitVec.ofNat 64 k.area, prq := 0x2000000000000000#64 }).savedAt k.fn k.area = (u, .ok (key, k)))
    (hmove : field (s.recordOf k) 189 1 = 1) (hpart : ∃ p, (s.fnOf k.fn).part = some p ∧ p.holds to_ = true)
    (hp : u.resumePlace k (u.recordOf k) (some to_) (to_ / 16) = some (cl, gs)) :
    exec (.crewMove key to_) s = .next ((u.resumeOn key k cl gs).endRequest (to_ / 16) 0 u.clock) := by
  obtain ⟨p, hpart, hholds⟩ := hpart
  show execCrewMove key to_ s = _
  unfold execCrewMove
  rw [hk]
  dsimp only
  rw [hpart]
  dsimp only
  rw [if_neg (by simp [hsaved, hmove, hholds, hm, hw]), h]
  dsimp only
  rw [hp]
  exact if_pos rfl

end Sys2Proof.Machine
end

section
/-! PROOFS. Pre-emption, saving, resuming and lane events together (O51). -/

namespace Sys2Proof.Machine

/-! ### A thread that was asked stops (R97, R98) -/

section
variable {s : State} {g : Nat} (hlive : (s.ctx g).live = true) (hmay : (s.ctx g).mayStop = true)
  (hc : (s.ctx g).handed = none) (hh : ∀ h ∈ (s.ctx g).handlers, h.handed = none)

include hlive hmay in
theorem exec_threadPreemptionStop (ht : (s.ctx g).inTrap = false) :
    exec (.threadPreemptionStop g) s = .next (s.stopThread g) :=
  if_pos (by rw [hlive, Ctx.stopsHere, hmay, ht]; rfl)

include hlive hmay in
theorem exec_preemptDeferTimeout (ht : (s.ctx g).inTrap = true) :
    exec (.preemptDeferTimeout g) s = .next (s.stopThread g) :=
  if_pos (by rw [hlive, hmay, ht]; rfl)

end

/-- What a request that ended leaves at its port (R331). -/
def EndedAt (s t : State) (die result start : Nat) : Prop :=
  (t.die die).prqWork = none ∧
  (t.die die).prqstat = BitVec.ofNat 64 (2 ^ 63 + result * 2 ^ 60 + (s.clock - start) % 2 ^ 32)

theorem endRequest_ended (s : State) (d n start : Nat) : EndedAt s (s.endRequest d n start) d n start :=
  ⟨congrArg Die.prqWork (endRequest_die ..), congrArg Die.prqstat (endRequest_die ..)⟩

/-! ### PREEMPT and RESUME requests of management (R331, R332, R335) -/

section
variable {s : State} {die : Nat} {v : Word} (hd : die < 8) (hp : (s.die die).state = .present) (hm : s.mgmt = true)
  (hb : s.mgmtBusy = false) (hw : (s.die die).prqWork = none)

section
variable (hv : v.toNat / 2 ^ 61 = 4) (hdie : v.toNat / 256 % 8 = die)

include hd hp hm hb hw hv hdie in
/-- A PREEMPT request that names no resident crew ends with RESULT 1, which goes to a service that waits on it. -/
theorem prqPreempt_namesNone (hnone : s.crewAt (4 * (v.toNat % 2048) + v.toNat / 2048 % 4) = none) :
    Reaches (exec (.prqPreempt die v) s) fun t => SameBytes s t ∧ EndedAt s t die 1 s.clock ∧
      ∀ x, t.ctx x = (s.ctx x).served die 1 := by
  have hnone' : (s.withPrq die v).crewAt (4 * (v.toNat % 2048) + v.toNat / 2048 % 4) = none := hnone
  have hbytes := (withPrq_sameBytes s die v).trans (endRequest_sameBytes (s.withPrq die v) die 1 s.clock)
  have hended := endRequest_ended (s.withPrq die v) die 1 s.clock
  have hctx := endRequest_ctx (s.withPrq die v) die 1 s.clock
  have hexec := exec_prqPreempt hd hp hm hb hv
  rw [prqWrite_preempt hw _ hv hdie, submitPreempt_none hnone'] at hexec
  exact ⟨_, hexec, ⟨hbytes.1, hbytes.2⟩, hended, hctx⟩

include hd hp hm hb hw hv hdie in
/-- A PREEMPT request for a resident crew asks every live thread of it. -/
theorem prqPreempt_asks {k : Nat} {w : Crew} {u : State} {ps : List Part}
    (hk : s.crewAt (4 * (v.toNat % 2048) + v.toNat / 2048 % 4) = some k) (hc : s.crewOf k = some w)
    (hr : (s.withPrq die v).resolve (saveAgent w.fn) .spill (s.die die).prqaddr.toNat
      (areaSize w.threads.length w.cores.length w.granules) = (u, .ok ps)) (hctxs : u.ctxs = s.ctxs)
    (hclock : u.clock = s.clock) : Reaches (exec (.prqPreempt die v) s) fun t =>
      (t.die die).prqWork = some { resume := false, crew := k, area := (s.die die).prqaddr, start := s.clock } ∧
      ∀ x ∈ w.held, t.ctx x = { s.ctx x with preempt := .asked } := by
  obtain ⟨hwork, hask⟩ := submitPreempt_asks (s := s.withPrq die v) (d := die) hk hc hr
  have hexec := exec_prqPreempt hd hp hm hb hv
  rw [prqWrite_preempt hw _ hv hdie] at hexec
  refine ⟨_, hexec, ?_, fun x hx => ?_⟩
  · refine hwork.trans ?_
    rw [hclock, BitVec.ofNat_toNat, BitVec.setWidth_eq]
  · refine (hask x hx).trans ?_
    rw [State.ctx, hctxs]
    rfl

end

include hd hp hm hb hw in
/-- A RESUME request that fits starts the saved crew. -/
theorem prqResume_runs (hv : v.toNat / 2 ^ 61 = 5) {f k cl : Nat} {u : State} {w : Crew} {gs : List Nat}
    (hf : (s.withPrq die v).fnOfArea (s.die die).prqaddr.toNat = some f)
    (h : (s.withPrq die v).savedAt f (s.die die).prqaddr.toNat = (u, .ok (k, w))) (hk : u.crewOf k = some w)
    (hplace : u.resumePlace w (u.recordOf w) none die = some (cl, gs)) (harea : w.area = (s.die die).prqaddr.toNat)
    (hwhole : ∀ i ∈ w.live, recordLost ((u.resumeRegions k w gs).readRecord (saveAgent w.fn) (w.area + 256 + 2048 * i)).2 =
      false ∧ u.channelsLost (saveAgent w.fn) w = false) (hheld : u.areaHeld w w.area = false) :
    Reaches (exec (.prqResume die v) s) fun t => (t.die die).prqWork = none ∧
      ∃ y, t.crewOf k = some y ∧ y.saved = false ∧ y.cluster = cl ∧
        ∀ i j : Nat, w.live[j]? = some i → y.threads[i]? = some ((gs[j]?).getD 0) := by
  obtain ⟨start, hsub⟩ := submitResume_resumes (s.die die).prqaddr.isLt h hk hplace harea (harea ▸ hheld)
  have hexec := exec_prqResume hd hp hm hb hv
  rw [prqWrite_resume hw _ hv hf, hsub] at hexec
  exact ⟨_, hexec, (endRequest_ended (u.resumeOn k w cl gs) die 0 start).1, resumeOn_runs (start := start) hwhole⟩

end

/-- Settles O51: each clause is the lemma about its event. -/
theorem preemptionAndLaneEvents : Obligations.PreemptionAndLaneEvents := by
  intro s g die v c d stops ends
  refine ⟨?stop, ?preempt, ?save, ?resume, ?move, ?vector, ?forced, ?starved, ?lapse, ?drain⟩
  case stop =>
    intro hlive hask hhold hvq hc hh
    have hmay := (mayStop_iff c).2 ⟨hask, hvq, hhold⟩
    exact ⟨fun ht => ⟨_, exec_threadPreemptionStop hlive hmay ht, handBack_setCtx s g hc hh⟩,
      fun ht => ⟨_, exec_preemptDeferTimeout hlive hmay ht, handBack_setCtx s g hc hh⟩⟩
  case preempt =>
    intro hd hp hm hb hw hv hdie h
    refine ⟨fun hnone => ?_, fun k w u ps hk hcrew hres hctxs hclock _ => ?_⟩
    · exact prqPreempt_namesNone hd hp hm hb hw hv hdie hnone
    · obtain ⟨t, hexec, hwork, hask⟩ := prqPreempt_asks hd hp hm hb hw hv hdie hk hcrew hres hctxs hclock
      exact ⟨t, hexec, hwork, fun i x hi hx => hask x (List.mem_filterMap.2 ⟨i, hi, hx⟩)⟩
  case save =>
    intro w k u hw hr hk hstop hputs hsave hctxs hclock
    have hheld : ∀ x ∈ k.held, (s.ctx x).preempt = .stopped ∧ (s.ctx x).lanes = 0 ∧ (s.ctx x).pend = [] ∧
        s.ownMsgs x (fun _ => true) = [] := fun x hx => by
      obtain ⟨i, hi, hx⟩ := List.mem_filterMap.1 hx
      exact hstop i x hi hx
    obtain ⟨hclock', ⟨kept, hcrew⟩, hfree⟩ := releaseCrew_released u w.crew w.area.toNat k
    have hended := endRequest_ended (u.releaseCrew w.crew w.area.toNat k) die 0 w.start
    rw [EndedAt, hclock', hclock] at hended
    refine ⟨_, exec_crewSave hheld hputs hsave hw hr hk, hended,
      ⟨_, (endRequest_crewOf ..).trans (congrArg (Option.map _) hcrew), rfl, rfl, rfl⟩, fun x hx hcx => ?_⟩
    rw [endRequest_ctx, hfree x hx (by rw [State.ctx, hctxs]; exact hcx)]
    rfl
  case resume =>
    intro f u k w cl gs hd hp hm hb hw hv x hf h hk hplace harea hwhole hheld
    exact prqResume_runs hd hp hm hb hw hv hf h hk hplace harea hwhole hheld
  case move =>
    intro k w u to_ cl gs hk hsaved hm hw h hmove hpart hplace hwhole
    exact ⟨_, exec_crewMove hk hsaved hm hw h hmove hpart hplace, resumeOn_runs hwhole⟩
  case vector =>
    intro hd hp
    exact ⟨_, exec_vftvecWrite hd hp v, vftvecWrite_vftvec s die v⟩
  case forced =>
    intro cause hlive hl hr
    exact exec_forcedRevocation hlive (mt List.length_eq_zero_iff.1 hl) hr
  case starved =>
    intro x hv hs
    exact ⟨starve_revokes hv hs _, starve_revokes hv hs _⟩
  case lapse => exact earmarkLapse_lapses s g
  case drain =>
    intro cl l h to_ hl
    obtain ⟨t, hexec, hbytes, hctx, hlane, hother⟩ := laneDrainComplete_frees hl
    refine ⟨t, hexec, hbytes, hctx, hlane.trans ?_, hother⟩
    cases to_ <;> rfl

end Sys2Proof.Machine
end
